-- ==== Sys2Proof/Word.lean ====
section
/-! DEFINITION. Bytes and the plainest helpers on them. -/
namespace Sys2Proof

/-- One byte. -/
abbrev Byte := BitVec 8

end Sys2Proof
end

