-- ==== Sys2Proof/Types.lean ====
section
/-! DEFINITION. The plain-data types that commands carry and that the state holds. -/
namespace Sys2Proof

/-- Who makes a register write: the host link with the TLP's requester ID, firmware, or firmware on behalf of a dictionary
object (R178). -/
inductive RegSrc where
  | host (rid : Nat)
  | firmware
  | dict (carrier : Nat)
deriving DecidableEq, Repr

/-- Where a register written lies: BAR0, BAR4 (the MSI-X table and PBA) or configuration space (R168, R169). -/
inductive Space where
  | bar0 | bar4 | config
deriving DecidableEq, Repr

/-- The ordering sources of Table 04.7; `scrub`, `selftest` and `mgmt` share the internal port (R80). -/
inductive Src where
  | pcie
  | haul (c : Nat)
  | coding (c : Nat)
  | scrub
  | selftest
  | mgmt
deriving DecidableEq, Repr

/-- What the scrub engine or the self-test engine fetches a slab for: the walk, a patrol report, a rejoin sweep, a suspect sweep, a
core-sample rebuild, a row repair. -/
inductive Job where
  | walk | patrol | rejoin | suspect | rebuild | repair
deriving DecidableEq, Repr

/-- A request to the slab cache, at most one slab wide (R206). A write names each byte it enables. -/
structure CReq where
  id : Nat
  src : Src
  label : Nat
  write : Bool
  slab : Nat
  off : Nat
  len : Nat
  data : List (Option Byte)
  /-- R96: a haul write flagged to media. -/
  media : Bool
  /-- R80: a fetch of an engine at the internal port. -/
  job : Option Job := none
deriving DecidableEq, Repr

/-- What reached the decoder for one layer's portion of a fetch, where it is not what the DRAM holds: nothing, or other
bytes (128 data bytes, then 16 side bytes). -/
structure Delivery where
  layer : Nat
  bytes : Option (List Byte)
deriving DecidableEq, Repr

/-- What one sensing read of one copy of a fuse entry gave, where it is not what the copy holds (R350): word 0 to 127, or
128 plus the region for a seal; copy; reference 0 normal, 1 margin-low, 2 margin-high; the 72 bits. -/
structure FuseRead where
  entry : Nat
  copy : Nat
  ref : Nat
  bits : Nat
deriving DecidableEq, Repr

/-- One tick's worth of what the sensors and the monitors read: 44 diode readings in the SENSOR layout with their
flags of those that lie outside the range of R274, the average currents of the 69 monitors in 0.1 mA (R20, R271), and
whether VPROG is within 2.5 V ±5 % (R362), and what the fuse block's check of this tick read (R361). Diodes 26 + 2b and 27 + 2b
are those of bench b's layers (R115). -/
structure TickEnv where
  sensors : List Nat
  outside : List Bool
  monitors : List Nat
  vprog : Bool
  fuse : List FuseRead := []
deriving DecidableEq, Repr

/-- A BAR2 memory read: byte address, length, requester ID, tag and the Steering Tag when TPH is present (R171, R174). -/
structure HostRd where
  addr : Nat
  len : Nat
  rid : Nat
  tag : Nat
  st : Option Nat
  ecrcBad : Bool
deriving DecidableEq, Repr

/-- A BAR2 memory write: byte address, one entry per byte with its byte enable, requester ID, Steering Tag and the EP
bit (R171, R174, R180). -/
structure HostWr where
  addr : Nat
  data : List (Option Byte)
  rid : Nat
  st : Option Nat
  ep : Bool
  ecrcBad : Bool
deriving DecidableEq, Repr

/-- A register read: who reads, the space, the byte offset, its length in double words and its tag (R170, R472). -/
structure RegReadReq where
  src : RegSrc
  space : Space
  off : Nat
  words : Nat
  tag : Nat
deriving DecidableEq, Repr

/-- A completion that the device sends on the host link: requester ID, tag, status (0 SC, 1 UR, 4 CA), byte count, first
byte address, data and EP (R171, R179). -/
structure Cpl where
  rid : Nat
  tag : Nat
  status : Nat
  byteCount : Nat
  addr : Nat
  data : List Byte
  ep : Bool
deriving DecidableEq, Repr

/-- A shaft frame's control word fields and payload (Table 06.2, Table 06.3), and for each physical lane on which its receiver
deletes a bit the lane's line bits, from the start of the run that it is in (R148); a lane not listed shows no such bit. -/
structure Frame where
  tag : Nat
  aux : Nat
  payload : List Byte
  line : List (Nat × List Bool)
deriving DecidableEq, Repr

/-- The errors the device reports through AER (R176, R181). -/
inductive Aer where
  | unsupported | completerAbort | malformed | unexpected | poisoned | ecrc | completionTimeout | uncorrectableInternal
deriving DecidableEq, Repr

/-- A sync as a Rack Link receiver meets it (R418): its 48 symbols as sliced, and their absolute amplitudes in mV. -/
structure RxSync where
  syms : List Int
  amps : List Nat
deriving DecidableEq, Repr

/-- The beginning of a frame that a later sync cuts off (R431): its sync, and the symbols of its header block where all of them have
been received. -/
structure RxCut where
  sync : RxSync
  hdr : List Int
deriving DecidableEq, Repr

/-- What reaches a Rack Link receiver that ends in a whole frame: the frames begun before it that a sync cut off, and its own sync and
the symbols of its header and payload blocks, as sliced (R417). -/
structure RxLine where
  cuts : List RxCut
  sync : RxSync
  hdr : List Int
  pay : List Int
deriving DecidableEq, Repr

/-- What a line shows before its frame's blocks: the frames that were cut off, and the sync. -/
structure RxNote where
  cuts : List RxCut
  sync : RxSync
deriving DecidableEq, Repr

/-- The line of this beginning and these blocks. -/
def RxNote.line (n : RxNote) (hdr pay : List Int) : RxLine := ⟨n.cuts, n.sync, hdr, pay⟩

/-- The line's beginning. -/
def RxLine.note (l : RxLine) : RxNote := ⟨l.cuts, l.sync⟩

@[simp] theorem RxLine.note_line (l : RxLine) : l.note.line l.hdr l.pay = l := rfl

/-- What leaves the device: the model's own record of it. -/
inductive Output where
  /-- an MSI-X message: its vector, and the address and data of the vector's table entry (R183, R475) -/
  | msix (v addr data : Nat)
  /-- a completion on the host link -/
  | cpl (c : Cpl)
  /-- a posted memory write of the haul engine -/
  | memWr (addr : Nat) (data : List Byte)
  /-- a memory read of the haul engine -/
  | memRd (tag addr len : Nat)
  /-- the ECRC digest that follows a TLP (R181) -/
  | digest
  /-- a PM_PME message (R184) -/
  | pme
  /-- an error recorded through AER -/
  | aer (e : Aer)
  /-- a frame sent down (`true`) or up a bench's shaft, with its control word, or the short word of an IDLE frame, and the bits of
  each physical lane as they stand on the line -/
  | shaft (b : Nat) (down : Bool) (type : Nat) (f : Frame) (word : Nat) (lanes : List (List Bool))
  /-- a dictionary response on a carrier: the header and data bytes (Object dictionary) -/
  | dict (carrier : Nat) (bytes : List Byte)
  /-- a Rack Link transmission in a slot: the bytes of its blocks, and its symbols on the line (R411, R415 to R417) -/
  | rackLink (slot : Nat) (bytes : List Byte) (symbols : List Int)
  /-- what a firmware read is answered, with its error flag (Table 04.6) -/
  | firmwareRead (id : Nat) (data : List Byte) (err : Bool)
  /-- a byte returned on the wake port -/
  | wakeByte (b : Nat)
deriving DecidableEq, Repr

end Sys2Proof
end

