-- ==== Sys2Proof/Syntax.lean ====
section
/-! DEFINITION. The commands the device takes: one constructor per row of the spec's opcode table. -/
namespace Sys2Proof

/-- A command. A register write carries who makes it; an event that the outside world or an analogue part decides carries
what it decided as operands; the others carry only what names the unit they act on. A default of an
operand says only what a command written without it stands for. Commands with operands come first,
each group in the table's order. -/
inductive Instr where
  /-- R23: A rising edge on the TICK pin is counted as the next rack tick if it falls in the period window, or is
  rejected as early. -/
  | tickEdge (t : Nat) (env : TickEnv)
  /-- R25: No countable edge arrives within 15 µs, so the device counts the missing tick, sets FREE_RUNNING and
  continues on the flywheel. -/
  | missingTick (t : Nat) (env : TickEnv)
  /-- R26: While free-running, the flywheel period expires and the flywheel generates and counts a tick. -/
  | flywheelTick (t : Nat) (env : TickEnv)
  /-- R29: A write to TIME.LOAD_HI commits a host load of the rack tick number, which becomes the number of the next
  counted tick. -/
  | tickLoad (src : RegSrc) (hi : Nat)
  /-- R472: A read of the _LO half of a 64-bit register pair latches the upper half into _HI. -/
  | loReadLatch (r : RegReadReq)
  /-- R36: A write to a schedule-table entry is performed, ignored or logged according to ARM and the ACTION and ARG
  range checks. -/
  | schedEntryWrite (src : RegSrc) (n word data : Nat)
  /-- R34: An armed entry with action NONE reaches its target tick and only updates ARM or its target. -/
  | schedNone (n : Nat)
  /-- R261: An armed WAKE entry reaches its target tick and sets the wake latch to leave REST or EMBER. -/
  | schedWake (n : Nat)
  /-- R35: An armed ENTER_STATE entry reaches its target tick and requests DOZE, REST or EMBER from the sequencer. -/
  | schedEnterState (n : Nat)
  /-- R283: An armed SET_CAP entry reaches its target tick and sets the cap setpoint. -/
  | schedSetCap (n : Nat)
  /-- R34: An armed EVENT entry reaches its target tick, sets SCHED_FIRED and copies its tag to the event log. -/
  | schedEvent (n : Nat)
  /-- R302: An armed SCRUB_PAUSE entry reaches its target tick and sets RAS_CTRL.PAUSED. -/
  | schedScrubPause (n : Nat)
  /-- R302: An armed SCRUB_RESUME entry reaches its target tick and clears RAS_CTRL.PAUSED. -/
  | schedScrubResume (n : Nat)
  /-- R37: A write of 1 to SHIFT_CTRL.ARM announces a shift, or is refused with BAD_ARM if the start and end ticks
  are unacceptable. -/
  | shiftArm (src : RegSrc)
  /-- R37: A write of 0 to ARM in state ARMED withdraws the announcement and ungates the haul channels. -/
  | shiftWithdraw (src : RegSrc)
  /-- R37: A write of 0 to ARM in state IN_SHIFT sets the end tick to the next tick plus the drain lead. -/
  | shiftEndEarly (src : RegSrc)
  /-- R37: A write to the shift start tick, end tick or drain lead is performed or ignored and logged according to
  the shift state. -/
  | shiftTicksWrite (src : RegSrc) (off data : Nat)
  /-- R61: The expected portions of a slab fetch have arrived, and the slab is classified, decoded and assigned an
  outcome. -/
  | slabFetchComplete (slab : Nat) (got : List Delivery)
  /-- R61: A portion is not delivered within 2 µs of its fetch and is classed MISSING. -/
  | portionTimeout (slab layer : Nat)
  /-- R49: A write to CODE_CTRL.BANK_HASH takes effect only while EMPTY is 1; otherwise it is refused and logged. -/
  | bankHashWrite (src : RegSrc) (v : Nat)
  /-- R71: A host request marks a layer LOST if the offline count stays at 2 or below; otherwise it is refused. -/
  | reqLost (src : RegSrc) (n : Nat)
  /-- R73: A host request for a rejoin, if admitted, makes the layer REJOINING and starts, or restarts, the rejoin
  sweep from slab 0. -/
  | reqRejoin (src : RegSrc) (n : Nat)
  /-- R74: A write to CODE_CTRL.CLEAR, if admitted, invalidates the cache and starts writing zero slabs across the
  stack. -/
  | stackClear (src : RegSrc)
  /-- R83: A read request accepted at a cache port is served from the line, from a merge entry or by a fetch,
  according to its label's policy. -/
  | cacheRead (r : CReq)
  /-- R83: A write request accepted at a cache port is written into a line or a merge-buffer entry, according to its
  label's policy. -/
  | cacheWrite (r : CReq)
  /-- R86: A merge-buffer entry reaches MERGE_AGE ticks and closes. -/
  | mergeAgeExpiry (slab : Nat)
  /-- R97: FLUSH_CTRL.GO with OP FLUSH writes back the dirty sectors of matching lines and closes matching merge
  entries. -/
  | flush (src : RegSrc) (scope label : Nat)
  /-- R97: FLUSH_CTRL.GO with OP FLUSH_INV flushes, then invalidates the matching lines. -/
  | flushInv (src : RegSrc) (scope label : Nat)
  /-- R97: FLUSH_CTRL.GO with OP INV discards the matching lines and entries without writing them. -/
  | inv (src : RegSrc) (scope label : Nat)
  /-- R102: A write to SRMAP_STATUS.RELEASE clears UNFLUSHED and every map bit whose region holds no dirty data. -/
  | srmapRelease (src : RegSrc)
  /-- R111: At a command slot, a channel controller issues the first eligible command under its priority order, the
  timing set and its tokens. -/
  | benchCommandIssue (b ch : Nat)
  /-- R114: A bank's per-bank refresh interval elapses and a refresh command falls due. -/
  | bankRefresh (b ch bank : Nat)
  /-- R112: A bank's idle timer expires and its open row is closed. -/
  | pageIdleClose (b ch bank : Nat)
  /-- R117: A targeted-refresh task reaches 8 µs of age and runs at forced-refresh priority. -/
  | trTaskAged (b ch bank : Nat)
  /-- R117: A bank's periodic refresh completes a 32 ms window and every activation counter of the bank resets. -/
  | trWindowReset (b ch bank : Nat)
  /-- R118: 32 ms after bench power-up or EMBER self-refresh exit, the halved threshold ends and TR_WARMUP clears. -/
  | trWarmupEnd (b : Nat)
  /-- R115: No model estimate arrives for 100 µs, so the bench uses its diodes alone with the lowered thresholds and
  sets LOCAL_TEMP. -/
  | tempEstimateTimeout (b : Nat)
  /-- R119: A patrol read returns, and the bench checks each portion's CRC, ACHK and role, reporting failures. -/
  | patrolReadDone (b : Nat) (got : List Delivery)
  /-- R123: The PLLs lock, the timing sets swap, the shafts regain frame lock, and the layers leave self-refresh so
  issue resumes. -/
  | levelPauseEnd (locked : List Nat)
  /-- R126: A bench finishes writing and reading back its canaries, sets canary mode, enters self-refresh and reports
  READY 2. -/
  | canaryEntryDone (b : Nat) (bad : List Nat)
  /-- R129: After EMBER exit, a bench finishes comparing its canary rows and stores and sends its pending mask. -/
  | canaryExitCheck (b : Nat) (bad : List Nat)
  /-- R130: A swept position's pass ends, its marks clear on every layer, and SWEEP_DONE is set when CANARY_RESULT
  becomes zero. -/
  | sweepPositionDone (pos : Nat)
  /-- R134: A firmware or scrub-engine write of REMAP_DATA sets the remap entry selected by REMAP_ADDR; host writes
  are ignored and logged. -/
  | remapWrite (src : RegSrc) (b data : Nat)
  /-- R150: An IDLE frame is received; it carries link information and lets lanes recover their stuffing debt. -/
  | idleFrame (b : Nat) (down : Bool) (f : Frame)
  /-- R146: A REPLAY frame is received, and the receiver resumes accepting frames from the named sequence number. -/
  | replayFrame (b : Nat) (down : Bool) (f : Frame)
  /-- R143: A REQ frame is received, and its 1 to 16 request records enter the bench's queues. -/
  | reqFrame (b : Nat) (f : Frame)
  /-- R144: A WDATA_L frame is received and held, carrying a portion for the lower layer. -/
  | wdataL (b : Nat) (f : Frame)
  /-- R144: A WDATA_U frame is received and held, carrying a portion for the upper layer. -/
  | wdataU (b : Nat) (f : Frame)
  /-- R144: An RDATA_L frame is received and held, carrying a read portion from the lower layer. -/
  | rdataL (b : Nat) (f : Frame)
  /-- R144: An RDATA_U frame is received and held, carrying a read portion from the upper layer. -/
  | rdataU (b : Nat) (f : Frame)
  /-- R144: A SIDE frame is received and releases the held data frames of its group together with their side bytes. -/
  | sideFrame (b : Nat) (down : Bool) (f : Frame)
  /-- R141: A REG_RD frame is received, and the bench reads the named register and answers with REG_RSP. -/
  | regRd (b : Nat) (f : Frame)
  /-- R141: A REG_WR frame is received, and the bench writes the named register. -/
  | regWr (b : Nat) (f : Frame)
  /-- R141: A REG_RSP frame is received, and it completes the outstanding bench register access. -/
  | regRsp (b : Nat) (f : Frame)
  /-- R115: A TEMP frame delivers the model estimates for the bench's two layers, and the bench updates its refresh
  temperature. -/
  | tempFrame (b : Nat) (f : Frame)
  /-- R287: A TOKENS frame delivers the bench's issue tokens for the tick. -/
  | tokensFrame (b : Nat) (f : Frame)
  /-- R120: A GRANT frame starts a patrol slice of the given number of slabs at the bench. -/
  | grantFrame (b : Nat) (f : Frame)
  /-- R305: A patrol report is received and queued for the scrub engine, merged with a queued report for the same
  slab, or dropped. -/
  | patrolRpt (b : Nat) (f : Frame)
  /-- R129: A CANARY frame delivers a bench's exit mask or entry failures; the base die sets suspect marks or
  CANARY_BAD. -/
  | canaryFrame (b : Nat) (f : Frame)
  /-- R161: A HOLD frame makes the bench finish accepted commands, precharge, enter self-refresh and report READY 1. -/
  | holdFrame (b : Nat) (f : Frame)
  /-- R123: A PAUSE frame starts a bench's level-change self-refresh for the target level. -/
  | pauseFrame (b : Nat) (f : Frame)
  /-- R126: A RETAIN frame starts a bench's EMBER-entry procedure of canary writing and checking. -/
  | retainFrame (b : Nat) (f : Frame)
  /-- R161: A READY frame reports that a bench has completed HOLD, RETAIN or the PAUSE self-refresh entry. -/
  | readyFrame (b : Nat) (f : Frame)
  /-- R146: A frame fails its CRC, so the receiver sets NAK and discards frames until a REPLAY. -/
  | shaftCrcFail (b : Nat) (down : Bool)
  /-- R141: A CRC-good frame of a reserved type, or of a type sent in the wrong direction, is a protocol error and
  starts a recovery. -/
  | reservedFrame (b : Nat) (down : Bool) (type : Nat)
  /-- R157: No REPLAY arrives within 256 frames after a NAK, which starts a recovery. -/
  | replayTimeout (b : Nat) (down : Bool)
  /-- R158: The hardware recovery ends: failing lanes are failed, the map is reapplied, and both directions replay. -/
  | recoveryDone (b : Nat) (dn up : List Nat)
  /-- R160: A recovery does not end within RECOVERY_LIMIT, so the bench goes offline. -/
  | recoveryTimeout (b : Nat)
  /-- R161: A bench loses frame lock, or its down lanes idle for 100 ns, and it protects its layers in self-refresh. -/
  | lockLoss (b : Nat)
  /-- R141: A bench register access is not answered within 1 µs; it completes as 0 or as a discarded write and sets
  the shaft fault source. -/
  | regAccessTimeout (b : Nat)
  /-- R153: Training step 1 locks both ends to the stack reference at LEVEL. -/
  | refLock (b level : Nat)
  /-- R153: Training step 2 starts PRBS31 on every lane and lets the checkers synchronise. -/
  | prbsTx (b : Nat)
  /-- R153: Training step 3 sweeps the receiver phase steps and records which ones pass. -/
  | phaseSweep (b : Nat)
  /-- R153: Training step 4 finds each lane's bit slip on the training word. -/
  | slip (b : Nat)
  /-- R153: Training step 5 applies the lane map and widths and aligns the logical lanes into frames. -/
  | frameAlign (b : Nat)
  /-- R153: Training step 6 loads the scrambler seeds and checks 256 IDLE short words. -/
  | scrSync (b : Nat)
  /-- R153: Training step 7 counts PRBS31 errors over CHECK_LEN bits on each lane. -/
  | prbsCheck (b : Nat)
  /-- R153: Training step 8 resets sequence numbers and credits, takes the bench out of self-refresh and sets
  LINK_UP. -/
  | enterService (b : Nat)
  /-- R153: A training step ends, and STEP_DONE or STEP_FAIL and the lanes' FAILED bits are set. -/
  | trainStepDone (b : Nat) (lanes : List (Nat × Nat))
  /-- R155: A write to FAILED_DN or FAILED_UP is performed while STATE is DOWN or OFFLINE; otherwise it is ignored
  and logged. -/
  | failedLanesWrite (src : RegSrc) (off data : Nat)
  /-- R151: A write to REF_CTRL.DSPREAD_EN is made pending for the next pause, or refused while REFCLK is spread. -/
  | dspreadEnWrite (src : RegSrc) (v : Nat)
  /-- R151: The measured REFCLK frequency variation crosses 0.1 % within 100 µs, which sets or clears REFCLK_SSC. -/
  | refclkSscChange (spread : Bool)
  /-- R171: A memory read to BAR2 is tested against the refusal table, served through the slab cache and returned as
  completions. -/
  | bar2Read (r : HostRd)
  /-- R172: A memory write to BAR2 is tested against the refusal table and performed through the slab cache or merge
  buffer. -/
  | bar2Write (w : HostWr)
  /-- R8: A write to a register field that has no step of its own is performed according to its access code, with
  reserved values refused under R9. -/
  | registerWrite (src : RegSrc) (space : Space) (off data be : Nat) (ep : Bool)
  /-- R176: An AtomicOp, an I/O request or an unimplemented request type completes with UR and is logged. -/
  | unsupportedRequest (bar addr rid tag : Nat) (write : Bool)
  /-- R177: A write to VIOLOG_STATUS.CLEAR empties the violation log. -/
  | viologClear (src : RegSrc)
  /-- R207: A completion arrives for a haul non-posted request; an error status or EP halts the engine. -/
  | haulCompletionRx (tag status : Nat) (ep : Bool) (data : List Byte)
  /-- R207: A haul non-posted request times out, which halts the haul engine. -/
  | completionTimeout (tag : Nat)
  /-- R189: A write to a channel's TAIL posts descriptors for fetching. -/
  | doorbell (src : RegSrc) (c data : Nat)
  /-- R190: A prefetched descriptor arrives in the shared descriptor buffer. -/
  | descriptorFetched (c : Nat)
  /-- R192: A NOP descriptor starts execution and completes without data movement. -/
  | nop (c : Nat)
  /-- R192: A COPY descriptor starts moving its source stream to its destination stream. -/
  | copy (c : Nat)
  /-- R191: A FILL descriptor starts writing its 8-byte pattern over its destination. -/
  | fill (c : Nat)
  /-- R217: A DIGEST descriptor starts computing CRC-64 digests of its data fragments. -/
  | digest (c : Nat)
  /-- R215: An ENCODE descriptor starts computing and writing its Cauchy check fragments. -/
  | encode (c : Nat)
  /-- R224: A VERIFY descriptor starts judging all fragments of a stripe against the ledger. -/
  | verify (c : Nat)
  /-- R216: A REBUILD descriptor starts reconstructing the fragments named in its MASK. -/
  | rebuild (c : Nat)
  /-- R201: A FENCE descriptor starts once its channel's earlier descriptors have completed and its scope's writes
  are performed, then completes. -/
  | fence (c : Nat)
  /-- R223: A coded descriptor's ledger entries have been read, or found poisoned, before its fragments are read. -/
  | ledgerReadDone (c : Nat)
  /-- R224: Every source fragment has been read and digested, so the erasures and the outcome are known. -/
  | pass1Done (c : Nat)
  /-- R223: The intact fragments have been re-read and checked, and the reconstructed fragments have been written. -/
  | pass2Done (c : Nat)
  /-- R202: A write to COMMIT requests a hand-over of the channel's shadow set, or is refused for a bad SIZE_LOG2 or
  ring. -/
  | commit (src : RegSrc) (c : Nat)
  /-- R202: At the next descriptor boundary, or when the ring is empty if required, the shadow set is copied into the
  active set. -/
  | handOver (c : Nat)
  /-- R205: Setting CTRL.EN enables the channel, unless the active SIZE_LOG2 is 0. -/
  | channelEnable (src : RegSrc) (c : Nat)
  /-- R205: Clearing CTRL.EN stops fetching, drops prefetched descriptors and disables the channel after its running
  descriptor completes. -/
  | channelDisable (src : RegSrc) (c : Nat)
  /-- R208: A write to HAUL_GLOBAL.CTRL.RESET clears the halt, resets HEAD to COMP, quarantines abandoned tags and
  sets RESET_DONE. -/
  | haulReset (src : RegSrc)
  /-- R220: A write to CODING.CTRL.LEDGER_EN enables or disables the ledger, subject to the region and idle checks. -/
  | ledgerEnWrite (src : RegSrc) (v : Nat)
  /-- R220: A write to LEDGER_BASE or LEDGER_SIZE is performed only while LEDGER_EN is 0. -/
  | ledgerRegionWrite (src : RegSrc) (off data : Nat)
  /-- R242: A write to LABEL_CFG BUDGET or FIXED is checked against the fixed-high and ceiling rules and takes effect
  at the next window. -/
  | labelCfgWrite (src : RegSrc) (l data : Nat)
  /-- R242: A write to REGULATION.CEILING is refused if the written G would exceed the new ceiling. -/
  | ceilingWrite (src : RegSrc) (v : Nat)
  /-- R239: A write to CTRL.WINDOW is checked against the ceiling and takes effect at the next window start. -/
  | windowWrite (src : RegSrc) (v : Nat)
  /-- R240: A SPILL request waits 2 µs at a cache port or at PCIe egress and is then served as GUARANTEED. -/
  | spillAged (id : Nat)
  /-- R255: A request for DOZE is granted unless a channel has work or a drain runs. -/
  | reqDoze (src : RegSrc)
  /-- R256: A request for REST makes the sequencer ask the entry blocks in order. -/
  | reqRest (src : RegSrc)
  /-- R256: A request for EMBER makes the sequencer ask the entry blocks in order. -/
  | reqEmber (src : RegSrc)
  /-- R249: A write to POWER.PERF.LIMIT that is slower than the level in use makes the governor step down at the next
  tick. -/
  | perfLimitWrite (src : RegSrc) (v : Nat)
  /-- R275: A sensor differs from its reference by more than 6 °C on 8 consecutive ticks and becomes suspect. -/
  | sensorSuspect (n : Nat)
  /-- R275: A suspect sensor stays within 3 °C of its reference for 1,000 ticks and becomes valid again. -/
  | sensorRestored (n : Nat)
  /-- R298: A write to CELOG_STATUS.CLEAR empties the spoil log. -/
  | celogClear (src : RegSrc)
  /-- R300: A write to UELOG_STATUS.CLEAR empties the uncorrectable-error log. -/
  | uelogClear (src : RegSrc)
  /-- R318: Writing 1 to STICKY bits clears them, and FIRST.VALID clears when every bit is 0. -/
  | stickyClear (src : RegSrc) (word data : Nat)
  /-- R322: A write to FENCE_RELEASE releases a fenced CODING or RACKLINK target. -/
  | fenceRelease (src : RegSrc) (data : Nat)
  /-- R323: A write to a REACT word sets the allowed reactions and refuses disallowed fields or writes made under
  LOCK. -/
  | reactWrite (src : RegSrc) (word data : Nat)
  /-- R323: A write of 1 to CTRL.LOCK locks REACT, SHADOW and injection until the base die leaves reset. -/
  | faultLock (src : RegSrc)
  /-- R324: A reaction shadow ends at its CTRL.SHADOW-th tick boundary. -/
  | shadowEnd (target : Nat)
  /-- R325: An injection inverts the shaft CRC of the next COUNT frames of a bench and direction. -/
  | injectShaftCrc (src : RegSrc) (b dir count : Nat)
  /-- R325: An injection inverts side bytes 0 to 3 of a layer's next COUNT portions. -/
  | injectInnerCrc (src : RegSrc) (layer count : Nat)
  /-- R325: An injection inverts the P symbol of column 0 at the decoder for COUNT decodes. -/
  | injectSlabSyndrome (src : RegSrc) (count : Nat)
  /-- R325: An injection inverts one or two check bits of the next COUNT accesses of an SRAM array. -/
  | injectSramEcc (src : RegSrc) (array : Nat) (double : Bool) (count : Nat)
  /-- R325: An injection inverts one check bit of each fuse word at the next sensing. -/
  | injectFuseEcc (src : RegSrc)
  /-- R325: An injection inverts the CRC-32 of the next COUNT received Rack Link frames. -/
  | injectRlCrc (src : RegSrc) (count : Nat)
  /-- R331: The March C− over the row-group ends, or is stopped, and the rebuild starts. -/
  | csMemMarchDone (fails : List Nat)
  /-- R333: The way march ends; a passing way returns to service and a failing way stays disabled. -/
  | csWayDone (pass : Bool)
  /-- R334: The lane PRBS run ends; a lane over PRBS_LIMIT is failed and the map is restored. -/
  | csLaneDone (errors : Option Nat)
  /-- R336: Setting CTRL.SERVICE, if admitted, flushes and invalidates the cache and makes STACK_READY 0. -/
  | serviceEnter (src : RegSrc)
  /-- R336: Clearing CTRL.SERVICE with no test running returns STACK_READY to 1 and resumes the stopped work. -/
  | serviceExit (src : RegSrc)
  /-- R335: Test 1 runs logic BIST of the base-die engines. -/
  | lbistBase (src : RegSrc)
  /-- R335: Test 2 marches the base-die SRAM arrays. -/
  | sramBase (src : RegSrc)
  /-- R338: Test 3 runs logic BIST on one bench, removing it as a planned erasure during traffic. -/
  | lbistBench (src : RegSrc) (b : Nat)
  /-- R339: Test 4 marches every bank, spare and canary row, and is followed by a stack clear. -/
  | marchFull (src : RegSrc)
  /-- R339: Test 5 marches one bank, saving and restoring its raw portions. -/
  | marchBank (src : RegSrc) (layer pos : Nat)
  /-- R335: Test 6 fully trains one bench's shaft link. -/
  | shaftPrbs (src : RegSrc) (b : Nat)
  /-- R337: A test ends, and its RESULT, failure information and tick are recorded. -/
  | testDone (fails : List (Nat × Nat × Nat)) (bench : Option Nat := none)
  /-- R344: A calibration run of KIND 1 measures the diode sensor offsets into the shadow values. -/
  | calSensors (src : RegSrc)
  /-- R344: A calibration run of KIND 2 measures the current-monitor gains into the shadow values. -/
  | calMonitors (src : RegSrc)
  /-- R344: A calibration run of KIND 3 measures a bench's shaft trims, by removal or at the next pause. -/
  | calShaft (src : RegSrc) (b : Nat)
  /-- R344: A calibration run of KIND 4 measures a bench's driver trim, by removal or at the next pause. -/
  | calDriver (src : RegSrc) (b : Nat)
  /-- R344: A calibration run ends, SHADOW_DIRTY is set and CAL_DONE is set. -/
  | calRunDone (measured : List (Nat × Byte))
  /-- R345: A write to CAL_CTRL.APPLY requests that the shadow values come into force at the next tick boundary. -/
  | calApply (src : RegSrc)
  /-- R345: A write to CAL_CTRL.RELOAD copies the values in force to the shadow values. -/
  | calReload (src : RegSrc)
  /-- R346: A write to CAL_CTRL.SAVE starts writing the values in force as a new calibration-record copy. -/
  | calSave (src : RegSrc)
  /-- R346: The record copy has been erased, programmed and verified, or has been stopped by the programming window. -/
  | calSaveDone (done : Bool)
  /-- R359: Fuse sensing completes; words are judged, regions checked, values in force set and privileged regions
  enforced. -/
  | fuseSensingDone (reads : List FuseRead)
  /-- R360: A write to READ_CTRL.GO reads a fuse word or seal from the selected source and reference. -/
  | fuseRead (src : RegSrc) (ctrl : Nat) (reads : List FuseRead := [])
  /-- R362: A write of the key to BURN_UNLOCK unlocks burning for 1 tk; any other value relocks. -/
  | burnUnlock (src : RegSrc) (key : Nat)
  /-- R364: A GO for a word, if it passes the burn checks, burns and verifies its two copies in turn. -/
  | wordBurn (src : RegSrc) (w : Nat)
  /-- R365: A GO with SEAL burns a region's seal, provided the lock guard confirms the CHECK. -/
  | sealBurn (src : RegSrc) (r : Nat)
  /-- R365: A GO with SEAL and FORCE, armed through FORCE_ARM, burns the seal without the lock guard. -/
  | forceLock (src : RegSrc) (r : Nat)
  /-- R364: A GO for ROLLBACK burns counter bits up to the new value in both copies. -/
  | rollbackBurn (src : RegSrc) (w : Nat)
  /-- R364: A burn ends with DONE or VERIFY_FAIL, and BURN_STATUS and EVENTS are set. -/
  | burnDone (got0 got1 : Nat)
  /-- R365: A write to FORCE_ARM arms a force-lock of the named region for 1 tk. -/
  | forceArm (src : RegSrc) (r : Nat)
  /-- R361: OVR_CTRL.SET overrides the value in force of a word of an open non-privileged region, or is refused. -/
  | overrideSet (src : RegSrc) (w : Nat)
  /-- R361: OVR_CTRL.CLEAR removes a word's override. -/
  | overrideClear (src : RegSrc) (w : Nat)
  /-- R379: A write to MGMT.CTRL.CORE_RESET restarts the management core from the boot ROM. -/
  | coreReset (src : RegSrc)
  /-- R381: A persistence of the event log starts on request, at a persistence point or with 2,048 entries
  unpersisted. -/
  | logPersist (src : RegSrc)
  /-- R392: An expedited READ request returns an object's value of up to 8 bytes. -/
  | read (c : Nat) (req : List Byte)
  /-- R392: An expedited WRITE request is checked and sets an object's value of up to 8 bytes. -/
  | write (c : Nat) (req : List Byte)
  /-- R394: READ_SEG_INIT snapshots an object's value and opens a segmented read. -/
  | readSegInit (c : Nat) (req : List Byte)
  /-- R394: READ_SEG delivers the next bytes of the snapshot from OFFSET. -/
  | readSeg (c : Nat) (req : List Byte)
  /-- R394: WRITE_SEG_INIT checks TOTAL and opens a segmented write. -/
  | writeSegInit (c : Nat) (req : List Byte)
  /-- R394: WRITE_SEG takes the next bytes; the final segment checks the value and writes it in one step. -/
  | writeSeg (c : Nat) (req : List Byte)
  /-- R393: An ABORT request ends the carrier's open transfer with ABORTED. -/
  | abort (c : Nat) (req : List Byte)
  /-- R399: A write to DICTPORT.CTRL.ABORT ends the port's open segmented transfer with ABORTED. -/
  | dictportAbort (src : RegSrc)
  /-- R394: An open segmented transfer idles for 100,000 tk and ends with TIMEOUT. -/
  | transferTimeout (c : Nat)
  /-- R403: Within 1,000 tk of an unsaved RWS write, firmware writes a new saved-values copy. -/
  | saveValues (ok : Bool)
  /-- R401: A wake-port command byte of 0x10 to 0x2F sets the read pointer. -/
  | wakePortPointer (p : Nat)
  /-- R401: A wake-port read returns read-subset bytes from a snapshot, starting at the pointer. -/
  | wakePortRead (n : Nat)
  /-- R424: A valid beacon is received; its instant and TICK discipline the flywheel and may load the tick number. -/
  | beacon (t : Nat) (note : RxNote) (db : Nat) (hdr pay : List Int)
  /-- R400: A DICT_REQ frame delivers a dictionary message, which is served by firmware or answered ASLEEP in EMBER. -/
  | dictReq (note : RxNote) (hdr pay : List Int)
  /-- R433: A WAKE frame addressed to the node sets the wake latch in REST or in listening EMBER. -/
  | wakeFrame (note : RxNote) (hdr : List Int) (pay : List Int := [])
  /-- R429: An ASSIGN frame naming the node's serial number sets its node address. -/
  | assign (note : RxNote) (hdr pay : List Int)
  /-- R431: A frame fails CRC16 or CRC-32, is discarded and counted, and sets FS112. -/
  | rlCrcFail (note : RxNote) (hdr : List Int) (pay : List Int := [])
  /-- R426: The node's granted slot starts, and it sends queued responses, frames and a STATUS frame that fit. -/
  | nodeSlot (db : Nat) (foreign : Bool)
  /-- R434: In a LINK_TEST cycle, both named nodes send LINK_TEST frames and each compares the other's PRBS31
  payload. -/
  | linkTestSlot (got : Option RxLine) (db : Nat := 0)
  /-- R438: VDD_AON has been at 0.70 V for 1 ms, so the lantern domain leaves power-on reset with its fields at their
  reset values. -/
  | lanternPor (addr : Nat)
  /-- R439: The rails, REFCLK and PERST# conditions hold, so the base die leaves reset and runs its start-up path. -/
  | baseDieResetExit (bootsel : Bool)
  /-- R474: A keyed host write of RESET_CTRL.BASE_RESET requests a base-die reset that flushes and persists the log. -/
  | baseReset (src : RegSrc) (key : Nat)
  /-- R475: A write of 1 to an enable bit whose event bit is already set sends the block's vector message. -/
  | eventEnWrite (src : RegSrc) (off data : Nat)
  /-- R148: A shaft receiver deletes a stuffed bit equal to the run value, increments the lane's VIOL_COUNT and, at 4
  violations on one lane within 1 tk, starts a recovery (R157). -/
  | stuffingViolation (b : Nat) (up : Bool) (lane : Nat)
  /-- R256: A bench that has not reported READY within 50 µs of HOLD or RETAIN is taken offline, and the entry
  continues without it. -/
  | benchReadyTimeout (b : Nat)
  /-- R317: A fault condition of Table 14.1 that is tied to no access is detected and reacts: a rail, monitor or
  VDD_CORE out of range, lantern-oscillator drift, REFCLK edge loss for 1 µs, PLL unlock, a switch or isolation
  check, or sequencer or collector consistency. Also an ECC error of the cache or merge-buffer arrays, FS040 to FS044, in the
  sectors `mask` of slab `slab`. -/
  | checkerFault (source : Nat) (slab mask : Nat := 0)
  /-- R444: The PCIe link trains and the data link comes up, or changes speed, width or FLIT mode; LINK_UP, SPEED and
  WIDTH update and LINK_CHANGE is set. -/
  | dlUp (speed width : Nat) (flit : Bool)
  /-- R422: A header-valid Rack Link frame that is not accepted is discarded: a reserved type or address, a wrong
  direction, LEN above 256, an invalid beacon, or another node's frame; bad frames are counted in BAD_FRAMES. -/
  | rlDiscardedFrame (note : RxNote) (hdr pay : List Int)
  /-- R463: An instruction is loaded into the JTAG TAP; under DEBUG_LOCK a private opcode acts as BYPASS and sets
  FS103. -/
  | tapInstruction (op : Nat)
  /-- R27: No edge is counted for 1,000 tk, so the flywheel is disciplined from Rack Link beacons instead. -/
  | pinSilenceTimeout
  /-- R27: No beacon arrives for 3,000 tk, so the tick source becomes LOCAL. -/
  | beaconSilenceTimeout
  /-- R43: The start tick is reached in ACTIVE, or the deferred start takes effect, and ring pointers, counters and
  queues reset as the state becomes IN_SHIFT. -/
  | shiftStart
  /-- R39: At end minus lead the shift state becomes DRAINING, descriptor fetching stops and the cache turns
  write-through. -/
  | drainStart
  /-- R39: The merge buffer, dirty lines and ledger updates have reached the stack, and the shift state becomes
  DRAINED. -/
  | drainComplete
  /-- R41: The end tick is reached while the shift is still DRAINING, which sets DRAIN_OVERRUN. -/
  | drainOverrun
  /-- R42: At the first tick with DRAINED and the end tick reached, ARM clears, write-back resumes, channels are
  ungated and SHIFT_ENDED is set. -/
  | shiftEnd
  /-- R73: The rejoin sweep passes the last slab, the REJOINING layers become ONLINE and REJOIN_DONE is set. -/
  | rejoinDone
  /-- R75: The stack clear passes the last slab, EMPTY becomes 1, CLEAR_PENDING becomes 0 and the suspect marks
  clear. -/
  | clearDone
  /-- R98: Every line and entry that matched at GO has been handled, so GO reads 0 and FLUSH_DONE is set. -/
  | flushDone
  /-- R120: At a tick that is a multiple of PATROL_CTRL.INTERVAL, the base die grants each active bench a patrol
  slice. -/
  | patrolSlice
  /-- R123: At the decided tick boundary, issue stops, the benches drain and enter self-refresh, and the PLLs start
  to relock at the new level. -/
  | levelPauseStart
  /-- R130: Once the stack is reported ready, the scrub engine starts sweeping the bank positions that carry suspect
  marks. -/
  | suspectSweepStart
  /-- R176: A malformed TLP is handled as the standard prescribes and reported through AER, without logging. -/
  | malformedTlp
  /-- R184: A host write of D3hot to PowerState requests entry to REST. -/
  | d3hotWrite
  /-- R261: A host write of D0 to PowerState wakes the device from REST. -/
  | d0Write
  /-- R185: Initiate FLR stops the haul engine, performs the accepted requests, flushes the cache and resets the
  function state. -/
  | flr
  /-- R185: A hot reset runs the FLR sequence and then retrains the link. -/
  | hotReset
  /-- R185: The link entering DL_Down runs the FLR sequence and then retrains the link. -/
  | dlDown
  /-- R185: The flush of an FLR or hot reset ends, the function state is reset, FLR_BUSY clears and FLR_DONE is set. -/
  | flrComplete
  /-- R182: Setting Bus Master Enable lets waiting haul channels issue requests and MSI-X messages be sent. -/
  | busMasterEnable
  /-- R236: A regulation window starts: consumption counters reset and the effective budgets are computed from D. -/
  | regulationWindowStart
  /-- R255: DOZE_IDLE ticks pass without host requests, doorbells or running descriptors, so DOZE is requested. -/
  | autoDoze
  /-- R256: An entry block finishes its quiesce and grants, and the sequencer asks the next block. -/
  | blockGrant
  /-- R256: The domains have been isolated and switched for the target state, and the new state is reported. -/
  | domainSwitchDone
  /-- R445: With the wake latch set, the rails present and PERST# deasserted, the device powers its domains and
  starts leaving EMBER. -/
  | emberExit
  /-- R443: Every step of the start-up path is complete, so firmware sets STACK_READY and STACK_READY_SET. -/
  | stackReady
  /-- R277: 1,000 tk after the model was initialised, the +5 °C start-up guard ends and GUARD clears. -/
  | modelGuardEnd
  /-- R293: The governor's 100 tk start-up hold at P2 ends and START_HOLD clears. -/
  | govStartHoldEnd
  /-- R289: A faster level has been the choice for 100 consecutive ticks, so a rise to it is decided. -/
  | govRiseQualified
  /-- R290: f has been 128 with P above target for 32 ticks, so the governor steps down one level and holds for 1,000
  tk. -/
  | govForcedStep
  /-- R292: After 100 tk at the limit, the throttle level limit steps one level slower, or one faster during release. -/
  | throttleLimitStep
  /-- R303: At a tick that is a multiple of SCRUB_CTRL.INTERVAL, a scrub slice serves repairs, patrol reports and
  walk slabs. -/
  | scrubSlice
  /-- R308: The remap is written and the 8 slabs are rewritten into the spare, so the locks release and counters and
  records are updated. -/
  | rowRepairDone
  /-- R309: The bench's link is ACTIVE again, so an interrupted repair is retried from step 1. -/
  | rowRepairRetry
  /-- R311: Firmware appends a ROW, LANE, LAYER_LOST or LAYER_REJOINED record to the field-repair area within 100 tk
  of its cause. -/
  | fieldRecordAppend
  /-- R331: A CS_MEM grant, if admitted, places a planned erasure on the next row-group and starts its march. -/
  | csMemSlice
  /-- R331: All 512 portions are rebuilt, so PLANNED and CS_RECORD clear and failing rows enter the row watch. -/
  | csMemRebuildDone
  /-- R333: A CS_WAY grant, if admitted, empties and disables the next cache way and marches it. -/
  | csWaySlice
  /-- R334: A CS_LANE grant runs PRBS31 on the next lane, with planned map changes for a lane that carries a logical
  lane. -/
  | csLaneSlice
  /-- R345: At the tick boundary after APPLY, the shadow values come into force in one step and suspect counting
  restarts. -/
  | calValuesInForce
  /-- R362: 1 tk passes without a GO, so the burn unlock lapses. -/
  | burnUnlockLapse
  /-- R374: The loaded image reaches RUNNING, or is refused and the other slot is tried. -/
  | firmwareRunning
  /-- R374: A boot does not reach RUNNING within 10,000 tk, so FS098 is set and the other slot is tried. -/
  | bootTimeout
  /-- R375: CONFIRM_DELAY ticks pass in RUNNING, and a trial image confirms itself. -/
  | confirmDelayExpiry
  /-- R376: The slot erase ends, and UPDATE_STATE becomes RECEIVING. -/
  | updateEraseDone (ok : Bool := true)
  /-- R376: The slot verifies, so UPDATE_STATE becomes STAGED; otherwise it becomes FAILED. -/
  | updateStaged (ok : Bool := true)
  /-- R379: The management watchdog expires, which sets FS098 and, by default, restarts the core. -/
  | watchdogExpiry
  /-- R381: The persisted pages have been programmed, and LOG_PERSISTED_SEQ advances. -/
  | logPersistDone
  /-- R389: At a tick boundary, the claims of the past tick are decided, and the rack manager is preferred. -/
  | tokenClaimDecision
  /-- R262: A wake-port write whose command byte is 0x01 sets the wake latch at the acknowledge. -/
  | wakePortWake
  /-- R459: SCL stays low for more than 25 ms, so the port releases WSDA and waits for a START. -/
  | wakePortTimeout
  /-- R423: A Rack Link cycle starts at a tick that is a multiple of 1,000, and a pending node address takes effect. -/
  | rlCycleStart
  /-- R424: The beacon slot passes without a valid beacon, which counts BEACONS_LOST. -/
  | beaconLost
  /-- R414: Foreign symbols are detected during transmission, so the node stops, counts a collision and sets FS114. -/
  | collision (residual : List Nat := [])
  /-- R429: In an ASSIGN_OPEN cycle, an unassigned node sends ASSIGN_REQ in a random contention sub-slot. -/
  | assignReqSlot (db : Nat := 0)
  /-- R429: No ASSIGN arrives within 3 cycles, so the node waits a random 1 to 8 cycles and retries. -/
  | assignRetry
  /-- R281: VDD_AON stays below 0.3 V for 10 ms, which clears the thermal-trip latch and all lantern state. -/
  | vddAonLoss
  /-- R447: PERST# is asserted, which requests a flushed base-die reset, or EMBER when the device is in REST. -/
  | perstAssert
  /-- R439: PERST# is deasserted, which lets the base die leave reset or wakes the device from EMBER. -/
  | perstDeassert
  /-- R448: VDD_CORE is below 0.50 V for 1 µs, which causes an unflushed base-die reset. -/
  | vddCoreLow
  /-- R448: REFCLK is absent for 10 µs, which causes an unflushed base-die reset. -/
  | refclkLoss
  /-- R365: 1 tk passes after a FORCE_ARM write without a SEAL with FORCE, and the force-lock arming lapses. -/
  | forceArmLapse
deriving DecidableEq, Repr

end Sys2Proof
end

