-- ==== Sys2Proof/Decode.lean ====
section
/-! DEFINITION. The decoder: the device has no instruction words, and no row of the opcode table has bits. -/
namespace Sys2Proof

/-- The command that a word spells by the table's bits: none, since no row gives any (DESIGN CHOICE in part: log entry 2). -/
def decodeTableWord (_nbits _w : Nat) : Option Instr := none

end Sys2Proof
end

