-- ==== Sys2Proof/Machine/Arith.lean ====
section
/-! DEFINITION. Bit fields, tick-number arithmetic, GF(2^8) and the check codes the spec names. -/
namespace Sys2Proof.Machine

/-- `n` with bit `i` set to `b`. -/
def setBit (n i : Nat) (b : Bool) : Nat :=
  if b then n ||| (1 <<< i) else if n.testBit i then n - (1 <<< i) else n

/-- Bits `[lsb + w - 1 : lsb]` of `n`. -/
def field (n lsb w : Nat) : Nat := (n >>> lsb) % 2 ^ w

/-- The number of bits set among bits 0 to `w - 1` of `n`. -/
def popCount : Nat → Nat → Nat
  | 0, _ => 0
  | w + 1, n => (if n.testBit w then 1 else 0) + popCount w n

/-- The positions of the bits set among bits 0 to `w - 1` of `n`, ascending. -/
def bitsOf (w n : Nat) : List Nat := (List.range w).filter n.testBit

/-- A bit map of `w` bits from a predicate. -/
def mapOf (w : Nat) (p : Nat → Bool) : Nat :=
  (List.range w).foldl (fun m i => if p i then m ||| (1 <<< i) else m) 0

/-- 1 for true, 0 for false. -/
def b2n (b : Bool) : Nat := if b then 1 else 0

/-- The element of a list at `i` replaced; the list unchanged when it has none. -/
def setAt {α : Type} : List α → Nat → α → List α
  | [], _, _ => []
  | _ :: xs, 0, v => v :: xs
  | x :: xs, i + 1, v => x :: setAt xs i v

/-- The element of a list at `i` changed by `f`. -/
def modAt {α : Type} (f : α → α) : List α → Nat → List α
  | [], _ => []
  | x :: xs, 0 => f x :: xs
  | x :: xs, i + 1 => x :: modAt f xs i

/-- The first element that satisfies `p`, removed; the list unchanged when none does. -/
def dropFirst {α : Type} (p : α → Bool) : List α → List α
  | [] => []
  | x :: xs => if p x then xs else x :: dropFirst p xs

/-- The first element that satisfies `p`, changed by `f`. -/
def modFirst {α : Type} (p : α → Bool) (f : α → α) : List α → List α
  | [] => []
  | x :: xs => if p x then f x :: xs else x :: modFirst p f xs

/-- The modulus of the 48-bit rack tick number (R28). -/
def tickMod : Nat := 2 ^ 48

/-- `a - b` modulo 2^48 (R31, R37). -/
def tickSub (a b : Nat) : Nat := (a % tickMod + (tickMod - b % tickMod)) % tickMod

/-- R31: tick `t` has been reached at tick number `now`. -/
def reached (now t : Nat) : Bool := tickSub now t < 2 ^ 47

/-- Little-endian number of a byte list. -/
def leNat : List Byte → Nat
  | [] => 0
  | b :: bs => b.toNat + 256 * leNat bs

/-- The low `n` bytes of `v`, little-endian. -/
def leBytes : Nat → Nat → List Byte
  | 0, _ => []
  | n + 1, v => BitVec.ofNat 8 v :: leBytes n (v / 256)

/-- Bytes `[off, off + n)` of a list. -/
def slice {α : Type} (l : List α) (off n : Nat) : List α := (l.drop off).take n

/-- A byte list with `src` written over it from `off`; bytes past its end are dropped. -/
def overlay {α : Type} : List α → Nat → List α → List α
  | [], _, _ => []
  | xs, _, [] => xs
  | _ :: xs, 0, b :: bs => b :: overlay xs 0 bs
  | x :: xs, off + 1, bs => x :: overlay xs off bs

/-! ### GF(2^8) with primitive polynomial 0x11D and α = 0x02 (R51) -/

/-- Multiplication by α. -/
def gfDouble (a : Byte) : Byte := (a <<< 1) ^^^ (if a.msb then 0x1D#8 else 0#8)

/-- `a` times `b`, over the low `n` bits of `b`, with `a` doubled at each bit. -/
def gfMulGo : Nat → Byte → Nat → Byte
  | 0, _, _ => 0#8
  | n + 1, a, b => (if b % 2 = 1 then a else 0#8) ^^^ gfMulGo n (gfDouble a) (b / 2)

/-- The product of two field elements (R51). -/
def gfMul (a b : Byte) : Byte := gfMulGo 8 a b.toNat

/-- α to the power `n`. -/
def gfAlpha : Nat → Byte
  | 0 => 1#8
  | n + 1 => gfDouble (gfAlpha n)

/-- `a` to the power `n`. -/
def gfPow (a : Byte) : Nat → Byte
  | 0 => 1#8
  | n + 1 => gfMul a (gfPow a n)

/-- The multiplicative inverse, `a ^ 254`; 0 for 0. -/
def gfInv (a : Byte) : Byte :=
  let a2 := gfMul a a
  let a3 := gfMul a2 a
  let a6 := gfMul a3 a3
  let a12 := gfMul a6 a6
  let a15 := gfMul a12 a3
  let a30 := gfMul a15 a15
  let a60 := gfMul a30 a30
  let a120 := gfMul a60 a60
  let a126 := gfMul a120 a6
  let a127 := gfMul a126 a
  gfMul a127 a127

/-! ### Check codes -/

/-- One reflected CRC over the 8 bits of a byte already mixed in. -/
def crcReflBits (poly : Nat) : Nat → Nat → Nat
  | 0, c => c
  | n + 1, c => crcReflBits poly n (if c % 2 = 1 then (c / 2) ^^^ poly else c / 2)

/-- A reflected CRC; `poly` is the bit-reversed polynomial. -/
def crcRefl (poly init xorOut : Nat) (bs : List Byte) : Nat :=
  (bs.foldl (fun c b => crcReflBits poly 8 (c ^^^ b.toNat)) init) ^^^ xorOut

/-- One unreflected CRC over the 8 bits of a byte already mixed in, register width `w`. -/
def crcMsbBits (w poly : Nat) : Nat → Nat → Nat
  | 0, c => c
  | n + 1, c =>
    crcMsbBits w poly n ((if c.testBit (w - 1) then (c <<< 1) ^^^ poly else c <<< 1) % 2 ^ w)

/-- An unreflected CRC of width `w` with no final XOR. -/
def crcMsb (w poly init : Nat) (bs : List Byte) : Nat :=
  bs.foldl (fun c b => crcMsbBits w poly 8 (c ^^^ (b.toNat <<< (w - 8)))) init

/-- R56: CRC-32C, polynomial 0x1EDC6F41 reflected, initial value and final XOR all ones. -/
def crc32c (bs : List Byte) : Nat := crcRefl 0x82F63B78 0xFFFFFFFF 0xFFFFFFFF bs

/-- R140: CRC-16, polynomial 0x1021, initial value 0xFFFF, no reflection. -/
def crc16 (bs : List Byte) : Nat := crcMsb 16 0x1021 0xFFFF bs

/-- R150: CRC-8, polynomial 0x07, initial value 0. -/
def crc8 (bs : List Byte) : Nat := crcMsb 8 0x07 0x00 bs

/-- R57: the address check of layer `l` and slab `s`. -/
def achk (l s : Nat) : Nat := ((l * 2 ^ 27 + s) * 0x9E3779B1) % 2 ^ 32

end Sys2Proof.Machine
end

