-- ==== Sys2Proof/Machine/Regs.lean ====
section
/-! DEFINITION. The register map: every field of every register table of the spec, with its BAR0 place, width, access
code, holding and reset value (Tables 02.3 to 22.2). -/
namespace Sys2Proof.Machine

/-- The access codes of Table 00.4; the -S codes are the plain code held in the lantern domain. -/
inductive Access where
  | ro | rw | w1c | w1s | wo
deriving DecidableEq, Repr

/-- The three places that hold register fields (Table 22.1, R8, R133). -/
inductive Held where
  | base | lantern | bench
deriving DecidableEq, Repr

/-- A family of register fields: one row of a register table, with every index the row runs over.
`dims` gives, for each index, its count and its stride in bits. -/
structure Fam where
  /-- BAR0 byte offset of the word of the first member. -/
  off : Nat
  lsb : Nat
  width : Nat
  acc : Access
  /-- Where the field is held: the lantern domain survives every reset except loss of VDD_AON (R8), the bench part of a
  BENCH block lasts as long as its bench core is on (R133, R162). -/
  held : Held := .base
  dims : List (Nat × Nat) := []
  /-- Reset value of every member that `resets` does not list. -/
  reset : Nat := 0
  /-- Reset values by the last index. -/
  resets : List Nat := []
  /-- The values a write may give are `lo` to `hi` and not in `bad` (R9, R175). -/
  lo : Nat := 0
  hi : Nat := 0xFFFFFFFF
  bad : List Nat := []
deriving DecidableEq, Repr

/-- The bit offset of a member from its family's first. -/
def Fam.rel : List (Nat × Nat) → List Nat → Nat
  | (_, st) :: ds, i :: is => i * st + Fam.rel ds is
  | _, _ => 0

/-- The BAR0 bit address of a member: its key in the register file. -/
def Fam.key (f : Fam) (idx : List Nat) : Nat := f.off * 8 + f.lsb + Fam.rel f.dims idx

/-- The reset value of a member. -/
def Fam.resetAt (f : Fam) (idx : List Nat) : Nat := f.resets.getD (idx.getLastD 0) f.reset

/-- A value that a write may give this field. -/
def Fam.legal (f : Fam) (v : Nat) : Bool := f.lo ≤ v && v ≤ f.hi && !f.bad.contains v

/-- The members of `ds` whose bits start within the 32 bits from bit `rel` on. -/
def Fam.within : List (Nat × Nat) → Nat → List (List Nat)
  | [], rel => if rel = 0 then [[]] else []
  | (n, st) :: ds, rel =>
    if st < 32 then
      ((List.range (32 / st)).map (· + rel / st)).filterMap
        fun i => if i < n ∧ rel ≤ i * st then some [i] else none
    else if rel / st < n then (Fam.within ds (rel % st)).map (rel / st :: ·) else []

/-- The members of a family that lie in the word at BAR0 byte offset `off`. -/
def Fam.inWord (f : Fam) (off : Nat) : List (List Nat) :=
  if off < f.off then [] else Fam.within f.dims ((off - f.off) * 8)

namespace R

/-- Table 02.3: count edges on TICK. -/
def TIME_CTRL_PIN_EN : Fam :=
  { off := 0x410000, lsb := 0, width := 1, acc := .rw, held := .lantern, reset := 0x1 }
/-- Table 02.3: discipline the flywheel from beacons. -/
def TIME_CTRL_BEACON_EN : Fam :=
  { off := 0x410000, lsb := 1, width := 1, acc := .rw, held := .lantern, reset := 0x1 }
/-- Table 02.3: load the tick number from beacons. -/
def TIME_CTRL_BEACON_LOAD : Fam :=
  { off := 0x410000, lsb := 2, width := 1, acc := .rw, held := .lantern, reset := 0x1 }
/-- Table 02.3: 0 PIN, 1 BEACON, 2 LOCAL. -/
def TIME_STATUS_SOURCE : Fam :=
  { off := 0x410004, lsb := 0, width := 2, acc := .ro, held := .lantern, reset := 0x2 }
/-- Table 02.3: 1 when SOURCE is not PIN. -/
def TIME_STATUS_FREE_RUNNING : Fam :=
  { off := 0x410004, lsb := 2, width := 1, acc := .ro, held := .lantern, reset := 0x1 }
/-- Table 02.3: tick number has been loaded. -/
def TIME_STATUS_NUMBER_VALID : Fam :=
  { off := 0x410004, lsb := 3, width := 1, acc := .ro, held := .lantern }
/-- Table 02.3: tick number [31:0]; a read latches NOW_HI. -/
def TIME_NOW_LO : Fam :=
  { off := 0x410008, lsb := 0, width := 32, acc := .ro, held := .lantern }
/-- Table 02.3: tick number [47:32]. -/
def TIME_NOW_HI : Fam :=
  { off := 0x41000C, lsb := 0, width := 16, acc := .ro, held := .lantern }
/-- Table 02.3: value to load [31:0]. -/
def TIME_LOAD_LO : Fam :=
  { off := 0x410010, lsb := 0, width := 32, acc := .rw }
/-- Table 02.3: value [47:32]; write commits the load. -/
def TIME_LOAD_HI : Fam :=
  { off := 0x410014, lsb := 0, width := 16, acc := .wo }
/-- Table 02.3: measured tick period in lantern cycles. -/
def TIME_PERIOD : Fam :=
  { off := 0x410018, lsb := 0, width := 16, acc := .ro, held := .lantern, reset := 0xFA }
/-- Table 02.3: source left PIN. -/
def TIME_EVENTS_FREE_RUN_SET : Fam :=
  { off := 0x41001C, lsb := 0, width := 1, acc := .w1c }
/-- Table 02.3: source returned to PIN. -/
def TIME_EVENTS_FREE_RUN_CLEAR : Fam :=
  { off := 0x41001C, lsb := 1, width := 1, acc := .w1c }
/-- Table 02.3: tick number stepped. -/
def TIME_EVENTS_STEP : Fam :=
  { off := 0x41001C, lsb := 2, width := 1, acc := .w1c }
/-- Table 02.3: drain began. -/
def TIME_EVENTS_DRAIN_START : Fam :=
  { off := 0x41001C, lsb := 3, width := 1, acc := .w1c }
/-- Table 02.3: drain finished. -/
def TIME_EVENTS_DRAINED : Fam :=
  { off := 0x41001C, lsb := 4, width := 1, acc := .w1c }
/-- Table 02.3: end tick reached while draining. -/
def TIME_EVENTS_DRAIN_OVERRUN : Fam :=
  { off := 0x41001C, lsb := 5, width := 1, acc := .w1c }
/-- Table 02.3: an EVENT entry acted. -/
def TIME_EVENTS_SCHED_FIRED : Fam :=
  { off := 0x41001C, lsb := 6, width := 1, acc := .w1c }
/-- Table 02.3: an entry acted with LATE or SKIPPED. -/
def TIME_EVENTS_SCHED_LATE : Fam :=
  { off := 0x41001C, lsb := 7, width := 1, acc := .w1c }
/-- Table 02.3: an early edge was not counted. -/
def TIME_EVENTS_TICK_EARLY : Fam :=
  { off := 0x41001C, lsb := 8, width := 1, acc := .w1c }
/-- Table 02.3: the shift ended (R42). -/
def TIME_EVENTS_SHIFT_ENDED : Fam :=
  { off := 0x41001C, lsb := 9, width := 1, acc := .w1c }
/-- Table 02.3: per EVENTS bit, raise vector 69. -/
def TIME_EVENT_EN_EN : Fam :=
  { off := 0x410020, lsb := 0, width := 10, acc := .rw }
/-- Table 02.3: shift start tick. -/
def TIME_SHIFT_START_LO : Fam :=
  { off := 0x410024, lsb := 0, width := 32, acc := .rw, held := .lantern }
/-- Table 02.3: shift start tick. -/
def TIME_SHIFT_START_HI : Fam :=
  { off := 0x410028, lsb := 0, width := 16, acc := .rw, held := .lantern }
/-- Table 02.3: shift end tick. -/
def TIME_SHIFT_END_LO : Fam :=
  { off := 0x41002C, lsb := 0, width := 32, acc := .rw, held := .lantern }
/-- Table 02.3: shift end tick. -/
def TIME_SHIFT_END_HI : Fam :=
  { off := 0x410030, lsb := 0, width := 16, acc := .rw, held := .lantern }
/-- Table 02.3: drain lead in ticks, 10 to 10,000. -/
def TIME_DRAIN_LEAD_LEAD : Fam :=
  { off := 0x410034, lsb := 0, width := 14, acc := .rw, held := .lantern, reset := 0x64, lo := 10, hi := 10000 }
/-- Table 02.3: shift announced. -/
def TIME_SHIFT_CTRL_ARM : Fam :=
  { off := 0x410038, lsb := 0, width := 1, acc := .rw, held := .lantern }
/-- Table 02.3: invalidate the cache after write-back. -/
def TIME_SHIFT_CTRL_INV_AT_END : Fam :=
  { off := 0x410038, lsb := 1, width := 1, acc := .rw, held := .lantern }
/-- Table 02.3: ARM refused under R37. -/
def TIME_SHIFT_CTRL_BAD_ARM : Fam :=
  { off := 0x410038, lsb := 2, width := 1, acc := .w1c }
/-- Table 02.3: 0 IDLE, 1 ARMED, 2 IN_SHIFT, 3 DRAINING, 4 DRAINED. -/
def TIME_SHIFT_STATUS_STATE : Fam :=
  { off := 0x41003C, lsb := 0, width := 3, acc := .ro, held := .lantern }
/-- Table 02.3: the last drain overran. -/
def TIME_SHIFT_STATUS_DRAIN_OVERRUN : Fam :=
  { off := 0x41003C, lsb := 3, width := 1, acc := .w1c }
/-- Table 02.3: the last start was deferred. -/
def TIME_SHIFT_STATUS_START_LATE : Fam :=
  { off := 0x41003C, lsb := 4, width := 1, acc := .w1c }
/-- Table 02.3: entry target tick [31:0]. -/
def TIME_SCHED_TARGET_LO : Fam :=
  { off := 0x410100, lsb := 0, width := 32, acc := .rw, held := .lantern, dims := [(64, 128)] }
/-- Table 02.3: target tick [47:32]. -/
def TIME_SCHED_TARGET_HI : Fam :=
  { off := 0x410104, lsb := 0, width := 16, acc := .rw, held := .lantern, dims := [(64, 128)] }
/-- Table 02.3: entry armed. -/
def TIME_SCHED_ARM : Fam :=
  { off := 0x410104, lsb := 16, width := 1, acc := .rw, held := .lantern, dims := [(64, 128)] }
/-- Table 02.3: entry has acted. Held with the table in the lantern domain, though the row has no -S (DESIGN CHOICE: log
entry 12). -/
def TIME_SCHED_FIRED : Fam :=
  { off := 0x410104, lsb := 17, width := 1, acc := .w1c, held := .lantern, dims := [(64, 128)] }
/-- Table 02.3: acted after its target. Held as FIRED is (DESIGN CHOICE: log entry 12). -/
def TIME_SCHED_LATE : Fam :=
  { off := 0x410104, lsb := 18, width := 1, acc := .w1c, held := .lantern, dims := [(64, 128)] }
/-- Table 02.3: not performed in REST or EMBER. Held as FIRED is (DESIGN CHOICE: log entry 12). -/
def TIME_SCHED_SKIPPED : Fam :=
  { off := 0x410104, lsb := 19, width := 1, acc := .w1c, held := .lantern, dims := [(64, 128)] }
/-- Table 02.3: repeat period in ticks; 0 one-shot. -/
def TIME_SCHED_PERIOD : Fam :=
  { off := 0x410108, lsb := 0, width := 32, acc := .rw, held := .lantern, dims := [(64, 128)] }
/-- Table 02.3: Table 02.1. -/
def TIME_SCHED_ACTION : Fam :=
  { off := 0x41010C, lsb := 0, width := 4, acc := .rw, held := .lantern, dims := [(64, 128)] }
/-- Table 02.3: action argument. -/
def TIME_SCHED_ARG : Fam :=
  { off := 0x41010C, lsb := 16, width := 16, acc := .rw, held := .lantern, dims := [(64, 128)] }
/-- Table 03.9: bank hash; changes only while EMPTY is 1 (R49). -/
def CODE_CODE_CTRL_BANK_HASH : Fam :=
  { off := 0x1A0000, lsb := 0, width := 1, acc := .rw, held := .lantern }
/-- Table 03.9: request a stack clear; reads 1 while it runs. -/
def CODE_CODE_CTRL_CLEAR : Fam :=
  { off := 0x1A0000, lsb := 1, width := 1, acc := .w1s }
/-- Table 03.9: 0 FULL, 1 REDUCED, 2 BARE, 3 FAILED. -/
def CODE_CODE_STATUS_PROTECTION : Fam :=
  { off := 0x1A0004, lsb := 0, width := 2, acc := .ro }
/-- Table 03.9: layers LOST or REJOINING. -/
def CODE_CODE_STATUS_OFFLINE_COUNT : Fam :=
  { off := 0x1A0004, lsb := 2, width := 5, acc := .ro }
/-- Table 03.9: stack cleared and not yet written. -/
def CODE_CODE_STATUS_EMPTY : Fam :=
  { off := 0x1A0004, lsb := 7, width := 1, acc := .ro, held := .lantern }
/-- Table 03.9: stack clear running. -/
def CODE_CODE_STATUS_CLEAR_BUSY : Fam :=
  { off := 0x1A0004, lsb := 8, width := 1, acc := .ro }
/-- Table 03.9: rejoin sweep running. -/
def CODE_CODE_STATUS_REJOIN_BUSY : Fam :=
  { off := 0x1A0004, lsb := 9, width := 1, acc := .ro }
/-- Table 03.9: a retention-suspect mark is set. -/
def CODE_CODE_STATUS_SUSPECT_ANY : Fam :=
  { off := 0x1A0004, lsb := 10, width := 1, acc := .ro }
/-- Table 03.9: a planned erasure is in force. -/
def CODE_CODE_STATUS_PLANNED_ANY : Fam :=
  { off := 0x1A0004, lsb := 11, width := 1, acc := .ro }
/-- Table 03.9: R71, saturating at 3. -/
def CODE_CODE_STATUS_BUDGET_IN_USE : Fam :=
  { off := 0x1A0004, lsb := 12, width := 2, acc := .ro }
/-- Table 03.9: a stack clear was started and has not completed (R75). -/
def CODE_CODE_STATUS_CLEAR_PENDING : Fam :=
  { off := 0x1A0004, lsb := 14, width := 1, acc := .ro, held := .lantern }
/-- Table 03.9: PROTECTION changed. -/
def CODE_CODE_EVENTS_STATE_CHANGE : Fam :=
  { off := 0x1A0008, lsb := 0, width := 1, acc := .w1c }
/-- Table 03.9: stack clear finished. -/
def CODE_CODE_EVENTS_CLEAR_DONE : Fam :=
  { off := 0x1A0008, lsb := 1, width := 1, acc := .w1c }
/-- Table 03.9: rejoin sweep finished. -/
def CODE_CODE_EVENTS_REJOIN_DONE : Fam :=
  { off := 0x1A0008, lsb := 2, width := 1, acc := .w1c }
/-- Table 03.9: a request was refused under R49, R71 or R74. -/
def CODE_CODE_EVENTS_REQ_REFUSED : Fam :=
  { off := 0x1A0008, lsb := 3, width := 1, acc := .w1c }
/-- Table 03.9: per CODE_EVENTS bit, raise vector 65. -/
def CODE_CODE_EVENT_EN_EN : Fam :=
  { off := 0x1A000C, lsb := 0, width := 4, acc := .rw }
/-- Table 03.9: 0 ONLINE, 1 LOST, 2 REJOINING, 3 ABSENT. -/
def CODE_LAYER_STATE_STATE : Fam :=
  { off := 0x1A0010, lsb := 0, width := 2, acc := .ro, dims := [(18, 32)] }
/-- Table 03.9: 0 none, 1 host, 2 bench offline, 3 judged lost, 4 recalibration, 5 fuse. -/
def CODE_LAYER_STATE_CAUSE : Fam :=
  { off := 0x1A0010, lsb := 4, width := 4, acc := .ro, dims := [(18, 32)] }
/-- Table 03.9: request LOST; self-clears. -/
def CODE_LAYER_STATE_REQ_LOST : Fam :=
  { off := 0x1A0010, lsb := 8, width := 1, acc := .w1s, dims := [(18, 32)] }
/-- Table 03.9: request rejoin; self-clears. -/
def CODE_LAYER_STATE_REQ_REJOIN : Fam :=
  { off := 0x1A0010, lsb := 9, width := 1, acc := .w1s, dims := [(18, 32)] }
/-- Table 03.9: next slab of the rejoin sweep. -/
def CODE_REJOIN_PTR_SLAB : Fam :=
  { off := 0x1A0060, lsb := 0, width := 27, acc := .ro }
/-- Table 03.9: next slab of the stack clear. -/
def CODE_CLEAR_PTR_SLAB : Fam :=
  { off := 0x1A0064, lsb := 0, width := 27, acc := .ro }
/-- Table 03.9: planned erasure in force. -/
def CODE_PLANNED_ACTIVE : Fam :=
  { off := 0x1A0070, lsb := 0, width := 1, acc := .ro }
/-- Table 03.9: layer number. -/
def CODE_PLANNED_LAYER : Fam :=
  { off := 0x1A0070, lsb := 1, width := 5, acc := .ro }
/-- Table 03.9: 0 A, 1 B. -/
def CODE_PLANNED_CHANNEL : Fam :=
  { off := 0x1A0070, lsb := 6, width := 1, acc := .ro }
/-- Table 03.9: BANK_GROUP. -/
def CODE_PLANNED_BANK_GROUP : Fam :=
  { off := 0x1A0070, lsb := 7, width := 3, acc := .ro }
/-- Table 03.9: BANK. -/
def CODE_PLANNED_BANK : Fam :=
  { off := 0x1A0070, lsb := 10, width := 2, acc := .ro }
/-- Table 03.9: row[17:6]. -/
def CODE_PLANNED_ROW_GROUP : Fam :=
  { off := 0x1A0070, lsb := 12, width := 12, acc := .ro }
/-- Table 03.9: layer *n* channel A, bit 4 × bank group + bank; position 32 × channel + 4 × bank group + bank. -/
def CODE_SUSPECT_MARKS : Fam :=
  { off := 0x1A0100, lsb := 0, width := 1, acc := .ro, dims := [(18, 64), (64, 1)] }
/-- Table 04.8: force write-through mode. -/
def CACHE_CTRL_WT_FORCE : Fam :=
  { off := 0x180000, lsb := 0, width := 1, acc := .rw }
/-- Table 04.8: merge age limit in ticks, 1 to 255. -/
def CACHE_CTRL_MERGE_AGE : Fam :=
  { off := 0x180000, lsb := 8, width := 8, acc := .rw, reset := 0x2, lo := 1, hi := 255 }
/-- Table 04.8: open-entry high-water mark, 8 to 63. -/
def CACHE_CTRL_MERGE_HIGH : Fam :=
  { off := 0x180000, lsb := 16, width := 6, acc := .rw, reset := 0x30, lo := 8, hi := 63 }
/-- Table 04.8: write-through in force (R100). -/
def CACHE_STATUS_WT_ACTIVE : Fam :=
  { off := 0x180004, lsb := 0, width := 1, acc := .ro }
/-- Table 04.8: maintenance operation running. -/
def CACHE_STATUS_FLUSH_BUSY : Fam :=
  { off := 0x180004, lsb := 1, width := 1, acc := .ro }
/-- Table 04.8: dirty lines or open merge-buffer entries held in state FAILED or in SAFE (R477). -/
def CACHE_STATUS_HELD_DIRTY : Fam :=
  { off := 0x180004, lsb := 2, width := 1, acc := .ro }
/-- Table 04.8: open merge-buffer entries, 0 to 64. -/
def CACHE_STATUS_MERGE_OPEN : Fam :=
  { off := 0x180004, lsb := 16, width := 7, acc := .ro }
/-- Table 04.8: operation complete. -/
def CACHE_EVENTS_FLUSH_DONE : Fam :=
  { off := 0x180008, lsb := 0, width := 1, acc := .w1c }
/-- Table 04.8: GO refused under R99. -/
def CACHE_EVENTS_FLUSH_REFUSED : Fam :=
  { off := 0x180008, lsb := 1, width := 1, acc := .w1c }
/-- Table 04.8: map set at reset exit (R102). -/
def CACHE_EVENTS_UNFLUSHED : Fam :=
  { off := 0x180008, lsb := 2, width := 1, acc := .w1c }
/-- Table 04.8: HELD_DIRTY became 1. -/
def CACHE_EVENTS_HELD_DIRTY : Fam :=
  { off := 0x180008, lsb := 3, width := 1, acc := .w1c }
/-- Table 04.8: per EVENTS bit, raise vector 65. -/
def CACHE_EVENT_EN_EN : Fam :=
  { off := 0x18000C, lsb := 0, width := 4, acc := .rw }
/-- Table 04.8: 0 FLUSH, 1 FLUSH_INV, 2 INV, 3 reserved. -/
def CACHE_FLUSH_CTRL_OP : Fam :=
  { off := 0x180010, lsb := 0, width := 2, acc := .rw, hi := 2 }
/-- Table 04.8: 0 DEVICE, 1 LABEL, 2 RANGE, 3 reserved. -/
def CACHE_FLUSH_CTRL_SCOPE : Fam :=
  { off := 0x180010, lsb := 2, width := 2, acc := .rw, hi := 2 }
/-- Table 04.8: label for scope LABEL. -/
def CACHE_FLUSH_CTRL_LABEL : Fam :=
  { off := 0x180010, lsb := 4, width := 6, acc := .rw }
/-- Table 04.8: start; reads 1 while running. -/
def CACHE_FLUSH_CTRL_GO : Fam :=
  { off := 0x180010, lsb := 31, width := 1, acc := .w1s }
/-- Table 04.8: first slab for scope RANGE. -/
def CACHE_RANGE_BASE_SLAB : Fam :=
  { off := 0x180014, lsb := 0, width := 27, acc := .rw }
/-- Table 04.8: last slab for scope RANGE. -/
def CACHE_RANGE_LIMIT_SLAB : Fam :=
  { off := 0x180018, lsb := 0, width := 27, acc := .rw }
/-- Table 04.8: slabs written by the last operation. -/
def CACHE_FLUSH_COUNT_SLABS : Fam :=
  { off := 0x18001C, lsb := 0, width := 27, acc := .ro }
/-- Table 04.8: ways out of service for self-test. -/
def CACHE_WAY_DISABLE_WAYS : Fam :=
  { off := 0x180020, lsb := 0, width := 16, acc := .ro }
/-- Table 04.8: lines with a DIRTY sector. -/
def CACHE_DIRTY_LINES_COUNT : Fam :=
  { off := 0x180024, lsb := 0, width := 17, acc := .ro }
/-- Table 04.8: transaction-table entries in use. -/
def CACHE_TXN_USED_COUNT : Fam :=
  { off := 0x180028, lsb := 0, width := 14, acc := .ro }
/-- Table 04.8: highest TXN_USED since last written; write 0 to restart. -/
def CACHE_TXN_PEAK_COUNT : Fam :=
  { off := 0x18002C, lsb := 0, width := 14, acc := .rw }
/-- Table 04.8: map reports an unflushed reset. -/
def CACHE_SRMAP_STATUS_UNFLUSHED : Fam :=
  { off := 0x180030, lsb := 0, width := 1, acc := .ro, held := .lantern }
/-- Table 04.8: map bits set, 0 to 4,096. -/
def CACHE_SRMAP_STATUS_SET_COUNT : Fam :=
  { off := 0x180030, lsb := 1, width := 13, acc := .ro }
/-- Table 04.8: release the map (R102); self-clears. -/
def CACHE_SRMAP_STATUS_RELEASE : Fam :=
  { off := 0x180030, lsb := 31, width := 1, acc := .w1s }
/-- Table 04.8: requests served without a fetch, 64-bit [31:0]. -/
def CACHE_HITS_LO : Fam :=
  { off := 0x180040, lsb := 0, width := 32, acc := .ro }
/-- Table 04.8: requests served without a fetch, 64-bit [63:32]. -/
def CACHE_HITS_HI : Fam :=
  { off := 0x180044, lsb := 0, width := 32, acc := .ro }
/-- Table 04.8: fetches issued, 64-bit [31:0]. -/
def CACHE_MISSES_LO : Fam :=
  { off := 0x180048, lsb := 0, width := 32, acc := .ro }
/-- Table 04.8: fetches issued, 64-bit [63:32]. -/
def CACHE_MISSES_HI : Fam :=
  { off := 0x18004C, lsb := 0, width := 32, acc := .ro }
/-- Table 04.8: read-modify-writes, wrapping. -/
def CACHE_RMW_COUNT_COUNT : Fam :=
  { off := 0x180050, lsb := 0, width := 32, acc := .ro }
/-- Table 04.8: writes discarded under R89, saturating. -/
def CACHE_POISON_DROPS_COUNT : Fam :=
  { off := 0x180054, lsb := 0, width := 32, acc := .ro }
/-- Table 04.8: label 16*w* + *i*: 0 ALLOCATE, 1 STREAM, 2 and 3 reserved; labels 62 and 63 read 1 and ignore writes. -/
def CACHE_LABEL_POLICY_POLICY : Fam :=
  { off := 0x180100, lsb := 0, width := 2, acc := .rw, dims := [(64, 2)],
    resets := [0, 0, 0, 0, 0, 0, 0, 0, 0, 0, 0, 0, 0, 0, 0, 0, 0, 0, 0, 0, 0, 0, 0, 0, 0, 0, 0, 0, 0, 0, 0, 0, 0, 0, 0, 0, 0, 0, 0, 0, 0, 0, 0, 0, 0, 0, 0, 0, 0, 0, 0, 0, 0, 0, 0, 0, 0, 0, 0, 0, 0, 0, 1, 1], hi := 1 }
/-- Table 04.8: regions 32*w* to 32*w* + 31, bit *i* for region 32*w* + *i*. -/
def CACHE_SRMAP_BITS : Fam :=
  { off := 0x180200, lsb := 0, width := 1, acc := .ro, held := .lantern, dims := [(4096, 1)] }
/-- Table 05.3: shaft link in service. -/
def BENCH_STATUS_LINK_UP : Fam :=
  { off := 0x200000, lsb := 0, width := 1, acc := .ro, dims := [(9, 524288)] }
/-- Table 05.3: layers in self-refresh. -/
def BENCH_STATUS_SELF_REFRESH : Fam :=
  { off := 0x200000, lsb := 1, width := 1, acc := .ro, dims := [(9, 524288)] }
/-- Table 05.3: doubled refresh in force (R115). -/
def BENCH_STATUS_REFRESH_2X : Fam :=
  { off := 0x200000, lsb := 2, width := 1, acc := .ro, dims := [(9, 524288)] }
/-- Table 05.3: refresh temperature from diodes only. -/
def BENCH_STATUS_LOCAL_TEMP : Fam :=
  { off := 0x200000, lsb := 3, width := 1, acc := .ro, dims := [(9, 524288)] }
/-- Table 05.3: targeted-refresh warm-up (R118). -/
def BENCH_STATUS_TR_WARMUP : Fam :=
  { off := 0x200000, lsb := 4, width := 1, acc := .ro, dims := [(9, 524288)] }
/-- Table 05.3: patrol enabled and granted slices. -/
def BENCH_STATUS_PATROL_RUNNING : Fam :=
  { off := 0x200000, lsb := 5, width := 1, acc := .ro, dims := [(9, 524288)] }
/-- Table 05.3: a new suspect mark at EMBER exit. -/
def BENCH_EVENTS_CANARY_FAIL : Fam :=
  { off := 0x200004, lsb := 0, width := 1, acc := .w1c, dims := [(9, 524288)] }
/-- Table 05.3: CANARY_RESULT became all zero. -/
def BENCH_EVENTS_SWEEP_DONE : Fam :=
  { off := 0x200004, lsb := 1, width := 1, acc := .w1c, dims := [(9, 524288)] }
/-- Table 05.3: a patrol report was dropped. -/
def BENCH_EVENTS_PATROL_DROP : Fam :=
  { off := 0x200004, lsb := 2, width := 1, acc := .w1c, dims := [(9, 524288)] }
/-- Table 05.3: REFRESH_2X changed. -/
def BENCH_EVENTS_REFRESH_2X_CHANGE : Fam :=
  { off := 0x200004, lsb := 3, width := 1, acc := .w1c, dims := [(9, 524288)] }
/-- Table 05.3: a refresh was forced at debt 8. -/
def BENCH_EVENTS_DEBT_FORCED : Fam :=
  { off := 0x200004, lsb := 4, width := 1, acc := .w1c, dims := [(9, 524288)] }
/-- Table 05.3: targeted-refresh task queue full. -/
def BENCH_EVENTS_TR_FULL : Fam :=
  { off := 0x200004, lsb := 5, width := 1, acc := .w1c, dims := [(9, 524288)] }
/-- Table 05.3: per EVENTS bit, raise vector 65. -/
def BENCH_EVENT_EN_EN : Fam :=
  { off := 0x200008, lsb := 0, width := 6, acc := .rw, dims := [(9, 524288)] }
/-- Table 05.3: patrol enabled. -/
def BENCH_PATROL_CTRL_EN : Fam :=
  { off := 0x200010, lsb := 0, width := 1, acc := .rw, dims := [(9, 524288)], reset := 0x1 }
/-- Table 05.3: slabs per slice minus 1. -/
def BENCH_PATROL_CTRL_COUNT_M1 : Fam :=
  { off := 0x200010, lsb := 8, width := 8, acc := .rw, dims := [(9, 524288)] }
/-- Table 05.3: ticks between slices, 1 to 65,535; 0 is reserved. -/
def BENCH_PATROL_CTRL_INTERVAL : Fam :=
  { off := 0x200010, lsb := 16, width := 16, acc := .rw, dims := [(9, 524288)], reset := 0x20, lo := 1, hi := 65535 }
/-- Table 05.3: copy of the bench's next slab to patrol (R120). -/
def BENCH_PATROL_PTR_SLAB : Fam :=
  { off := 0x200014, lsb := 0, width := 27, acc := .ro, dims := [(9, 524288)] }
/-- Table 05.3: copy of the bench's completed passes (R120). -/
def BENCH_PATROL_PASSES_COUNT : Fam :=
  { off := 0x200018, lsb := 0, width := 32, acc := .ro, dims := [(9, 524288)] }
/-- Table 05.3: copy of the bench's reports sent, wrapping (R120). -/
def BENCH_PATROL_REPORTS_COUNT : Fam :=
  { off := 0x20001C, lsb := 0, width := 32, acc := .ro, dims := [(9, 524288)] }
/-- Table 05.3: copy of the bench's reports dropped, saturating (R120). -/
def BENCH_PATROL_DROPS_COUNT : Fam :=
  { off := 0x200020, lsb := 0, width := 32, acc := .ro, dims := [(9, 524288)] }
/-- Table 05.3: canary read-back failures at the last entry; *k* = 2 × upper + channel, bit 4 × bank group + bank. -/
def BENCH_CANARY_BAD_BANKS : Fam :=
  { off := 0x200040, lsb := 0, width := 1, acc := .ro, held := .lantern, dims := [(9, 524288), (4, 32), (32, 1)] }
/-- Table 05.3: idle timer in core clocks, 0 to 4,095. -/
def BENCH_PAGE_CTRL_IDLE : Fam :=
  { off := 0x201000, lsb := 0, width := 12, acc := .rw, held := .bench, dims := [(9, 524288)], reset := 0x40 }
/-- Table 05.3: row-hit cap, 1 to 31; 0 disables. -/
def BENCH_PAGE_CTRL_HIT_CAP : Fam :=
  { off := 0x201000, lsb := 16, width := 5, acc := .rw, held := .bench, dims := [(9, 524288)], reset := 0x10 }
/-- Table 05.3: targeted-refresh threshold, 64 to 4,095. -/
def BENCH_TR_CTRL_THRESH : Fam :=
  { off := 0x201004, lsb := 0, width := 12, acc := .rw, held := .bench, dims := [(9, 524288)], reset := 0x200, lo := 64, hi := 4095 }
/-- Table 05.3: targeted-refresh tasks queued, wrapping. -/
def BENCH_TR_COUNT_COUNT : Fam :=
  { off := 0x201008, lsb := 0, width := 32, acc := .ro, held := .bench, dims := [(9, 524288)] }
/-- Table 05.3: highest refresh debt of any bank since last written; write 0 to restart. -/
def BENCH_REFRESH_PEAK_DEBT : Fam :=
  { off := 0x20100C, lsb := 0, width := 4, acc := .rw, held := .bench, dims := [(9, 524288)] }
/-- Table 05.3: differing bits tolerated per canary, 0 to 15. -/
def BENCH_CANARY_CTRL_TOL : Fam :=
  { off := 0x201010, lsb := 0, width := 4, acc := .rw, held := .bench, dims := [(9, 524288)] }
/-- Table 05.3: canaries failed at exits since power-up. -/
def BENCH_CANARY_FAILS_COUNT : Fam :=
  { off := 0x201014, lsb := 0, width := 32, acc := .ro, held := .bench, dims := [(9, 524288)] }
/-- Table 05.3: pending suspect marks; *k* and bit order as CANARY_BAD. -/
def BENCH_CANARY_RESULT_PENDING : Fam :=
  { off := 0x201020, lsb := 0, width := 1, acc := .ro, held := .bench, dims := [(9, 524288), (4, 32), (32, 1)] }
/-- Table 05.3: RATE of the active set. -/
def BENCH_TSET_STATUS_ACTIVE_LEVEL : Fam :=
  { off := 0x201040, lsb := 0, width := 2, acc := .ro, held := .bench, dims := [(9, 524288)], reset := 0x2 }
/-- Table 05.3: RATE of the shadow set. -/
def BENCH_TSET_STATUS_SHADOW_LEVEL : Fam :=
  { off := 0x201040, lsb := 2, width := 2, acc := .ro, held := .bench, dims := [(9, 524288)], reset := 0x2 }
/-- Table 05.3: swap in progress. -/
def BENCH_TSET_STATUS_SWAP_BUSY : Fam :=
  { off := 0x201040, lsb := 4, width := 1, acc := .ro, held := .bench, dims := [(9, 524288)] }
/-- Table 05.3: active parameter *p*. -/
def BENCH_TSET_ACTIVE_VALUE : Fam :=
  { off := 0x201100, lsb := 0, width := 16, acc := .ro, held := .bench, dims := [(9, 524288), (24, 32)],
    resets := [2, 56, 48, 56, 56, 112, 168, 10, 20, 40, 16, 20, 60, 10, 30, 20, 360, 15625, 400, 60, 2, 1, 32, 32] }
/-- Table 05.3: shadow parameter *p*; written by firmware (R108). -/
def BENCH_TSET_SHADOW_VALUE : Fam :=
  { off := 0x201180, lsb := 0, width := 16, acc := .ro, held := .bench, dims := [(9, 524288), (24, 32)],
    resets := [2, 56, 48, 56, 56, 112, 168, 10, 20, 40, 16, 20, 60, 10, 30, 20, 360, 15625, 400, 60, 2, 1, 32, 32] }
/-- Table 05.3: bank position, 4 × bank group + bank (R134). -/
def BENCH_REMAP_ADDR_POSITION : Fam :=
  { off := 0x201200, lsb := 0, width := 5, acc := .rw, held := .bench, dims := [(9, 524288)] }
/-- Table 05.3: layer-channel, 2 × upper + channel. -/
def BENCH_REMAP_ADDR_K : Fam :=
  { off := 0x201200, lsb := 5, width := 2, acc := .rw, held := .bench, dims := [(9, 524288)] }
/-- Table 05.3: spare row 0 to 15. -/
def BENCH_REMAP_ADDR_SPARE : Fam :=
  { off := 0x201200, lsb := 7, width := 4, acc := .rw, held := .bench, dims := [(9, 524288)] }
/-- Table 05.3: addressable row redirected to the spare selected by REMAP_ADDR. -/
def BENCH_REMAP_DATA_ROW : Fam :=
  { off := 0x201204, lsb := 0, width := 18, acc := .rw, held := .bench, dims := [(9, 524288)] }
/-- Table 05.3: entry in use. -/
def BENCH_REMAP_DATA_VALID : Fam :=
  { off := 0x201204, lsb := 31, width := 1, acc := .rw, held := .bench, dims := [(9, 524288)] }
/-- Table 05.3: valid remap entries in the bench, 0 to 2,048. -/
def BENCH_REMAP_USED_COUNT : Fam :=
  { off := 0x201208, lsb := 0, width := 12, acc := .ro, held := .bench, dims := [(9, 524288)] }
/-- Table 06.6: step of Table 06.5; 0 and 9 to 15 reserved. -/
def SHAFT_TRAIN_CTRL_STEP : Fam :=
  { off := 0x300000, lsb := 0, width := 4, acc := .rw, dims := [(9, 524288)], lo := 1, hi := 8 }
/-- Table 06.6: level at which the step runs. -/
def SHAFT_TRAIN_CTRL_LEVEL : Fam :=
  { off := 0x300000, lsb := 4, width := 2, acc := .rw, dims := [(9, 524288)], reset := 0x2 }
/-- Table 06.6: run the step; reads 1 while running. -/
def SHAFT_TRAIN_CTRL_GO : Fam :=
  { off := 0x300000, lsb := 31, width := 1, acc := .w1s, dims := [(9, 524288)] }
/-- Table 06.6: 0 DOWN, 1 TRAINING, 2 ACTIVE, 3 RECOVERY, 4 HOLD, 5 OFFLINE. -/
def SHAFT_LINK_STATUS_STATE : Fam :=
  { off := 0x300004, lsb := 0, width := 3, acc := .ro, dims := [(9, 524288)] }
/-- Table 06.6: 0 ×64, 1 ×32, 2 ×16, 3 none. -/
def SHAFT_LINK_STATUS_WIDTH_DN : Fam :=
  { off := 0x300004, lsb := 3, width := 2, acc := .ro, dims := [(9, 524288)], reset := 0x3 }
/-- Table 06.6: as WIDTH_DN. -/
def SHAFT_LINK_STATUS_WIDTH_UP : Fam :=
  { off := 0x300004, lsb := 5, width := 2, acc := .ro, dims := [(9, 524288)], reset := 0x3 }
/-- Table 06.6: last step finished. -/
def SHAFT_LINK_STATUS_STEP_DONE : Fam :=
  { off := 0x300004, lsb := 8, width := 1, acc := .ro, dims := [(9, 524288)] }
/-- Table 06.6: last step failed. -/
def SHAFT_LINK_STATUS_STEP_FAIL : Fam :=
  { off := 0x300004, lsb := 9, width := 1, acc := .ro, dims := [(9, 524288)] }
/-- Table 06.6: 0 none, 1 reference lock, 2 too few lanes, 4 scrambler sync, 5 maintenance channel lost; others reserved. -/
def SHAFT_LINK_STATUS_FAIL_CODE : Fam :=
  { off := 0x300004, lsb := 10, width := 4, acc := .ro, dims := [(9, 524288)] }
/-- Table 06.6: base-die PLLs locked. -/
def SHAFT_LINK_STATUS_REF_LOCK_BASE : Fam :=
  { off := 0x300004, lsb := 14, width := 1, acc := .ro, dims := [(9, 524288)] }
/-- Table 06.6: bench PLLs locked. -/
def SHAFT_LINK_STATUS_REF_LOCK_BENCH : Fam :=
  { off := 0x300004, lsb := 15, width := 1, acc := .ro, dims := [(9, 524288)] }
/-- Table 06.6: unused good down lanes beyond width 64, 0 to 8. -/
def SHAFT_LINK_STATUS_SPARES_DN : Fam :=
  { off := 0x300004, lsb := 16, width := 4, acc := .ro, dims := [(9, 524288)] }
/-- Table 06.6: as SPARES_DN, up. -/
def SHAFT_LINK_STATUS_SPARES_UP : Fam :=
  { off := 0x300004, lsb := 20, width := 4, acc := .ro, dims := [(9, 524288)] }
/-- Table 06.6: a lane was failed. -/
def SHAFT_EVENTS_LANE_FAILED : Fam :=
  { off := 0x300008, lsb := 0, width := 1, acc := .w1c, dims := [(9, 524288)] }
/-- Table 06.6: a direction lost width. -/
def SHAFT_EVENTS_WIDTH_STEP : Fam :=
  { off := 0x300008, lsb := 1, width := 1, acc := .w1c, dims := [(9, 524288)] }
/-- Table 06.6: a recovery completed. -/
def SHAFT_EVENTS_RECOVERY : Fam :=
  { off := 0x300008, lsb := 2, width := 1, acc := .w1c, dims := [(9, 524288)] }
/-- Table 06.6: the bench went offline (R160). -/
def SHAFT_EVENTS_OFFLINE : Fam :=
  { off := 0x300008, lsb := 3, width := 1, acc := .w1c, dims := [(9, 524288)] }
/-- Table 06.6: frame lock lost at either end. -/
def SHAFT_EVENTS_LOCK_LOSS : Fam :=
  { off := 0x300008, lsb := 4, width := 1, acc := .w1c, dims := [(9, 524288)] }
/-- Table 06.6: 8 NAKs of one frame. -/
def SHAFT_EVENTS_REPLAY_LIMIT : Fam :=
  { off := 0x300008, lsb := 5, width := 1, acc := .w1c, dims := [(9, 524288)] }
/-- Table 06.6: per EVENTS bit, raise vector 65. -/
def SHAFT_EVENT_EN_EN : Fam :=
  { off := 0x30000C, lsb := 0, width := 6, acc := .rw, dims := [(9, 524288)] }
/-- Table 06.6: step 7 length: 0 10^5, 1 10^7, 2 10^9, 3 10^11 bits. -/
def SHAFT_TRAIN_CFG_CHECK_LEN : Fam :=
  { off := 0x300010, lsb := 0, width := 2, acc := .rw, dims := [(9, 524288)], reset := 0x2 }
/-- Table 06.6: errors allowed per lane at step 7. -/
def SHAFT_TRAIN_CFG_PRBS_LIMIT : Fam :=
  { off := 0x300010, lsb := 8, width := 8, acc := .rw, dims := [(9, 524288)] }
/-- Table 06.6: minimum eye in phase steps, 4 to 24. -/
def SHAFT_TRAIN_CFG_MIN_EYE : Fam :=
  { off := 0x300010, lsb := 16, width := 5, acc := .rw, dims := [(9, 524288)], reset := 0x8, lo := 4, hi := 24 }
/-- Table 06.6: ticks, 1 to 100. -/
def SHAFT_TRAIN_CFG_RECOVERY_LIMIT : Fam :=
  { off := 0x300010, lsb := 24, width := 7, acc := .rw, dims := [(9, 524288)], reset := 0x5, lo := 1, hi := 100 }
/-- Table 06.6: 0: a recovery trigger takes the bench offline. -/
def SHAFT_TRAIN_CFG_AUTO_RECOVER : Fam :=
  { off := 0x300010, lsb := 31, width := 1, acc := .rw, dims := [(9, 524288)], reset := 0x1 }
/-- Table 06.6: scrambler seed bits [22:7]; 0x0000 and 0x8000 reserved. -/
def SHAFT_SEED_SEED_HI : Fam :=
  { off := 0x300014, lsb := 0, width := 16, acc := .rw, dims := [(9, 524288)], reset := 0x6B4A, bad := [0, 32768] }
/-- Table 06.6: frames failing CRC, both directions, saturating. -/
def SHAFT_CRC_ERRORS_COUNT : Fam :=
  { off := 0x300020, lsb := 0, width := 32, acc := .ro, dims := [(9, 524288)] }
/-- Table 06.6: replays sent, saturating. -/
def SHAFT_REPLAYS_COUNT : Fam :=
  { off := 0x300024, lsb := 0, width := 32, acc := .ro, dims := [(9, 524288)] }
/-- Table 06.6: recoveries, saturating. -/
def SHAFT_RECOVERIES_COUNT : Fam :=
  { off := 0x300028, lsb := 0, width := 32, acc := .ro, dims := [(9, 524288)] }
/-- Table 06.6: IDLE frames forced by debt, saturating. -/
def SHAFT_FORCED_IDLES_COUNT : Fam :=
  { off := 0x30002C, lsb := 0, width := 32, acc := .ro, dims := [(9, 524288)] }
/-- Table 06.6: credits held, channel A reads. -/
def SHAFT_CREDITS_A_RD : Fam :=
  { off := 0x300030, lsb := 0, width := 7, acc := .ro, dims := [(9, 524288)] }
/-- Table 06.6: channel A writes. -/
def SHAFT_CREDITS_A_WR : Fam :=
  { off := 0x300030, lsb := 8, width := 7, acc := .ro, dims := [(9, 524288)] }
/-- Table 06.6: channel B reads. -/
def SHAFT_CREDITS_B_RD : Fam :=
  { off := 0x300030, lsb := 16, width := 7, acc := .ro, dims := [(9, 524288)] }
/-- Table 06.6: channel B writes. -/
def SHAFT_CREDITS_B_WR : Fam :=
  { off := 0x300030, lsb := 24, width := 7, acc := .ro, dims := [(9, 524288)] }
/-- Table 06.6: bit *ℓ* for down lanes 0 to 75 (R155). -/
def SHAFT_FAILED_DN_LANES : Fam :=
  { off := 0x300040, lsb := 0, width := 1, acc := .rw, dims := [(9, 524288), (76, 1)] }
/-- Table 06.6: bit *ℓ* for up lanes 0 to 75. -/
def SHAFT_FAILED_UP_LANES : Fam :=
  { off := 0x300050, lsb := 0, width := 1, acc := .rw, dims := [(9, 524288), (76, 1)] }
/-- Table 06.6: receiver phase step in force. -/
def SHAFT_LANE_PHASE : Fam :=
  { off := 0x301000, lsb := 0, width := 5, acc := .rw, dims := [(9, 524288), (2, 32768), (76, 256)] }
/-- Table 06.6: bit slip in force. -/
def SHAFT_LANE_SLIP : Fam :=
  { off := 0x301000, lsb := 8, width := 4, acc := .rw, dims := [(9, 524288), (2, 32768), (76, 256)] }
/-- Table 06.6: training word found. -/
def SHAFT_LANE_WORD_MATCH : Fam :=
  { off := 0x301000, lsb := 16, width := 1, acc := .ro, dims := [(9, 524288), (2, 32768), (76, 256)] }
/-- Table 06.6: lane carries a logical lane. -/
def SHAFT_LANE_MAPPED : Fam :=
  { off := 0x301000, lsb := 17, width := 1, acc := .ro, dims := [(9, 524288), (2, 32768), (76, 256)] }
/-- Table 06.6: logical lane 0 to 67. -/
def SHAFT_LANE_LOGICAL : Fam :=
  { off := 0x301000, lsb := 18, width := 7, acc := .ro, dims := [(9, 524288), (2, 32768), (76, 256)] }
/-- Table 06.6: PRBS31 errors, saturating; write 0 to clear. -/
def SHAFT_PRBS_ERR_COUNT : Fam :=
  { off := 0x301004, lsb := 0, width := 32, acc := .rw, dims := [(9, 524288), (2, 32768), (76, 256)] }
/-- Table 06.6: phase steps passed in the last sweep. -/
def SHAFT_PASS_MAP_STEPS : Fam :=
  { off := 0x301008, lsb := 0, width := 32, acc := .ro, dims := [(9, 524288), (2, 32768), (76, 256)] }
/-- Table 06.6: stuffing violations, saturating. -/
def SHAFT_VIOL_COUNT_COUNT : Fam :=
  { off := 0x30100C, lsb := 0, width := 32, acc := .ro, dims := [(9, 524288), (2, 32768), (76, 256)] }
/-- Table 06.6: alignment recorded for P0. -/
def SHAFT_ALIGN_A_P0_PHASE : Fam :=
  { off := 0x301010, lsb := 0, width := 5, acc := .ro, dims := [(9, 524288), (2, 32768), (76, 256)] }
/-- Table 06.6: alignment recorded for P0. -/
def SHAFT_ALIGN_A_P0_SLIP : Fam :=
  { off := 0x301010, lsb := 5, width := 4, acc := .ro, dims := [(9, 524288), (2, 32768), (76, 256)] }
/-- Table 06.6: for P1. -/
def SHAFT_ALIGN_A_P1_PHASE : Fam :=
  { off := 0x301010, lsb := 16, width := 5, acc := .ro, dims := [(9, 524288), (2, 32768), (76, 256)] }
/-- Table 06.6: for P1. -/
def SHAFT_ALIGN_A_P1_SLIP : Fam :=
  { off := 0x301010, lsb := 21, width := 4, acc := .ro, dims := [(9, 524288), (2, 32768), (76, 256)] }
/-- Table 06.6: for P2. -/
def SHAFT_ALIGN_B_P2_PHASE : Fam :=
  { off := 0x301014, lsb := 0, width := 5, acc := .ro, dims := [(9, 524288), (2, 32768), (76, 256)] }
/-- Table 06.6: for P2. -/
def SHAFT_ALIGN_B_P2_SLIP : Fam :=
  { off := 0x301014, lsb := 5, width := 4, acc := .ro, dims := [(9, 524288), (2, 32768), (76, 256)] }
/-- Table 06.6: for P3. -/
def SHAFT_ALIGN_B_P3_PHASE : Fam :=
  { off := 0x301014, lsb := 16, width := 5, acc := .ro, dims := [(9, 524288), (2, 32768), (76, 256)] }
/-- Table 06.6: for P3. -/
def SHAFT_ALIGN_B_P3_SLIP : Fam :=
  { off := 0x301014, lsb := 21, width := 4, acc := .ro, dims := [(9, 524288), (2, 32768), (76, 256)] }
/-- Table 06.6: stack-reference down-spread (R151). -/
def SHAFT_REF_CTRL_DSPREAD_EN : Fam :=
  { off := 0x30F000, lsb := 0, width := 1, acc := .rw }
/-- Table 06.6: REFCLK is spread. -/
def SHAFT_REF_STATUS_REFCLK_SSC : Fam :=
  { off := 0x30F004, lsb := 0, width := 1, acc := .ro }
/-- Table 06.6: down-spread in force. -/
def SHAFT_REF_STATUS_DSPREAD_ACTIVE : Fam :=
  { off := 0x30F004, lsb := 1, width := 1, acc := .ro }
/-- Table 06.6: change waits for a pause. -/
def SHAFT_REF_STATUS_DSPREAD_PENDING : Fam :=
  { off := 0x30F004, lsb := 2, width := 1, acc := .ro }
/-- Table 06.6: enable refused. -/
def SHAFT_REF_EVENTS_DSPREAD_REFUSED : Fam :=
  { off := 0x30F008, lsb := 0, width := 1, acc := .w1c }
/-- Table 06.6: down-spread removed for a spread REFCLK. -/
def SHAFT_REF_EVENTS_DSPREAD_DROPPED : Fam :=
  { off := 0x30F008, lsb := 1, width := 1, acc := .w1c }
/-- Table 07.8: 0 down, 1 2.5, 2 5.0, 3 8.0, 4 16.0, 5 32.0, 6 64.0 GT/s. -/
def HOST_STATUS_SPEED : Fam :=
  { off := 0x10000, lsb := 0, width := 3, acc := .ro }
/-- Table 07.8: lanes: 1, 4, 8 or 16. -/
def HOST_STATUS_WIDTH : Fam :=
  { off := 0x10000, lsb := 3, width := 5, acc := .ro }
/-- Table 07.8: link in FLIT mode. -/
def HOST_STATUS_FLIT_MODE : Fam :=
  { off := 0x10000, lsb := 8, width := 1, acc := .ro }
/-- Table 07.8: data link up. -/
def HOST_STATUS_LINK_UP : Fam :=
  { off := 0x10000, lsb := 9, width := 1, acc := .ro }
/-- Table 07.8: BAR2 served (Table 07.6 row 6). -/
def HOST_STATUS_STACK_READY : Fam :=
  { off := 0x10000, lsb := 10, width := 1, acc := .ro }
/-- Table 07.8: ceiling in SPEED encoding (R166). -/
def HOST_STATUS_SPEED_CEIL : Fam :=
  { off := 0x10000, lsb := 11, width := 3, acc := .ro, reset := 0x6 }
/-- Table 07.8: FLR or hot reset in progress. -/
def HOST_STATUS_FLR_BUSY : Fam :=
  { off := 0x10000, lsb := 14, width := 1, acc := .ro }
/-- Table 07.8: 0 D0, 3 D3hot. -/
def HOST_STATUS_DSTATE : Fam :=
  { off := 0x10000, lsb := 15, width := 2, acc := .ro }
/-- Table 07.8: a violation was logged. -/
def HOST_EVENTS_VIOLATION : Fam :=
  { off := 0x10004, lsb := 0, width := 1, acc := .w1c }
/-- Table 07.8: an uncleared entry was overwritten. -/
def HOST_EVENTS_VIOLOG_OVERFLOW : Fam :=
  { off := 0x10004, lsb := 1, width := 1, acc := .w1c }
/-- Table 07.8: SPEED, WIDTH or FLIT_MODE changed. -/
def HOST_EVENTS_LINK_CHANGE : Fam :=
  { off := 0x10004, lsb := 2, width := 1, acc := .w1c }
/-- Table 07.8: FLR or hot reset completed. -/
def HOST_EVENTS_FLR_DONE : Fam :=
  { off := 0x10004, lsb := 3, width := 1, acc := .w1c }
/-- Table 07.8: STACK_READY became 1. -/
def HOST_EVENTS_STACK_READY_SET : Fam :=
  { off := 0x10004, lsb := 4, width := 1, acc := .w1c }
/-- Table 07.8: per EVENTS bit, raise vector 68. -/
def HOST_EVENT_EN_EN : Fam :=
  { off := 0x10008, lsb := 0, width := 5, acc := .rw }
/-- Table 07.8: use TPH_LABEL for requests with TPH. -/
def HOST_CTRL_TPH_EN : Fam :=
  { off := 0x1000C, lsb := 0, width := 1, acc := .rw, reset := 0x1 }
/-- Table 07.8: entry to be written next. -/
def HOST_VIOLOG_STATUS_NEXT : Fam :=
  { off := 0x10010, lsb := 0, width := 4, acc := .ro }
/-- Table 07.8: uncleared entries, 0 to 16. -/
def HOST_VIOLOG_STATUS_COUNT : Fam :=
  { off := 0x10010, lsb := 4, width := 5, acc := .ro }
/-- Table 07.8: empty the ring; self-clears. -/
def HOST_VIOLOG_STATUS_CLEAR : Fam :=
  { off := 0x10010, lsb := 31, width := 1, acc := .w1s }
/-- Table 07.8: entries overwritten, saturating. -/
def HOST_VIOLOG_OVERFLOW_COUNT : Fam :=
  { off := 0x10014, lsb := 0, width := 32, acc := .ro }
/-- Table 07.8: requests refused with UR, saturating. -/
def HOST_UR_COUNT_COUNT : Fam :=
  { off := 0x10018, lsb := 0, width := 32, acc := .ro }
/-- Table 07.8: requests refused with CA, saturating. -/
def HOST_CA_COUNT_COUNT : Fam :=
  { off := 0x1001C, lsb := 0, width := 32, acc := .ro }
/-- Table 07.8: poisoned completions sent (R179), saturating. -/
def HOST_EP_SENT_COUNT : Fam :=
  { off := 0x10020, lsb := 0, width := 32, acc := .ro }
/-- Table 07.8: poisoned writes discarded (R180), saturating. -/
def HOST_EP_RECEIVED_COUNT : Fam :=
  { off := 0x10024, lsb := 0, width := 32, acc := .ro }
/-- Table 07.8: BAR offset [31:0] of the first byte. -/
def HOST_VIOLOG_ADDR_LO_ADDR : Fam :=
  { off := 0x10040, lsb := 0, width := 32, acc := .ro, dims := [(16, 128)] }
/-- Table 07.8: BAR offset [63:32]. -/
def HOST_VIOLOG_ADDR_HI_ADDR : Fam :=
  { off := 0x10044, lsb := 0, width := 32, acc := .ro, dims := [(16, 128)] }
/-- Table 07.8: 0 UNSUPPORTED, 1 FORM, 2 UNIMPL, 3 BAR2_RANGE, 4 POISONED_RX, 5 NOT_READY, 6 CLEAR, 7 PROT, 8 FAILED, 9 REG_RULE; others reserved. -/
def HOST_VIOLOG_INFO_TYPE : Fam :=
  { off := 0x10048, lsb := 0, width := 4, acc := .ro, dims := [(16, 128)] }
/-- Table 07.8: request was a write. -/
def HOST_VIOLOG_INFO_WRITE : Fam :=
  { off := 0x10048, lsb := 4, width := 1, acc := .ro, dims := [(16, 128)] }
/-- Table 07.8: 0 BAR0, 1 BAR2, 2 BAR4, 3 none. -/
def HOST_VIOLOG_INFO_BAR : Fam :=
  { off := 0x10048, lsb := 5, width := 2, acc := .ro, dims := [(16, 128)] }
/-- Table 07.8: 0 host link, 1 management core. -/
def HOST_VIOLOG_INFO_SOURCE : Fam :=
  { off := 0x10048, lsb := 7, width := 1, acc := .ro, dims := [(16, 128)] }
/-- Table 07.8: requester ID of the TLP; 0 when SOURCE is 1. -/
def HOST_VIOLOG_INFO_REQUESTER_ID : Fam :=
  { off := 0x10048, lsb := 16, width := 16, acc := .ro, dims := [(16, 128)] }
/-- Table 07.8: rack tick number [31:0] at detection. -/
def HOST_VIOLOG_TICK_TICK : Fam :=
  { off := 0x1004C, lsb := 0, width := 32, acc := .ro, dims := [(16, 128)] }
/-- Table 07.8: first slab of window *w*. -/
def HOST_PROT_BASE_SLAB : Fam :=
  { off := 0x10200, lsb := 0, width := 27, acc := .rw, dims := [(4, 128)] }
/-- Table 07.8: last slab; below BASE, the window matches nothing. -/
def HOST_PROT_LIMIT_SLAB : Fam :=
  { off := 0x10204, lsb := 0, width := 27, acc := .rw, dims := [(4, 128)] }
/-- Table 07.8: window enabled. -/
def HOST_PROT_CTRL_EN : Fam :=
  { off := 0x10208, lsb := 0, width := 1, acc := .rw, dims := [(4, 128)] }
/-- Table 07.8: refuse BAR2 reads. -/
def HOST_PROT_CTRL_DENY_RD : Fam :=
  { off := 0x10208, lsb := 1, width := 1, acc := .rw, dims := [(4, 128)] }
/-- Table 07.8: refuse BAR2 writes. -/
def HOST_PROT_CTRL_DENY_WR : Fam :=
  { off := 0x10208, lsb := 2, width := 1, acc := .rw, dims := [(4, 128)] }
/-- Table 07.8: label of sub-window *i*; 1, 62 and 63 refused (R175). -/
def HOST_SUBWIN_LABEL_LABEL : Fam :=
  { off := 0x10300, lsb := 0, width := 6, acc := .rw, dims := [(16, 32)], bad := [1, 62, 63] }
/-- Table 07.8: label for Steering Tag *i*; 1, 62 and 63 refused. -/
def HOST_TPH_LABEL_LABEL : Fam :=
  { off := 0x10400, lsb := 0, width := 6, acc := .rw, dims := [(256, 32)], bad := [1, 62, 63] }
/-- Table 07.8: entry in use. -/
def HOST_TPH_LABEL_VALID : Fam :=
  { off := 0x10400, lsb := 8, width := 1, acc := .rw, dims := [(256, 32)] }
/-- Table 08.8: channel enabled (R205). -/
def HAUL_CTRL_EN : Fam :=
  { off := 0x100000, lsb := 0, width := 1, acc := .rw, dims := [(64, 32768)] }
/-- Table 08.8: raise vector *c* for descriptors with IRQ. -/
def HAUL_CTRL_IRQ_EN : Fam :=
  { off := 0x100000, lsb := 1, width := 1, acc := .rw, dims := [(64, 32768)] }
/-- Table 08.8: raise vector *c* on error completions and halts. -/
def HAUL_CTRL_IRQ_ERR : Fam :=
  { off := 0x100000, lsb := 2, width := 1, acc := .rw, dims := [(64, 32768)] }
/-- Table 08.8: 0 DISABLED, 1 IDLE, 2 RUNNING, 3 HALTED, 4 GATED. -/
def HAUL_STATUS_STATE : Fam :=
  { off := 0x100004, lsb := 0, width := 3, acc := .ro, dims := [(64, 32768)] }
/-- Table 08.8: hand-over waits for an empty ring (R204). -/
def HAUL_STATUS_COMMIT_WAIT : Fam :=
  { off := 0x100004, lsb := 3, width := 1, acc := .ro, dims := [(64, 32768)] }
/-- Table 08.8: work waits for Bus Master Enable (R182). -/
def HAUL_STATUS_BME_WAIT : Fam :=
  { off := 0x100004, lsb := 4, width := 1, acc := .ro, dims := [(64, 32768)] }
/-- Table 08.8: doorbell (R189). -/
def HAUL_TAIL_INDEX : Fam :=
  { off := 0x100008, lsb := 0, width := 16, acc := .rw, dims := [(64, 32768)] }
/-- Table 08.8: next descriptor to fetch. -/
def HAUL_HEAD_INDEX : Fam :=
  { off := 0x10000C, lsb := 0, width := 16, acc := .ro, dims := [(64, 32768)] }
/-- Table 08.8: next completion to write. -/
def HAUL_COMP_INDEX : Fam :=
  { off := 0x100010, lsb := 0, width := 16, acc := .ro, dims := [(64, 32768)] }
/-- Table 08.8: SEQ of the next completion. -/
def HAUL_COMP_SEQ_SEQ : Fam :=
  { off := 0x100014, lsb := 0, width := 32, acc := .ro, dims := [(64, 32768)] }
/-- Table 08.8: request a hand-over; reads 1 while pending. -/
def HAUL_COMMIT : Fam :=
  { off := 0x100018, lsb := 0, width := 1, acc := .w1s, dims := [(64, 32768)] }
/-- Table 08.8: descriptor ring base [31:12]. -/
def HAUL_SH_DESC_BASE_LO_BASE : Fam :=
  { off := 0x100020, lsb := 12, width := 20, acc := .rw, dims := [(64, 32768)] }
/-- Table 08.8: base [63:32]. -/
def HAUL_SH_DESC_BASE_HI_BASE : Fam :=
  { off := 0x100024, lsb := 0, width := 32, acc := .rw, dims := [(64, 32768)] }
/-- Table 08.8: completion ring base [31:12]. -/
def HAUL_SH_COMP_BASE_LO_BASE : Fam :=
  { off := 0x100028, lsb := 12, width := 20, acc := .rw, dims := [(64, 32768)] }
/-- Table 08.8: base [63:32]. -/
def HAUL_SH_COMP_BASE_HI_BASE : Fam :=
  { off := 0x10002C, lsb := 0, width := 32, acc := .rw, dims := [(64, 32768)] }
/-- Table 08.8: 1 to 16; 0 and 17 to 31 reserved. -/
def HAUL_SH_CFG_SIZE_LOG2 : Fam :=
  { off := 0x100030, lsb := 0, width := 5, acc := .rw, dims := [(64, 32768)], lo := 1, hi := 16 }
/-- Table 08.8: 0 host, 1 stack. -/
def HAUL_SH_CFG_DESC_SPACE : Fam :=
  { off := 0x100030, lsb := 5, width := 1, acc := .rw, dims := [(64, 32768)] }
/-- Table 08.8: 0 host, 1 stack. -/
def HAUL_SH_CFG_COMP_SPACE : Fam :=
  { off := 0x100030, lsb := 6, width := 1, acc := .rw, dims := [(64, 32768)] }
/-- Table 08.8: channel label; 1, 62 and 63 refused. -/
def HAUL_SH_CFG_LABEL : Fam :=
  { off := 0x100030, lsb := 8, width := 6, acc := .rw, dims := [(64, 32768)], bad := [1, 62, 63] }
/-- Table 08.8: weight 2^PRIORITY (R190). -/
def HAUL_SH_CFG_PRIORITY : Fam :=
  { off := 0x100030, lsb := 16, width := 2, acc := .rw, dims := [(64, 32768)] }
/-- Table 08.8: active set, as the shadow register. -/
def HAUL_ACT_DESC_BASE_LO_BASE : Fam :=
  { off := 0x100040, lsb := 12, width := 20, acc := .ro, dims := [(64, 32768)] }
/-- Table 08.8: active set, as the shadow register. -/
def HAUL_ACT_DESC_BASE_HI_BASE : Fam :=
  { off := 0x100044, lsb := 0, width := 32, acc := .ro, dims := [(64, 32768)] }
/-- Table 08.8: active set, as the shadow register. -/
def HAUL_ACT_COMP_BASE_LO_BASE : Fam :=
  { off := 0x100048, lsb := 12, width := 20, acc := .ro, dims := [(64, 32768)] }
/-- Table 08.8: active set, as the shadow register. -/
def HAUL_ACT_COMP_BASE_HI_BASE : Fam :=
  { off := 0x10004C, lsb := 0, width := 32, acc := .ro, dims := [(64, 32768)] }
/-- Table 08.8: active set, as the shadow register. -/
def HAUL_ACT_CFG_SIZE_LOG2 : Fam :=
  { off := 0x100050, lsb := 0, width := 5, acc := .ro, dims := [(64, 32768)] }
/-- Table 08.8: active set, as the shadow register. -/
def HAUL_ACT_CFG_DESC_SPACE : Fam :=
  { off := 0x100050, lsb := 5, width := 1, acc := .ro, dims := [(64, 32768)] }
/-- Table 08.8: active set, as the shadow register. -/
def HAUL_ACT_CFG_COMP_SPACE : Fam :=
  { off := 0x100050, lsb := 6, width := 1, acc := .ro, dims := [(64, 32768)] }
/-- Table 08.8: active set, as the shadow register. -/
def HAUL_ACT_CFG_LABEL : Fam :=
  { off := 0x100050, lsb := 8, width := 6, acc := .ro, dims := [(64, 32768)] }
/-- Table 08.8: active set, as the shadow register. -/
def HAUL_ACT_CFG_PRIORITY : Fam :=
  { off := 0x100050, lsb := 16, width := 2, acc := .ro, dims := [(64, 32768)] }
/-- Table 08.8: completions written, wrapping. -/
def HAUL_DONE_COUNT_COUNT : Fam :=
  { off := 0x100060, lsb := 0, width := 32, acc := .ro, dims := [(64, 32768)] }
/-- Table 08.8: completions other than OK and SHIFT_END, saturating. -/
def HAUL_ERR_COUNT_COUNT : Fam :=
  { off := 0x100064, lsb := 0, width := 32, acc := .ro, dims := [(64, 32768)] }
/-- Table 08.8: SHIFT_END completions, saturating. -/
def HAUL_SHIFT_END_COUNT_COUNT : Fam :=
  { off := 0x100068, lsb := 0, width := 32, acc := .ro, dims := [(64, 32768)] }
/-- Table 08.9: haul-engine reset (R208); reads 1 while running. -/
def HG_CTRL_RESET : Fam :=
  { off := 0x140000, lsb := 0, width := 1, acc := .w1s }
/-- Table 08.9: engine halted (R207). -/
def HG_STATUS_HALTED : Fam :=
  { off := 0x140004, lsb := 0, width := 1, acc := .ro }
/-- Table 08.9: 0 8-bit, 1 10-bit, 2 14-bit (R182). -/
def HG_STATUS_TAG_MODE : Fam :=
  { off := 0x140004, lsb := 1, width := 2, acc := .ro }
/-- Table 08.9: engine halted. -/
def HG_EVENTS_HALT : Fam :=
  { off := 0x140008, lsb := 0, width := 1, acc := .w1c }
/-- Table 08.9: further bus error while halted. -/
def HG_EVENTS_HALT_MORE : Fam :=
  { off := 0x140008, lsb := 1, width := 1, acc := .w1c }
/-- Table 08.9: reset completed. -/
def HG_EVENTS_RESET_DONE : Fam :=
  { off := 0x140008, lsb := 2, width := 1, acc := .w1c }
/-- Table 08.9: failing request address [31:0]. -/
def HG_HALT_ADDR_LO_ADDR : Fam :=
  { off := 0x140010, lsb := 0, width := 32, acc := .ro }
/-- Table 08.9: address [63:32]. -/
def HG_HALT_ADDR_HI_ADDR : Fam :=
  { off := 0x140014, lsb := 0, width := 32, acc := .ro }
/-- Table 08.9: 0 none, 1 UR, 2 CA, 3 completion timeout, 4 EP; others reserved. -/
def HG_HALT_INFO_TYPE : Fam :=
  { off := 0x140018, lsb := 0, width := 3, acc := .ro }
/-- Table 08.9: 0 data read, 1 descriptor or list read, 2 read-back; 3 reserved. -/
def HG_HALT_INFO_KIND : Fam :=
  { off := 0x140018, lsb := 4, width := 2, acc := .ro }
/-- Table 08.9: rack tick number [31:0] at detection. -/
def HG_HALT_TICK_TICK : Fam :=
  { off := 0x14001C, lsb := 0, width := 32, acc := .ro }
/-- Table 08.9: non-posted requests outstanding, 0 to 4,096. -/
def HG_OUTSTANDING_COUNT : Fam :=
  { off := 0x140020, lsb := 0, width := 13, acc := .ro }
/-- Table 08.9: highest OUTSTANDING since last written; write 0 to restart. -/
def HG_OUT_PEAK_COUNT : Fam :=
  { off := 0x140024, lsb := 0, width := 13, acc := .rw }
/-- Table 08.9: tags held after a reset. -/
def HG_QUARANTINED_COUNT : Fam :=
  { off := 0x140028, lsb := 0, width := 13, acc := .ro }
/-- Table 08.9: bit c: channel c RUNNING. -/
def HG_CHAN_BUSY_CHANNELS : Fam :=
  { off := 0x140030, lsb := 0, width := 1, acc := .ro, dims := [(64, 1)] }
/-- Table 09.6: ledger enabled (R220). -/
def CODING_CTRL_LEDGER_EN : Fam :=
  { off := 0x160000, lsb := 0, width := 1, acc := .rw, held := .lantern }
/-- Table 09.6: coded descriptors in execution, 0 to 16. -/
def CODING_STATUS_ACTIVE : Fam :=
  { off := 0x160004, lsb := 0, width := 5, acc := .ro }
/-- Table 09.6: governor holds the engine below its rate. -/
def CODING_STATUS_THROTTLED : Fam :=
  { off := 0x160004, lsb := 5, width := 1, acc := .ro }
/-- Table 09.6: a descriptor completed REPAIRED. -/
def CODING_EVENTS_REPAIRED : Fam :=
  { off := 0x160008, lsb := 0, width := 1, acc := .w1c }
/-- Table 09.6: a descriptor completed UNRECOVERABLE. -/
def CODING_EVENTS_UNRECOVERABLE : Fam :=
  { off := 0x160008, lsb := 1, width := 1, acc := .w1c }
/-- Table 09.6: a descriptor completed LEDGER_POISON. -/
def CODING_EVENTS_LEDGER_POISON : Fam :=
  { off := 0x160008, lsb := 2, width := 1, acc := .w1c }
/-- Table 09.6: a source differed between passes (R223). -/
def CODING_EVENTS_SOURCE_CHANGED : Fam :=
  { off := 0x160008, lsb := 3, width := 1, acc := .w1c }
/-- Table 09.6: a rebuilt digest differed from the ledger (R225). -/
def CODING_EVENTS_DIGEST_CHANGED : Fam :=
  { off := 0x160008, lsb := 4, width := 1, acc := .w1c }
/-- Table 09.6: per EVENTS bit, raise vector 64. -/
def CODING_EVENT_EN_EN : Fam :=
  { off := 0x16000C, lsb := 0, width := 5, acc := .rw }
/-- Table 09.6: SA[37:30] of the ledger's first byte. -/
def CODING_LEDGER_BASE_GIB : Fam :=
  { off := 0x160010, lsb := 0, width := 8, acc := .rw, held := .lantern }
/-- Table 09.6: size in GiB, 1 to 64; 0 and 65 to 127 reserved. -/
def CODING_LEDGER_SIZE_GIB : Fam :=
  { off := 0x160014, lsb := 0, width := 7, acc := .rw, held := .lantern, reset := 0x1, lo := 1, hi := 64 }
/-- Table 09.6: last valid entry, SIZE × 2^26 − 1. -/
def CODING_LEDGER_LAST_ENTRY : Fam :=
  { off := 0x160018, lsb := 0, width := 32, acc := .ro, reset := 0x3FFFFFF }
/-- Table 09.6: DIGEST descriptors completed, wrapping. -/
def CODING_DIGESTS_COUNT : Fam :=
  { off := 0x160020, lsb := 0, width := 32, acc := .ro }
/-- Table 09.6: ENCODE descriptors completed, wrapping. -/
def CODING_ENCODES_COUNT : Fam :=
  { off := 0x160024, lsb := 0, width := 32, acc := .ro }
/-- Table 09.6: VERIFY descriptors completed, wrapping. -/
def CODING_VERIFIES_COUNT : Fam :=
  { off := 0x160028, lsb := 0, width := 32, acc := .ro }
/-- Table 09.6: REBUILD descriptors completed, wrapping. -/
def CODING_REBUILDS_COUNT : Fam :=
  { off := 0x16002C, lsb := 0, width := 32, acc := .ro }
/-- Table 09.6: fragments found mismatched, saturating. -/
def CODING_MISMATCHES_COUNT : Fam :=
  { off := 0x160030, lsb := 0, width := 32, acc := .ro }
/-- Table 09.6: repaired fragments written, saturating. -/
def CODING_FRAGS_WRITTEN_COUNT : Fam :=
  { off := 0x160034, lsb := 0, width := 32, acc := .ro }
/-- Table 09.6: UNRECOVERABLE completions, saturating. -/
def CODING_UNRECOVERABLES_COUNT : Fam :=
  { off := 0x160038, lsb := 0, width := 32, acc := .ro }
/-- Table 09.6: conditional updates skipped (R226), saturating. -/
def CODING_LEDGER_SKIPS_COUNT : Fam :=
  { off := 0x16003C, lsb := 0, width := 32, acc := .ro }
/-- Table 09.6: entries read with a reserved STATE, saturating. -/
def CODING_LEDGER_BAD_STATE_COUNT : Fam :=
  { off := 0x160040, lsb := 0, width := 32, acc := .ro }
/-- Table 09.6: rebuilt digests that differed, saturating. -/
def CODING_DIGEST_CHANGES_COUNT : Fam :=
  { off := 0x160044, lsb := 0, width := 32, acc := .ro }
/-- Table 09.6: sources changed between passes, saturating. -/
def CODING_SOURCE_CHANGES_COUNT : Fam :=
  { off := 0x160048, lsb := 0, width := 32, acc := .ro }
/-- Table 09.6: source bytes accepted, both passes, 64-bit [31:0]. -/
def CODING_BYTES_IN_LO : Fam :=
  { off := 0x160050, lsb := 0, width := 32, acc := .ro }
/-- Table 09.6: source bytes accepted, both passes, 64-bit [63:32]. -/
def CODING_BYTES_IN_HI : Fam :=
  { off := 0x160054, lsb := 0, width := 32, acc := .ro }
/-- Table 10.2: window in ticks, 1 to 64; 0 and 65 to 127 reserved. -/
def REG_CTRL_WINDOW : Fam :=
  { off := 0x400000, lsb := 0, width := 7, acc := .rw, reset := 0x1, lo := 1, hi := 64 }
/-- Table 10.2: guarantees prorated this window (R243). -/
def REG_STATUS_OVERSUBSCRIBED : Fam :=
  { off := 0x400004, lsb := 0, width := 1, acc := .ro }
/-- Table 10.2: D is 0 with G above 0. -/
def REG_STATUS_FIXED_SATURATED : Fam :=
  { off := 0x400004, lsb := 1, width := 1, acc := .ro }
/-- Table 10.2: fixed-high labels, 1 to 4. -/
def REG_STATUS_FIXED_COUNT : Fam :=
  { off := 0x400004, lsb := 2, width := 3, acc := .ro, reset := 0x1 }
/-- Table 10.2: OVERSUBSCRIBED became 1. -/
def REG_EVENTS_OVERSUB_SET : Fam :=
  { off := 0x400008, lsb := 0, width := 1, acc := .w1c }
/-- Table 10.2: OVERSUBSCRIBED became 0. -/
def REG_EVENTS_OVERSUB_CLEAR : Fam :=
  { off := 0x400008, lsb := 1, width := 1, acc := .w1c }
/-- Table 10.2: a write was refused under R241 or R242. -/
def REG_EVENTS_CEILING_REFUSED : Fam :=
  { off := 0x400008, lsb := 2, width := 1, acc := .w1c }
/-- Table 10.2: FIXED_SATURATED became 1. -/
def REG_EVENTS_FIXED_SATURATED : Fam :=
  { off := 0x400008, lsb := 3, width := 1, acc := .w1c }
/-- Table 10.2: per EVENTS bit, raise vector 68. -/
def REG_EVENT_EN_EN : Fam :=
  { off := 0x40000C, lsb := 0, width := 4, acc := .rw }
/-- Table 10.2: guarantee ceiling, units per tick, 1 to 65,535. -/
def REG_CEILING_UNITS : Fam :=
  { off := 0x400010, lsb := 0, width := 16, acc := .rw, reset := 0x8954, lo := 1, hi := 65535 }
/-- Table 10.2: G over written budgets, units per window. -/
def REG_G_SUM_UNITS : Fam :=
  { off := 0x400014, lsb := 0, width := 24, acc := .ro, reset := 0x8 }
/-- Table 10.2: D of the current window. -/
def REG_D_NOW_UNITS : Fam :=
  { off := 0x400018, lsb := 0, width := 24, acc := .ro }
/-- Table 10.2: fixed-high consumption in the previous window. -/
def REG_FIXED_PREV_UNITS : Fam :=
  { off := 0x40001C, lsb := 0, width := 24, acc := .ro }
/-- Table 10.2: windows with OVERSUBSCRIBED 1, saturating. -/
def REG_OVERSUB_WINDOWS_COUNT : Fam :=
  { off := 0x400020, lsb := 0, width := 32, acc := .ro }
/-- Table 10.2: budget, units per window. -/
def REG_LABEL_CFG_BUDGET : Fam :=
  { off := 0x400100, lsb := 0, width := 20, acc := .rw, dims := [(64, 32)],
    resets := [0, 0, 0, 0, 0, 0, 0, 0, 0, 0, 0, 0, 0, 0, 0, 0, 0, 0, 0, 0, 0, 0, 0, 0, 0, 0, 0, 0, 0, 0, 0, 0, 0, 0, 0, 0, 0, 0, 0, 0, 0, 0, 0, 0, 0, 0, 0, 0, 0, 0, 0, 0, 0, 0, 0, 0, 0, 0, 0, 0, 0, 0, 8] }
/-- Table 10.2: fixed-high; read-only 1 for label 1; writes refused for 62 and 63. -/
def REG_LABEL_CFG_FIXED : Fam :=
  { off := 0x400100, lsb := 20, width := 1, acc := .rw, dims := [(64, 32)],
    resets := [0, 1] }
/-- Table 10.2: consumption this window, saturating. -/
def REG_LABEL_USED_UNITS : Fam :=
  { off := 0x400200, lsb := 0, width := 24, acc := .ro, dims := [(64, 32)] }
/-- Table 10.2: label is SPILL now. -/
def REG_LABEL_USED_SPILL : Fam :=
  { off := 0x400200, lsb := 24, width := 1, acc := .ro, dims := [(64, 32)] }
/-- Table 10.2: effective budget in force. -/
def REG_LABEL_EFF_UNITS : Fam :=
  { off := 0x400300, lsb := 0, width := 20, acc := .ro, dims := [(64, 32)] }
/-- Table 10.2: fixed-high in force. -/
def REG_LABEL_EFF_FIXED : Fam :=
  { off := 0x400300, lsb := 20, width := 1, acc := .ro, dims := [(64, 32)] }
/-- Table 10.2: windows in which the label became SPILL, saturating. -/
def REG_LABEL_SPILLS_COUNT : Fam :=
  { off := 0x400400, lsb := 0, width := 32, acc := .ro, dims := [(64, 32)] }
/-- Table 11.8: target: 1 DOZE, 2 REST, 3 EMBER; 0 reserved. -/
def POWER_REQ_STATE : Fam :=
  { off := 0x420000, lsb := 0, width := 2, acc := .rw, lo := 1, hi := 3 }
/-- Table 11.8: request entry; reads 1 while the sequencer serves it. -/
def POWER_REQ_GO : Fam :=
  { off := 0x420000, lsb := 31, width := 1, acc := .w1s }
/-- Table 11.8: automatic DOZE after this many idle ticks; 0 disabled. -/
def POWER_CTRL_DOZE_IDLE : Fam :=
  { off := 0x420004, lsb := 0, width := 16, acc := .rw, held := .lantern }
/-- Table 11.8: PERST# in REST requests EMBER. -/
def POWER_CTRL_PERST_EMBER : Fam :=
  { off := 0x420004, lsb := 16, width := 1, acc := .rw, held := .lantern, reset := 0x1 }
/-- Table 11.8: Rack Link listening in EMBER. -/
def POWER_CTRL_RL_LISTEN : Fam :=
  { off := 0x420004, lsb := 17, width := 1, acc := .rw, held := .lantern }
/-- Table 11.8: VDD_CORE settle time in µs, 5 to 250. -/
def POWER_CTRL_VID_SETTLE : Fam :=
  { off := 0x420004, lsb := 24, width := 8, acc := .rw, held := .lantern, reset := 0x14, lo := 5, hi := 250 }
/-- Table 11.8: 0 ACTIVE, 1 DOZE, 2 REST, 3 EMBER. -/
def POWER_STATUS_STATE : Fam :=
  { off := 0x420008, lsb := 0, width := 3, acc := .ro, held := .lantern }
/-- Table 11.8: level in use. -/
def POWER_STATUS_LEVEL : Fam :=
  { off := 0x420008, lsb := 3, width := 2, acc := .ro, reset := 0x2 }
/-- Table 11.8: entry or exit in progress. -/
def POWER_STATUS_SEQ_BUSY : Fam :=
  { off := 0x420008, lsb := 5, width := 1, acc := .ro, held := .lantern }
/-- Table 11.8: code driven on VID[3:0]. -/
def POWER_STATUS_VID : Fam :=
  { off := 0x420008, lsb := 6, width := 4, acc := .ro, reset := 0x2 }
/-- Table 11.8: fastest level in force (R249). -/
def POWER_STATUS_LEVEL_LIMIT : Fam :=
  { off := 0x420008, lsb := 10, width := 2, acc := .ro }
/-- Table 11.8: an entry completed. -/
def POWER_EVENTS_ENTRY_DONE : Fam :=
  { off := 0x42000C, lsb := 0, width := 1, acc := .w1c }
/-- Table 11.8: an entry was refused (R258). -/
def POWER_EVENTS_ENTRY_REFUSED : Fam :=
  { off := 0x42000C, lsb := 1, width := 1, acc := .w1c }
/-- Table 11.8: an entry was reversed by a wake (R264). -/
def POWER_EVENTS_WAKE_ABORT : Fam :=
  { off := 0x42000C, lsb := 2, width := 1, acc := .w1c }
/-- Table 11.8: ACTIVE reached after REST or EMBER. -/
def POWER_EVENTS_EXITED : Fam :=
  { off := 0x42000C, lsb := 3, width := 1, acc := .w1c }
/-- Table 11.8: LEVEL changed. -/
def POWER_EVENTS_LEVEL_CHANGE : Fam :=
  { off := 0x42000C, lsb := 4, width := 1, acc := .w1c }
/-- Table 11.8: per EVENTS bit, raise vector 68. -/
def POWER_EVENT_EN_EN : Fam :=
  { off := 0x420010, lsb := 0, width := 5, acc := .rw }
/-- Table 11.8: fastest level allowed. -/
def POWER_PERF_LIMIT : Fam :=
  { off := 0x420014, lsb := 0, width := 2, acc := .rw, held := .lantern }
/-- Table 11.8: 0 none, 2 P2 from REPAIR integrity. -/
def POWER_PERF_FUSE_LIMIT : Fam :=
  { off := 0x420014, lsb := 2, width := 2, acc := .ro }
/-- Table 11.8: state requested. -/
def POWER_LAST_ENTRY_TARGET : Fam :=
  { off := 0x420018, lsb := 0, width := 2, acc := .ro, held := .lantern }
/-- Table 11.8: 0 DONE, 1 REFUSED, 2 ABORTED_WAKE, 3 ABORTED_FAULT. -/
def POWER_LAST_ENTRY_RESULT : Fam :=
  { off := 0x420018, lsb := 2, width := 2, acc := .ro, held := .lantern }
/-- Table 11.8: refusing block of Table 11.5; 0 sequencer. -/
def POWER_LAST_ENTRY_BLOCK : Fam :=
  { off := 0x420018, lsb := 4, width := 4, acc := .ro, held := .lantern }
/-- Table 11.8: 0x00 none; 0x01 to 0x0B as in R255, R256 and Table 11.5. -/
def POWER_LAST_ENTRY_REASON : Fam :=
  { off := 0x420018, lsb := 8, width := 8, acc := .ro, held := .lantern }
/-- Table 11.8: 0 D3hot write, 1 REQ, 2 dictionary, 3 schedule, 4 PERST#, 5 automatic DOZE. -/
def POWER_LAST_ENTRY_SOURCE : Fam :=
  { off := 0x420018, lsb := 16, width := 3, acc := .ro, held := .lantern }
/-- Table 11.8: rack tick number [31:0] of the request. -/
def POWER_LAST_ENTRY_TICK_TICK : Fam :=
  { off := 0x42001C, lsb := 0, width := 32, acc := .ro, held := .lantern }
/-- Table 11.8: [0] wake port, [1] PERST#, [2] schedule, [3] Rack Link. -/
def POWER_WAKE_EN_EN : Fam :=
  { off := 0x420020, lsb := 0, width := 4, acc := .rw, held := .lantern, reset := 0xF }
/-- Table 11.8: sources latched at the last wake; [4] host D0 write. Held in the lantern domain with the latch, though the row
has no -S (DEDUCED: log entry 30). -/
def POWER_WAKE_SRC_SRC : Fam :=
  { off := 0x420024, lsb := 0, width := 5, acc := .w1c, held := .lantern }
/-- Table 11.8: wake held, not yet served. -/
def POWER_WAKE_LATCH_PENDING : Fam :=
  { off := 0x420028, lsb := 0, width := 1, acc := .ro, held := .lantern }
/-- Table 11.8: bit *d* set while PD*d* is on, PD00 to PD77. -/
def POWER_DOMAIN_ON_ON : Fam :=
  { off := 0x420030, lsb := 0, width := 1, acc := .ro, dims := [(78, 1)] }
/-- Table 11.8: entries refused, saturating. -/
def POWER_REFUSALS_COUNT : Fam :=
  { off := 0x420040, lsb := 0, width := 32, acc := .ro }
/-- Table 11.8: entries reversed by a wake, saturating. -/
def POWER_WAKE_ABORTS_COUNT : Fam :=
  { off := 0x420044, lsb := 0, width := 32, acc := .ro }
/-- Table 12.5: sensor correction of R274. -/
def THERMAL_CTRL_CORR_EN : Fam :=
  { off := 0x430000, lsb := 0, width := 1, acc := .rw, reset := 0x1 }
/-- Table 12.5: 0 internal, 1 LID_TEMP (R272). -/
def THERMAL_CTRL_LID_SRC : Fam :=
  { off := 0x430000, lsb := 1, width := 1, acc := .rw, held := .lantern }
/-- Table 12.5: warning threshold set. -/
def THERMAL_STATUS_WARNING : Fam :=
  { off := 0x430004, lsb := 0, width := 1, acc := .ro }
/-- Table 12.5: throttle threshold set. -/
def THERMAL_STATUS_THROTTLE : Fam :=
  { off := 0x430004, lsb := 1, width := 1, acc := .ro }
/-- Table 12.5: start-up guard (R277). -/
def THERMAL_STATUS_GUARD : Fam :=
  { off := 0x430004, lsb := 2, width := 1, acc := .ro }
/-- Table 12.5: programming window open (R282). -/
def THERMAL_STATUS_PROG_OK : Fam :=
  { off := 0x430004, lsb := 3, width := 1, acc := .ro }
/-- Table 12.5: a zone runs on the model alone. -/
def THERMAL_STATUS_MODEL_ONLY_ANY : Fam :=
  { off := 0x430004, lsb := 4, width := 1, acc := .ro }
/-- Table 12.5: governor start-up hold (R293). -/
def THERMAL_STATUS_START_HOLD : Fam :=
  { off := 0x430004, lsb := 5, width := 1, acc := .ro }
/-- Table 12.5: 0 none, 1 P1, 2 P2, 3 P3. -/
def THERMAL_STATUS_THROTTLE_LIMIT : Fam :=
  { off := 0x430004, lsb := 6, width := 2, acc := .ro }
/-- Table 12.5: LID_TEMP used for lack of ML17. -/
def THERMAL_STATUS_LID_FALLBACK : Fam :=
  { off := 0x430004, lsb := 8, width := 1, acc := .ro }
/-- Table 12.5: warning set. -/
def THERMAL_EVENTS_WARN_SET : Fam :=
  { off := 0x430008, lsb := 0, width := 1, acc := .w1c }
/-- Table 12.5: warning cleared. -/
def THERMAL_EVENTS_WARN_CLEAR : Fam :=
  { off := 0x430008, lsb := 1, width := 1, acc := .w1c }
/-- Table 12.5: throttle set. -/
def THERMAL_EVENTS_THROTTLE_SET : Fam :=
  { off := 0x430008, lsb := 2, width := 1, acc := .w1c }
/-- Table 12.5: throttle cleared. -/
def THERMAL_EVENTS_THROTTLE_CLEAR : Fam :=
  { off := 0x430008, lsb := 3, width := 1, acc := .w1c }
/-- Table 12.5: a sensor became suspect. -/
def THERMAL_EVENTS_SENSOR_SUSPECT : Fam :=
  { off := 0x430008, lsb := 4, width := 1, acc := .w1c }
/-- Table 12.5: a suspect sensor became valid. -/
def THERMAL_EVENTS_SENSOR_RESTORED : Fam :=
  { off := 0x430008, lsb := 5, width := 1, acc := .w1c }
/-- Table 12.5: TEMP_WINDOW under R282. -/
def THERMAL_EVENTS_PROG_REFUSED : Fam :=
  { off := 0x430008, lsb := 6, width := 1, acc := .w1c }
/-- Table 12.5: cap in force changed. -/
def THERMAL_EVENTS_CAP_CHANGE : Fam :=
  { off := 0x430008, lsb := 7, width := 1, acc := .w1c }
/-- Table 12.5: per EVENTS bit, raise vector 67. -/
def THERMAL_EVENT_EN_EN : Fam :=
  { off := 0x43000C, lsb := 0, width := 8, acc := .rw }
/-- Table 12.5: cap setpoint, 0.1 W. -/
def THERMAL_CAP_SETPOINT : Fam :=
  { off := 0x430010, lsb := 0, width := 9, acc := .ro, held := .lantern, reset := 0x12C }
/-- Table 12.5: cap in force, 0.1 W. -/
def THERMAL_CAP_IN_FORCE : Fam :=
  { off := 0x430010, lsb := 16, width := 9, acc := .ro, reset := 0x12C }
/-- Table 12.5: fused cap ceiling, 0.1 W. -/
def THERMAL_CAP_CEIL_CEIL : Fam :=
  { off := 0x430014, lsb := 0, width := 9, acc := .ro, reset := 0x12C }
/-- Table 12.5: cap target, 0.1 W. -/
def THERMAL_TARGET : Fam :=
  { off := 0x430018, lsb := 0, width := 9, acc := .ro, reset := 0x12C }
/-- Table 12.5: P of the last tick, 0.1 W. -/
def THERMAL_PKG_POWER_POWER : Fam :=
  { off := 0x43001C, lsb := 0, width := 10, acc := .ro }
/-- Table 12.5: f, 128 to 320. -/
def THERMAL_GOV_TRIM : Fam :=
  { off := 0x430020, lsb := 0, width := 9, acc := .ro, reset := 0x100 }
/-- Table 12.5: chosen level. -/
def THERMAL_GOV_CHOSEN : Fam :=
  { off := 0x430020, lsb := 9, width := 2, acc := .ro, reset := 0x2 }
/-- Table 12.5: units per tick (R289). -/
def THERMAL_GOV_CTRL_MIN_D : Fam :=
  { off := 0x430024, lsb := 0, width := 16, acc := .rw, reset := 0x1000 }
/-- Table 12.5: GB/s, 0 to 256. -/
def THERMAL_GOV_CTRL_CODE_FLOOR : Fam :=
  { off := 0x430024, lsb := 16, width := 9, acc := .rw, reset := 0x73, hi := 256 }
/-- Table 12.5: tokens per bench this tick. -/
def THERMAL_TOKENS : Fam :=
  { off := 0x430028, lsb := 0, width := 18, acc := .ro, reset := 0x1194 }
/-- Table 12.5: coding input limit, GB/s; 0 none. -/
def THERMAL_CODE_LIMIT_RATE : Fam :=
  { off := 0x43002C, lsb := 0, width := 9, acc := .ro }
/-- Table 12.5: lid temperature for LID_SRC 1. -/
def THERMAL_LID_TEMP_TEMP : Fam :=
  { off := 0x430030, lsb := 0, width := 12, acc := .rw, held := .lantern, reset := 0x6D0 }
/-- Table 12.5: bit *s*: sensor *s* suspect, 0 to 31. -/
def THERMAL_SUSPECT_SENSORS : Fam :=
  { off := 0x430034, lsb := 0, width := 1, acc := .ro, dims := [(44, 1)] }
/-- Table 12.5: node estimate, guards included. -/
def THERMAL_NODE_TEMP_ESTIMATE : Fam :=
  { off := 0x430100, lsb := 0, width := 12, acc := .ro, dims := [(31, 32)] }
/-- Table 12.5: R276 applies. -/
def THERMAL_NODE_TEMP_MODEL_ONLY : Fam :=
  { off := 0x430100, lsb := 12, width := 1, acc := .ro, dims := [(31, 32)] }
/-- Table 12.5: last reading. -/
def THERMAL_SENSOR_READING : Fam :=
  { off := 0x430200, lsb := 0, width := 12, acc := .ro, dims := [(44, 32)] }
/-- Table 12.5: R275. -/
def THERMAL_SENSOR_SUSPECT : Fam :=
  { off := 0x430200, lsb := 12, width := 1, acc := .ro, dims := [(44, 32)] }
/-- Table 12.5: R274. -/
def THERMAL_SENSOR_INVALID : Fam :=
  { off := 0x430200, lsb := 13, width := 1, acc := .ro, dims := [(44, 32)] }
/-- Table 12.5: die temperature (R278); *d* as in R280. -/
def THERMAL_DIE_TEMP_TEMP : Fam :=
  { off := 0x430300, lsb := 0, width := 12, acc := .ro, dims := [(28, 32)] }
/-- Table 12.5: k_L. -/
def THERMAL_GOV_COEF_K : Fam :=
  { off := 0x430400, lsb := 0, width := 16, acc := .ro, dims := [(4, 64)],
    resets := [1750, 2150, 2500, 2900] }
/-- Table 12.5: B_L, 0.01 W. -/
def THERMAL_GOV_COEF_BASE : Fam :=
  { off := 0x430404, lsb := 0, width := 12, acc := .ro, dims := [(4, 64)],
    resets := [1100, 900, 695, 560] }
/-- Table 13.4: walk and report service (R302). -/
def RAS_RAS_CTRL_SCRUB_EN : Fam :=
  { off := 0x1A0200, lsb := 0, width := 1, acc := .rw, reset := 0x1 }
/-- Table 13.4: row repair (R306). -/
def RAS_RAS_CTRL_AUTO_REPAIR : Fam :=
  { off := 0x1A0200, lsb := 1, width := 1, acc := .rw, reset := 0x1 }
/-- Table 13.4: judge layers lost (R313). -/
def RAS_RAS_CTRL_AUTO_LOSS : Fam :=
  { off := 0x1A0200, lsb := 2, width := 1, acc := .rw, reset := 0x1 }
/-- Table 13.4: scrub paused. -/
def RAS_RAS_CTRL_PAUSED : Fam :=
  { off := 0x1A0200, lsb := 3, width := 1, acc := .rw }
/-- Table 13.4: walk slabs per slice minus 1. -/
def RAS_SCRUB_CTRL_COUNT_M1 : Fam :=
  { off := 0x1A0204, lsb := 0, width := 8, acc := .rw }
/-- Table 13.4: ticks between slices, 1 to 65,535; 0 reserved. -/
def RAS_SCRUB_CTRL_INTERVAL : Fam :=
  { off := 0x1A0204, lsb := 16, width := 16, acc := .rw, reset := 0x40, lo := 1, hi := 65535 }
/-- Table 13.4: slices being granted. -/
def RAS_SCRUB_STATUS_RUNNING : Fam :=
  { off := 0x1A0208, lsb := 0, width := 1, acc := .ro }
/-- Table 13.4: rejoin or suspect sweep running. -/
def RAS_SCRUB_STATUS_SWEEPING : Fam :=
  { off := 0x1A0208, lsb := 1, width := 1, acc := .ro }
/-- Table 13.4: row repair in progress. -/
def RAS_SCRUB_STATUS_REPAIR_BUSY : Fam :=
  { off := 0x1A0208, lsb := 2, width := 1, acc := .ro }
/-- Table 13.4: next walk slab. -/
def RAS_SCRUB_PTR_SLAB : Fam :=
  { off := 0x1A020C, lsb := 0, width := 27, acc := .ro }
/-- Table 13.4: completed passes. -/
def RAS_SCRUB_PASSES_COUNT : Fam :=
  { off := 0x1A0210, lsb := 0, width := 32, acc := .ro }
/-- Table 13.4: queued patrol reports, 0 to 64. -/
def RAS_REPORT_QUEUE_COUNT : Fam :=
  { off := 0x1A0214, lsb := 0, width := 7, acc := .ro }
/-- Table 13.4: reports served, wrapping. -/
def RAS_REPORTS_TAKEN_COUNT : Fam :=
  { off := 0x1A0218, lsb := 0, width := 32, acc := .ro }
/-- Table 13.4: reports dropped, saturating. -/
def RAS_REPORT_DROPS_COUNT : Fam :=
  { off := 0x1A021C, lsb := 0, width := 32, acc := .ro }
/-- Table 13.4: 2 to 255. -/
def RAS_THRESH_ROW_THRESH : Fam :=
  { off := 0x1A0220, lsb := 0, width := 8, acc := .rw, reset := 0x4, lo := 2, hi := 255 }
/-- Table 13.4: 16 to 65,535. -/
def RAS_THRESH_LOSS_THRESH : Fam :=
  { off := 0x1A0220, lsb := 16, width := 16, acc := .rw, reset := 0x100, lo := 16, hi := 65535 }
/-- Table 13.4: spoil-log entry written. -/
def RAS_RAS_EVENTS_CE : Fam :=
  { off := 0x1A0224, lsb := 0, width := 1, acc := .w1c }
/-- Table 13.4: uncorrectable decode. -/
def RAS_RAS_EVENTS_UE : Fam :=
  { off := 0x1A0224, lsb := 1, width := 1, acc := .w1c }
/-- Table 13.4: uncleared spoil-log entry overwritten. -/
def RAS_RAS_EVENTS_CELOG_OVERFLOW : Fam :=
  { off := 0x1A0224, lsb := 2, width := 1, acc := .w1c }
/-- Table 13.4: uncleared UE-log entry overwritten. -/
def RAS_RAS_EVENTS_UELOG_OVERFLOW : Fam :=
  { off := 0x1A0224, lsb := 3, width := 1, acc := .w1c }
/-- Table 13.4: repair completed. -/
def RAS_RAS_EVENTS_ROW_REPAIRED : Fam :=
  { off := 0x1A0224, lsb := 4, width := 1, acc := .w1c }
/-- Table 13.4: candidate bank has no spare. -/
def RAS_RAS_EVENTS_SPARES_OUT : Fam :=
  { off := 0x1A0224, lsb := 5, width := 1, acc := .w1c }
/-- Table 13.4: layer judged lost. -/
def RAS_RAS_EVENTS_JUDGED_LOST : Fam :=
  { off := 0x1A0224, lsb := 6, width := 1, acc := .w1c }
/-- Table 13.4: walk pass completed. -/
def RAS_RAS_EVENTS_PASS_DONE : Fam :=
  { off := 0x1A0224, lsb := 7, width := 1, acc := .w1c }
/-- Table 13.4: field-repair area full. -/
def RAS_RAS_EVENTS_RECORD_FULL : Fam :=
  { off := 0x1A0224, lsb := 8, width := 1, acc := .w1c }
/-- Table 13.4: per RAS_EVENTS bit, raise vector 65. -/
def RAS_RAS_EVENT_EN_EN : Fam :=
  { off := 0x1A0228, lsb := 0, width := 9, acc := .rw }
/-- Table 13.4: CORRECTED decodes, 64-bit [31:0]. -/
def RAS_CE_TOTAL_LO : Fam :=
  { off := 0x1A0230, lsb := 0, width := 32, acc := .ro }
/-- Table 13.4: CORRECTED decodes, 64-bit [63:32]. -/
def RAS_CE_TOTAL_HI : Fam :=
  { off := 0x1A0234, lsb := 0, width := 32, acc := .ro }
/-- Table 13.4: UNCORRECTABLE decodes, saturating. -/
def RAS_UE_TOTAL_COUNT : Fam :=
  { off := 0x1A0238, lsb := 0, width := 32, acc := .ro }
/-- Table 13.4: MISSING portions not charged (R297), saturating. -/
def RAS_LINK_MISSING_COUNT : Fam :=
  { off := 0x1A023C, lsb := 0, width := 32, acc := .ro }
/-- Table 13.4: entry written next. -/
def RAS_CELOG_STATUS_NEXT : Fam :=
  { off := 0x1A0240, lsb := 0, width := 6, acc := .ro }
/-- Table 13.4: uncleared entries, 0 to 64. -/
def RAS_CELOG_STATUS_COUNT : Fam :=
  { off := 0x1A0240, lsb := 6, width := 7, acc := .ro }
/-- Table 13.4: empty the ring; self-clears. -/
def RAS_CELOG_STATUS_CLEAR : Fam :=
  { off := 0x1A0240, lsb := 31, width := 1, acc := .w1s }
/-- Table 13.4: saturating. -/
def RAS_CELOG_OVERFLOW_COUNT : Fam :=
  { off := 0x1A0244, lsb := 0, width := 32, acc := .ro }
/-- Table 13.4: entry written next. -/
def RAS_UELOG_STATUS_NEXT : Fam :=
  { off := 0x1A0248, lsb := 0, width := 5, acc := .ro }
/-- Table 13.4: uncleared entries, 0 to 32. -/
def RAS_UELOG_STATUS_COUNT : Fam :=
  { off := 0x1A0248, lsb := 5, width := 6, acc := .ro }
/-- Table 13.4: empty the ring; self-clears. -/
def RAS_UELOG_STATUS_CLEAR : Fam :=
  { off := 0x1A0248, lsb := 31, width := 1, acc := .w1s }
/-- Table 13.4: saturating. -/
def RAS_UELOG_OVERFLOW_COUNT : Fam :=
  { off := 0x1A024C, lsb := 0, width := 32, acc := .ro }
/-- Table 13.4: row repairs since PD08 power-on. -/
def RAS_REPAIRS_COUNT : Fam :=
  { off := 0x1A0250, lsb := 0, width := 32, acc := .ro }
/-- Table 13.4: charges to layer *n*, saturating. -/
def RAS_LAYER_CE_COUNT : Fam :=
  { off := 0x1A0260, lsb := 0, width := 32, acc := .ro, dims := [(18, 32)] }
/-- Table 13.4: slab. -/
def RAS_CELOG_SLAB_SLAB : Fam :=
  { off := 0x1A1000, lsb := 0, width := 27, acc := .ro, dims := [(64, 128)] }
/-- Table 13.4: 0 PCIe, 1 haul, 2 coding, 3 walk, 4 patrol report, 5 sweep or repair, 6 self-test, 7 management core. -/
def RAS_CELOG_SLAB_SOURCE : Fam :=
  { off := 0x1A1000, lsb := 28, width := 3, acc := .ro, dims := [(64, 128)] }
/-- Table 13.4: charged layers. -/
def RAS_CELOG_LAYERS_LAYERS : Fam :=
  { off := 0x1A1004, lsb := 0, width := 18, acc := .ro, dims := [(64, 128)] }
/-- Table 13.4: first charge: 2 MISSING, 3 CRC, 4 ACHK, 5 ROLE, 6 STALE, 7 column correction. -/
def RAS_CELOG_LAYERS_CLASS : Fam :=
  { off := 0x1A1004, lsb := 18, width := 3, acc := .ro, dims := [(64, 128)] }
/-- Table 13.4: *e*. -/
def RAS_CELOG_LAYERS_ERASURES : Fam :=
  { off := 0x1A1004, lsb := 21, width := 5, acc := .ro, dims := [(64, 128)] }
/-- Table 13.4: columns corrected at *e* = 0, 0 to 128. -/
def RAS_CELOG_COLS_COLUMNS : Fam :=
  { off := 0x1A1008, lsb := 0, width := 8, acc := .ro, dims := [(64, 128)] }
/-- Table 13.4: rack tick number [31:0]. -/
def RAS_CELOG_TICK_TICK : Fam :=
  { off := 0x1A100C, lsb := 0, width := 32, acc := .ro, dims := [(64, 128)] }
/-- Table 13.4: slab. -/
def RAS_UELOG_SLAB_SLAB : Fam :=
  { off := 0x1A1400, lsb := 0, width := 27, acc := .ro, dims := [(32, 128)] }
/-- Table 13.4: as CELOG_SLAB. -/
def RAS_UELOG_SLAB_SOURCE : Fam :=
  { off := 0x1A1400, lsb := 28, width := 3, acc := .ro, dims := [(32, 128)] }
/-- Table 13.4: 0 DECODE, 1 DELIVERED, 2 TIE. -/
def RAS_UELOG_INFO_KIND : Fam :=
  { off := 0x1A1404, lsb := 0, width := 2, acc := .ro, dims := [(32, 128)] }
/-- Table 13.4: merged deliveries (R300). -/
def RAS_UELOG_INFO_REPEAT : Fam :=
  { off := 0x1A1404, lsb := 2, width := 8, acc := .ro, dims := [(32, 128)] }
/-- Table 13.4: erased layers. -/
def RAS_UELOG_INFO_LAYERS : Fam :=
  { off := 0x1A1404, lsb := 14, width := 18, acc := .ro, dims := [(32, 128)] }
/-- Table 13.4: newly poisoned, or delivered poisoned. -/
def RAS_UELOG_POISON_SECTORS : Fam :=
  { off := 0x1A1408, lsb := 0, width := 32, acc := .ro, dims := [(32, 128)] }
/-- Table 13.4: rack tick number [31:0] of the first event. -/
def RAS_UELOG_TICK_TICK : Fam :=
  { off := 0x1A140C, lsb := 0, width := 32, acc := .ro, dims := [(32, 128)] }
/-- Table 13.4: layer *n*, positions 2*w* and 2*w* + 1; position = 32 × channel + 4 × bank group + bank; saturating. -/
def RAS_BANK_CE_COUNT : Fam :=
  { off := 0x1A2000, lsb := 0, width := 16, acc := .ro, dims := [(18, 1024), (64, 16)] }
/-- Table 13.4: layer *n*, position 8*w* + *j*; spares used, 0 to 15 (16 reads 0xF with SPARES_OUT). -/
def RAS_SPARES_USED_COUNT : Fam :=
  { off := 0x1A3000, lsb := 0, width := 4, acc := .ro, dims := [(18, 256), (64, 4)] }
/-- Table 14.6: lock REACT, SHADOW and injection until base-die reset. -/
def FAULT_CTRL_LOCK : Fam :=
  { off := 0x440000, lsb := 0, width := 1, acc := .w1s }
/-- Table 14.6: shadow interval in ticks, 1 to 255; 0 reserved. -/
def FAULT_CTRL_SHADOW : Fam :=
  { off := 0x440000, lsb := 8, width := 8, acc := .rw, reset := 0x8, lo := 1, hi := 255 }
/-- Table 14.6: SAFE in force (R321). -/
def FAULT_STATUS_SAFE : Fam :=
  { off := 0x440004, lsb := 0, width := 1, acc := .ro, held := .lantern }
/-- Table 14.6: thermal-trip latch set. -/
def FAULT_STATUS_TRIPPED : Fam :=
  { off := 0x440004, lsb := 1, width := 1, acc := .ro, held := .lantern }
/-- Table 14.6: a shadow is open. -/
def FAULT_STATUS_SHADOW_OPEN : Fam :=
  { off := 0x440004, lsb := 2, width := 1, acc := .ro }
/-- Table 14.6: a NOTE effect occurred. -/
def FAULT_EVENTS_NOTE : Fam :=
  { off := 0x440008, lsb := 0, width := 1, acc := .w1c }
/-- Table 14.6: a FENCE acted. -/
def FAULT_EVENTS_FENCE : Fam :=
  { off := 0x440008, lsb := 1, width := 1, acc := .w1c }
/-- Table 14.6: a detection was shadowed. -/
def FAULT_EVENTS_SHADOWED : Fam :=
  { off := 0x440008, lsb := 2, width := 1, acc := .w1c }
/-- Table 14.6: injection count reached zero. -/
def FAULT_EVENTS_INJ_DONE : Fam :=
  { off := 0x440008, lsb := 3, width := 1, acc := .w1c }
/-- Table 14.6: per EVENTS bit, raise vector 66. -/
def FAULT_EVENT_EN_EN : Fam :=
  { off := 0x44000C, lsb := 0, width := 4, acc := .rw, reset := 0x1 }
/-- Table 14.6: Table 14.3 bit order; bit 4 reserved. -/
def FAULT_FENCED_TARGETS : Fam :=
  { off := 0x440010, lsb := 0, width := 14, acc := .ro }
/-- Table 14.6: release; only bits 1 and 3 act. -/
def FAULT_FENCE_RELEASE_TARGETS : Fam :=
  { off := 0x440014, lsb := 0, width := 14, acc := .wo }
/-- Table 14.6: first source since all sticky bits were clear. -/
def FAULT_FIRST_SOURCE : Fam :=
  { off := 0x440018, lsb := 0, width := 7, acc := .ro, held := .lantern }
/-- Table 14.6: FIRST holds a record. -/
def FAULT_FIRST_VALID : Fam :=
  { off := 0x440018, lsb := 7, width := 1, acc := .ro, held := .lantern }
/-- Table 14.6: its reaction code. -/
def FAULT_FIRST_REACTION : Fam :=
  { off := 0x440018, lsb := 8, width := 3, acc := .ro, held := .lantern }
/-- Table 14.6: rack tick number [31:0] of the first source. -/
def FAULT_FIRST_TICK_TICK : Fam :=
  { off := 0x44001C, lsb := 0, width := 32, acc := .ro, held := .lantern }
/-- Table 14.6: BAR2 writes discarded in SAFE, saturating. -/
def FAULT_SAFE_WRITES_COUNT : Fam :=
  { off := 0x440020, lsb := 0, width := 32, acc := .ro }
/-- Table 14.6: shadowed detections, saturating. -/
def FAULT_SHADOW_COUNT_COUNT : Fam :=
  { off := 0x440024, lsb := 0, width := 32, acc := .ro }
/-- Table 14.6: Table 14.5; 0 and 7 reserved. -/
def FAULT_INJ_CTRL_CHECKER : Fam :=
  { off := 0x440030, lsb := 0, width := 3, acc := .rw, lo := 1, hi := 6 }
/-- Table 14.6: TARGET. -/
def FAULT_INJ_CTRL_TARGET : Fam :=
  { off := 0x440030, lsb := 3, width := 5, acc := .rw }
/-- Table 14.6: shaft direction. -/
def FAULT_INJ_CTRL_DIR : Fam :=
  { off := 0x440030, lsb := 8, width := 1, acc := .rw }
/-- Table 14.6: two check bits. -/
def FAULT_INJ_CTRL_DOUBLE : Fam :=
  { off := 0x440030, lsb := 9, width := 1, acc := .rw }
/-- Table 14.6: checks to invert, 1 to 255. -/
def FAULT_INJ_CTRL_COUNT : Fam :=
  { off := 0x440030, lsb := 16, width := 8, acc := .rw }
/-- Table 14.6: start; reads 1 while running. -/
def FAULT_INJ_CTRL_GO : Fam :=
  { off := 0x440030, lsb := 31, width := 1, acc := .w1s }
/-- Table 14.6: checks still to invert. -/
def FAULT_INJ_STATUS_REMAINING : Fam :=
  { off := 0x440034, lsb := 0, width := 8, acc := .ro }
/-- Table 14.6: injection refused (R326). -/
def FAULT_INJ_STATUS_REFUSED : Fam :=
  { off := 0x440034, lsb := 8, width := 1, acc := .w1c }
/-- Table 14.6: bit *i*: source 32*w* + *i*. -/
def FAULT_STICKY_SOURCES : Fam :=
  { off := 0x440100, lsb := 0, width := 1, acc := .w1c, held := .lantern, dims := [(128, 1)] }
/-- Table 14.6: bit *i*: source 32*w* + *i* shadowed. -/
def FAULT_SHADOW_STICKY_SOURCES : Fam :=
  { off := 0x440120, lsb := 0, width := 1, acc := .w1c, held := .lantern, dims := [(128, 1)] }
/-- Table 14.6: source 8*w* + *j*; codes of Table 14.2; 5 to 15 reserved. -/
def FAULT_REACT_REACTION : Fam :=
  { off := 0x440200, lsb := 0, width := 4, acc := .rw, held := .lantern, dims := [(128, 4)],
    resets := [1, 1, 1, 1, 1, 1, 1, 1, 3, 1, 1, 1, 3, 3, 3, 0, 1, 1, 4, 1, 1, 1, 1, 1, 0, 0, 0, 0, 0, 0, 0, 0, 1, 1, 0, 1, 1, 1, 1, 1, 0, 1, 1, 3, 1, 1, 0, 0, 2, 2, 2, 2, 2, 2, 2, 2, 2, 0, 0, 0, 0, 0, 0, 0, 1, 1, 1, 1, 1, 1, 1, 1, 1, 1, 1, 1, 0, 0, 0, 0, 1, 2, 1, 1, 0, 3, 2, 1, 1, 0, 0, 0, 0, 0, 0, 0, 1, 1, 2, 2, 1, 1, 1, 3, 3, 1, 3, 0, 0, 0, 0, 0, 0, 0, 1, 1, 1, 1, 1, 0, 1, 0, 0, 0, 0, 0, 0, 0], hi := 4 }
/-- Table 15.4: memory core samples. -/
def TEST_CTRL_CS_MEM_EN : Fam :=
  { off := 0x450000, lsb := 0, width := 1, acc := .rw, reset := 0x1 }
/-- Table 15.4: way core samples. -/
def TEST_CTRL_CS_WAY_EN : Fam :=
  { off := 0x450000, lsb := 1, width := 1, acc := .rw, reset := 0x1 }
/-- Table 15.4: lane core samples. -/
def TEST_CTRL_CS_LANE_EN : Fam :=
  { off := 0x450000, lsb := 2, width := 1, acc := .rw, reset := 0x1 }
/-- Table 15.4: service mode (R336). -/
def TEST_CTRL_SERVICE : Fam :=
  { off := 0x450000, lsb := 8, width := 1, acc := .rw }
/-- Table 15.4: service mode in force. -/
def TEST_STATUS_SERVICE_MODE : Fam :=
  { off := 0x450004, lsb := 0, width := 1, acc := .ro }
/-- Table 15.4: a Table 15.1 test runs. -/
def TEST_STATUS_TEST_BUSY : Fam :=
  { off := 0x450004, lsb := 1, width := 1, acc := .ro }
/-- Table 15.4: sample in progress: 0 none, 1 MEM, 2 WAY, 3 LANE. -/
def TEST_STATUS_CS_KIND : Fam :=
  { off := 0x450004, lsb := 2, width := 2, acc := .ro }
/-- Table 15.4: a test ended. -/
def TEST_EVENTS_TEST_DONE : Fam :=
  { off := 0x450008, lsb := 0, width := 1, acc := .w1c }
/-- Table 15.4: a core sample found a failure. -/
def TEST_EVENTS_CS_FAIL : Fam :=
  { off := 0x450008, lsb := 1, width := 1, acc := .w1c }
/-- Table 15.4: a CS_MEM sample was not admitted. -/
def TEST_EVENTS_CS_SKIPPED : Fam :=
  { off := 0x450008, lsb := 2, width := 1, acc := .w1c }
/-- Table 15.4: a calibration run ended. -/
def TEST_EVENTS_CAL_DONE : Fam :=
  { off := 0x450008, lsb := 3, width := 1, acc := .w1c }
/-- Table 15.4: shadow values brought into force. -/
def TEST_EVENTS_CAL_APPLIED : Fam :=
  { off := 0x450008, lsb := 4, width := 1, acc := .w1c }
/-- Table 15.4: a save ended. -/
def TEST_EVENTS_CAL_SAVED : Fam :=
  { off := 0x450008, lsb := 5, width := 1, acc := .w1c }
/-- Table 15.4: per EVENTS bit, raise vector 72. -/
def TEST_EVENT_EN_EN : Fam :=
  { off := 0x45000C, lsb := 0, width := 6, acc := .rw }
/-- Table 15.4: 1 to 1,048,575; 0 reserved. -/
def TEST_CS_MEM_INTERVAL_TICKS : Fam :=
  { off := 0x450010, lsb := 0, width := 20, acc := .rw, reset := 0x3E8, lo := 1, hi := 1048575 }
/-- Table 15.4: as above. -/
def TEST_CS_WAY_INTERVAL_TICKS : Fam :=
  { off := 0x450014, lsb := 0, width := 20, acc := .rw, reset := 0x186A0, lo := 1, hi := 1048575 }
/-- Table 15.4: as above. -/
def TEST_CS_LANE_INTERVAL_TICKS : Fam :=
  { off := 0x450018, lsb := 0, width := 20, acc := .rw, reset := 0x186A0, lo := 1, hi := 1048575 }
/-- Table 15.4: next layer. -/
def TEST_CS_MEM_PTR_LAYER : Fam :=
  { off := 0x450020, lsb := 0, width := 5, acc := .ro }
/-- Table 15.4: 32 × channel + 4 × bank group + bank. -/
def TEST_CS_MEM_PTR_POSITION : Fam :=
  { off := 0x450020, lsb := 5, width := 6, acc := .ro }
/-- Table 15.4: row[17:6]. -/
def TEST_CS_MEM_PTR_ROW_GROUP : Fam :=
  { off := 0x450020, lsb := 11, width := 12, acc := .ro }
/-- Table 15.4: completed passes. -/
def TEST_CS_MEM_PASSES_COUNT : Fam :=
  { off := 0x450024, lsb := 0, width := 32, acc := .ro }
/-- Table 15.4: next way. -/
def TEST_CS_WAY_PTR_WAY : Fam :=
  { off := 0x450028, lsb := 0, width := 4, acc := .ro }
/-- Table 15.4: ways held out after failing. -/
def TEST_CS_WAY_PTR_WAY_FAILED : Fam :=
  { off := 0x450028, lsb := 16, width := 16, acc := .ro }
/-- Table 15.4: next bench. -/
def TEST_CS_LANE_PTR_BENCH : Fam :=
  { off := 0x45002C, lsb := 0, width := 4, acc := .ro }
/-- Table 15.4: 0 down, 1 up. -/
def TEST_CS_LANE_PTR_DIR : Fam :=
  { off := 0x45002C, lsb := 4, width := 1, acc := .ro }
/-- Table 15.4: physical lane. -/
def TEST_CS_LANE_PTR_LANE : Fam :=
  { off := 0x45002C, lsb := 5, width := 7, acc := .ro }
/-- Table 15.4: R331 step 4, 0 to 512. -/
def TEST_CS_PROGRESS_REBUILD_PTR : Fam :=
  { off := 0x450030, lsb := 0, width := 10, acc := .ro }
/-- Table 15.4: skipped grants, saturating. -/
def TEST_CS_SKIPS_COUNT : Fam :=
  { off := 0x450034, lsb := 0, width := 32, acc := .ro }
/-- Table 15.4: failing samples, saturating. -/
def TEST_CS_FAILS_COUNT : Fam :=
  { off := 0x450038, lsb := 0, width := 32, acc := .ro }
/-- Table 15.4: region under test (R340). -/
def TEST_CS_RECORD_VALID : Fam :=
  { off := 0x45003C, lsb := 0, width := 1, acc := .ro, held := .lantern }
/-- Table 15.4: 0 CS_MEM, 1 MARCH_BANK. -/
def TEST_CS_RECORD_KIND : Fam :=
  { off := 0x45003C, lsb := 1, width := 1, acc := .ro, held := .lantern }
/-- Table 15.4: LAYER. -/
def TEST_CS_RECORD_LAYER : Fam :=
  { off := 0x45003C, lsb := 2, width := 5, acc := .ro, held := .lantern }
/-- Table 15.4: POSITION. -/
def TEST_CS_RECORD_POSITION : Fam :=
  { off := 0x45003C, lsb := 7, width := 6, acc := .ro, held := .lantern }
/-- Table 15.4: FIRST_ROW. -/
def TEST_CS_RECORD_FIRST_ROW : Fam :=
  { off := 0x45003C, lsb := 13, width := 18, acc := .ro, held := .lantern }
/-- Table 15.4: row count. -/
def TEST_CS_RECORD_ROWS_ROWS : Fam :=
  { off := 0x450040, lsb := 0, width := 18, acc := .ro, held := .lantern }
/-- Table 15.4: Table 15.1; 0 and 7 to 15 reserved. -/
def TEST_TEST_CTRL_TEST : Fam :=
  { off := 0x450050, lsb := 0, width := 4, acc := .rw, lo := 1, hi := 6 }
/-- Table 15.4: bench or layer. -/
def TEST_TEST_CTRL_TARGET : Fam :=
  { off := 0x450050, lsb := 4, width := 5, acc := .rw }
/-- Table 15.4: for MARCH_BANK. -/
def TEST_TEST_CTRL_POSITION : Fam :=
  { off := 0x450050, lsb := 9, width := 6, acc := .rw }
/-- Table 15.4: start; reads 1 while running. -/
def TEST_TEST_CTRL_GO : Fam :=
  { off := 0x450050, lsb := 31, width := 1, acc := .w1s }
/-- Table 15.4: last test; 0 a core sample. -/
def TEST_TEST_STATUS_TEST : Fam :=
  { off := 0x450054, lsb := 0, width := 4, acc := .ro }
/-- Table 15.4: result code. -/
def TEST_TEST_STATUS_RESULT : Fam :=
  { off := 0x450054, lsb := 4, width := 4, acc := .ro }
/-- Table 15.4: first failing row, or lane in [6:0]. -/
def TEST_TEST_FAIL_INFO_ROW : Fam :=
  { off := 0x450058, lsb := 0, width := 18, acc := .ro }
/-- Table 15.4: layer, or bench. -/
def TEST_TEST_FAIL_INFO_LAYER : Fam :=
  { off := 0x450058, lsb := 18, width := 5, acc := .ro }
/-- Table 15.4: POSITION. -/
def TEST_TEST_FAIL_INFO_POSITION : Fam :=
  { off := 0x450058, lsb := 23, width := 6, acc := .ro }
/-- Table 15.4: rack tick number [31:0] at the end. -/
def TEST_TEST_TICK_TICK : Fam :=
  { off := 0x45005C, lsb := 0, width := 32, acc := .ro }
/-- Table 15.4: 1 sensors, 2 monitors, 3 shaft, 4 driver; others reserved. -/
def TEST_CAL_CTRL_KIND : Fam :=
  { off := 0x450100, lsb := 0, width := 3, acc := .rw, lo := 1, hi := 4 }
/-- Table 15.4: bench for kinds 3 and 4. -/
def TEST_CAL_CTRL_BENCH : Fam :=
  { off := 0x450100, lsb := 3, width := 4, acc := .rw }
/-- Table 15.4: R345; self-clears. -/
def TEST_CAL_CTRL_APPLY : Fam :=
  { off := 0x450100, lsb := 8, width := 1, acc := .w1s }
/-- Table 15.4: R346; reads 1 while running. -/
def TEST_CAL_CTRL_SAVE : Fam :=
  { off := 0x450100, lsb := 9, width := 1, acc := .w1s }
/-- Table 15.4: copy the values in force to the shadow. -/
def TEST_CAL_CTRL_RELOAD : Fam :=
  { off := 0x450100, lsb := 10, width := 1, acc := .w1s }
/-- Table 15.4: start a run; reads 1 while running. -/
def TEST_CAL_CTRL_GO : Fam :=
  { off := 0x450100, lsb := 31, width := 1, acc := .w1s }
/-- Table 15.4: result of the last run or save. -/
def TEST_CAL_STATUS_RESULT : Fam :=
  { off := 0x450104, lsb := 0, width := 4, acc := .ro }
/-- Table 15.4: shadow differs from the values in force. -/
def TEST_CAL_STATUS_SHADOW_DIRTY : Fam :=
  { off := 0x450104, lsb := 4, width := 1, acc := .ro }
/-- Table 15.4: trims waiting for a pause. -/
def TEST_CAL_STATUS_PENDING_BENCHES : Fam :=
  { off := 0x450104, lsb := 5, width := 9, acc := .ro }
/-- Table 15.4: copy A valid. -/
def TEST_CAL_STATUS_VALID_A : Fam :=
  { off := 0x450104, lsb := 14, width := 1, acc := .ro }
/-- Table 15.4: copy B valid. -/
def TEST_CAL_STATUS_VALID_B : Fam :=
  { off := 0x450104, lsb := 15, width := 1, acc := .ro }
/-- Table 15.4: SEQ of the record in force. -/
def TEST_CAL_SEQ_SEQ : Fam :=
  { off := 0x450108, lsb := 0, width := 32, acc := .ro }
/-- Table 15.4: tick of the last APPLY. -/
def TEST_CAL_APPLY_TICK_TICK : Fam :=
  { off := 0x45010C, lsb := 0, width := 32, acc := .ro }
/-- Table 16.7: sensing complete (R350). -/
def FUSE_STATUS_SENSED : Fam :=
  { off := 0x460000, lsb := 0, width := 1, acc := .ro }
/-- Table 16.7: burn running. -/
def FUSE_STATUS_BURN_BUSY : Fam :=
  { off := 0x460000, lsb := 1, width := 1, acc := .ro }
/-- Table 16.7: VPROG within 2.5 V ±5 %. -/
def FUSE_STATUS_VPROG_OK : Fam :=
  { off := 0x460000, lsb := 2, width := 1, acc := .ro }
/-- Table 16.7: LIFE open (R359). -/
def FUSE_STATUS_MANUFACTURING : Fam :=
  { off := 0x460000, lsb := 3, width := 1, acc := .ro }
/-- Table 16.7: bit *r*: region *r* failed integrity. -/
def FUSE_STATUS_INTEG_FAIL : Fam :=
  { off := 0x460000, lsb := 4, width := 9, acc := .ro }
/-- Table 16.7: bit *r*: region *r* open. -/
def FUSE_STATUS_OPEN : Fam :=
  { off := 0x460000, lsb := 13, width := 9, acc := .ro }
/-- Table 16.7: a burn ended DONE. -/
def FUSE_EVENTS_BURN_DONE : Fam :=
  { off := 0x460004, lsb := 0, width := 1, acc := .w1c }
/-- Table 16.7: a burn ended with any other result. -/
def FUSE_EVENTS_BURN_FAILED : Fam :=
  { off := 0x460004, lsb := 1, width := 1, acc := .w1c }
/-- Table 16.7: a region failed at the last sensing. -/
def FUSE_EVENTS_INTEG_FAIL : Fam :=
  { off := 0x460004, lsb := 2, width := 1, acc := .w1c }
/-- Table 16.7: an override was refused. -/
def FUSE_EVENTS_OVR_REFUSED : Fam :=
  { off := 0x460004, lsb := 3, width := 1, acc := .w1c }
/-- Table 16.7: per EVENTS bit, raise vector 72. -/
def FUSE_EVENT_EN_EN : Fam :=
  { off := 0x460008, lsb := 0, width := 4, acc := .rw }
/-- Table 16.7: marginal words and seals at the last sensing, 0 to 135: the 126 words other than ROLLBACK, which R354 exempts, and the 9 seals. -/
def FUSE_MARGINAL_COUNT_COUNT : Fam :=
  { off := 0x46000C, lsb := 0, width := 8, acc := .ro }
/-- Table 16.7: word; with SEAL, region in [3:0]. -/
def FUSE_READ_CTRL_WORD : Fam :=
  { off := 0x460010, lsb := 0, width := 7, acc := .rw }
/-- Table 16.7: read a seal. -/
def FUSE_READ_CTRL_SEAL : Fam :=
  { off := 0x460010, lsb := 7, width := 1, acc := .rw }
/-- Table 16.7: 0 value in force, 1 copy 0, 2 copy 1; 3 reserved. -/
def FUSE_READ_CTRL_SOURCE : Fam :=
  { off := 0x460010, lsb := 8, width := 2, acc := .rw, hi := 2 }
/-- Table 16.7: 0 normal, 1 margin-low, 2 margin-high; 3 reserved. -/
def FUSE_READ_CTRL_REF : Fam :=
  { off := 0x460010, lsb := 10, width := 2, acc := .rw, hi := 2 }
/-- Table 16.7: read; reads 1 for up to 2 µs. -/
def FUSE_READ_CTRL_GO : Fam :=
  { off := 0x460010, lsb := 31, width := 1, acc := .w1s }
/-- Table 16.7: data [31:0]. -/
def FUSE_READ_LO_DATA : Fam :=
  { off := 0x460014, lsb := 0, width := 32, acc := .ro }
/-- Table 16.7: data [63:32]. -/
def FUSE_READ_HI_DATA : Fam :=
  { off := 0x460018, lsb := 0, width := 32, acc := .ro }
/-- Table 16.7: check bits read; 0 for SOURCE 0. -/
def FUSE_READ_INFO_ECC : Fam :=
  { off := 0x46001C, lsb := 0, width := 8, acc := .ro }
/-- Table 16.7: uncorrectable read. -/
def FUSE_READ_INFO_UNCORR : Fam :=
  { off := 0x46001C, lsb := 8, width := 1, acc := .ro }
/-- Table 16.7: single bit corrected. -/
def FUSE_READ_INFO_CORRECTED : Fam :=
  { off := 0x46001C, lsb := 9, width := 1, acc := .ro }
/-- Table 16.7: value in force is an override. -/
def FUSE_READ_INFO_OVERRIDDEN : Fam :=
  { off := 0x46001C, lsb := 10, width := 1, acc := .ro }
/-- Table 16.7: word marginal at the last sensing. -/
def FUSE_READ_INFO_MARGINAL : Fam :=
  { off := 0x46001C, lsb := 11, width := 1, acc := .ro }
/-- Table 16.7: 0x4655_5345 unlocks for 1 tk (R362). -/
def FUSE_BURN_UNLOCK_KEY : Fam :=
  { off := 0x460020, lsb := 0, width := 32, acc := .wo }
/-- Table 16.7: word; with SEAL, region in [3:0]. -/
def FUSE_BURN_CTRL_WORD : Fam :=
  { off := 0x460024, lsb := 0, width := 7, acc := .rw }
/-- Table 16.7: burn a seal (R365). -/
def FUSE_BURN_CTRL_SEAL : Fam :=
  { off := 0x460024, lsb := 7, width := 1, acc := .rw }
/-- Table 16.7: force-lock. -/
def FUSE_BURN_CTRL_FORCE : Fam :=
  { off := 0x460024, lsb := 8, width := 1, acc := .rw }
/-- Table 16.7: start; reads 1 while running. -/
def FUSE_BURN_CTRL_GO : Fam :=
  { off := 0x460024, lsb := 31, width := 1, acc := .w1s }
/-- Table 16.7: data [31:0]; CHECK for a seal; counter value for ROLLBACK. -/
def FUSE_BURN_DATA_LO_DATA : Fam :=
  { off := 0x460028, lsb := 0, width := 32, acc := .rw }
/-- Table 16.7: data [63:32]. -/
def FUSE_BURN_DATA_HI_DATA : Fam :=
  { off := 0x46002C, lsb := 0, width := 32, acc := .rw }
/-- Table 16.7: 0 NONE, 1 DONE, 2 to 11 as Table 16.6 and R364. -/
def FUSE_BURN_STATUS_RESULT : Fam :=
  { off := 0x460030, lsb := 0, width := 4, acc := .ro }
/-- Table 16.7: word or region of the last burn. -/
def FUSE_BURN_STATUS_WORD : Fam :=
  { off := 0x460030, lsb := 4, width := 7, acc := .ro }
/-- Table 16.7: arms a force-lock for 1 tk. -/
def FUSE_FORCE_ARM_REGION : Fam :=
  { off := 0x460034, lsb := 0, width := 4, acc := .wo }
/-- Table 16.7: word to override. -/
def FUSE_OVR_CTRL_WORD : Fam :=
  { off := 0x460040, lsb := 0, width := 7, acc := .rw }
/-- Table 16.7: remove the override of WORD. -/
def FUSE_OVR_CTRL_CLEAR : Fam :=
  { off := 0x460040, lsb := 30, width := 1, acc := .w1s }
/-- Table 16.7: apply OVR_LO and OVR_HI to WORD. -/
def FUSE_OVR_CTRL_SET : Fam :=
  { off := 0x460040, lsb := 31, width := 1, acc := .w1s }
/-- Table 16.7: override value [31:0]. -/
def FUSE_OVR_LO : Fam :=
  { off := 0x460044, lsb := 0, width := 32, acc := .rw }
/-- Table 16.7: override value [63:32]. -/
def FUSE_OVR_HI : Fam :=
  { off := 0x460048, lsb := 0, width := 32, acc := .rw }
/-- Table 16.7: last override refused (R361). -/
def FUSE_OVR_STATUS_REFUSED : Fam :=
  { off := 0x46004C, lsb := 0, width := 1, acc := .w1c }
/-- Table 16.7: bit *i*: word 32*w* + *i* overridden. -/
def FUSE_OVR_MAP_WORDS : Fam :=
  { off := 0x460050, lsb := 0, width := 1, acc := .ro, dims := [(128, 1)] }
/-- Table 16.7: counter value, 0 to 128 (R354). -/
def FUSE_ROLLBACK_COUNTER : Fam :=
  { off := 0x460060, lsb := 0, width := 8, acc := .ro }
/-- Table 16.7: word 16 in force, [31:0]. -/
def FUSE_VARIANT_LO_WORD16 : Fam :=
  { off := 0x460064, lsb := 0, width := 32, acc := .ro }
/-- Table 16.7: Device ID in force. -/
def FUSE_VARIANT_ID_DEVICE_ID : Fam :=
  { off := 0x460068, lsb := 0, width := 16, acc := .ro }
/-- Table 17.8: restart the management core; self-clears. -/
def MGMT_CTRL_CORE_RESET : Fam :=
  { off := 0x480000, lsb := 0, width := 1, acc := .w1s }
/-- Table 17.8: persist the ring; reads 1 while running. -/
def MGMT_CTRL_LOG_PERSIST : Fam :=
  { off := 0x480000, lsb := 1, width := 1, acc := .w1s }
/-- Table 17.8: 0 BOOT_ROM, 1 LOADING, 2 RUNNING, 3 NO_IMAGE, 4 RECOVERY, 5 RESTARTING. -/
def MGMT_STATUS_FW_STATE : Fam :=
  { off := 0x480004, lsb := 0, width := 3, acc := .ro }
/-- Table 17.8: running slot, 0 A, 1 B. -/
def MGMT_STATUS_SLOT : Fam :=
  { off := 0x480004, lsb := 3, width := 1, acc := .ro }
/-- Table 17.8: running image on trial. -/
def MGMT_STATUS_TRIAL : Fam :=
  { off := 0x480004, lsb := 4, width := 1, acc := .ro }
/-- Table 17.8: last boot left a failed trial. -/
def MGMT_STATUS_ROLLED_BACK : Fam :=
  { off := 0x480004, lsb := 5, width := 1, acc := .ro }
/-- Table 17.8: BOOTSEL sampled at reset. -/
def MGMT_STATUS_BOOTSEL : Fam :=
  { off := 0x480004, lsb := 6, width := 1, acc := .ro }
/-- Table 17.8: 0 IDLE, 1 ERASING, 2 RECEIVING, 3 VERIFYING, 4 STAGED, 5 FAILED. -/
def MGMT_STATUS_UPDATE_STATE : Fam :=
  { off := 0x480004, lsb := 7, width := 3, acc := .ro }
/-- Table 17.8: firmware reached RUNNING. -/
def MGMT_EVENTS_RUNNING : Fam :=
  { off := 0x480008, lsb := 0, width := 1, acc := .w1c }
/-- Table 17.8: an image was refused at boot. -/
def MGMT_EVENTS_IMAGE_REJECT : Fam :=
  { off := 0x480008, lsb := 1, width := 1, acc := .w1c }
/-- Table 17.8: update staged. -/
def MGMT_EVENTS_UPDATE_STAGED : Fam :=
  { off := 0x480008, lsb := 2, width := 1, acc := .w1c }
/-- Table 17.8: update failed. -/
def MGMT_EVENTS_UPDATE_FAILED : Fam :=
  { off := 0x480008, lsb := 3, width := 1, acc := .w1c }
/-- Table 17.8: staged image running. -/
def MGMT_EVENTS_ACTIVATED : Fam :=
  { off := 0x480008, lsb := 4, width := 1, acc := .w1c }
/-- Table 17.8: trial failed (R375). -/
def MGMT_EVENTS_ROLLED_BACK : Fam :=
  { off := 0x480008, lsb := 5, width := 1, acc := .w1c }
/-- Table 17.8: a persistence ended. -/
def MGMT_EVENTS_LOG_PERSISTED : Fam :=
  { off := 0x480008, lsb := 6, width := 1, acc := .w1c }
/-- Table 17.8: an unpersisted entry was overwritten. -/
def MGMT_EVENTS_LOG_LOST : Fam :=
  { off := 0x480008, lsb := 7, width := 1, acc := .w1c }
/-- Table 17.8: per EVENTS bit, raise vector 72. -/
def MGMT_EVENT_EN_EN : Fam :=
  { off := 0x48000C, lsb := 0, width := 8, acc := .rw }
/-- Table 17.8: VERSION of the running image. -/
def MGMT_FW_VERSION_VERSION : Fam :=
  { off := 0x480010, lsb := 0, width := 32, acc := .ro }
/-- Table 17.8: ROLLBACK_VER of the running image. -/
def MGMT_FW_ROLLBACK_VER : Fam :=
  { off := 0x480014, lsb := 0, width := 8, acc := .ro }
/-- Table 17.8: VERSION of the staged image. -/
def MGMT_STAGED_VERSION_VERSION : Fam :=
  { off := 0x480018, lsb := 0, width := 32, acc := .ro }
/-- Table 17.8: Table 17.4 code of the last failure. -/
def MGMT_UPDATE_INFO_ERROR : Fam :=
  { off := 0x48001C, lsb := 0, width := 4, acc := .ro }
/-- Table 17.8: R378. -/
def MGMT_UPDATE_INFO_ACT_MODE : Fam :=
  { off := 0x48001C, lsb := 4, width := 2, acc := .ro }
/-- Table 17.8: 0 host, 1 Rack Link. -/
def MGMT_UPDATE_INFO_SOURCE : Fam :=
  { off := 0x48001C, lsb := 6, width := 1, acc := .ro }
/-- Table 17.8: bytes received. -/
def MGMT_UPDATE_BYTES_BYTES : Fam :=
  { off := 0x480020, lsb := 0, width := 24, acc := .ro }
/-- Table 17.8: ticks, 10 to 65,535. -/
def MGMT_WDOG_CTRL_PERIOD : Fam :=
  { off := 0x480030, lsb := 0, width := 16, acc := .rw, reset := 0x3E8, lo := 10, hi := 65535 }
/-- Table 17.8: watchdog running. -/
def MGMT_WDOG_CTRL_EN : Fam :=
  { off := 0x480030, lsb := 16, width := 1, acc := .ro }
/-- Table 17.8: ticks to expiry. -/
def MGMT_WDOG_COUNT_TICKS : Fam :=
  { off := 0x480034, lsb := 0, width := 16, acc := .ro }
/-- Table 17.8: restarts since base-die reset, saturating. -/
def MGMT_MGMT_RESETS_COUNT : Fam :=
  { off := 0x480038, lsb := 0, width := 32, acc := .ro }
/-- Table 17.8: SEQ of the next entry. -/
def MGMT_LOG_SEQ_SEQ : Fam :=
  { off := 0x480040, lsb := 0, width := 32, acc := .ro }
/-- Table 17.8: first SEQ not yet persisted. -/
def MGMT_LOG_PERSISTED_SEQ_SEQ : Fam :=
  { off := 0x480044, lsb := 0, width := 32, acc := .ro }
/-- Table 17.8: saturating. -/
def MGMT_LOG_LOST_COUNT : Fam :=
  { off := 0x480048, lsb := 0, width := 32, acc := .ro }
/-- Table 17.8: flash JEDEC ID. -/
def MGMT_FLASH_ID_JEDEC_ID : Fam :=
  { off := 0x48004C, lsb := 0, width := 24, acc := .ro }
/-- Table 17.8: flash size in MiB. -/
def MGMT_FLASH_SIZE_MIB : Fam :=
  { off := 0x480050, lsb := 0, width := 16, acc := .ro }
/-- Table 18.5: request header bytes 4*i* to 4*i* + 3. -/
def DICT_REQ_HDR_HDR : Fam :=
  { off := 0x20000, lsb := 0, width := 32, acc := .rw, dims := [(4, 32)] }
/-- Table 18.5: send the request; reads 1 while BUSY. -/
def DICT_CTRL_GO : Fam :=
  { off := 0x20010, lsb := 0, width := 1, acc := .w1s }
/-- Table 18.5: end the port's open segmented transfer with ABORTED; self-clears. -/
def DICT_CTRL_ABORT : Fam :=
  { off := 0x20010, lsb := 1, width := 1, acc := .w1s }
/-- Table 18.5: request being served. -/
def DICT_STATUS_BUSY : Fam :=
  { off := 0x20014, lsb := 0, width := 1, acc := .ro }
/-- Table 18.5: firmware or boot ROM serving requests. -/
def DICT_STATUS_SERVING : Fam :=
  { off := 0x20014, lsb := 1, width := 1, acc := .ro }
/-- Table 18.5: segmented transfer open on this port. -/
def DICT_STATUS_SEG_OPEN : Fam :=
  { off := 0x20014, lsb := 2, width := 1, acc := .ro }
/-- Table 18.5: control token, as 0x1101:00. -/
def DICT_STATUS_HOLDER : Fam :=
  { off := 0x20014, lsb := 3, width := 2, acc := .ro }
/-- Table 18.5: abort code of the last response; 0 none. -/
def DICT_STATUS_LAST_ABORT : Fam :=
  { off := 0x20014, lsb := 8, width := 8, acc := .ro }
/-- Table 18.5: response ready. -/
def DICT_EVENTS_DONE : Fam :=
  { off := 0x20018, lsb := 0, width := 1, acc := .w1c }
/-- Table 18.5: token holder changed. -/
def DICT_EVENTS_TOKEN_CHANGE : Fam :=
  { off := 0x20018, lsb := 1, width := 1, acc := .w1c }
/-- Table 18.5: token seized (R389). -/
def DICT_EVENTS_SEIZED : Fam :=
  { off := 0x20018, lsb := 2, width := 1, acc := .w1c }
/-- Table 18.5: a saved-value write failed. -/
def DICT_EVENTS_SAVE_FAILED : Fam :=
  { off := 0x20018, lsb := 3, width := 1, acc := .w1c }
/-- Table 18.5: per EVENTS bit, raise vector 70. -/
def DICT_EVENT_EN_EN : Fam :=
  { off := 0x2001C, lsb := 0, width := 4, acc := .rw }
/-- Table 18.5: response header bytes 4*i* to 4*i* + 3. -/
def DICT_RSP_HDR_HDR : Fam :=
  { off := 0x20020, lsb := 0, width := 32, acc := .ro, dims := [(4, 32)] }
/-- Table 18.5: heartbeat age of the holder. -/
def DICT_TOKEN_AGE_TICKS : Fam :=
  { off := 0x20030, lsb := 0, width := 32, acc := .ro, held := .lantern }
/-- Table 18.5: requests served, wrapping. -/
def DICT_REQUESTS_COUNT : Fam :=
  { off := 0x20034, lsb := 0, width := 32, acc := .ro }
/-- Table 18.5: aborted requests, saturating. -/
def DICT_ABORTS_COUNT : Fam :=
  { off := 0x20038, lsb := 0, width := 32, acc := .ro }
/-- Table 18.5: request data bytes 4*i* to 4*i* + 3. -/
def DICT_REQ_DATA_DATA : Fam :=
  { off := 0x21000, lsb := 0, width := 32, acc := .rw, dims := [(1024, 32)] }
/-- Table 18.5: response data bytes 4*i* to 4*i* + 3. -/
def DICT_RSP_DATA_DATA : Fam :=
  { off := 0x22000, lsb := 0, width := 32, acc := .ro, dims := [(1024, 32)] }
/-- Table 19.8: node may transmit (R425). -/
def RL_CTRL_TX_EN : Fam :=
  { off := 0x470000, lsb := 0, width := 1, acc := .rw, reset := 0x1 }
/-- Table 19.8: send STATUS in granted slots (R426). -/
def RL_CTRL_STATUS_EN : Fam :=
  { off := 0x470000, lsb := 1, width := 1, acc := .rw, reset := 0x1 }
/-- Table 19.8: take part in assignment (R429). -/
def RL_CTRL_ASSIGN_EN : Fam :=
  { off := 0x470000, lsb := 2, width := 1, acc := .rw, reset := 0x1 }
/-- Table 19.8: node address in force (R428). -/
def RL_STATUS_ADDRESS : Fam :=
  { off := 0x470004, lsb := 0, width := 5, acc := .ro, reset := 0x1F }
/-- Table 19.8: ADDRESS is not 31. -/
def RL_STATUS_ASSIGNED : Fam :=
  { off := 0x470004, lsb := 5, width := 1, acc := .ro }
/-- Table 19.8: valid beacon received in the current cycle. -/
def RL_STATUS_BEACON_THIS_CYCLE : Fam :=
  { off := 0x470004, lsb := 6, width := 1, acc := .ro }
/-- Table 19.8: R412. -/
def RL_STATUS_EC_CONVERGED : Fam :=
  { off := 0x470004, lsb := 7, width := 1, acc := .ro }
/-- Table 19.8: R413. -/
def RL_STATUS_TX_ALLOWED : Fam :=
  { off := 0x470004, lsb := 8, width := 1, acc := .ro }
/-- Table 19.8: 0 SEARCH, 1 HEADER, 2 PAYLOAD. -/
def RL_STATUS_RX_STATE : Fam :=
  { off := 0x470004, lsb := 9, width := 2, acc := .ro }
/-- Table 19.8: beacons since PD22 power-on, saturating at 15. -/
def RL_STATUS_BEACONS_SEEN : Fam :=
  { off := 0x470004, lsb := 11, width := 4, acc := .ro }
/-- Table 19.8: EMBER with listening. -/
def RL_STATUS_LISTEN_ONLY : Fam :=
  { off := 0x470004, lsb := 15, width := 1, acc := .ro }
/-- Table 19.8: a cycle without a valid beacon. -/
def RL_EVENTS_BEACON_LOST : Fam :=
  { off := 0x470008, lsb := 0, width := 1, acc := .w1c }
/-- Table 19.8: ADDRESS changed. -/
def RL_EVENTS_ADDR_CHANGED : Fam :=
  { off := 0x470008, lsb := 1, width := 1, acc := .w1c }
/-- Table 19.8: R414. -/
def RL_EVENTS_COLLISION : Fam :=
  { off := 0x470008, lsb := 2, width := 1, acc := .w1c }
/-- Table 19.8: R431. -/
def RL_EVENTS_CAPTURE : Fam :=
  { off := 0x470008, lsb := 3, width := 1, acc := .w1c }
/-- Table 19.8: R430. -/
def RL_EVENTS_ADDR_CONFLICT : Fam :=
  { off := 0x470008, lsb := 4, width := 1, acc := .w1c }
/-- Table 19.8: WAKE frame accepted. -/
def RL_EVENTS_WAKE_RX : Fam :=
  { off := 0x470008, lsb := 5, width := 1, acc := .w1c }
/-- Table 19.8: link test result recorded. -/
def RL_EVENTS_LT_DONE : Fam :=
  { off := 0x470008, lsb := 6, width := 1, acc := .w1c }
/-- Table 19.8: EC_CONVERGED became 1. -/
def RL_EVENTS_EC_CONVERGED : Fam :=
  { off := 0x470008, lsb := 7, width := 1, acc := .w1c }
/-- Table 19.8: per EVENTS bit, raise vector 71. -/
def RL_EVENT_EN_EN : Fam :=
  { off := 0x47000C, lsb := 0, width := 8, acc := .rw }
/-- Table 19.8: GRANT of the last valid beacon. -/
def RL_GRANT_SLOTS : Fam :=
  { off := 0x470010, lsb := 0, width := 32, acc := .ro }
/-- Table 19.8: TICK[31:0] of the last valid beacon. -/
def RL_BEACON_TICK_TICK : Fam :=
  { off := 0x470014, lsb := 0, width := 32, acc := .ro }
/-- Table 19.8: last residual, dB below signal. -/
def RL_EC_RESIDUAL_DB : Fam :=
  { off := 0x470018, lsb := 0, width := 8, acc := .ro }
/-- Table 19.8: frames accepted, wrapping. -/
def RL_FRAMES_RX_COUNT : Fam :=
  { off := 0x470020, lsb := 0, width := 32, acc := .ro }
/-- Table 19.8: frames sent in full, wrapping. -/
def RL_FRAMES_TX_COUNT : Fam :=
  { off := 0x470024, lsb := 0, width := 32, acc := .ro }
/-- Table 19.8: saturating. -/
def RL_HDR_CRC_ERRS_COUNT : Fam :=
  { off := 0x470028, lsb := 0, width := 32, acc := .ro }
/-- Table 19.8: saturating. -/
def RL_PAY_CRC_ERRS_COUNT : Fam :=
  { off := 0x47002C, lsb := 0, width := 32, acc := .ro }
/-- Table 19.8: saturating. -/
def RL_FALSE_SYNCS_COUNT : Fam :=
  { off := 0x470030, lsb := 0, width := 32, acc := .ro }
/-- Table 19.8: saturating. -/
def RL_CAPTURES_COUNT : Fam :=
  { off := 0x470034, lsb := 0, width := 32, acc := .ro }
/-- Table 19.8: saturating. -/
def RL_COLLISIONS_COUNT : Fam :=
  { off := 0x470038, lsb := 0, width := 32, acc := .ro }
/-- Table 19.8: saturating. -/
def RL_BEACONS_LOST_COUNT : Fam :=
  { off := 0x47003C, lsb := 0, width := 32, acc := .ro }
/-- Table 19.8: saturating. -/
def RL_RX_OVERRUNS_COUNT : Fam :=
  { off := 0x470040, lsb := 0, width := 32, acc := .ro }
/-- Table 19.8: saturating. -/
def RL_TX_DROPPED_COUNT : Fam :=
  { off := 0x470044, lsb := 0, width := 32, acc := .ro }
/-- Table 19.8: saturating. -/
def RL_BAD_FRAMES_COUNT : Fam :=
  { off := 0x470048, lsb := 0, width := 32, acc := .ro }
/-- Table 19.8: syncs accepted with 1 to 4 errors, saturating. -/
def RL_SYNC_CORRECTED_COUNT : Fam :=
  { off := 0x47004C, lsb := 0, width := 32, acc := .ro }
/-- Table 19.8: saturating. -/
def RL_ADDR_CONFLICTS_COUNT : Fam :=
  { off := 0x470050, lsb := 0, width := 32, acc := .ro }
/-- Table 19.8: peer of the last link test. -/
def RL_LT_RESULT_PEER : Fam :=
  { off := 0x470060, lsb := 0, width := 5, acc := .ro }
/-- Table 19.8: result present. -/
def RL_LT_RESULT_VALID : Fam :=
  { off := 0x470060, lsb := 8, width := 1, acc := .ro }
/-- Table 19.8: bits compared in the last test. -/
def RL_LT_BITS_COUNT : Fam :=
  { off := 0x470064, lsb := 0, width := 32, acc := .ro }
/-- Table 19.8: bits in error in the last test. -/
def RL_LT_ERRORS_COUNT : Fam :=
  { off := 0x470068, lsb := 0, width := 32, acc := .ro }
/-- Table 22.2: PCI Vendor ID. -/
def GLOBAL_ID_VENDOR_ID : Fam :=
  { off := 0x0, lsb := 0, width := 16, acc := .ro, reset := 0x1F3C }
/-- Table 22.2: Device ID of the variant in force, Table 00.1. -/
def GLOBAL_ID_DEVICE_ID : Fam :=
  { off := 0x0, lsb := 16, width := 16, acc := .ro }
/-- Table 22.2: silicon step. -/
def GLOBAL_REVISION_REVISION_ID : Fam :=
  { off := 0x4, lsb := 0, width := 8, acc := .ro }
/-- Table 22.2: version of this register map. -/
def GLOBAL_REVISION_MAP_VERSION : Fam :=
  { off := 0x4, lsb := 8, width := 8, acc := .ro, reset := 0x1 }
/-- Table 22.2: JTAG IDCODE (R3). -/
def GLOBAL_IDCODE : Fam :=
  { off := 0x8, lsb := 0, width := 32, acc := .ro, reset := 0x12816A9D }
/-- Table 22.2: benches active, in force (R357, R358). -/
def GLOBAL_CONFIG_BENCH_MASK : Fam :=
  { off := 0xC, lsb := 0, width := 9, acc := .ro }
/-- Table 22.2: coding engine and ledger present. -/
def GLOBAL_CONFIG_CODING_PRESENT : Fam :=
  { off := 0xC, lsb := 9, width := 1, acc := .ro }
/-- Table 22.2: memory layers of the variant. -/
def GLOBAL_CONFIG_LAYERS : Fam :=
  { off := 0xC, lsb := 10, width := 5, acc := .ro }
/-- Table 22.2: user capacity in GiB. -/
def GLOBAL_CONFIG_CAPACITY_GIB : Fam :=
  { off := 0xC, lsb := 16, width := 16, acc := .ro }
/-- Table 22.2: Device Serial Number [31:0]. -/
def GLOBAL_SERIAL_LO_DSN : Fam :=
  { off := 0x10, lsb := 0, width := 32, acc := .ro }
/-- Table 22.2: Device Serial Number [63:32]. -/
def GLOBAL_SERIAL_HI_DSN : Fam :=
  { off := 0x14, lsb := 0, width := 32, acc := .ro }
/-- Table 22.2: the value of object 0x1100:01. -/
def GLOBAL_SUMMARY : Fam :=
  { off := 0x20, lsb := 0, width := 32, acc := .ro }
/-- Table 22.2: ticks since the base die left reset [31:0]. -/
def GLOBAL_SINCE_RESET_LO_TICKS : Fam :=
  { off := 0x24, lsb := 0, width := 32, acc := .ro }
/-- Table 22.2: ticks [47:32]. -/
def GLOBAL_SINCE_RESET_HI_TICKS : Fam :=
  { off := 0x28, lsb := 0, width := 16, acc := .ro }
/-- Table 22.2: request a base-die reset (R474). -/
def GLOBAL_RESET_CTRL_BASE_RESET : Fam :=
  { off := 0x30, lsb := 0, width := 1, acc := .w1s }
/-- Table 22.2: must be 0xB5E7 in the same write. -/
def GLOBAL_RESET_CTRL_KEY : Fam :=
  { off := 0x30, lsb := 16, width := 16, acc := .wo }
/-- Table 22.2: last base-die reset: 0 lantern power-on, 1 PERST#, 2 BASE_RESET, 3 VDD_CORE low, 4 REFCLK loss; others reserved. -/
def GLOBAL_RESET_INFO_CAUSE : Fam :=
  { off := 0x34, lsb := 0, width := 3, acc := .ro, held := .lantern }
/-- Table 22.2: the last base-die reset was preceded by a flush. -/
def GLOBAL_RESET_INFO_FLUSHED : Fam :=
  { off := 0x34, lsb := 3, width := 1, acc := .ro, held := .lantern }
/-- Table 22.2: base-die resets since lantern power-on, saturating. -/
def GLOBAL_RESET_COUNT_COUNT : Fam :=
  { off := 0x38, lsb := 0, width := 32, acc := .ro, held := .lantern }
/-- Table 22.2: for host software; kept across FLR and hot reset, cleared by a base-die reset. -/
def GLOBAL_SCRATCH_DATA : Fam :=
  { off := 0x40, lsb := 0, width := 32, acc := .rw, dims := [(4, 32)] }
/-- Table 22.2: bit *v* − 64: the enabled cause of vector *v* is pending (R476). -/
def GLOBAL_VEC_SUMMARY_VECTORS : Fam :=
  { off := 0x80, lsb := 0, width := 9, acc := .ro }
/-- Table 22.2: bit set while the block has any EVENTS bit set, enabled or not: [0] HOSTLINK, [1] DICTPORT, [2] HAUL_GLOBAL, [3] CODING, [4] SLABCACHE, [5] MEMRAS (CODE_EVENTS or RAS_EVENTS), [6] any BENCH, [7] any SHAFT, [8] REGULATION, [9] TIME, [10] POWER, [11] THERMAL, [12] FAULT, [13] SELFTEST, [14] FUSE, [15] RACKLINK, [16] MGMT. -/
def GLOBAL_BLOCK_PENDING_BLOCKS : Fam :=
  { off := 0x84, lsb := 0, width := 17, acc := .ro }
/-- Table 22.2: bit *n*: BENCH *n* EVENTS not zero. -/
def GLOBAL_BENCH_PENDING_BENCH : Fam :=
  { off := 0x88, lsb := 0, width := 9, acc := .ro }
/-- Table 22.2: bit 16 + *n*: SHAFT *n* EVENTS not zero; REF_EVENTS counts for bench 0. -/
def GLOBAL_BENCH_PENDING_SHAFT : Fam :=
  { off := 0x88, lsb := 16, width := 9, acc := .ro }

/-- The fields of the TIME tables. -/
def tabTIME : List Fam :=
  [TIME_CTRL_PIN_EN, TIME_CTRL_BEACON_EN, TIME_CTRL_BEACON_LOAD, TIME_STATUS_SOURCE, TIME_STATUS_FREE_RUNNING,
   TIME_STATUS_NUMBER_VALID, TIME_NOW_LO, TIME_NOW_HI, TIME_LOAD_LO, TIME_LOAD_HI, TIME_PERIOD,
   TIME_EVENTS_FREE_RUN_SET, TIME_EVENTS_FREE_RUN_CLEAR, TIME_EVENTS_STEP, TIME_EVENTS_DRAIN_START,
   TIME_EVENTS_DRAINED, TIME_EVENTS_DRAIN_OVERRUN, TIME_EVENTS_SCHED_FIRED, TIME_EVENTS_SCHED_LATE,
   TIME_EVENTS_TICK_EARLY, TIME_EVENTS_SHIFT_ENDED, TIME_EVENT_EN_EN, TIME_SHIFT_START_LO, TIME_SHIFT_START_HI,
   TIME_SHIFT_END_LO, TIME_SHIFT_END_HI, TIME_DRAIN_LEAD_LEAD, TIME_SHIFT_CTRL_ARM, TIME_SHIFT_CTRL_INV_AT_END,
   TIME_SHIFT_CTRL_BAD_ARM, TIME_SHIFT_STATUS_STATE, TIME_SHIFT_STATUS_DRAIN_OVERRUN, TIME_SHIFT_STATUS_START_LATE,
   TIME_SCHED_TARGET_LO, TIME_SCHED_TARGET_HI, TIME_SCHED_ARM, TIME_SCHED_FIRED, TIME_SCHED_LATE, TIME_SCHED_SKIPPED,
   TIME_SCHED_PERIOD, TIME_SCHED_ACTION, TIME_SCHED_ARG]
/-- The fields of the CODE tables. -/
def tabCODE : List Fam :=
  [CODE_CODE_CTRL_BANK_HASH, CODE_CODE_CTRL_CLEAR, CODE_CODE_STATUS_PROTECTION, CODE_CODE_STATUS_OFFLINE_COUNT,
   CODE_CODE_STATUS_EMPTY, CODE_CODE_STATUS_CLEAR_BUSY, CODE_CODE_STATUS_REJOIN_BUSY, CODE_CODE_STATUS_SUSPECT_ANY,
   CODE_CODE_STATUS_PLANNED_ANY, CODE_CODE_STATUS_BUDGET_IN_USE, CODE_CODE_STATUS_CLEAR_PENDING,
   CODE_CODE_EVENTS_STATE_CHANGE, CODE_CODE_EVENTS_CLEAR_DONE, CODE_CODE_EVENTS_REJOIN_DONE,
   CODE_CODE_EVENTS_REQ_REFUSED, CODE_CODE_EVENT_EN_EN, CODE_LAYER_STATE_STATE, CODE_LAYER_STATE_CAUSE,
   CODE_LAYER_STATE_REQ_LOST, CODE_LAYER_STATE_REQ_REJOIN, CODE_REJOIN_PTR_SLAB, CODE_CLEAR_PTR_SLAB,
   CODE_PLANNED_ACTIVE, CODE_PLANNED_LAYER, CODE_PLANNED_CHANNEL, CODE_PLANNED_BANK_GROUP, CODE_PLANNED_BANK,
   CODE_PLANNED_ROW_GROUP, CODE_SUSPECT_MARKS]
/-- The fields of the CACHE tables. -/
def tabCACHE : List Fam :=
  [CACHE_CTRL_WT_FORCE, CACHE_CTRL_MERGE_AGE, CACHE_CTRL_MERGE_HIGH, CACHE_STATUS_WT_ACTIVE, CACHE_STATUS_FLUSH_BUSY,
   CACHE_STATUS_HELD_DIRTY, CACHE_STATUS_MERGE_OPEN, CACHE_EVENTS_FLUSH_DONE, CACHE_EVENTS_FLUSH_REFUSED,
   CACHE_EVENTS_UNFLUSHED, CACHE_EVENTS_HELD_DIRTY, CACHE_EVENT_EN_EN, CACHE_FLUSH_CTRL_OP, CACHE_FLUSH_CTRL_SCOPE,
   CACHE_FLUSH_CTRL_LABEL, CACHE_FLUSH_CTRL_GO, CACHE_RANGE_BASE_SLAB, CACHE_RANGE_LIMIT_SLAB,
   CACHE_FLUSH_COUNT_SLABS, CACHE_WAY_DISABLE_WAYS, CACHE_DIRTY_LINES_COUNT, CACHE_TXN_USED_COUNT,
   CACHE_TXN_PEAK_COUNT, CACHE_SRMAP_STATUS_UNFLUSHED, CACHE_SRMAP_STATUS_SET_COUNT, CACHE_SRMAP_STATUS_RELEASE,
   CACHE_HITS_LO, CACHE_HITS_HI, CACHE_MISSES_LO, CACHE_MISSES_HI, CACHE_RMW_COUNT_COUNT, CACHE_POISON_DROPS_COUNT,
   CACHE_LABEL_POLICY_POLICY, CACHE_SRMAP_BITS]
/-- The fields of the BENCH tables. -/
def tabBENCH : List Fam :=
  [BENCH_STATUS_LINK_UP, BENCH_STATUS_SELF_REFRESH, BENCH_STATUS_REFRESH_2X, BENCH_STATUS_LOCAL_TEMP,
   BENCH_STATUS_TR_WARMUP, BENCH_STATUS_PATROL_RUNNING, BENCH_EVENTS_CANARY_FAIL, BENCH_EVENTS_SWEEP_DONE,
   BENCH_EVENTS_PATROL_DROP, BENCH_EVENTS_REFRESH_2X_CHANGE, BENCH_EVENTS_DEBT_FORCED, BENCH_EVENTS_TR_FULL,
   BENCH_EVENT_EN_EN, BENCH_PATROL_CTRL_EN, BENCH_PATROL_CTRL_COUNT_M1, BENCH_PATROL_CTRL_INTERVAL,
   BENCH_PATROL_PTR_SLAB, BENCH_PATROL_PASSES_COUNT, BENCH_PATROL_REPORTS_COUNT, BENCH_PATROL_DROPS_COUNT,
   BENCH_CANARY_BAD_BANKS, BENCH_PAGE_CTRL_IDLE, BENCH_PAGE_CTRL_HIT_CAP, BENCH_TR_CTRL_THRESH, BENCH_TR_COUNT_COUNT,
   BENCH_REFRESH_PEAK_DEBT, BENCH_CANARY_CTRL_TOL, BENCH_CANARY_FAILS_COUNT, BENCH_CANARY_RESULT_PENDING,
   BENCH_TSET_STATUS_ACTIVE_LEVEL, BENCH_TSET_STATUS_SHADOW_LEVEL, BENCH_TSET_STATUS_SWAP_BUSY,
   BENCH_TSET_ACTIVE_VALUE, BENCH_TSET_SHADOW_VALUE, BENCH_REMAP_ADDR_POSITION, BENCH_REMAP_ADDR_K,
   BENCH_REMAP_ADDR_SPARE, BENCH_REMAP_DATA_ROW, BENCH_REMAP_DATA_VALID, BENCH_REMAP_USED_COUNT]
/-- The fields of the SHAFT tables. -/
def tabSHAFT : List Fam :=
  [SHAFT_TRAIN_CTRL_STEP, SHAFT_TRAIN_CTRL_LEVEL, SHAFT_TRAIN_CTRL_GO, SHAFT_LINK_STATUS_STATE,
   SHAFT_LINK_STATUS_WIDTH_DN, SHAFT_LINK_STATUS_WIDTH_UP, SHAFT_LINK_STATUS_STEP_DONE, SHAFT_LINK_STATUS_STEP_FAIL,
   SHAFT_LINK_STATUS_FAIL_CODE, SHAFT_LINK_STATUS_REF_LOCK_BASE, SHAFT_LINK_STATUS_REF_LOCK_BENCH,
   SHAFT_LINK_STATUS_SPARES_DN, SHAFT_LINK_STATUS_SPARES_UP, SHAFT_EVENTS_LANE_FAILED, SHAFT_EVENTS_WIDTH_STEP,
   SHAFT_EVENTS_RECOVERY, SHAFT_EVENTS_OFFLINE, SHAFT_EVENTS_LOCK_LOSS, SHAFT_EVENTS_REPLAY_LIMIT, SHAFT_EVENT_EN_EN,
   SHAFT_TRAIN_CFG_CHECK_LEN, SHAFT_TRAIN_CFG_PRBS_LIMIT, SHAFT_TRAIN_CFG_MIN_EYE, SHAFT_TRAIN_CFG_RECOVERY_LIMIT,
   SHAFT_TRAIN_CFG_AUTO_RECOVER, SHAFT_SEED_SEED_HI, SHAFT_CRC_ERRORS_COUNT, SHAFT_REPLAYS_COUNT,
   SHAFT_RECOVERIES_COUNT, SHAFT_FORCED_IDLES_COUNT, SHAFT_CREDITS_A_RD, SHAFT_CREDITS_A_WR, SHAFT_CREDITS_B_RD,
   SHAFT_CREDITS_B_WR, SHAFT_FAILED_DN_LANES, SHAFT_FAILED_UP_LANES, SHAFT_LANE_PHASE, SHAFT_LANE_SLIP,
   SHAFT_LANE_WORD_MATCH, SHAFT_LANE_MAPPED, SHAFT_LANE_LOGICAL, SHAFT_PRBS_ERR_COUNT, SHAFT_PASS_MAP_STEPS,
   SHAFT_VIOL_COUNT_COUNT, SHAFT_ALIGN_A_P0_PHASE, SHAFT_ALIGN_A_P0_SLIP, SHAFT_ALIGN_A_P1_PHASE,
   SHAFT_ALIGN_A_P1_SLIP, SHAFT_ALIGN_B_P2_PHASE, SHAFT_ALIGN_B_P2_SLIP, SHAFT_ALIGN_B_P3_PHASE,
   SHAFT_ALIGN_B_P3_SLIP, SHAFT_REF_CTRL_DSPREAD_EN, SHAFT_REF_STATUS_REFCLK_SSC, SHAFT_REF_STATUS_DSPREAD_ACTIVE,
   SHAFT_REF_STATUS_DSPREAD_PENDING, SHAFT_REF_EVENTS_DSPREAD_REFUSED, SHAFT_REF_EVENTS_DSPREAD_DROPPED]
/-- The fields of the HOST tables. -/
def tabHOST : List Fam :=
  [HOST_STATUS_SPEED, HOST_STATUS_WIDTH, HOST_STATUS_FLIT_MODE, HOST_STATUS_LINK_UP, HOST_STATUS_STACK_READY,
   HOST_STATUS_SPEED_CEIL, HOST_STATUS_FLR_BUSY, HOST_STATUS_DSTATE, HOST_EVENTS_VIOLATION,
   HOST_EVENTS_VIOLOG_OVERFLOW, HOST_EVENTS_LINK_CHANGE, HOST_EVENTS_FLR_DONE, HOST_EVENTS_STACK_READY_SET,
   HOST_EVENT_EN_EN, HOST_CTRL_TPH_EN, HOST_VIOLOG_STATUS_NEXT, HOST_VIOLOG_STATUS_COUNT, HOST_VIOLOG_STATUS_CLEAR,
   HOST_VIOLOG_OVERFLOW_COUNT, HOST_UR_COUNT_COUNT, HOST_CA_COUNT_COUNT, HOST_EP_SENT_COUNT, HOST_EP_RECEIVED_COUNT,
   HOST_VIOLOG_ADDR_LO_ADDR, HOST_VIOLOG_ADDR_HI_ADDR, HOST_VIOLOG_INFO_TYPE, HOST_VIOLOG_INFO_WRITE,
   HOST_VIOLOG_INFO_BAR, HOST_VIOLOG_INFO_SOURCE, HOST_VIOLOG_INFO_REQUESTER_ID, HOST_VIOLOG_TICK_TICK,
   HOST_PROT_BASE_SLAB, HOST_PROT_LIMIT_SLAB, HOST_PROT_CTRL_EN, HOST_PROT_CTRL_DENY_RD, HOST_PROT_CTRL_DENY_WR,
   HOST_SUBWIN_LABEL_LABEL, HOST_TPH_LABEL_LABEL, HOST_TPH_LABEL_VALID]
/-- The fields of the HAUL tables. -/
def tabHAUL : List Fam :=
  [HAUL_CTRL_EN, HAUL_CTRL_IRQ_EN, HAUL_CTRL_IRQ_ERR, HAUL_STATUS_STATE, HAUL_STATUS_COMMIT_WAIT,
   HAUL_STATUS_BME_WAIT, HAUL_TAIL_INDEX, HAUL_HEAD_INDEX, HAUL_COMP_INDEX, HAUL_COMP_SEQ_SEQ, HAUL_COMMIT,
   HAUL_SH_DESC_BASE_LO_BASE, HAUL_SH_DESC_BASE_HI_BASE, HAUL_SH_COMP_BASE_LO_BASE, HAUL_SH_COMP_BASE_HI_BASE,
   HAUL_SH_CFG_SIZE_LOG2, HAUL_SH_CFG_DESC_SPACE, HAUL_SH_CFG_COMP_SPACE, HAUL_SH_CFG_LABEL, HAUL_SH_CFG_PRIORITY,
   HAUL_ACT_DESC_BASE_LO_BASE, HAUL_ACT_DESC_BASE_HI_BASE, HAUL_ACT_COMP_BASE_LO_BASE, HAUL_ACT_COMP_BASE_HI_BASE,
   HAUL_ACT_CFG_SIZE_LOG2, HAUL_ACT_CFG_DESC_SPACE, HAUL_ACT_CFG_COMP_SPACE, HAUL_ACT_CFG_LABEL,
   HAUL_ACT_CFG_PRIORITY, HAUL_DONE_COUNT_COUNT, HAUL_ERR_COUNT_COUNT, HAUL_SHIFT_END_COUNT_COUNT]
/-- The fields of the HG tables. -/
def tabHG : List Fam :=
  [HG_CTRL_RESET, HG_STATUS_HALTED, HG_STATUS_TAG_MODE, HG_EVENTS_HALT, HG_EVENTS_HALT_MORE, HG_EVENTS_RESET_DONE,
   HG_HALT_ADDR_LO_ADDR, HG_HALT_ADDR_HI_ADDR, HG_HALT_INFO_TYPE, HG_HALT_INFO_KIND, HG_HALT_TICK_TICK,
   HG_OUTSTANDING_COUNT, HG_OUT_PEAK_COUNT, HG_QUARANTINED_COUNT, HG_CHAN_BUSY_CHANNELS]
/-- The fields of the CODING tables. -/
def tabCODING : List Fam :=
  [CODING_CTRL_LEDGER_EN, CODING_STATUS_ACTIVE, CODING_STATUS_THROTTLED, CODING_EVENTS_REPAIRED,
   CODING_EVENTS_UNRECOVERABLE, CODING_EVENTS_LEDGER_POISON, CODING_EVENTS_SOURCE_CHANGED,
   CODING_EVENTS_DIGEST_CHANGED, CODING_EVENT_EN_EN, CODING_LEDGER_BASE_GIB, CODING_LEDGER_SIZE_GIB,
   CODING_LEDGER_LAST_ENTRY, CODING_DIGESTS_COUNT, CODING_ENCODES_COUNT, CODING_VERIFIES_COUNT,
   CODING_REBUILDS_COUNT, CODING_MISMATCHES_COUNT, CODING_FRAGS_WRITTEN_COUNT, CODING_UNRECOVERABLES_COUNT,
   CODING_LEDGER_SKIPS_COUNT, CODING_LEDGER_BAD_STATE_COUNT, CODING_DIGEST_CHANGES_COUNT,
   CODING_SOURCE_CHANGES_COUNT, CODING_BYTES_IN_LO, CODING_BYTES_IN_HI]
/-- The fields of the REG tables. -/
def tabREG : List Fam :=
  [REG_CTRL_WINDOW, REG_STATUS_OVERSUBSCRIBED, REG_STATUS_FIXED_SATURATED, REG_STATUS_FIXED_COUNT,
   REG_EVENTS_OVERSUB_SET, REG_EVENTS_OVERSUB_CLEAR, REG_EVENTS_CEILING_REFUSED, REG_EVENTS_FIXED_SATURATED,
   REG_EVENT_EN_EN, REG_CEILING_UNITS, REG_G_SUM_UNITS, REG_D_NOW_UNITS, REG_FIXED_PREV_UNITS,
   REG_OVERSUB_WINDOWS_COUNT, REG_LABEL_CFG_BUDGET, REG_LABEL_CFG_FIXED, REG_LABEL_USED_UNITS, REG_LABEL_USED_SPILL,
   REG_LABEL_EFF_UNITS, REG_LABEL_EFF_FIXED, REG_LABEL_SPILLS_COUNT]
/-- The fields of the POWER tables. -/
def tabPOWER : List Fam :=
  [POWER_REQ_STATE, POWER_REQ_GO, POWER_CTRL_DOZE_IDLE, POWER_CTRL_PERST_EMBER, POWER_CTRL_RL_LISTEN,
   POWER_CTRL_VID_SETTLE, POWER_STATUS_STATE, POWER_STATUS_LEVEL, POWER_STATUS_SEQ_BUSY, POWER_STATUS_VID,
   POWER_STATUS_LEVEL_LIMIT, POWER_EVENTS_ENTRY_DONE, POWER_EVENTS_ENTRY_REFUSED, POWER_EVENTS_WAKE_ABORT,
   POWER_EVENTS_EXITED, POWER_EVENTS_LEVEL_CHANGE, POWER_EVENT_EN_EN, POWER_PERF_LIMIT, POWER_PERF_FUSE_LIMIT,
   POWER_LAST_ENTRY_TARGET, POWER_LAST_ENTRY_RESULT, POWER_LAST_ENTRY_BLOCK, POWER_LAST_ENTRY_REASON,
   POWER_LAST_ENTRY_SOURCE, POWER_LAST_ENTRY_TICK_TICK, POWER_WAKE_EN_EN, POWER_WAKE_SRC_SRC,
   POWER_WAKE_LATCH_PENDING, POWER_DOMAIN_ON_ON, POWER_REFUSALS_COUNT, POWER_WAKE_ABORTS_COUNT]
/-- The fields of the THERMAL tables. -/
def tabTHERMAL : List Fam :=
  [THERMAL_CTRL_CORR_EN, THERMAL_CTRL_LID_SRC, THERMAL_STATUS_WARNING, THERMAL_STATUS_THROTTLE, THERMAL_STATUS_GUARD,
   THERMAL_STATUS_PROG_OK, THERMAL_STATUS_MODEL_ONLY_ANY, THERMAL_STATUS_START_HOLD, THERMAL_STATUS_THROTTLE_LIMIT,
   THERMAL_STATUS_LID_FALLBACK, THERMAL_EVENTS_WARN_SET, THERMAL_EVENTS_WARN_CLEAR, THERMAL_EVENTS_THROTTLE_SET,
   THERMAL_EVENTS_THROTTLE_CLEAR, THERMAL_EVENTS_SENSOR_SUSPECT, THERMAL_EVENTS_SENSOR_RESTORED,
   THERMAL_EVENTS_PROG_REFUSED, THERMAL_EVENTS_CAP_CHANGE, THERMAL_EVENT_EN_EN, THERMAL_CAP_SETPOINT,
   THERMAL_CAP_IN_FORCE, THERMAL_CAP_CEIL_CEIL, THERMAL_TARGET, THERMAL_PKG_POWER_POWER, THERMAL_GOV_TRIM,
   THERMAL_GOV_CHOSEN, THERMAL_GOV_CTRL_MIN_D, THERMAL_GOV_CTRL_CODE_FLOOR, THERMAL_TOKENS, THERMAL_CODE_LIMIT_RATE,
   THERMAL_LID_TEMP_TEMP, THERMAL_SUSPECT_SENSORS, THERMAL_NODE_TEMP_ESTIMATE, THERMAL_NODE_TEMP_MODEL_ONLY,
   THERMAL_SENSOR_READING, THERMAL_SENSOR_SUSPECT, THERMAL_SENSOR_INVALID, THERMAL_DIE_TEMP_TEMP, THERMAL_GOV_COEF_K,
   THERMAL_GOV_COEF_BASE]
/-- The fields of the RAS tables. -/
def tabRAS : List Fam :=
  [RAS_RAS_CTRL_SCRUB_EN, RAS_RAS_CTRL_AUTO_REPAIR, RAS_RAS_CTRL_AUTO_LOSS, RAS_RAS_CTRL_PAUSED,
   RAS_SCRUB_CTRL_COUNT_M1, RAS_SCRUB_CTRL_INTERVAL, RAS_SCRUB_STATUS_RUNNING, RAS_SCRUB_STATUS_SWEEPING,
   RAS_SCRUB_STATUS_REPAIR_BUSY, RAS_SCRUB_PTR_SLAB, RAS_SCRUB_PASSES_COUNT, RAS_REPORT_QUEUE_COUNT,
   RAS_REPORTS_TAKEN_COUNT, RAS_REPORT_DROPS_COUNT, RAS_THRESH_ROW_THRESH, RAS_THRESH_LOSS_THRESH, RAS_RAS_EVENTS_CE,
   RAS_RAS_EVENTS_UE, RAS_RAS_EVENTS_CELOG_OVERFLOW, RAS_RAS_EVENTS_UELOG_OVERFLOW, RAS_RAS_EVENTS_ROW_REPAIRED,
   RAS_RAS_EVENTS_SPARES_OUT, RAS_RAS_EVENTS_JUDGED_LOST, RAS_RAS_EVENTS_PASS_DONE, RAS_RAS_EVENTS_RECORD_FULL,
   RAS_RAS_EVENT_EN_EN, RAS_CE_TOTAL_LO, RAS_CE_TOTAL_HI, RAS_UE_TOTAL_COUNT, RAS_LINK_MISSING_COUNT,
   RAS_CELOG_STATUS_NEXT, RAS_CELOG_STATUS_COUNT, RAS_CELOG_STATUS_CLEAR, RAS_CELOG_OVERFLOW_COUNT,
   RAS_UELOG_STATUS_NEXT, RAS_UELOG_STATUS_COUNT, RAS_UELOG_STATUS_CLEAR, RAS_UELOG_OVERFLOW_COUNT,
   RAS_REPAIRS_COUNT, RAS_LAYER_CE_COUNT, RAS_CELOG_SLAB_SLAB, RAS_CELOG_SLAB_SOURCE, RAS_CELOG_LAYERS_LAYERS,
   RAS_CELOG_LAYERS_CLASS, RAS_CELOG_LAYERS_ERASURES, RAS_CELOG_COLS_COLUMNS, RAS_CELOG_TICK_TICK,
   RAS_UELOG_SLAB_SLAB, RAS_UELOG_SLAB_SOURCE, RAS_UELOG_INFO_KIND, RAS_UELOG_INFO_REPEAT, RAS_UELOG_INFO_LAYERS,
   RAS_UELOG_POISON_SECTORS, RAS_UELOG_TICK_TICK, RAS_BANK_CE_COUNT, RAS_SPARES_USED_COUNT]
/-- The fields of the FAULT tables. -/
def tabFAULT : List Fam :=
  [FAULT_CTRL_LOCK, FAULT_CTRL_SHADOW, FAULT_STATUS_SAFE, FAULT_STATUS_TRIPPED, FAULT_STATUS_SHADOW_OPEN,
   FAULT_EVENTS_NOTE, FAULT_EVENTS_FENCE, FAULT_EVENTS_SHADOWED, FAULT_EVENTS_INJ_DONE, FAULT_EVENT_EN_EN,
   FAULT_FENCED_TARGETS, FAULT_FENCE_RELEASE_TARGETS, FAULT_FIRST_SOURCE, FAULT_FIRST_VALID, FAULT_FIRST_REACTION,
   FAULT_FIRST_TICK_TICK, FAULT_SAFE_WRITES_COUNT, FAULT_SHADOW_COUNT_COUNT, FAULT_INJ_CTRL_CHECKER,
   FAULT_INJ_CTRL_TARGET, FAULT_INJ_CTRL_DIR, FAULT_INJ_CTRL_DOUBLE, FAULT_INJ_CTRL_COUNT, FAULT_INJ_CTRL_GO,
   FAULT_INJ_STATUS_REMAINING, FAULT_INJ_STATUS_REFUSED, FAULT_STICKY_SOURCES, FAULT_SHADOW_STICKY_SOURCES,
   FAULT_REACT_REACTION]
/-- The fields of the TEST tables. -/
def tabTEST : List Fam :=
  [TEST_CTRL_CS_MEM_EN, TEST_CTRL_CS_WAY_EN, TEST_CTRL_CS_LANE_EN, TEST_CTRL_SERVICE, TEST_STATUS_SERVICE_MODE,
   TEST_STATUS_TEST_BUSY, TEST_STATUS_CS_KIND, TEST_EVENTS_TEST_DONE, TEST_EVENTS_CS_FAIL, TEST_EVENTS_CS_SKIPPED,
   TEST_EVENTS_CAL_DONE, TEST_EVENTS_CAL_APPLIED, TEST_EVENTS_CAL_SAVED, TEST_EVENT_EN_EN,
   TEST_CS_MEM_INTERVAL_TICKS, TEST_CS_WAY_INTERVAL_TICKS, TEST_CS_LANE_INTERVAL_TICKS, TEST_CS_MEM_PTR_LAYER,
   TEST_CS_MEM_PTR_POSITION, TEST_CS_MEM_PTR_ROW_GROUP, TEST_CS_MEM_PASSES_COUNT, TEST_CS_WAY_PTR_WAY,
   TEST_CS_WAY_PTR_WAY_FAILED, TEST_CS_LANE_PTR_BENCH, TEST_CS_LANE_PTR_DIR, TEST_CS_LANE_PTR_LANE,
   TEST_CS_PROGRESS_REBUILD_PTR, TEST_CS_SKIPS_COUNT, TEST_CS_FAILS_COUNT, TEST_CS_RECORD_VALID, TEST_CS_RECORD_KIND,
   TEST_CS_RECORD_LAYER, TEST_CS_RECORD_POSITION, TEST_CS_RECORD_FIRST_ROW, TEST_CS_RECORD_ROWS_ROWS,
   TEST_TEST_CTRL_TEST, TEST_TEST_CTRL_TARGET, TEST_TEST_CTRL_POSITION, TEST_TEST_CTRL_GO, TEST_TEST_STATUS_TEST,
   TEST_TEST_STATUS_RESULT, TEST_TEST_FAIL_INFO_ROW, TEST_TEST_FAIL_INFO_LAYER, TEST_TEST_FAIL_INFO_POSITION,
   TEST_TEST_TICK_TICK, TEST_CAL_CTRL_KIND, TEST_CAL_CTRL_BENCH, TEST_CAL_CTRL_APPLY, TEST_CAL_CTRL_SAVE,
   TEST_CAL_CTRL_RELOAD, TEST_CAL_CTRL_GO, TEST_CAL_STATUS_RESULT, TEST_CAL_STATUS_SHADOW_DIRTY,
   TEST_CAL_STATUS_PENDING_BENCHES, TEST_CAL_STATUS_VALID_A, TEST_CAL_STATUS_VALID_B, TEST_CAL_SEQ_SEQ,
   TEST_CAL_APPLY_TICK_TICK]
/-- The fields of the FUSE tables. -/
def tabFUSE : List Fam :=
  [FUSE_STATUS_SENSED, FUSE_STATUS_BURN_BUSY, FUSE_STATUS_VPROG_OK, FUSE_STATUS_MANUFACTURING,
   FUSE_STATUS_INTEG_FAIL, FUSE_STATUS_OPEN, FUSE_EVENTS_BURN_DONE, FUSE_EVENTS_BURN_FAILED, FUSE_EVENTS_INTEG_FAIL,
   FUSE_EVENTS_OVR_REFUSED, FUSE_EVENT_EN_EN, FUSE_MARGINAL_COUNT_COUNT, FUSE_READ_CTRL_WORD, FUSE_READ_CTRL_SEAL,
   FUSE_READ_CTRL_SOURCE, FUSE_READ_CTRL_REF, FUSE_READ_CTRL_GO, FUSE_READ_LO_DATA, FUSE_READ_HI_DATA,
   FUSE_READ_INFO_ECC, FUSE_READ_INFO_UNCORR, FUSE_READ_INFO_CORRECTED, FUSE_READ_INFO_OVERRIDDEN,
   FUSE_READ_INFO_MARGINAL, FUSE_BURN_UNLOCK_KEY, FUSE_BURN_CTRL_WORD, FUSE_BURN_CTRL_SEAL, FUSE_BURN_CTRL_FORCE,
   FUSE_BURN_CTRL_GO, FUSE_BURN_DATA_LO_DATA, FUSE_BURN_DATA_HI_DATA, FUSE_BURN_STATUS_RESULT, FUSE_BURN_STATUS_WORD,
   FUSE_FORCE_ARM_REGION, FUSE_OVR_CTRL_WORD, FUSE_OVR_CTRL_CLEAR, FUSE_OVR_CTRL_SET, FUSE_OVR_LO, FUSE_OVR_HI,
   FUSE_OVR_STATUS_REFUSED, FUSE_OVR_MAP_WORDS, FUSE_ROLLBACK_COUNTER, FUSE_VARIANT_LO_WORD16,
   FUSE_VARIANT_ID_DEVICE_ID]
/-- The fields of the MGMT tables. -/
def tabMGMT : List Fam :=
  [MGMT_CTRL_CORE_RESET, MGMT_CTRL_LOG_PERSIST, MGMT_STATUS_FW_STATE, MGMT_STATUS_SLOT, MGMT_STATUS_TRIAL,
   MGMT_STATUS_ROLLED_BACK, MGMT_STATUS_BOOTSEL, MGMT_STATUS_UPDATE_STATE, MGMT_EVENTS_RUNNING,
   MGMT_EVENTS_IMAGE_REJECT, MGMT_EVENTS_UPDATE_STAGED, MGMT_EVENTS_UPDATE_FAILED, MGMT_EVENTS_ACTIVATED,
   MGMT_EVENTS_ROLLED_BACK, MGMT_EVENTS_LOG_PERSISTED, MGMT_EVENTS_LOG_LOST, MGMT_EVENT_EN_EN,
   MGMT_FW_VERSION_VERSION, MGMT_FW_ROLLBACK_VER, MGMT_STAGED_VERSION_VERSION, MGMT_UPDATE_INFO_ERROR,
   MGMT_UPDATE_INFO_ACT_MODE, MGMT_UPDATE_INFO_SOURCE, MGMT_UPDATE_BYTES_BYTES, MGMT_WDOG_CTRL_PERIOD,
   MGMT_WDOG_CTRL_EN, MGMT_WDOG_COUNT_TICKS, MGMT_MGMT_RESETS_COUNT, MGMT_LOG_SEQ_SEQ, MGMT_LOG_PERSISTED_SEQ_SEQ,
   MGMT_LOG_LOST_COUNT, MGMT_FLASH_ID_JEDEC_ID, MGMT_FLASH_SIZE_MIB]
/-- The fields of the DICT tables. -/
def tabDICT : List Fam :=
  [DICT_REQ_HDR_HDR, DICT_CTRL_GO, DICT_CTRL_ABORT, DICT_STATUS_BUSY, DICT_STATUS_SERVING, DICT_STATUS_SEG_OPEN,
   DICT_STATUS_HOLDER, DICT_STATUS_LAST_ABORT, DICT_EVENTS_DONE, DICT_EVENTS_TOKEN_CHANGE, DICT_EVENTS_SEIZED,
   DICT_EVENTS_SAVE_FAILED, DICT_EVENT_EN_EN, DICT_RSP_HDR_HDR, DICT_TOKEN_AGE_TICKS, DICT_REQUESTS_COUNT,
   DICT_ABORTS_COUNT, DICT_REQ_DATA_DATA, DICT_RSP_DATA_DATA]
/-- The fields of the RL tables. -/
def tabRL : List Fam :=
  [RL_CTRL_TX_EN, RL_CTRL_STATUS_EN, RL_CTRL_ASSIGN_EN, RL_STATUS_ADDRESS, RL_STATUS_ASSIGNED,
   RL_STATUS_BEACON_THIS_CYCLE, RL_STATUS_EC_CONVERGED, RL_STATUS_TX_ALLOWED, RL_STATUS_RX_STATE,
   RL_STATUS_BEACONS_SEEN, RL_STATUS_LISTEN_ONLY, RL_EVENTS_BEACON_LOST, RL_EVENTS_ADDR_CHANGED, RL_EVENTS_COLLISION,
   RL_EVENTS_CAPTURE, RL_EVENTS_ADDR_CONFLICT, RL_EVENTS_WAKE_RX, RL_EVENTS_LT_DONE, RL_EVENTS_EC_CONVERGED,
   RL_EVENT_EN_EN, RL_GRANT_SLOTS, RL_BEACON_TICK_TICK, RL_EC_RESIDUAL_DB, RL_FRAMES_RX_COUNT, RL_FRAMES_TX_COUNT,
   RL_HDR_CRC_ERRS_COUNT, RL_PAY_CRC_ERRS_COUNT, RL_FALSE_SYNCS_COUNT, RL_CAPTURES_COUNT, RL_COLLISIONS_COUNT,
   RL_BEACONS_LOST_COUNT, RL_RX_OVERRUNS_COUNT, RL_TX_DROPPED_COUNT, RL_BAD_FRAMES_COUNT, RL_SYNC_CORRECTED_COUNT,
   RL_ADDR_CONFLICTS_COUNT, RL_LT_RESULT_PEER, RL_LT_RESULT_VALID, RL_LT_BITS_COUNT, RL_LT_ERRORS_COUNT]
/-- The fields of the GLOBAL tables. -/
def tabGLOBAL : List Fam :=
  [GLOBAL_ID_VENDOR_ID, GLOBAL_ID_DEVICE_ID, GLOBAL_REVISION_REVISION_ID, GLOBAL_REVISION_MAP_VERSION, GLOBAL_IDCODE,
   GLOBAL_CONFIG_BENCH_MASK, GLOBAL_CONFIG_CODING_PRESENT, GLOBAL_CONFIG_LAYERS, GLOBAL_CONFIG_CAPACITY_GIB,
   GLOBAL_SERIAL_LO_DSN, GLOBAL_SERIAL_HI_DSN, GLOBAL_SUMMARY, GLOBAL_SINCE_RESET_LO_TICKS,
   GLOBAL_SINCE_RESET_HI_TICKS, GLOBAL_RESET_CTRL_BASE_RESET, GLOBAL_RESET_CTRL_KEY, GLOBAL_RESET_INFO_CAUSE,
   GLOBAL_RESET_INFO_FLUSHED, GLOBAL_RESET_COUNT_COUNT, GLOBAL_SCRATCH_DATA, GLOBAL_VEC_SUMMARY_VECTORS,
   GLOBAL_BLOCK_PENDING_BLOCKS, GLOBAL_BENCH_PENDING_BENCH, GLOBAL_BENCH_PENDING_SHAFT]

/-- Every field of the register map. -/
def all : List Fam :=
  tabTIME ++ tabCODE ++ tabCACHE ++ tabBENCH ++ tabSHAFT ++ tabHOST ++ tabHAUL ++ tabHG ++ tabCODING ++ tabREG ++ tabPOWER ++ tabTHERMAL ++ tabRAS ++ tabFAULT ++ tabTEST ++ tabFUSE ++ tabMGMT ++ tabDICT ++ tabRL ++ tabGLOBAL

end R

/-- An event bit, its enable and the MSI-X vector it raises (Table 22.1, R475). -/
structure Ev where
  bit : Fam
  en : Fam
  i : Nat
  vec : Nat
deriving DecidableEq, Repr

namespace E

/-- Table 02.3: source left PIN. -/
def TIME_FREE_RUN_SET : Ev := ⟨R.TIME_EVENTS_FREE_RUN_SET, R.TIME_EVENT_EN_EN, 0, 69⟩
/-- Table 02.3: source returned to PIN. -/
def TIME_FREE_RUN_CLEAR : Ev := ⟨R.TIME_EVENTS_FREE_RUN_CLEAR, R.TIME_EVENT_EN_EN, 1, 69⟩
/-- Table 02.3: tick number stepped. -/
def TIME_STEP : Ev := ⟨R.TIME_EVENTS_STEP, R.TIME_EVENT_EN_EN, 2, 69⟩
/-- Table 02.3: drain began. -/
def TIME_DRAIN_START : Ev := ⟨R.TIME_EVENTS_DRAIN_START, R.TIME_EVENT_EN_EN, 3, 69⟩
/-- Table 02.3: drain finished. -/
def TIME_DRAINED : Ev := ⟨R.TIME_EVENTS_DRAINED, R.TIME_EVENT_EN_EN, 4, 69⟩
/-- Table 02.3: end tick reached while draining. -/
def TIME_DRAIN_OVERRUN : Ev := ⟨R.TIME_EVENTS_DRAIN_OVERRUN, R.TIME_EVENT_EN_EN, 5, 69⟩
/-- Table 02.3: an EVENT entry acted. -/
def TIME_SCHED_FIRED : Ev := ⟨R.TIME_EVENTS_SCHED_FIRED, R.TIME_EVENT_EN_EN, 6, 69⟩
/-- Table 02.3: an entry acted with LATE or SKIPPED. -/
def TIME_SCHED_LATE : Ev := ⟨R.TIME_EVENTS_SCHED_LATE, R.TIME_EVENT_EN_EN, 7, 69⟩
/-- Table 02.3: an early edge was not counted. -/
def TIME_TICK_EARLY : Ev := ⟨R.TIME_EVENTS_TICK_EARLY, R.TIME_EVENT_EN_EN, 8, 69⟩
/-- Table 02.3: the shift ended (R42). -/
def TIME_SHIFT_ENDED : Ev := ⟨R.TIME_EVENTS_SHIFT_ENDED, R.TIME_EVENT_EN_EN, 9, 69⟩
/-- Table 03.9: PROTECTION changed. -/
def CODE_STATE_CHANGE : Ev := ⟨R.CODE_CODE_EVENTS_STATE_CHANGE, R.CODE_CODE_EVENT_EN_EN, 0, 65⟩
/-- Table 03.9: stack clear finished. -/
def CODE_CLEAR_DONE : Ev := ⟨R.CODE_CODE_EVENTS_CLEAR_DONE, R.CODE_CODE_EVENT_EN_EN, 1, 65⟩
/-- Table 03.9: rejoin sweep finished. -/
def CODE_REJOIN_DONE : Ev := ⟨R.CODE_CODE_EVENTS_REJOIN_DONE, R.CODE_CODE_EVENT_EN_EN, 2, 65⟩
/-- Table 03.9: a request was refused under R49, R71 or R74. -/
def CODE_REQ_REFUSED : Ev := ⟨R.CODE_CODE_EVENTS_REQ_REFUSED, R.CODE_CODE_EVENT_EN_EN, 3, 65⟩
/-- Table 04.8: operation complete. -/
def CACHE_FLUSH_DONE : Ev := ⟨R.CACHE_EVENTS_FLUSH_DONE, R.CACHE_EVENT_EN_EN, 0, 65⟩
/-- Table 04.8: GO refused under R99. -/
def CACHE_FLUSH_REFUSED : Ev := ⟨R.CACHE_EVENTS_FLUSH_REFUSED, R.CACHE_EVENT_EN_EN, 1, 65⟩
/-- Table 04.8: map set at reset exit (R102). -/
def CACHE_UNFLUSHED : Ev := ⟨R.CACHE_EVENTS_UNFLUSHED, R.CACHE_EVENT_EN_EN, 2, 65⟩
/-- Table 04.8: HELD_DIRTY became 1. -/
def CACHE_HELD_DIRTY : Ev := ⟨R.CACHE_EVENTS_HELD_DIRTY, R.CACHE_EVENT_EN_EN, 3, 65⟩
/-- Table 05.3: a new suspect mark at EMBER exit. -/
def BENCH_CANARY_FAIL : Ev := ⟨R.BENCH_EVENTS_CANARY_FAIL, R.BENCH_EVENT_EN_EN, 0, 65⟩
/-- Table 05.3: CANARY_RESULT became all zero. -/
def BENCH_SWEEP_DONE : Ev := ⟨R.BENCH_EVENTS_SWEEP_DONE, R.BENCH_EVENT_EN_EN, 1, 65⟩
/-- Table 05.3: a patrol report was dropped. -/
def BENCH_PATROL_DROP : Ev := ⟨R.BENCH_EVENTS_PATROL_DROP, R.BENCH_EVENT_EN_EN, 2, 65⟩
/-- Table 05.3: REFRESH_2X changed. -/
def BENCH_REFRESH_2X_CHANGE : Ev := ⟨R.BENCH_EVENTS_REFRESH_2X_CHANGE, R.BENCH_EVENT_EN_EN, 3, 65⟩
/-- Table 05.3: a refresh was forced at debt 8. -/
def BENCH_DEBT_FORCED : Ev := ⟨R.BENCH_EVENTS_DEBT_FORCED, R.BENCH_EVENT_EN_EN, 4, 65⟩
/-- Table 05.3: targeted-refresh task queue full. -/
def BENCH_TR_FULL : Ev := ⟨R.BENCH_EVENTS_TR_FULL, R.BENCH_EVENT_EN_EN, 5, 65⟩
/-- Table 06.6: a lane was failed. -/
def SHAFT_LANE_FAILED : Ev := ⟨R.SHAFT_EVENTS_LANE_FAILED, R.SHAFT_EVENT_EN_EN, 0, 65⟩
/-- Table 06.6: a direction lost width. -/
def SHAFT_WIDTH_STEP : Ev := ⟨R.SHAFT_EVENTS_WIDTH_STEP, R.SHAFT_EVENT_EN_EN, 1, 65⟩
/-- Table 06.6: a recovery completed. -/
def SHAFT_RECOVERY : Ev := ⟨R.SHAFT_EVENTS_RECOVERY, R.SHAFT_EVENT_EN_EN, 2, 65⟩
/-- Table 06.6: the bench went offline (R160). -/
def SHAFT_OFFLINE : Ev := ⟨R.SHAFT_EVENTS_OFFLINE, R.SHAFT_EVENT_EN_EN, 3, 65⟩
/-- Table 06.6: frame lock lost at either end. -/
def SHAFT_LOCK_LOSS : Ev := ⟨R.SHAFT_EVENTS_LOCK_LOSS, R.SHAFT_EVENT_EN_EN, 4, 65⟩
/-- Table 06.6: 8 NAKs of one frame. -/
def SHAFT_REPLAY_LIMIT : Ev := ⟨R.SHAFT_EVENTS_REPLAY_LIMIT, R.SHAFT_EVENT_EN_EN, 5, 65⟩
/-- Table 07.8: a violation was logged. -/
def HOST_VIOLATION : Ev := ⟨R.HOST_EVENTS_VIOLATION, R.HOST_EVENT_EN_EN, 0, 68⟩
/-- Table 07.8: an uncleared entry was overwritten. -/
def HOST_VIOLOG_OVERFLOW : Ev := ⟨R.HOST_EVENTS_VIOLOG_OVERFLOW, R.HOST_EVENT_EN_EN, 1, 68⟩
/-- Table 07.8: SPEED, WIDTH or FLIT_MODE changed. -/
def HOST_LINK_CHANGE : Ev := ⟨R.HOST_EVENTS_LINK_CHANGE, R.HOST_EVENT_EN_EN, 2, 68⟩
/-- Table 07.8: FLR or hot reset completed. -/
def HOST_FLR_DONE : Ev := ⟨R.HOST_EVENTS_FLR_DONE, R.HOST_EVENT_EN_EN, 3, 68⟩
/-- Table 07.8: STACK_READY became 1. -/
def HOST_STACK_READY_SET : Ev := ⟨R.HOST_EVENTS_STACK_READY_SET, R.HOST_EVENT_EN_EN, 4, 68⟩
/-- Table 09.6: a descriptor completed REPAIRED. -/
def CODING_REPAIRED : Ev := ⟨R.CODING_EVENTS_REPAIRED, R.CODING_EVENT_EN_EN, 0, 64⟩
/-- Table 09.6: a descriptor completed UNRECOVERABLE. -/
def CODING_UNRECOVERABLE : Ev := ⟨R.CODING_EVENTS_UNRECOVERABLE, R.CODING_EVENT_EN_EN, 1, 64⟩
/-- Table 09.6: a descriptor completed LEDGER_POISON. -/
def CODING_LEDGER_POISON : Ev := ⟨R.CODING_EVENTS_LEDGER_POISON, R.CODING_EVENT_EN_EN, 2, 64⟩
/-- Table 09.6: a source differed between passes (R223). -/
def CODING_SOURCE_CHANGED : Ev := ⟨R.CODING_EVENTS_SOURCE_CHANGED, R.CODING_EVENT_EN_EN, 3, 64⟩
/-- Table 09.6: a rebuilt digest differed from the ledger (R225). -/
def CODING_DIGEST_CHANGED : Ev := ⟨R.CODING_EVENTS_DIGEST_CHANGED, R.CODING_EVENT_EN_EN, 4, 64⟩
/-- Table 10.2: OVERSUBSCRIBED became 1. -/
def REG_OVERSUB_SET : Ev := ⟨R.REG_EVENTS_OVERSUB_SET, R.REG_EVENT_EN_EN, 0, 68⟩
/-- Table 10.2: OVERSUBSCRIBED became 0. -/
def REG_OVERSUB_CLEAR : Ev := ⟨R.REG_EVENTS_OVERSUB_CLEAR, R.REG_EVENT_EN_EN, 1, 68⟩
/-- Table 10.2: a write was refused under R241 or R242. -/
def REG_CEILING_REFUSED : Ev := ⟨R.REG_EVENTS_CEILING_REFUSED, R.REG_EVENT_EN_EN, 2, 68⟩
/-- Table 10.2: FIXED_SATURATED became 1. -/
def REG_FIXED_SATURATED : Ev := ⟨R.REG_EVENTS_FIXED_SATURATED, R.REG_EVENT_EN_EN, 3, 68⟩
/-- Table 11.8: an entry completed. -/
def POWER_ENTRY_DONE : Ev := ⟨R.POWER_EVENTS_ENTRY_DONE, R.POWER_EVENT_EN_EN, 0, 68⟩
/-- Table 11.8: an entry was refused (R258). -/
def POWER_ENTRY_REFUSED : Ev := ⟨R.POWER_EVENTS_ENTRY_REFUSED, R.POWER_EVENT_EN_EN, 1, 68⟩
/-- Table 11.8: an entry was reversed by a wake (R264). -/
def POWER_WAKE_ABORT : Ev := ⟨R.POWER_EVENTS_WAKE_ABORT, R.POWER_EVENT_EN_EN, 2, 68⟩
/-- Table 11.8: ACTIVE reached after REST or EMBER. -/
def POWER_EXITED : Ev := ⟨R.POWER_EVENTS_EXITED, R.POWER_EVENT_EN_EN, 3, 68⟩
/-- Table 11.8: LEVEL changed. -/
def POWER_LEVEL_CHANGE : Ev := ⟨R.POWER_EVENTS_LEVEL_CHANGE, R.POWER_EVENT_EN_EN, 4, 68⟩
/-- Table 12.5: warning set. -/
def THERMAL_WARN_SET : Ev := ⟨R.THERMAL_EVENTS_WARN_SET, R.THERMAL_EVENT_EN_EN, 0, 67⟩
/-- Table 12.5: warning cleared. -/
def THERMAL_WARN_CLEAR : Ev := ⟨R.THERMAL_EVENTS_WARN_CLEAR, R.THERMAL_EVENT_EN_EN, 1, 67⟩
/-- Table 12.5: throttle set. -/
def THERMAL_THROTTLE_SET : Ev := ⟨R.THERMAL_EVENTS_THROTTLE_SET, R.THERMAL_EVENT_EN_EN, 2, 67⟩
/-- Table 12.5: throttle cleared. -/
def THERMAL_THROTTLE_CLEAR : Ev := ⟨R.THERMAL_EVENTS_THROTTLE_CLEAR, R.THERMAL_EVENT_EN_EN, 3, 67⟩
/-- Table 12.5: a sensor became suspect. -/
def THERMAL_SENSOR_SUSPECT : Ev := ⟨R.THERMAL_EVENTS_SENSOR_SUSPECT, R.THERMAL_EVENT_EN_EN, 4, 67⟩
/-- Table 12.5: a suspect sensor became valid. -/
def THERMAL_SENSOR_RESTORED : Ev := ⟨R.THERMAL_EVENTS_SENSOR_RESTORED, R.THERMAL_EVENT_EN_EN, 5, 67⟩
/-- Table 12.5: TEMP_WINDOW under R282. -/
def THERMAL_PROG_REFUSED : Ev := ⟨R.THERMAL_EVENTS_PROG_REFUSED, R.THERMAL_EVENT_EN_EN, 6, 67⟩
/-- Table 12.5: cap in force changed. -/
def THERMAL_CAP_CHANGE : Ev := ⟨R.THERMAL_EVENTS_CAP_CHANGE, R.THERMAL_EVENT_EN_EN, 7, 67⟩
/-- Table 13.4: spoil-log entry written. -/
def RAS_CE : Ev := ⟨R.RAS_RAS_EVENTS_CE, R.RAS_RAS_EVENT_EN_EN, 0, 65⟩
/-- Table 13.4: uncorrectable decode. -/
def RAS_UE : Ev := ⟨R.RAS_RAS_EVENTS_UE, R.RAS_RAS_EVENT_EN_EN, 1, 65⟩
/-- Table 13.4: uncleared spoil-log entry overwritten. -/
def RAS_CELOG_OVERFLOW : Ev := ⟨R.RAS_RAS_EVENTS_CELOG_OVERFLOW, R.RAS_RAS_EVENT_EN_EN, 2, 65⟩
/-- Table 13.4: uncleared UE-log entry overwritten. -/
def RAS_UELOG_OVERFLOW : Ev := ⟨R.RAS_RAS_EVENTS_UELOG_OVERFLOW, R.RAS_RAS_EVENT_EN_EN, 3, 65⟩
/-- Table 13.4: repair completed. -/
def RAS_ROW_REPAIRED : Ev := ⟨R.RAS_RAS_EVENTS_ROW_REPAIRED, R.RAS_RAS_EVENT_EN_EN, 4, 65⟩
/-- Table 13.4: candidate bank has no spare. -/
def RAS_SPARES_OUT : Ev := ⟨R.RAS_RAS_EVENTS_SPARES_OUT, R.RAS_RAS_EVENT_EN_EN, 5, 65⟩
/-- Table 13.4: layer judged lost. -/
def RAS_JUDGED_LOST : Ev := ⟨R.RAS_RAS_EVENTS_JUDGED_LOST, R.RAS_RAS_EVENT_EN_EN, 6, 65⟩
/-- Table 13.4: walk pass completed. -/
def RAS_PASS_DONE : Ev := ⟨R.RAS_RAS_EVENTS_PASS_DONE, R.RAS_RAS_EVENT_EN_EN, 7, 65⟩
/-- Table 13.4: field-repair area full. -/
def RAS_RECORD_FULL : Ev := ⟨R.RAS_RAS_EVENTS_RECORD_FULL, R.RAS_RAS_EVENT_EN_EN, 8, 65⟩
/-- Table 14.6: a NOTE effect occurred. -/
def FAULT_NOTE : Ev := ⟨R.FAULT_EVENTS_NOTE, R.FAULT_EVENT_EN_EN, 0, 66⟩
/-- Table 14.6: a FENCE acted. -/
def FAULT_FENCE : Ev := ⟨R.FAULT_EVENTS_FENCE, R.FAULT_EVENT_EN_EN, 1, 66⟩
/-- Table 14.6: a detection was shadowed. -/
def FAULT_SHADOWED : Ev := ⟨R.FAULT_EVENTS_SHADOWED, R.FAULT_EVENT_EN_EN, 2, 66⟩
/-- Table 14.6: injection count reached zero. -/
def FAULT_INJ_DONE : Ev := ⟨R.FAULT_EVENTS_INJ_DONE, R.FAULT_EVENT_EN_EN, 3, 66⟩
/-- Table 15.4: a test ended. -/
def TEST_TEST_DONE : Ev := ⟨R.TEST_EVENTS_TEST_DONE, R.TEST_EVENT_EN_EN, 0, 72⟩
/-- Table 15.4: a core sample found a failure. -/
def TEST_CS_FAIL : Ev := ⟨R.TEST_EVENTS_CS_FAIL, R.TEST_EVENT_EN_EN, 1, 72⟩
/-- Table 15.4: a CS_MEM sample was not admitted. -/
def TEST_CS_SKIPPED : Ev := ⟨R.TEST_EVENTS_CS_SKIPPED, R.TEST_EVENT_EN_EN, 2, 72⟩
/-- Table 15.4: a calibration run ended. -/
def TEST_CAL_DONE : Ev := ⟨R.TEST_EVENTS_CAL_DONE, R.TEST_EVENT_EN_EN, 3, 72⟩
/-- Table 15.4: shadow values brought into force. -/
def TEST_CAL_APPLIED : Ev := ⟨R.TEST_EVENTS_CAL_APPLIED, R.TEST_EVENT_EN_EN, 4, 72⟩
/-- Table 15.4: a save ended. -/
def TEST_CAL_SAVED : Ev := ⟨R.TEST_EVENTS_CAL_SAVED, R.TEST_EVENT_EN_EN, 5, 72⟩
/-- Table 16.7: a burn ended DONE. -/
def FUSE_BURN_DONE : Ev := ⟨R.FUSE_EVENTS_BURN_DONE, R.FUSE_EVENT_EN_EN, 0, 72⟩
/-- Table 16.7: a burn ended with any other result. -/
def FUSE_BURN_FAILED : Ev := ⟨R.FUSE_EVENTS_BURN_FAILED, R.FUSE_EVENT_EN_EN, 1, 72⟩
/-- Table 16.7: a region failed at the last sensing. -/
def FUSE_INTEG_FAIL : Ev := ⟨R.FUSE_EVENTS_INTEG_FAIL, R.FUSE_EVENT_EN_EN, 2, 72⟩
/-- Table 16.7: an override was refused. -/
def FUSE_OVR_REFUSED : Ev := ⟨R.FUSE_EVENTS_OVR_REFUSED, R.FUSE_EVENT_EN_EN, 3, 72⟩
/-- Table 17.8: firmware reached RUNNING. -/
def MGMT_RUNNING : Ev := ⟨R.MGMT_EVENTS_RUNNING, R.MGMT_EVENT_EN_EN, 0, 72⟩
/-- Table 17.8: an image was refused at boot. -/
def MGMT_IMAGE_REJECT : Ev := ⟨R.MGMT_EVENTS_IMAGE_REJECT, R.MGMT_EVENT_EN_EN, 1, 72⟩
/-- Table 17.8: update staged. -/
def MGMT_UPDATE_STAGED : Ev := ⟨R.MGMT_EVENTS_UPDATE_STAGED, R.MGMT_EVENT_EN_EN, 2, 72⟩
/-- Table 17.8: update failed. -/
def MGMT_UPDATE_FAILED : Ev := ⟨R.MGMT_EVENTS_UPDATE_FAILED, R.MGMT_EVENT_EN_EN, 3, 72⟩
/-- Table 17.8: staged image running. -/
def MGMT_ACTIVATED : Ev := ⟨R.MGMT_EVENTS_ACTIVATED, R.MGMT_EVENT_EN_EN, 4, 72⟩
/-- Table 17.8: trial failed (R375). -/
def MGMT_ROLLED_BACK : Ev := ⟨R.MGMT_EVENTS_ROLLED_BACK, R.MGMT_EVENT_EN_EN, 5, 72⟩
/-- Table 17.8: a persistence ended. -/
def MGMT_LOG_PERSISTED : Ev := ⟨R.MGMT_EVENTS_LOG_PERSISTED, R.MGMT_EVENT_EN_EN, 6, 72⟩
/-- Table 17.8: an unpersisted entry was overwritten. -/
def MGMT_LOG_LOST : Ev := ⟨R.MGMT_EVENTS_LOG_LOST, R.MGMT_EVENT_EN_EN, 7, 72⟩
/-- Table 18.5: response ready. -/
def DICT_DONE : Ev := ⟨R.DICT_EVENTS_DONE, R.DICT_EVENT_EN_EN, 0, 70⟩
/-- Table 18.5: token holder changed. -/
def DICT_TOKEN_CHANGE : Ev := ⟨R.DICT_EVENTS_TOKEN_CHANGE, R.DICT_EVENT_EN_EN, 1, 70⟩
/-- Table 18.5: token seized (R389). -/
def DICT_SEIZED : Ev := ⟨R.DICT_EVENTS_SEIZED, R.DICT_EVENT_EN_EN, 2, 70⟩
/-- Table 18.5: a saved-value write failed. -/
def DICT_SAVE_FAILED : Ev := ⟨R.DICT_EVENTS_SAVE_FAILED, R.DICT_EVENT_EN_EN, 3, 70⟩
/-- Table 19.8: a cycle without a valid beacon. -/
def RL_BEACON_LOST : Ev := ⟨R.RL_EVENTS_BEACON_LOST, R.RL_EVENT_EN_EN, 0, 71⟩
/-- Table 19.8: ADDRESS changed. -/
def RL_ADDR_CHANGED : Ev := ⟨R.RL_EVENTS_ADDR_CHANGED, R.RL_EVENT_EN_EN, 1, 71⟩
/-- Table 19.8: R414. -/
def RL_COLLISION : Ev := ⟨R.RL_EVENTS_COLLISION, R.RL_EVENT_EN_EN, 2, 71⟩
/-- Table 19.8: R431. -/
def RL_CAPTURE : Ev := ⟨R.RL_EVENTS_CAPTURE, R.RL_EVENT_EN_EN, 3, 71⟩
/-- Table 19.8: R430. -/
def RL_ADDR_CONFLICT : Ev := ⟨R.RL_EVENTS_ADDR_CONFLICT, R.RL_EVENT_EN_EN, 4, 71⟩
/-- Table 19.8: WAKE frame accepted. -/
def RL_WAKE_RX : Ev := ⟨R.RL_EVENTS_WAKE_RX, R.RL_EVENT_EN_EN, 5, 71⟩
/-- Table 19.8: link test result recorded. -/
def RL_LT_DONE : Ev := ⟨R.RL_EVENTS_LT_DONE, R.RL_EVENT_EN_EN, 6, 71⟩
/-- Table 19.8: EC_CONVERGED became 1. -/
def RL_EC_CONVERGED : Ev := ⟨R.RL_EVENTS_EC_CONVERGED, R.RL_EVENT_EN_EN, 7, 71⟩

/-- Every event bit that has an enable. -/
def all : List Ev :=
  [TIME_FREE_RUN_SET, TIME_FREE_RUN_CLEAR, TIME_STEP, TIME_DRAIN_START, TIME_DRAINED, TIME_DRAIN_OVERRUN,
   TIME_SCHED_FIRED, TIME_SCHED_LATE, TIME_TICK_EARLY, TIME_SHIFT_ENDED, CODE_STATE_CHANGE, CODE_CLEAR_DONE,
   CODE_REJOIN_DONE, CODE_REQ_REFUSED, CACHE_FLUSH_DONE, CACHE_FLUSH_REFUSED, CACHE_UNFLUSHED, CACHE_HELD_DIRTY,
   BENCH_CANARY_FAIL, BENCH_SWEEP_DONE, BENCH_PATROL_DROP, BENCH_REFRESH_2X_CHANGE, BENCH_DEBT_FORCED, BENCH_TR_FULL,
   SHAFT_LANE_FAILED, SHAFT_WIDTH_STEP, SHAFT_RECOVERY, SHAFT_OFFLINE, SHAFT_LOCK_LOSS, SHAFT_REPLAY_LIMIT,
   HOST_VIOLATION, HOST_VIOLOG_OVERFLOW, HOST_LINK_CHANGE, HOST_FLR_DONE, HOST_STACK_READY_SET, CODING_REPAIRED,
   CODING_UNRECOVERABLE, CODING_LEDGER_POISON, CODING_SOURCE_CHANGED, CODING_DIGEST_CHANGED, REG_OVERSUB_SET,
   REG_OVERSUB_CLEAR, REG_CEILING_REFUSED, REG_FIXED_SATURATED, POWER_ENTRY_DONE, POWER_ENTRY_REFUSED,
   POWER_WAKE_ABORT, POWER_EXITED, POWER_LEVEL_CHANGE, THERMAL_WARN_SET, THERMAL_WARN_CLEAR, THERMAL_THROTTLE_SET,
   THERMAL_THROTTLE_CLEAR, THERMAL_SENSOR_SUSPECT, THERMAL_SENSOR_RESTORED, THERMAL_PROG_REFUSED, THERMAL_CAP_CHANGE,
   RAS_CE, RAS_UE, RAS_CELOG_OVERFLOW, RAS_UELOG_OVERFLOW, RAS_ROW_REPAIRED, RAS_SPARES_OUT, RAS_JUDGED_LOST,
   RAS_PASS_DONE, RAS_RECORD_FULL, FAULT_NOTE, FAULT_FENCE, FAULT_SHADOWED, FAULT_INJ_DONE, TEST_TEST_DONE,
   TEST_CS_FAIL, TEST_CS_SKIPPED, TEST_CAL_DONE, TEST_CAL_APPLIED, TEST_CAL_SAVED, FUSE_BURN_DONE, FUSE_BURN_FAILED,
   FUSE_INTEG_FAIL, FUSE_OVR_REFUSED, MGMT_RUNNING, MGMT_IMAGE_REJECT, MGMT_UPDATE_STAGED, MGMT_UPDATE_FAILED,
   MGMT_ACTIVATED, MGMT_ROLLED_BACK, MGMT_LOG_PERSISTED, MGMT_LOG_LOST, DICT_DONE, DICT_TOKEN_CHANGE, DICT_SEIZED,
   DICT_SAVE_FAILED, RL_BEACON_LOST, RL_ADDR_CHANGED, RL_COLLISION, RL_CAPTURE, RL_ADDR_CONFLICT, RL_WAKE_RX,
   RL_LT_DONE, RL_EC_CONVERGED]

end E

end Sys2Proof.Machine
end

