-- ==== Sys2Proof/Machine/State.lean ====
section
/-! DEFINITION. The state of the device as plain data, its stop reasons, and the state after reset. -/
namespace Sys2Proof.Machine

/-! ### Rack time (Rack time, ticks and shifts) -/

/-- Rack-time state beyond the TIME registers. Instants are nanoseconds of the lantern clock. -/
structure TimeSt where
  /-- R28: the 48-bit rack tick number, TIME.NOW. -/
  now : Nat
  /-- Instant of the last counted tick (R23, R25). -/
  lastTick : Nat
  /-- Instant of the last edge seen on TICK. -/
  lastEdge : Nat
  /-- Instant at which the flywheel's next tick falls (R26). -/
  nextFly : Nat
  /-- Consecutive well-spaced edges while free-running, 0 to 8 (R26). -/
  train : Nat
  /-- R29: the number that the next counted tick takes. -/
  load : Option Nat
  /-- Ticks since the last counted edge and since the last beacon (R27). -/
  pinSilent : Nat
  beaconSilent : Nat
  /-- R35: schedule entries armed since the last counted tick. -/
  freshSched : List Nat
  /-- R37: the announcement or the end tick changed since the last counted tick. -/
  freshShift : Bool
  /-- R38: a shift start that waits for ACTIVE or for the end of the previous drain. -/
  startDeferred : Bool
  /-- GLOBAL.SINCE_RESET: ticks since the base die left reset (Table 22.2). -/
  sinceReset : Nat
  /-- The slices granted at this tick: 0 scrub, 1 patrol, 2 CS_MEM, 3 CS_WAY, 4 CS_LANE. -/
  sliced : List Nat
  /-- Object 0x1201:07: drain overruns since its last read; and whether the drain in progress has overrun (R41). -/
  overruns : Nat
  overran : Bool
  /-- R26: the last tick counted was the flywheel's or a missing one. -/
  flew : Bool
  /-- R27: nanoseconds by which the flywheel still has to fall back to meet the beacon; negative, to gain. -/
  phase : Int
  /-- R39: the drain in progress has begun steps 3 and 4. -/
  flushing : Bool
deriving DecidableEq, Repr

/-! ### The stack's DRAM and the slab code -/

/-- A valid remap entry (R134): addressable row `row` of bank position `pos` on `layer` is redirected to `spare`. -/
structure Remap where
  layer : Nat
  pos : Nat
  spare : Nat
  row : Nat
deriving DecidableEq, Repr

/-- What a stack clear left (R74): every slab from `base` to below `limit` written as cleared, with generation `gen0` plus its
number, on the layers of `layers`, at the places that the bank hash and the remaps of that time gave, for a part with `nb` benches.
With `march`, what MARCH_FULL left in every portion of those layers (Table 15.1). -/
structure ClearSeg where
  march : Bool
  nb : Nat
  layers : Nat
  base : Nat
  limit : Nat
  gen0 : Nat
  hash : Bool
  remaps : List Remap
deriving DecidableEq, Repr

/-- A slab-level operation's purpose (R92). -/
inductive OpKind where
  /-- a fetch that fills the slab's line (Table 04.4) -/
  | fill
  /-- a fetch that is delivered without being installed -/
  | stream
  /-- read-modify-write of the slab's dirty line or of its merge-buffer entry (R88) -/
  | rmwLine | rmwMerge
  /-- R96: to-media verify of the bytes the write supplied -/
  | verify (chan : Nat) (off : Nat) (bytes : List (Option Byte))
  /-- a fetch of an engine at the internal port -/
  | job (j : Job)
deriving DecidableEq, Repr

/-- A slab-level operation in flight; at most one per slab (R92). The erasure map is sampled at issue (R61). -/
structure SlabOp where
  slab : Nat
  kind : OpKind
  /-- Layers whose portion is of class MAPPED. -/
  mapped : Nat
  /-- Layers whose portion is of class MISSING already. -/
  missing : Nat
  /-- Layers whose bench was in RECOVERY or HOLD at issue (R159, R297). -/
  linkDown : Nat
  /-- SOURCE of any log entry (Table 13.4). -/
  source : Nat
  label : Nat
  /-- The request for which it was started, when there is one. -/
  req : Option Nat
  /-- Portions that RDATA frames have brought. -/
  arrived : List Delivery
  /-- R143: the tag of its request records. -/
  tag : Nat
deriving DecidableEq, Repr

/-! ### The slab cache and the merge buffer -/

/-- A slab-cache line (Table 04.1). -/
structure Line where
  slab : Nat
  way : Nat
  valid : Nat
  dirty : Nat
  poison : Nat
  label : Nat
  /-- SOURCE code (Table 13.4) of the request that last wrote the line. -/
  source : Nat
  data : List Byte
deriving DecidableEq, Repr

/-- An open merge-buffer entry (R86). -/
structure MEntry where
  slab : Nat
  label : Nat
  /-- SOURCE code (Table 13.4) of the write that opened it. -/
  source : Nat
  age : Nat
  bytes : List (Option Byte)
  /-- R89: per write into the entry, the sectors it covered in part. -/
  parts : List Nat
  /-- Sectors that a double-bit error of the merge SRAM has spoilt, poisoned when the entry closes (FS044). -/
  poison : Nat
  /-- Its read-modify-write is in flight or waits for the slab lock. -/
  closing : Bool
deriving DecidableEq, Repr

/-- A running maintenance operation (R97): the dirty lines and the entries that matched when GO was written and are not yet
written, and every line that matched. -/
structure FlushOp where
  op : Nat
  lines : List Nat
  entries : List Nat
  matched : List Nat
deriving DecidableEq, Repr

/-- A BAR2 read in progress: its request and pitch label, and per slab-wide part the request identifier and the data with its poisoned
sectors once delivered (R171, R179). -/
structure HostRdSt where
  req : HostRd
  label : Nat
  parts : List (Nat × Option (List Byte × Nat))
deriving DecidableEq, Repr

/-- A slab operation's record at the shaft request queues of the base die, for every bench alike (R143, R240). -/
structure TxRec where
  slab : Nat
  write : Bool
  label : Nat
  /-- R241: a sweep of the scrub engine. -/
  sweep : Bool
  tag : Nat
  /-- A write's portions, layer by layer. -/
  portions : List (List Byte)
deriving DecidableEq, Repr

/-- The slab cache's state beyond its registers. -/
structure CacheSt where
  lines : List Line
  /-- Tree pseudo-LRU bits per set; a set not listed has all of them 0. -/
  plru : List (Nat × Nat)
  /-- Open merge-buffer entries, oldest first. -/
  merge : List MEntry
  /-- Requests presented to the ports and not yet accepted, oldest first. -/
  port : List CReq
  /-- Requests accepted and not yet performed, oldest first: the transaction table (R80). -/
  wait : List CReq
  ops : List SlabOp
  /-- Operations that wait for their slab's lock, oldest first (R92). -/
  opq : List SlabOp
  /-- R143, R240: records that wait at the shaft request queues, oldest first, and per class the label whose record was sent
  last. -/
  reqs : List TxRec
  reqRr : List Nat
  /-- Per port and class, the label served last (R240): 3 × port + class. -/
  rr : List Nat
  flush : Option FlushOp
  hits : Nat
  misses : Nat
  nextId : Nat
  reads : List HostRdSt
  /-- The transaction tag of the next slab operation (R143). -/
  nextTag : Nat
deriving DecidableEq, Repr

/-! ### Errors, scrubbing and repair -/

/-- A row-watch entry (R306), oldest first in its table. -/
structure RowWatch where
  layer : Nat
  pos : Nat
  row : Nat
  count : Nat
deriving DecidableEq, Repr

/-- A charge of the last 1,000 ticks (R313). -/
structure Charge where
  layer : Nat
  pos : Nat
  tick : Nat
deriving DecidableEq, Repr

/-- A queued patrol report (R305): check 1 CRC, 2 ACHK, 3 ROLE. -/
structure Report where
  slab : Nat
  layers : Nat
  check : Nat
deriving DecidableEq, Repr

/-- A row repair in progress (R308): the slabs fetched so far with their decoded data and poison, and whether the remap
has been written. -/
structure Repair where
  layer : Nat
  pos : Nat
  row : Nat
  spare : Nat
  got : List (Nat × List Byte × Nat)
  remapped : Bool
  /-- The row's writes have been made; the repair waits for REG_WR or a retry otherwise. -/
  failed : Bool
deriving DecidableEq, Repr

/-- A field-repair record (Table 13.2). -/
structure FieldRec where
  type : Nat
  seq : Nat
  unit : Nat
  a : Nat
  b : Nat
  spare : Nat
deriving DecidableEq, Repr

/-- State of the RAS block beyond its registers, with the field-repair records of firmware and flash. -/
structure RasSt where
  ceTotal : Nat
  watch : List RowWatch
  charges : List Charge
  reports : List Report
  /-- R75: the next slab of the stack clear that runs, 0 to 2^27. -/
  clearNext : Option Nat
  /-- R73: the next slab of the rejoin sweep, 0 to 2^27. -/
  rejoinNext : Option Nat
  /-- R130: bank positions being swept, each with the next of its 2^21 slabs. -/
  sweeps : List (Nat × Nat)
  repair : Option Repair
  /-- R303: the scrub slice in progress: patrol reports and walk slabs left to it. -/
  slice : Option (Nat × Nat)
  /-- Slabs logged UNCORRECTABLE with the tick of the log (R305). -/
  ueSeen : List (Nat × Nat)
  /-- R58: the write-generation counter. -/
  gen : Nat
  /-- R267, R450: STATE and CAUSE of each layer as saved in the lantern domain, and SUSPECT_ANY. -/
  savedLayers : List (Nat × Nat)
  savedSuspect : Bool
  /-- R310: the two halves of the field-repair area: the 16 bytes of each place programmed since the erase, in order. -/
  recA : List (List Byte)
  recB : List (List Byte)
  /-- Causes of R311 not yet appended, oldest first, and records held for want of room. -/
  recDue : List FieldRec
deriving DecidableEq, Repr

/-! ### Benches -/

/-- A queued portion request of a channel controller (Table 06.4, R111). -/
structure BReq where
  /-- Location bits [26:0] as sent, after the bank hash. -/
  loc : Nat
  write : Bool
  cls : Nat
  layers : Nat
  tag : Nat
  /-- Tick at which it entered its queue, and its place in the order of arrival at the controller. -/
  since : Nat
  ord : Nat
  /-- Portion bytes (144) for the lower and the upper layer of a write. -/
  lower : List Byte
  upper : List Byte
deriving DecidableEq, Repr

/-- A targeted-refresh task (R117). -/
structure TrTask where
  bank : Nat
  group : Nat
  /-- Rows still to be refreshed, and whether the task is 8 µs old. -/
  left : Nat
  aged : Bool
deriving DecidableEq, Repr

/-- One channel controller. Per-bank lists are indexed by 4 × bank group + bank. -/
structure ChanCtl where
  reads : List BReq
  writes : List BReq
  /-- R111: the batch in hand is writes. -/
  writing : Bool
  /-- Open row of each bank. -/
  openRow : List (Option Nat)
  /-- Row hits served in a row (R112). -/
  hits : List Nat
  /-- Refreshes owed, negative when pulled in (R116). -/
  debt : List Int
  /-- The next arrival's place in the order. -/
  nextOrd : Nat
  /-- R117: activation counters that are not zero: (bank, row-group, count). -/
  acts : List (Nat × Nat × Nat)
  tasks : List TrTask
deriving DecidableEq, Repr

/-- What a bench does once its accepted requests have been performed: HOLD, PAUSE to a level, or RETAIN (R123, R126, R161). -/
inductive Drain where
  | hold
  | pause (l : Nat)
  | retain
deriving DecidableEq, Repr

/-- A bench: its core and channel controllers, beyond its registers. -/
structure BenchSt where
  chA : ChanCtl
  chB : ChanCtl
  /-- Layers in self-refresh, and in canary mode (R128). -/
  selfRefresh : Bool
  canaryMode : Bool
  /-- R126: an EMBER entry's canaries are being written; R129: the exit check is still to be reported. -/
  retaining : Bool
  canaryDue : Bool
  /-- R115: doubled refresh; R118: the targeted-refresh warm-up. -/
  twice : Bool
  warm : Bool
  /-- Issue stopped for a level-change pause (R123) and the level the pause goes to. -/
  paused : Option Nat
  /-- The bench performs its accepted requests before it goes on to this. -/
  drain : Option Drain
  /-- R115: model estimates of the last TEMP frame, in 1/16 °C above -64 °C; none since the bench relies on its diodes. -/
  est : Option (Nat × Nat)
  /-- Diode readings of the two layers, in the same units; none is out of range. -/
  diode : Option Nat × Option Nat
  /-- R113: issue tokens left in this tick. -/
  tokens : Nat
  /-- R120: patrol pointer, passes, reports sent and drops, in the bench core. -/
  patrolPtr : Nat
  patrolPasses : Nat
  patrolSent : Nat
  patrolDrops : Nat
  /-- Slabs left in the slice granted (R120). -/
  patrolLeft : Nat
  /-- R122: unsent reports: (slab, upper layer, check). -/
  reports : List (Nat × Bool × Nat)
  /-- R134: the valid remap entries, and those that are not valid and name a row other than 0. -/
  remaps : List Remap
  idleRows : List Remap
  /-- R134, R312: firmware has loaded the remap table. -/
  tabled : Bool
deriving DecidableEq, Repr

/-! ### Shaft links -/

/-- A lane's transmitter in service: the scrambler, the run of identical line bits that it is in, and its debt
(R147 to R149). -/
structure LaneTx where
  scr : Nat
  bit : Bool
  run : Nat
  debt : Nat
deriving DecidableEq, Repr

/-- One direction of a shaft link, as its transmitter and its receiver hold it (R144 to R150). -/
structure ShaftDir where
  /-- R146: next sequence number of the transmitter, and of the receiver; and whether the receiver has accepted a frame. -/
  txSeq : Nat
  rxSeq : Nat
  seen : Bool
  /-- Unacknowledged frames: (sequence number, type, frame), oldest first; at most 64. -/
  replay : List (Nat × Nat × Frame)
  /-- The receiver has set NAK and discards frames until REPLAY. -/
  nak : Bool
  /-- After a recovery: frames that the replay repeats and the receiver discards. -/
  dup : Nat
  /-- Consecutive CRC failures; consecutive NAKs of one sequence number and that number. -/
  crcRun : Nat
  nakRun : Nat
  nakSeq : Nat
  /-- Frames that wait for room in the replay buffer: type, frame and, for a data frame, its side bytes. -/
  wait : List (Nat × Frame × Option (List Byte))
  /-- R144: side bytes of the data frames sent since the last SIDE frame. -/
  group : List (List Byte)
  /-- R144: data frames held until their SIDE frame: (type, frame). -/
  held : List (Nat × Frame)
  /-- The transmitter of each physical lane; none before SCR_SYNC has loaded the seeds. -/
  lanes : List LaneTx
  /-- R149: the receiver's debt per physical lane; a lane not listed has none. -/
  debt : List (Nat × Nat)
  /-- R157: stuffing violations per lane in the current tick. -/
  viol : List (Nat × Nat)
  /-- R163: stuffing violations per lane that the bench has not told the base die yet. -/
  violNew : List (Nat × Nat)
deriving DecidableEq, Repr

/-- Who makes a register access over the shaft: a row repair, the load of a shadow timing set (R108) or of a
bench's tables (R134, R312), the start of a march engine (R331), another write, or word `i` of
register read `id`. -/
inductive RegAsker where
  | repair
  | tset
  | load
  | march
  | write
  | read (id i : Nat)
deriving DecidableEq, Repr

/-- A register access over the shaft (R141): word index, write, data, and who makes it. -/
structure RegAcc where
  word : Nat
  write : Bool
  data : Nat
  asker : RegAsker
deriving DecidableEq, Repr

/-- A record that the base die has sent to a bench and that has not been answered for: the queue of R111 it is for, the layers that
it commands, for a read those whose portions are still to come, a write's portions, and whether it has left that queue. -/
structure SentRec where
  tag : Nat
  slab : Nat
  write : Bool
  port : Nat
  layers : Nat
  lower : List Byte
  upper : List Byte
  left : Bool
deriving DecidableEq, Repr

/-- A shaft link beyond its registers. -/
structure ShaftSt where
  down : ShaftDir
  up : ShaftDir
  /-- R144: request records whose WDATA frames are awaited at the bench, oldest first. -/
  records : List BReq
  /-- R159: write records that the other benches have been sent and that wait for this bench's link, oldest first. -/
  queue : List TxRec
  /-- R334: the recovery in progress is a planned map change. -/
  mapping : Bool
  /-- Records sent: writes not yet performed, and reads whose portions are outstanding, oldest first. -/
  flight : List SentRec
  /-- R141: the one outstanding register access, and those that wait for it. -/
  reg : Option RegAcc
  regq : List RegAcc
  /-- R138: RDATA frames in the bench's transmit queue. -/
  upQueue : Nat
  /-- R108: the level for which firmware has written the bench's shadow set since the last level change. -/
  tset : Option Nat
  /-- R142, R145: entries that have left the bench's queues and whose credits are still to be returned: channel A reads and
  writes, channel B reads and writes. -/
  freed : List Nat
  /-- R160: ticks of the recoveries of the last 1,000 ticks. -/
  recovered : List Nat
  /-- Tick at which the recovery in progress began. -/
  recStart : Nat
  /-- Training step in progress (Table 06.5) and its level. -/
  step : Nat
  stepLevel : Nat
deriving DecidableEq, Repr

/-! ### Host link -/

/-- A reset of the function in progress (R185): 0 FLR, 1 hot reset, 2 DL_Down. -/
structure FlrSt where
  kind : Nat
  /-- The DEVICE FLUSH of step 4 has been started. -/
  flushed : Bool
deriving DecidableEq, Repr

/-- A register read in progress (R141, R170): its identifier, who reads and the tag, the offset of its first word, and the words
as far as they are known. -/
structure RegRd where
  id : Nat
  src : RegSrc
  tag : Nat
  addr : Nat
  words : List (Option Nat)
deriving DecidableEq, Repr

/-- A packet at PCIe egress (R240): its label, or none for a completion of BAR0 or BAR4, and the identifier of its request. -/
structure EgItem where
  label : Option Nat
  id : Nat
  out : Output
deriving DecidableEq, Repr

/-- A request of BAR2 that the PCIe port has received: posted or not, the data credits that it holds, and the requests it became
(R173). -/
structure RxHold where
  posted : Bool
  data : Nat
  ids : List Nat
deriving DecidableEq, Repr

/-- Configuration space, MSI-X and the port of the host link (R168, R173, R182, R183, R240). -/
structure HostSt where
  memEnable : Bool
  busMaster : Bool
  msixEnable : Bool
  /-- Function mask and the vectors whose mask bit is 1. -/
  funcMask : Bool
  masked : List Nat
  /-- Pending-bit array. -/
  pba : List Nat
  /-- PowerState: 0 D0, 3 D3hot. -/
  powerState : Nat
  maxPayload : Nat
  maxRead : Nat
  tag10 : Bool
  tag14 : Bool
  /-- Errors recorded in AER status. -/
  aer : List Aer
  flr : Option FlrSt
  /-- The MSI-X table's address and data words, by word index; a word not listed is 0. -/
  msixTab : List (Nat × Nat)
  /-- Configuration words that hold something other than their reset value, by byte offset (R165, R168, R169). -/
  cfg : List (Nat × Nat)
  /-- R181: the AER header log, four words. -/
  hdrLog : List Nat
  /-- R173: received BAR2 requests whose credits have not all been returned. -/
  rx : List RxHold
  /-- R240: packets that wait at PCIe egress, oldest first, and per class the label served last. -/
  egress : List EgItem
  egressRr : List Nat
  /-- Register reads that await words of a bench over its shaft. -/
  regReads : List RegRd
deriving DecidableEq, Repr

/-! ### Haul engine -/

/-- A scatter/gather element (Table 08.4). -/
structure Elem where
  addr : Nat
  len : Nat
  stack : Bool
deriving DecidableEq, Repr

/-- What a request of a channel is for (R206, HALT_INFO.KIND). -/
inductive Use where
  /-- source bytes from offset `off` of the descriptor's source stream -/
  | data (off : Nat)
  /-- the descriptor of ring index `i` -/
  | desc (i : Nat)
  /-- the next piece of the source (`false`) or destination list -/
  | list (dst : Bool)
  | readBack
  /-- a destination write -/
  | write
  /-- ledger entries from fragment `frag` on -/
  | ledgerRd (frag : Nat)
  | ledgerWr
  /-- a completion entry in stack space with its status; its vector is raised after it -/
  | completion (msi : Bool) (status : Nat)
  /-- nothing any more -/
  | drop
deriving DecidableEq, Repr

/-- A read that a channel has still to issue. -/
structure Piece where
  stack : Bool
  addr : Nat
  len : Nat
  label : Nat
  use : Use
deriving DecidableEq, Repr

/-- A destination write still to be made: the element it falls in, and its place and bytes. -/
structure WPiece where
  elem : Nat
  stack : Bool
  addr : Nat
  bytes : List Byte
deriving DecidableEq, Repr

/-- An outstanding non-posted request on the host link, with the data that has arrived. -/
structure NpReq where
  tag : Nat
  chan : Nat
  addr : Nat
  len : Nat
  use : Use
  got : List Byte
deriving DecidableEq, Repr

/-- The tag of a request that is abandoned, and the bytes of it still to come. -/
def NpReq.left (q : NpReq) : Nat × Nat := (q.tag, q.len - q.got.length)

/-- A slot as fetched so far (R193, R194): its sound elements and their total; `done` when the list has ended or an element
failed, with the status of the failure, 0 for none. `next` is where its list goes on, and in which space. -/
structure Slot where
  elems : List Elem
  total : Nat
  done : Bool
  status : Nat
  isList : Bool
  next : Nat
  stack : Bool
deriving DecidableEq, Repr

/-- Where a descriptor in execution stands. -/
inductive RunPhase where
  /-- R230: a coded descriptor that waits for one of the 16 places -/
  | place
  /-- scatter/gather lists being fetched -/
  | lists
  /-- a coded descriptor's ledger entries being read -/
  | ledger
  /-- source data being read; pass 1 of a coded descriptor -/
  | reading
  /-- the intact fragments being read again -/
  | pass2
  /-- destination writes being performed -/
  | writing
  /-- ledger entries being updated -/
  | updating
  /-- read-back outstanding (R199) -/
  | readBack
  /-- a FENCE whose condition does not hold yet -/
  | fence
  /-- only the completion is left to write -/
  | completing
deriving DecidableEq, Repr

/-- A ledger update to make (Table 09.4): the fragment, its new STATE, its new digest, and whether GEN and CODE_ID are
written. -/
structure Upd where
  frag : Nat
  state : Nat
  digest : Option Nat
  ident : Bool
deriving DecidableEq, Repr

/-- A descriptor in execution. -/
structure Run where
  /-- Ring index and the 64 descriptor bytes. -/
  idx : Nat
  raw : List Byte
  label : Nat
  phase : RunPhase
  src : Slot
  dst : Slot
  /-- Requests of the phase that have not been answered. -/
  await : Nat
  /-- What they have brought: stream offset, bytes, and the stream offsets at which poisoned sectors begin. -/
  parts : List (Nat × List Byte × List Nat)
  writes : List WPiece
  /-- First non-OK status met, element index, destination slot (R194, R197). -/
  status : Option (Nat × Nat × Bool)
  /-- The status that the transfer meets at its end (R194). -/
  endStatus : Option (Nat × Nat × Bool)
  /-- R194: stream bytes of a COPY or FILL that have been moved, or are in the part being moved, and where that part begins. -/
  reached : Nat
  base : Nat
  /-- Destination bytes written. -/
  bytes : Nat
  /-- Address of the last PCIe dword written (R199). -/
  lastPcie : Option Nat
  /-- A stack byte was written; every verify fetch so far confirmed (R200). -/
  stackWrote : Bool
  mediaOk : Bool
  /-- Ledger entries held, in fragment order. -/
  entries : List (List Byte)
  /-- Pass 1: fragments read with their digests, the fragments met with poison, the erasures and the outcome. -/
  digests : List (Nat × Nat)
  erased : Nat
  mismatch : Nat
  outcome : Nat
  changed : Bool
  /-- The fragments pass 2 reads again, and those it writes. -/
  rows : List Nat
  rebuilds : List Nat
  result : Nat
  updates : List Upd
  /-- For a FENCE: writes accepted before it started that are not yet performed (R95), and the slabs whose write-back a MEDIA
  fence awaits. -/
  waitFor : List Nat
  waitSlabs : Option (List Nat)
deriving DecidableEq, Repr

/-- A haul channel beyond its registers. -/
structure HChan where
  /-- Prefetched descriptors in the descriptor buffer: (ring index, 64 bytes, read from a poisoned sector), in ring order
  (R190); and those that have arrived and are not in it yet. -/
  pre : List (Nat × List Byte × Bool)
  got : List (Nat × List Byte × Bool)
  run : Option Run
  /-- Reads still to be issued. -/
  todo : List Piece
  /-- Stack requests in flight: (request identifier, purpose). -/
  st : List (Nat × Use)
  /-- R208: no fetch until the next TAIL write. -/
  needTail : Bool
deriving DecidableEq, Repr

/-- The haul engine beyond its registers. -/
structure HaulSt where
  chans : List HChan
  np : List NpReq
  /-- Abandoned requests whose completion or timeout is awaited (R185, R207, R208): the tag, and the bytes still to come. -/
  abandoned : List (Nat × Nat)
  quarantined : List (Nat × Nat)
  /-- The tag tried next. -/
  nextTag : Nat
  /-- R190: the channel whose turn it is to issue, and the requests left to it in the round; 0 before its turn begins. -/
  turn : Nat
  share : Nat
deriving DecidableEq, Repr

/-! ### Power states and domains -/

/-- What the sequencer is doing (R256, R257, R264). -/
inductive SeqPhase where
  | idle
  /-- block `b` of Table 11.5 has been asked -/
  | asking (b : Nat)
  /-- R257: the preparation for REST to EMBER -/
  | preparing
  | switching
  /-- leaving REST or EMBER -/
  | exiting
deriving DecidableEq, Repr

/-- A base-die reset that has been requested and not yet entered (R447, R474): its cause, whether it persists the event log
first, and how far it is: 0 requested, 1 the engine stopped, 2 the flush started. -/
structure ResetSt where
  cause : Nat
  persist : Bool
  step : Nat
deriving DecidableEq, Repr

/-- The power sequencer in the lantern domain, and the level change in progress. -/
structure PowerSt where
  /-- Bit `d`: domain PD*d* is on. -/
  domOn : Nat
  /-- The base die is held in reset (R447, R448). -/
  inReset : Bool
  /-- The lantern domain is out of its power-on reset (R438). -/
  lanternUp : Bool
  seq : SeqPhase
  target : Nat
  source : Nat
  /-- Tick of the request being served (LAST_ENTRY_TICK). -/
  reqTick : Nat
  /-- Blocks that have been asked and have not refused. -/
  granted : List Nat
  /-- Benches whose READY is awaited in block 8. -/
  waitReady : List Nat
  /-- PERST# asserted during an entry or exit, to be acted on after it (R256, R446). -/
  perstHeld : Bool
  /-- R255: ticks without a host request, doorbell or descriptor in execution. -/
  idleTicks : Nat
  /-- R250: tick at which a rising level was decided. -/
  riseAt : Option Nat
  /-- Level of the level-change pause in progress. -/
  pauseTo : Option Nat
  /-- A base-die reset under way (R447, R474). -/
  resetReq : Option ResetSt
  /-- The next base-die reset exit follows Table 20.1 (power-up from OFF). -/
  fromOff : Bool
deriving DecidableEq, Repr

/-! ### Fault collection -/

/-- A running injection (R325). -/
structure Inj where
  checker : Nat
  target : Nat
  dir : Nat
  double : Bool
  remaining : Nat
deriving DecidableEq, Repr

/-- The fault collector beyond its registers. -/
structure FaultSt where
  /-- Open reaction shadows: target (FENCED bit order) and tick boundaries left (R324). -/
  shadows : List (Nat × Nat)
  inj : Option Inj
  /-- R326: checker-5 injections held in the lantern domain until the next sensing. -/
  fuseInj : Nat
deriving DecidableEq, Repr

/-! ### Coding engine and regulation -/

/-- The coding engine beyond its registers. -/
structure CodingSt where
  /-- Channels whose coded descriptor is in execution, at most 16, and those that wait to start, oldest first (R230). -/
  active : List Nat
  waiting : List Nat
  /-- BYTES_IN, 64 bits. -/
  bytesIn : Nat
deriving DecidableEq, Repr

/-- Regulation beyond its registers. -/
structure RegulSt where
  /-- CTRL.WINDOW in force and the tick at which the window in force started (R236, R239). -/
  window : Nat
  started : Nat
  /-- Units per tick, raw_L less R_L, that the governor found at its last step and at the step before (R285, R288). -/
  nextD : Nat
  prevD : Nat
  /-- No window has started since the reset (R243, R244). -/
  first : Bool
  /-- Requests that R240 serves as GUARANTEED because they have waited 2 µs. -/
  aged : List Nat
  /-- R239, R242: the BUDGET of each label in force for the window; empty before the first window. -/
  budgets : List Nat
deriving DecidableEq, Repr

/-! ### Heat and the power cap -/

/-- The thermal model and the governor beyond their registers. -/
structure ThermalSt where
  /-- R270: model value of each of the 31 nodes, in 1/256 of a NODE_TEMP unit. -/
  nodes : List Nat
  /-- R277: the model has no history and takes its start values from the next readings. -/
  fresh : Bool
  /-- R275: consecutive ticks beyond 6 °C, and within 3 °C while suspect, per sensor. -/
  away : List Nat
  near : List Nat
  /-- R280: consecutive ticks at 110 °C or more, per sensor. -/
  hot : List Nat
  /-- R277, R293: ticks since the initialisation. -/
  guardAge : Nat
  holdAge : Nat
  /-- R289: ticks for which a faster level has been the choice, and that level. -/
  rise : Nat
  riseTo : Nat
  /-- R290: ticks with f at 128 and P above target; ticks left of the hold after a forced step and the level held. -/
  low : Nat
  forced : Nat
  forcedAt : Nat
  /-- R292: the throttle's reduction in 0.1 W and the ticks counted toward the next limit step. -/
  reduction : Nat
  limitAge : Nat
  /-- R441: firmware has reported that every active shaft is trained. -/
  released : Bool
  /-- R280: the thermal-trip latch: tripped die and its temperature; held until VDD_AON is lost. -/
  trip : Option (Nat × Nat)
  /-- R457: the warning state copied into the lantern domain. -/
  warnCopy : Bool
  /-- R341: the last current that each monitor read, held while its gain is measured. -/
  lastMon : List Nat
deriving DecidableEq, Repr

/-! ### Self-test and calibration -/

/-- A CS_MEM sample in progress (R331): where, and the rows that failed the march, lowest first. -/
structure CsMem where
  layer : Nat
  pos : Nat
  group : Nat
  rebuilding : Bool
  fails : List Nat
  /-- R340: firmware restores the region of CS_RECORD; nothing is marched. -/
  restoring : Bool
  /-- R331: the bench has received the frame that starts its march engine, after the requests before this place. -/
  ord : Option Nat
deriving DecidableEq, Repr

/-- A CS_LANE sample in progress (R334); `used` when the lane carries a logical lane and the map was changed. -/
structure CsLane where
  bench : Nat
  up : Bool
  lane : Nat
  used : Bool
deriving DecidableEq, Repr

/-- A test of Table 15.1 in progress; `removed` when the bench was taken out under R338. -/
structure TestRun where
  code : Nat
  target : Nat
  pos : Nat
  removed : Bool
deriving DecidableEq, Repr

/-- A calibration run in progress (R344). A run of kind 3 or 4 removes its bench at the tick boundary at which it starts. -/
structure CalRun where
  kind : Nat
  bench : Nat
  removed : Bool
  /-- R341: ticks since it began. -/
  age : Nat
deriving DecidableEq, Repr

/-- Self-test and calibration beyond their registers. A calibration record is its 4,096 bytes (Table 15.3). -/
structure TestSt where
  mem : Option CsMem
  way : Option Nat
  lane : Option CsLane
  test : Option TestRun
  /-- R440: benches whose LBIST_BENCH of start-up runs, beside any other test. -/
  lbist : List Nat
  /-- R335: the tests that start-up has run since the base die left reset: (code, target). -/
  ran : List (Nat × Nat)
  /-- R336: entry to service mode waits for the sample in progress and for the flush. -/
  entering : Bool
  active : List Byte
  shadow : List Byte
  run : Option CalRun
  /-- R345: the tick in which APPLY was written; the shadow values as they stand at its end come into force. -/
  apply : Option Nat
  /-- The shadow values as they stood at the end of the previous tick, while an APPLY is to come into force. -/
  atTick : List Byte
  /-- R346: the copy being written, and whether the programming window was left meanwhile (R282). -/
  save : Option (Nat × Bool)
  /-- R338: benches whose layers rejoin once their link is trained. -/
  back : List Nat
  /-- The two copies in the external flash (R342). -/
  copyA : List Byte
  copyB : List Byte
  /-- R335: start-up has run MARCH_FULL. -/
  fullDone : Bool
deriving DecidableEq, Repr

/-! ### Fuses -/

/-- An OTP word or seal: its two copies, 72 bits each, data in [63:0] and check bits in [71:64] (R349). -/
structure Cell2 where
  copy0 : Nat
  copy1 : Nat
deriving DecidableEq, Repr

/-- A burn in progress (R364, R365): the word or region, and the 72 bits intended. -/
structure Burn where
  isSeal : Bool
  word : Nat
  data : Nat
  /-- a ROLLBACK burn: from this counter value up to `data` -/
  rollback : Option Nat
  /-- R282: the programming window was left while it ran. -/
  left : Bool
deriving DecidableEq, Repr

/-- The OTP array and the fuse block beyond its registers. -/
structure FuseSt where
  /-- Burned entries of the word array and of the seal array; the others are blank. -/
  words : List (Nat × Cell2)
  seals : List (Nat × Cell2)
  /-- R351: what the last sensing gave for each word that is good and not blank, and the words and seals it judged marginal. -/
  sensed : List (Nat × Nat)
  marginal : List Nat
  sealSensed : List (Nat × Nat)
  sealMarginal : List Nat
  /-- R361. -/
  overrides : List (Nat × Nat)
  /-- R362, R365. -/
  unlocked : Bool
  armed : Option Nat
  burn : Option Burn
  /-- R359: the base die is held in reset by a privileged region. -/
  hold : Bool
  /-- VARIANT word 16 and the Device ID in force since the last sensing (R357, R358, R360). -/
  variant : Nat
  deviceId : Nat
  /-- R361: the word the consistency check re-senses next. -/
  recheck : Nat
deriving DecidableEq, Repr

/-! ### Management core, event log and external flash -/

/-- An event-log entry (Table 17.5). -/
structure LogEntry where
  tick : Nat
  unit : Nat
  source : Nat
  seq : Nat
  code : Nat
  flags : Nat
  data : List Byte
deriving DecidableEq, Repr

/-- The fields of a valid boot-header copy (Table 17.2). -/
structure BootHdr where
  seq : Nat
  active : Nat
  trial : Bool
  boots : Nat
deriving DecidableEq, Repr

/-- An entry of a saved-values copy (Table 18.7). -/
structure SavedVal where
  index : Nat
  sub : Nat
  type : Nat
  value : List Byte
deriving DecidableEq, Repr

/-- The SEQ and the entries of a valid saved-values copy (Table 18.7). -/
structure SavedCopy where
  seq : Nat
  entries : List SavedVal
deriving DecidableEq, Repr

/-- The management core, the event-log ring and the external flash. -/
structure MgmtSt where
  /-- The ring, oldest entry first, at most 4,096 (R380). -/
  ring : List LogEntry
  /-- The slots of the flash event-log area from the oldest sector that is not erased (R381); none is left 0xFF. -/
  flashLog : List (Option LogEntry)
  /-- A persistence runs up to this SEQ. -/
  persistTo : Option Nat
  /-- R381: a persistence has fallen due and has not started. -/
  persistDue : Bool
  /-- The first 16 bytes of the two boot-header copies; the rest is 0xFF (R371). -/
  hdr0 : List Byte
  hdr1 : List Byte
  /-- The two image slots: what has been programmed since the last erase. -/
  slotA : List Byte
  slotB : List Byte
  /-- R374: the slot being loaded, whether it is the second one tried, and ticks since PD11 left reset. -/
  loading : Nat
  second : Bool
  bootAge : Nat
  /-- R376: length given to update_begin. -/
  updTotal : Nat
  /-- R378: the restart under way is an activation. -/
  activating : Bool
  /-- R375: ticks in RUNNING without a restart. -/
  runAge : Nat
  /-- The loads of R312, R343 and R405 have been made since PD11 left reset. -/
  loaded : Bool
  confirmDelay : Nat
  /-- R406: boot-ROM staging. -/
  stageTotal : Nat
  staged : List Byte
deriving DecidableEq, Repr

/-! ### Object dictionary and wake port -/

/-- An open segmented transfer (R394): a read's snapshot, or a write's bytes so far, with the offset of the next segment and
of the previous one. -/
structure Transfer where
  write : Bool
  index : Nat
  sub : Nat
  total : Nat
  bytes : List Byte
  next : Nat
  prev : Option Nat
  /-- Ticks without a segment. -/
  idle : Nat
deriving DecidableEq, Repr

/-- What is kept for a carrier: 0 the dictionary port, 1 Rack Link (R395, R394). -/
structure CarrierSt where
  lastReq : Option (List Byte)
  lastRsp : List Byte
  open_ : Option Transfer
  /-- 0x1E01:01 -/
  logFrom : Nat
deriving DecidableEq, Repr

/-- A token claim that waits for its decision (R388): carrier and request. -/
structure Claim where
  carrier : Nat
  req : List Byte
deriving DecidableEq, Repr

/-- The object dictionary beyond the registers that objects mirror. -/
structure DictSt where
  port : CarrierSt
  rack : CarrierSt
  claims : List Claim
  /-- The control token and its history, in the lantern domain (R390). -/
  holder : Nat
  seizures : Nat
  changed : Nat
  /-- Values that no register holds: asset_tag and startup_march. -/
  assetTag : List Byte
  startupMarch : Nat
  /-- R135: the values of objects 0x1611:01 to 07, applied to each bench at its power-up. -/
  benchCfg : List Nat
  /-- R164: the values of objects 0x1704:01 to 05, applied to each link at its power-up. -/
  shaftCfg : List Nat
  /-- R403: ticks since the first RWS write not yet saved. -/
  unsaved : Option Nat
  saveFailed : Bool
  copy0 : List Byte
  copy1 : List Byte
deriving DecidableEq, Repr

/-- The wake port (R401, R459). -/
structure WakePort where
  ptr : Nat
  /-- Bytes of a read transaction still to be returned, from its snapshot. -/
  snap : List Byte
  /-- The device pulls WSDA low for an acknowledge or a 0 bit. -/
  sda : Bool
  /-- Base-die bytes 0x12, 0x14 to 0x16, 0x1A, 0x1B, 0x1E, 0x1F and 0x26 to 0x29 as last refreshed; none while not available. -/
  base : Option (List Byte)
deriving DecidableEq, Repr

/-! ### Rack Link -/

/-- A queued transmission (R426). -/
structure TxFrame where
  /-- A dictionary response. -/
  rsp : Bool
  type : Nat
  dest : Nat
  payload : List Byte
  retries : Nat
  /-- Ticks since it was complete. -/
  age : Nat
deriving DecidableEq, Repr

/-- A frame of the slot under way: its bytes, and the symbols since the slot's first tick at which it starts and ends (R425). -/
structure SlotTx where
  frame : TxFrame
  bytes : List Byte
  start : Nat
  stop : Nat
deriving DecidableEq, Repr

/-- An accepted frame in a receive buffer (R432). -/
structure RxFrame where
  type : Nat
  src : Nat
  payload : List Byte
deriving DecidableEq, Repr

/-- Where the node stands in assignment (R429). -/
inductive AssignPhase where
  | ready
  /-- ASSIGN_REQ sent, with the cycles since -/
  | sent (cycles : Nat)
  /-- waiting, with the cycles left -/
  | wait (cycles : Nat)
deriving DecidableEq, Repr

/-- Rack Link beyond its registers, in PD22. -/
structure RackSt where
  /-- R428: an address written, which takes effect at the next cycle start. -/
  pendingAddr : Option Nat
  /-- FLAGS and the test pair of the current cycle's beacon (R424). -/
  assignOpen : Bool
  linkTest : Bool
  testA : Nat
  testB : Nat
  /-- TICK of the last valid beacon, 48 bits. -/
  lastBeacon : Nat
  /-- The transmit queue, oldest first, at most 8. -/
  tx : List TxFrame
  /-- The frames of the slot under way that have not ended, and the ticks since it began. -/
  slot : List SlotTx
  slotAge : Nat
  /-- Frames of the slot under way that met a collision, the first one first (R426). -/
  back : List TxFrame
  /-- The 64 taps of the echo canceller (R412, R413). -/
  taps : List Nat
  /-- The receive buffers, oldest first, at most 4. -/
  rx : List RxFrame
  assign : AssignPhase
deriving DecidableEq, Repr

/-! ### Pins and supplies -/

/-- Supplies, clocks, straps and the TAP, as the commands show them (DESIGN CHOICE in part: log entry 53). -/
structure PinSt where
  /-- VDD_AON and VIO are present; VDD_CORE and the other rails are within tolerance. -/
  aon : Bool
  core : Bool
  rails : Bool
  /-- REFCLK is present. -/
  refclk : Bool
  /-- PERST# is asserted (low). -/
  perst : Bool
  /-- ADDR[2:0] as sampled at the lantern power-on reset, and the BOOTSEL pin (R458). -/
  addr : Nat
  bootsel : Bool
  /-- The TAP's instruction register (R463), and whether a private opcode now acts as BYPASS. -/
  tapIr : Nat
  tapBypass : Bool
  /-- Outputs: VID[3:0], WAKE#, FAULT#, THERMTRIP# and ALERT#; true is asserted low (Table 21.3). -/
  vid : Nat
  wake : Bool
  fault : Bool
  thermtrip : Bool
  alert : Bool
deriving DecidableEq, Repr

/-! ### The whole state -/

/-- Everything the spec gives the device. The three register files list only members that differ from their reset value,
by BAR0 bit address (`Fam.key`). -/
structure State where
  /-- Base-die register fields, lantern register fields and the bench cores' register fields (R8, R133). -/
  regs : List (Nat × Nat)
  lregs : List (Nat × Nat)
  bregs : List (Nat × Nat)
  time : TimeSt
  /-- The stack's bytes, addressed as `Stack.lean` says, with what stack clears left under them. -/
  dram : List Host.Cell
  segs : List ClearSeg
  cache : CacheSt
  ras : RasSt
  bench : List BenchSt
  shaft : List ShaftSt
  host : HostSt
  haul : HaulSt
  coding : CodingSt
  regul : RegulSt
  power : PowerSt
  thermal : ThermalSt
  fault : FaultSt
  test : TestSt
  fuse : FuseSt
  mgmt : MgmtSt
  dict : DictSt
  wake : WakePort
  rack : RackSt
  pins : PinSt
  /-- The model's own: how many free values have been drawn, and what has left the device, newest first. -/
  fresh : Nat
  sent : List Output
  /-- The commands that wait, first in first out. -/
  pending : List Instr
deriving DecidableEq, Repr

/-- Reasons for which a step stops with a fault: none. Every command of the table has an effect or leaves the state as it
is, so no meaning raises one. -/
inductive Fault where
  /-- Raised by no meaning; safe. -/
  | none
deriving DecidableEq, Repr

/-- Reasons for which a step has no meaning. -/
inductive Refusal where
  /-- Raised by an arm of `exec` for a command whose meaning is not written; safe. -/
  | notModelled (mnemonic : String)
deriving DecidableEq, Repr

/-! ### Reset -/

/-- A channel controller with nothing queued. -/
def ChanCtl.reset : ChanCtl where
  reads := []
  writes := []
  writing := false
  openRow := List.replicate 32 none
  hits := List.replicate 32 0
  debt := List.replicate 32 0
  nextOrd := 0
  acts := []
  tasks := []

/-- A bench that is off (DESIGN CHOICE in part: log entry 50). -/
def BenchSt.reset : BenchSt where
  chA := ChanCtl.reset
  chB := ChanCtl.reset
  selfRefresh := true
  canaryMode := false
  retaining := false
  canaryDue := false
  twice := false
  warm := false
  paused := none
  drain := none
  est := none
  diode := (none, none)
  tokens := 0
  patrolPtr := 0
  patrolPasses := 0
  patrolSent := 0
  patrolDrops := 0
  patrolLeft := 0
  reports := []
  remaps := []
  idleRows := []
  tabled := false

/-- A direction of a shaft link with nothing sent. -/
def ShaftDir.reset : ShaftDir where
  txSeq := 0
  rxSeq := 0
  seen := false
  replay := []
  nak := false
  dup := 0
  crcRun := 0
  nakRun := 0
  nakSeq := 0
  wait := []
  group := []
  held := []
  lanes := []
  debt := []
  viol := []
  violNew := []

/-- A shaft link that is down. -/
def ShaftSt.reset : ShaftSt where
  down := ShaftDir.reset
  up := ShaftDir.reset
  records := []
  queue := []
  mapping := false
  flight := []
  reg := none
  regq := []
  upQueue := 0
  tset := none
  freed := [0, 0, 0, 0]
  recovered := []
  recStart := 0
  step := 0
  stepLevel := 0

/-- The cache and merge buffer, empty (DESIGN CHOICE in part: log entry 50). -/
def CacheSt.reset : CacheSt where
  lines := []
  plru := []
  merge := []
  port := []
  wait := []
  ops := []
  opq := []
  reqs := []
  reqRr := [63, 63, 63]
  rr := List.replicate 12 63
  flush := none
  hits := 0
  misses := 0
  nextId := 0
  reads := []
  nextTag := 0

/-- The function just after its reset (R185) (PRESUMED in part: log entry 14). -/
def HostSt.reset : HostSt where
  memEnable := false
  busMaster := false
  msixEnable := false
  funcMask := false
  masked := List.range 256
  pba := []
  powerState := 0
  maxPayload := 128
  maxRead := 512
  tag10 := false
  tag14 := false
  aer := []
  flr := none
  msixTab := []
  cfg := []
  hdrLog := [0, 0, 0, 0]
  rx := []
  egress := []
  egressRr := [63, 63, 63]
  regReads := []

/-- A haul channel with nothing fetched. -/
def HChan.reset : HChan := ⟨[], [], none, [], [], false⟩

/-- The haul engine, idle. -/
def HaulSt.reset : HaulSt where
  chans := List.replicate 64 HChan.reset
  np := []
  abandoned := []
  quarantined := []
  nextTag := 0
  turn := 0
  share := 0

/-- Regulation before its first window (R244). -/
def RegulSt.reset : RegulSt := ⟨1, 0, 0, 0, true, [], []⟩

/-- The thermal model and the governor before their initialisation. -/
def ThermalSt.reset : ThermalSt where
  nodes := List.replicate 31 0
  fresh := false
  away := List.replicate 44 0
  near := List.replicate 44 0
  hot := List.replicate 44 0
  guardAge := 0
  holdAge := 0
  rise := 0
  riseTo := 2
  low := 0
  forced := 0
  forcedAt := 2
  reduction := 0
  limitAge := 0
  released := false
  trip := none
  warnCopy := false
  lastMon := []

/-- A 16-bit field of the calibration record. -/
def le16 (n : Nat) : List Byte := [BitVec.ofNat 8 n, BitVec.ofNat 8 (n / 256)]

/-- R343: the neutral values, around the given bytes of SHAFT_TRIM and DRV_TRIM: offset 0, gain and scale 1.0, LID_RES 0, the
coefficients of Table 12.4 and phase 32. -/
def neutralWith (trims : List Byte) : List Byte :=
  let coef := [(1750, 1100), (2150, 900), (2500, 695), (2900, 560)].flatMap fun p => le16 p.1 ++ le16 p.2
  List.replicate 0x68 0#8 ++ (List.replicate 69 (le16 0x8000)).flatten ++ List.replicate 2 0#8 ++ List.replicate 31 128#8 ++
    List.replicate 5 0#8 ++ coef ++ trims ++ List.replicate 288 32#8 ++ List.replicate 740 0xFF#8

/-- R343: the neutral calibration record before the TRIM words have been sensed (DEDUCED in part: log entry 35). -/
def neutralRecord : List Byte := neutralWith (List.replicate 2772 0#8)

/-- Self-test with nothing running. -/
def TestSt.reset : TestSt where
  mem := none
  way := none
  lane := none
  test := none
  lbist := []
  ran := []
  entering := false
  active := neutralRecord
  shadow := neutralRecord
  run := none
  apply := none
  atTick := []
  save := none
  back := []
  copyA := []
  copyB := []
  fullDone := false

/-- The management core before its first boot, with an external flash whose areas are blank
(DESIGN CHOICE in part: log entry 50). -/
def MgmtSt.reset : MgmtSt where
  ring := []
  flashLog := []
  persistTo := none
  persistDue := false
  hdr0 := List.replicate 16 0xFF#8
  hdr1 := List.replicate 16 0xFF#8
  slotA := []
  slotB := []
  loading := 0
  second := false
  bootAge := 0
  updTotal := 0
  activating := false
  runAge := 0
  loaded := false
  confirmDelay := 6000000
  stageTotal := 0
  staged := []

/-- A carrier on which nothing has been asked. -/
def CarrierSt.reset : CarrierSt := ⟨none, [], none, 0⟩

/-- R135: the defaults of objects 0x1611:01 to 07. -/
def benchCfgReset : List Nat := [64, 16, 512, 1, 32, 1, 0]

/-- R164: the defaults of objects 0x1704:01 to 05. -/
def shaftCfgReset : List Nat := [2, 0, 8, 5, 1]

/-- The dictionary with every object at its default (DESIGN CHOICE in part: log entry 50). -/
def DictSt.reset : DictSt where
  port := CarrierSt.reset
  rack := CarrierSt.reset
  claims := []
  holder := 0
  seizures := 0
  changed := 0
  assetTag := []
  startupMarch := 0
  benchCfg := benchCfgReset
  shaftCfg := shaftCfgReset
  unsaved := none
  saveFailed := false
  copy0 := []
  copy1 := []

/-- Rack Link just after PD22 powers on. -/
def RackSt.reset : RackSt where
  pendingAddr := none
  assignOpen := false
  linkTest := false
  testA := 0xFF
  testB := 0xFF
  lastBeacon := 0
  tx := []
  slot := []
  slotAge := 0
  back := []
  taps := List.replicate 64 0
  rx := []
  assign := .ready

/-- The OTP array as shipped (Table 16.1), not yet sensed: the part is an HS-2816-AX of step B1, its other words blank
(DESIGN CHOICE in part: log entry 5). -/
def FuseSt.reset : FuseSt where
  words := [(1, ⟨0xC0000000000110000, 0xC0000000000110000⟩), (8, ⟨0x60000000000000003, 0x60000000000000003⟩), (16, ⟨0x240000000012CD01FF, 0x240000000012CD01FF⟩), (19, ⟨0x80000000000002816, 0x80000000000002816⟩)]
  seals := [(0, ⟨0x56800000006E7251E0, 0x56800000006E7251E0⟩), (1, ⟨0xCD80000001D0155D12, 0xCD80000001D0155D12⟩),
    (2, ⟨0x7E80000002190A55AD, 0x7E80000002190A55AD⟩), (3, ⟨0x78800000032EBFFF82, 0x78800000032EBFFF82⟩),
    (4, ⟨0x6A800000043D215B63, 0x6A800000043D215B63⟩), (5, ⟨0xE780000005B2AA7578, 0xE780000005B2AA7578⟩),
    (7, ⟨0x6980000007F288B395, 0x6980000007F288B395⟩)]
  sensed := []
  marginal := []
  sealSensed := []
  sealMarginal := []
  overrides := []
  unlocked := false
  armed := none
  burn := none
  hold := false
  variant := 0x12CD01FF
  deviceId := 0x2816
  recheck := 0

/-- The device right after the lantern domain leaves its power-on reset, with the base die still in reset (R438, R439)
(DESIGN CHOICE in part: log entry 2). -/
def State.reset : State where
  regs := []
  lregs := []
  bregs := []
  time := ⟨0, 0, 0, 10000, 0, none, 0, 0, [], false, false, 0, [], 0, false, true, 0, false⟩
  dram := []
  segs := []
  cache := CacheSt.reset
  ras := ⟨0, [], [], [], none, none, [], none, none, [], 0, [], false, [], [], []⟩
  bench := List.replicate 9 BenchSt.reset
  shaft := List.replicate 9 ShaftSt.reset
  host := HostSt.reset
  haul := HaulSt.reset
  coding := ⟨[], [], 0⟩
  regul := RegulSt.reset
  power := ⟨0, true, true, .idle, 0, 0, 0, [], [], false, 0, none, none, none, true⟩
  thermal := ThermalSt.reset
  fault := ⟨[], none, 0⟩
  test := TestSt.reset
  fuse := FuseSt.reset
  mgmt := MgmtSt.reset
  dict := DictSt.reset
  wake := ⟨0x10, [], false, none⟩
  rack := RackSt.reset
  pins := ⟨true, false, false, false, true, 0, false, 0x01, false, 2, false, false, false, false⟩
  fresh := 0
  sent := []
  pending := []

end Sys2Proof.Machine
end

