-- ==== Sys2Proof/Machine/Ops.lean ====
section
/-! DEFINITION. Register access, counters, events, messages and the two logs: the operations every meaning is built from. -/
namespace Sys2Proof.Machine

/-! ### Sorted key lists -/

/-- The value of a key, when listed. -/
def kvGet (k : Nat) : List (Nat × Nat) → Option Nat
  | [] => none
  | (a, v) :: l => if k = a then some v else kvGet k l

/-- A key given a value; keys stay strictly rising. -/
def kvPut (k v : Nat) : List (Nat × Nat) → List (Nat × Nat)
  | [] => [(k, v)]
  | (a, w) :: l => if k < a then (k, v) :: (a, w) :: l else if k = a then (k, v) :: l else (a, w) :: kvPut k v l

/-- A key removed. -/
def kvDel (k : Nat) (l : List (Nat × Nat)) : List (Nat × Nat) := l.filter fun p => p.1 != k

/-! ### Register fields -/

/-- The register file that holds a field. -/
def State.file (s : State) : Held → List (Nat × Nat)
  | .base => s.regs
  | .lantern => s.lregs
  | .bench => s.bregs

/-- A register file replaced. -/
def State.setFile (s : State) : Held → List (Nat × Nat) → State
  | .base, l => { s with regs := l }
  | .lantern, l => { s with lregs := l }
  | .bench, l => { s with bregs := l }

/-- The value a register field holds. -/
def State.rd (s : State) (f : Fam) (i : List Nat := []) : Nat :=
  (kvGet (f.key i) (s.file f.held)).getD (f.resetAt i)

/-- A register field set to the low bits of `v`; a field at its reset value is not listed. -/
def State.wr (s : State) (f : Fam) (v : Nat) (i : List Nat := []) : State :=
  let v := v % 2 ^ f.width
  s.setFile f.held
    (if v = f.resetAt i then kvDel (f.key i) (s.file f.held) else kvPut (f.key i) v (s.file f.held))

/-- A one-bit field read as a condition. -/
def State.is (s : State) (f : Fam) (i : List Nat := []) : Bool := s.rd f i == 1

/-- A field set to 1. -/
def State.set (s : State) (f : Fam) (i : List Nat := []) : State := s.wr f 1 i

/-- A field set to 0. -/
def State.clr (s : State) (f : Fam) (i : List Nat := []) : State := s.wr f 0 i

/-- A one-bit field set from a condition. -/
def State.wrB (s : State) (f : Fam) (b : Bool) (i : List Nat := []) : State := s.wr f (b2n b) i

/-- `n` added to a saturating counter. -/
def State.addSat (s : State) (f : Fam) (n : Nat) (i : List Nat := []) : State :=
  s.wr f (min (s.rd f i + n) (2 ^ f.width - 1)) i

/-- A saturating counter incremented. -/
def State.incSat (s : State) (f : Fam) (i : List Nat := []) : State := s.addSat f 1 i

/-- A wrapping counter incremented. -/
def State.inc (s : State) (f : Fam) (i : List Nat := []) : State := s.wr f (s.rd f i + 1) i

/-- Every member of a one-index family of one-bit fields as a bit map. -/
def State.bits (s : State) (f : Fam) (n : Nat) (i : List Nat := []) : Nat := mapOf n fun k => s.is f (i ++ [k])

/-- The members of a one-index family of one-bit fields written from a bit map. -/
def State.wrBits (s : State) (f : Fam) (n v : Nat) (i : List Nat := []) : State :=
  (List.range n).foldl (fun s k => s.wrB f (v.testBit k) (i ++ [k])) s

/-- The fields of a block put back to reset: the base-die or bench fields at BAR0 offsets `lo` to `hi`. -/
def State.resetBlock (s : State) (lo hi : Nat) : State :=
  let keep : Nat × Nat → Bool := fun p => p.1 < lo * 8 || hi * 8 ≤ p.1
  { s with regs := s.regs.filter keep, bregs := s.bregs.filter keep }

/-! ### Variant (R2, R357, Table 16.4) -/

/-- BENCH_MASK in force. -/
def State.benchMask (s : State) : Nat := field s.fuse.variant 0 9

/-- The part has 18 layers (R2). -/
def State.is16 (s : State) : Bool := s.benchMask == 0x1FF

/-- CODING_EN in force (R5). -/
def State.codingOn (s : State) : Bool := s.fuse.variant.testBit 16

/-- Active benches are 0 to `nBench - 1`. -/
def State.nBench (s : State) : Nat := if s.is16 then 9 else 7

/-- Memory layers 0 to `nLayer - 1` are those of the variant. -/
def State.nLayer (s : State) : Nat := 2 * s.nBench

/-- R47: bytes of a slab. -/
def State.slabBytes (s : State) : Nat := 128 * (s.nLayer - 2)

/-- R47: sectors of a slab. -/
def State.sectors (s : State) : Nat := 2 * (s.nLayer - 2)

/-- R46: the user capacity. -/
def State.capacity (s : State) : Nat := s.slabBytes * 2 ^ 27

/-- R47: slabs of the stack. -/
def slabCount : Nat := 2 ^ 27

/-- The region of an OTP word (Table 16.1). -/
def fuseRegion (w : Nat) : Nat :=
  if w < 8 then 0 else if w < 12 then 1 else if w < 16 then 2 else if w < 20 then 3 else if w < 48 then 4
  else if w < 112 then 5 else if w < 120 then 6 else if w < 126 then 7 else 8

/-- R358: VARIANT word 16 and the Device ID when VARIANT fails integrity. -/
def variantDefault : Nat × Nat := (0x0968007F, 0x2813)

/-- The value in force of an OTP word (R360, R361): its trial override; else what sensing gave, unless its region failed, whose
words take their default. A word that is blank has the value 0. -/
def State.fuseWord (s : State) (w : Nat) : Nat :=
  match s.fuse.overrides.find? (·.1 = w) with
  | some p => p.2
  | none =>
    if (s.rd R.FUSE_STATUS_INTEG_FAIL).testBit (fuseRegion w) && decide (w < 126) then
      (if w = 16 then variantDefault.1 else if w = 19 then variantDefault.2 else 0)
    else ((s.fuse.sensed.find? (·.1 = w)).map (·.2)).getD 0

/-- The TRIM words in force that are not blank; none when the region fails integrity (R352). -/
def State.trimWords (s : State) : List (Nat × Nat) :=
  ((List.range 28).map fun i => (20 + i, s.fuseWord (20 + i))).filter (·.2 != 0)

/-- R377: an update in progress that is cut off leaves the inactive slot unusable, and UPDATE_STATE IDLE. -/
def State.dropUpdate (s : State) : State :=
  let u := s.rd R.MGMT_STATUS_UPDATE_STATE
  if 1 ≤ u ∧ u ≤ 3 then
    let s := s.wr R.MGMT_STATUS_UPDATE_STATE 0
    if s.rd R.MGMT_STATUS_SLOT = 0 then { s with mgmt := { s.mgmt with slotB := [] } }
    else { s with mgmt := { s.mgmt with slotA := [] } }
  else s

/-! ### Power domains (R19, R469, R470) -/

/-- Domain PD`d` is on and not held in reset with the base die. -/
def State.live (s : State) (d : Nat) : Bool := s.power.domOn.testBit d && !(decide (d < 24) && s.power.inReset)

/-- The domain that holds the base-die fields of the block at a BAR0 offset (Table 22.1). -/
def blockDom (off : Nat) : Nat :=
  match off / 0x10000 with
  | 0x01 => 2
  | 0x10 | 0x11 | 0x12 | 0x13 | 0x14 => 9
  | 0x16 => 10
  | 0x18 => 4
  | 0x1A => 8
  | 0x46 => 23
  | 0x47 => 22
  | b => if 0x20 ≤ b ∧ b < 0x29 ∧ 0x1000 ≤ off % 0x10000 then 24 + 4 * (b - 0x20) else 3

/-- A block that the part lacks (R4, R5, R470): it reads 0 and ignores writes. -/
def State.absentBlock (s : State) (off : Nat) : Bool :=
  let b := off / 0x10000
  (!s.is16 && (b == 0x27 || b == 0x28 || b == 0x37 || b == 0x38)) || (!s.codingOn && b == 0x16)

/-- R470: the block at an offset answers: its domain is on, and for a bench part the shaft link is up. -/
def State.blockOn (s : State) (off : Nat) : Bool :=
  let b := off / 0x10000
  s.live (blockDom off) && !s.absentBlock off &&
    (if 0x20 ≤ b ∧ b < 0x29 ∧ 0x1000 ≤ off % 0x10000 then s.is R.BENCH_STATUS_LINK_UP [b - 0x20] else true)

/-- The base die runs. -/
def State.up (s : State) : Bool := s.live 3

/-! ### Time -/

/-- The low 32 bits of the rack tick number. -/
def State.tick32 (s : State) : Nat := s.time.now % 2 ^ 32

/-! ### Free values -/

/-- The index of a fresh free value, and the state that has drawn it (DESIGN CHOICE in part: log entry 43). -/
def State.draw (s : State) : Nat × State := (s.fresh, { s with fresh := s.fresh + 1 })

/-! ### What leaves the device -/

/-- An output recorded, newest first (DEDUCED in part: log entry 48). -/
def State.emit (s : State) (o : Output) : State := { s with sent := o :: s.sent }

/-- What the writable bits of a configuration word hold after a reset of the function: the AER masks and severities, and relaxed
ordering and no snoop enabled, and a dynamic L0p width (R165, R181) (PRESUMED in part: log entry 14). -/
def cfgReset (off : Nat) : Nat :=
  match off with
  | 0x68 => 0x810
  | 0x108 => 0x400000
  | 0x10C => 0x462030
  | 0x114 => 0xE000
  | 0x288 => 0x70
  | _ => 0

/-- The writable bits of a configuration word that no other field holds. -/
def State.cfgWord (s : State) (off : Nat) : Nat := (kvGet off s.host.cfg).getD (cfgReset off)

/-- The writable bits of a configuration word set. -/
def State.cfgPut (s : State) (off v : Nat) : State :=
  { s with host := { s.host with cfg := if v = cfgReset off then kvDel off s.host.cfg else kvPut off v s.host.cfg } }

/-- R181: a packet leaves on the host link, with its ECRC while ECRC Generation Enable is 1
(PRESUMED in part: log entry 14). -/
def State.tlp (s : State) (o : Output) : State :=
  let t := s.emit o
  if (s.cfgWord 0x118).testBit 6 then t.emit .digest else t

/-- The message of vector `v`: the address and data that the MSI-X table holds for it (R183). -/
def State.msixTlp (s : State) (v : Nat) : Output :=
  let w := fun k => (kvGet (4 * v + k) s.host.msixTab).getD 0
  .msix v (w 0 + w 1 * 2 ^ 32) (w 2)

/-- R182, R183, R321: MSI-X message `v`, or its pending bit when the message cannot be sent (DEDUCED in part: log entry 48). -/
def State.msix (s : State) (v : Nat) : State :=
  if s.host.busMaster && s.host.powerState == 0 && s.host.msixEnable && !s.host.funcMask && !s.host.masked.contains v &&
      !s.is R.FAULT_STATUS_SAFE && s.is R.HOST_STATUS_LINK_UP then
    s.tlp (s.msixTlp v)
  else if s.host.pba.contains v then s
  else { s with host := { s.host with pba := s.host.pba ++ [v] } }

/-- R475: an EVENTS bit set; its block's message when the bit goes from 0 to 1 with its enable 1. Nothing is held in a block
that is off. The index is the block's (DEDUCED in part: log entry 13). -/
def State.raise (s : State) (e : Ev) (i : List Nat := []) : State :=
  if !s.live (blockDom (e.bit.off + Fam.rel e.bit.dims i / 8)) || s.is e.bit i then s
  else
    let t := s.set e.bit i
    if (s.rd e.en (i.take e.en.dims.length)).testBit e.i then t.msix e.vec else t

/-! ### Violation log (R177, R178) -/

/-- The log types of Table 07.8. -/
inductive Viol where
  | unsupported | form | unimpl | bar2Range | poisonedRx | notReady | clear | prot | failed | regRule
deriving DecidableEq, Repr

/-- The TYPE code of a violation (Table 07.8). -/
def Viol.code : Viol → Nat
  | .unsupported => 0
  | .form => 1
  | .unimpl => 2
  | .bar2Range => 3
  | .poisonedRx => 4
  | .notReady => 5
  | .clear => 6
  | .prot => 7
  | .failed => 8
  | .regRule => 9

/-- R177: an entry in the ring; the caller detects FS084. `bar` is 0 BAR0, 1 BAR2, 2 BAR4, 3 none. -/
def State.violog (s : State) (v : Viol) (bar addr : Nat) (write : Bool) (src : RegSrc) : State :=
  let n := s.rd R.HOST_VIOLOG_STATUS_NEXT
  let full := decide (16 ≤ s.rd R.HOST_VIOLOG_STATUS_COUNT)
  let s := if full then (s.incSat R.HOST_VIOLOG_OVERFLOW_COUNT).raise E.HOST_VIOLOG_OVERFLOW
    else s.inc R.HOST_VIOLOG_STATUS_COUNT
  let s := s.wr R.HOST_VIOLOG_ADDR_LO_ADDR addr [n]
  let s := s.wr R.HOST_VIOLOG_ADDR_HI_ADDR (addr / 2 ^ 32) [n]
  let s := s.wr R.HOST_VIOLOG_INFO_TYPE v.code [n]
  let s := s.wrB R.HOST_VIOLOG_INFO_WRITE write [n]
  let s := s.wr R.HOST_VIOLOG_INFO_BAR bar [n]
  let s := match src with
    | .host rid => (s.wr R.HOST_VIOLOG_INFO_SOURCE 0 [n]).wr R.HOST_VIOLOG_INFO_REQUESTER_ID rid [n]
    | _ => (s.wr R.HOST_VIOLOG_INFO_SOURCE 1 [n]).wr R.HOST_VIOLOG_INFO_REQUESTER_ID 0 [n]
  let s := s.wr R.HOST_VIOLOG_TICK_TICK s.tick32 [n]
  (s.inc R.HOST_VIOLOG_STATUS_NEXT).raise E.HOST_VIOLATION

/-! ### Event log (R380) -/

/-- The SEQ after `n`; 0xFFFF_FFFF is never used. -/
def seqNext (n : Nat) : Nat := if n + 1 < 0xFFFFFFFF then n + 1 else 0

/-- R380: `a` was taken at or after `b`, in SEQ order modulo the wrap. -/
def seqFrom (a b : Nat) : Bool := (a + 0xFFFFFFFF - b) % 0xFFFFFFFF < 2 ^ 31

/-- R380, Table 17.5: an event takes the next SEQ in the RAM ring, held in PD12 (DEDUCED in part: log entry 38). -/
def State.log (s : State) (source unit code : Nat) (data : List Byte) : State :=
  if !s.live 12 then s else
  let q := s.rd R.MGMT_LOG_SEQ_SEQ
  let e : LogEntry :=
    { tick := s.time.now, unit := unit, source := source, seq := q, code := code,
      flags := b2n (!s.is R.TIME_STATUS_NUMBER_VALID) + 2 * b2n (s.is R.TIME_STATUS_FREE_RUNNING),
      data := data ++ List.replicate (16 - data.length) 0#8 }
  let s := s.wr R.MGMT_LOG_SEQ_SEQ (seqNext q)
  match s.mgmt.ring with
  | [] => { s with mgmt := { s.mgmt with ring := [e] } }
  | o :: r =>
    if s.mgmt.ring.length < 4096 then { s with mgmt := { s.mgmt with ring := o :: r ++ [e] } }
    else
      let t : State := { s with mgmt := { s.mgmt with ring := r ++ [e] } }
      if seqFrom o.seq (s.rd R.MGMT_LOG_PERSISTED_SEQ_SEQ) then
        ((t.incSat R.MGMT_LOG_LOST_COUNT).wr R.MGMT_LOG_PERSISTED_SEQ_SEQ (seqNext o.seq)).raise E.MGMT_LOG_LOST
      else t

end Sys2Proof.Machine
end

