-- ==== Sys2Proof/Machine/Stack.lean ====
section
/-! DEFINITION. The stack's DRAM, the slab code and the erasure map (Slab code and stack addressing). -/
namespace Sys2Proof.Machine

/-! ### Locations (Table 03.1) -/

/-- R48, R49: location bits of a slab: its number with slab[8:6] XOR slab[11:9] when the bank hash is on. It is its own
inverse. -/
def locOf (hash : Bool) (slab : Nat) : Nat :=
  if hash then slab ^^^ (field slab 9 3 <<< 6) else slab

/-- The row of a slab. -/
def rowOf (slab : Nat) : Nat := field slab 9 18

/-- The column slot of a slab. -/
def colOf (slab : Nat) : Nat := slab % 8

/-- The bank position, 32 × channel + 4 × bank group + bank, of location bits. -/
def posOfLoc (loc : Nat) : Nat := 32 * field loc 3 1 + 4 * field loc 6 3 + field loc 4 2

/-- The slab at a bank position, row and column slot. -/
def slabAt (hash : Bool) (pos row col : Nat) : Nat :=
  locOf hash (row * 512 + field pos 2 3 * 64 + pos % 4 * 16 + pos / 32 * 8 + col)

/-- The bank hash in force. -/
def State.hash (s : State) : Bool := s.is R.CODE_CODE_CTRL_BANK_HASH

/-- The bank position of a slab. -/
def State.posOf (s : State) (slab : Nat) : Nat := posOfLoc (locOf s.hash slab)

/-! ### DRAM addresses

A portion is 144 bytes: its data, then its side data. Portion `p` starts at address 144 × `p`. Portions 0 to 18 × 2^27 - 1
are layer × 2^27 + location bits; above them lie the spare rows' portions, and above those the canary rows'. -/

/-- Bytes of a portion with its side data. -/
def portionBytes : Nat := 144

/-- The portion index of a spare row's column slot. -/
def spareIndex (layer pos spare col : Nat) : Nat :=
  18 * 2 ^ 27 + ((layer * 64 + pos) * 16 + spare) * 8 + col

/-- The first portion of the canary rows (Table 05.1). -/
def canaryBase : Nat := spareIndex 18 0 0 0

/-- The portion index of an eighth of a canary row. -/
def canaryIndex (layer pos row col : Nat) : Nat := canaryBase + ((layer * 64 + pos) * 2 + row) * 8 + col

/-- R127: 144 bytes of canary row 0 or 1. Data bytes and side bytes alternate alike, and a portion begins at an even address. -/
def canaryPortion (row : Nat) : List Byte :=
  (List.range portionBytes).map fun i => if (i + row) % 2 = 0 then 0x55#8 else 0xAA#8

/-- The spare that a remap list gives a row. -/
def remapOf (rs : List Remap) (layer pos row : Nat) : Option Nat :=
  (rs.find? fun r => r.layer == layer && r.pos == pos && r.row == row).map (·.spare)

/-- The portion index of a slab on a layer, under a bank hash and a remap list (R48, R134). -/
def portionIndex (hash : Bool) (rs : List Remap) (layer slab : Nat) : Nat :=
  let loc := locOf hash slab
  match remapOf rs layer (posOfLoc loc) (rowOf slab) with
  | some sp => spareIndex layer (posOfLoc loc) sp (colOf slab)
  | none => layer * 2 ^ 27 + loc

/-- The remap entries of every bench. -/
def State.remaps (s : State) : List Remap := s.bench.flatMap (·.remaps)

/-- Where a slab's portion on a layer stands now. -/
def State.place (s : State) (layer slab : Nat) : Nat := portionIndex s.hash s.remaps layer slab * portionBytes

/-! ### The slab code (R51 to R58) -/

/-- R53: the check bench of a slab with `nb` benches. -/
def checkBench (nb slab : Nat) : Nat := slab % nb

/-- Table 03.2: the codeword position of a layer. -/
def codePos (nb slab layer : Nat) : Nat :=
  let c := checkBench nb slab
  if layer = 2 * c then 0 else if layer = 2 * c + 1 then 1 else if layer < 2 * c then layer + 2 else layer

/-- Table 03.2: the layer at a codeword position. -/
def layerAt (nb slab pos : Nat) : Nat :=
  let c := checkBench nb slab
  if pos = 0 then 2 * c else if pos = 1 then 2 * c + 1 else if pos - 2 < 2 * c then pos - 2 else pos

/-- FLAGS[1:0] of a codeword position (Table 03.3, Table 03.2). -/
def roleFlags (pos : Nat) : Nat := if pos = 0 then 1 else if pos = 1 then 3 else 0

/-- Column-wise sum. -/
def xorCols (a b : List Byte) : List Byte := List.zipWith (· ^^^ ·) a b

/-- 128 zero bytes. -/
def zeroCols : List Byte := List.replicate 128 0#8

/-- Column-wise sum of portions. -/
def sumCols (ps : List (List Byte)) : List Byte := ps.foldl xorCols zeroCols

/-- Column-wise sum of `α^i` times portion `i`. -/
def wsumCols (ps : List (List Byte)) : List Byte :=
  ps.foldr (fun p acc => xorCols p (acc.map gfDouble)) zeroCols

/-- R54: the check portions of data portions. -/
def checkCols (ds : List (List Byte)) : List Byte × List Byte :=
  let b := sumCols ds
  let a := (wsumCols ds).map fun x => gfDouble (gfDouble x)
  let q := (xorCols a b).map (gfMul · 0xF4#8)
  (xorCols b q, q)

/-- R55 to R57: a portion with its side data. -/
def portion (layer slab pos : Nat) (data : List Byte) (poison gen flags : Nat) : List Byte :=
  let side := leBytes 4 poison ++ leBytes 3 gen ++ leBytes 1 (roleFlags pos ||| flags) ++ leBytes 4 (achk layer slab)
  data ++ leBytes 4 (crc32c (data ++ side)) ++ side

/-- A list cut into pieces of `n`, at most `k` of them. -/
def chunks {α : Type} (n : Nat) : Nat → List α → List (List α)
  | 0, _ => []
  | k + 1, l => l.take n :: chunks n k (l.drop n)

/-- Slab bytes with poisoned sectors zeroed (R60, R64). -/
def zeroPoison (poison : Nat) (data : List Byte) : List Byte :=
  data.mapIdx fun i b => if poison.testBit (i / 64) then 0#8 else b

/-- R60: the portions of a slab write in layer order. -/
def encodeSlab (nb slab : Nat) (data : List Byte) (poison gen flags : Nat) : List (List Byte) :=
  let n := 2 * nb
  let ds := chunks 128 (n - 2) (zeroPoison poison data)
  let pq := checkCols ds
  let word := pq.1 :: pq.2 :: ds
  (List.range n).map fun layer =>
    let pos := codePos nb slab layer
    portion layer slab pos (word.getD pos zeroCols) poison gen flags

/-! ### Reading and writing DRAM -/

/-- The slab that a stack clear wrote at a portion index, when it wrote one there (DESIGN CHOICE in part: log entry 4). -/
def ClearSeg.slabOf (g : ClearSeg) (p : Nat) : Option (Nat × Nat) :=
  if p < 18 * 2 ^ 27 then
    let layer := p / 2 ^ 27
    let slab := locOf g.hash (p % 2 ^ 27)
    if g.layers.testBit layer && decide (g.base ≤ slab) && decide (slab < g.limit) &&
        (remapOf g.remaps layer (posOfLoc (p % 2 ^ 27)) (rowOf slab)).isNone then some (layer, slab)
    else none
  else if canaryBase ≤ p then none
  else
    let q := p - 18 * 2 ^ 27
    let layer := q / 8 / 16 / 64
    let pos := q / 8 / 16 % 64
    match g.remaps.find? fun r => r.layer == layer && r.pos == pos && r.spare == q / 8 % 16 with
    | some r =>
      let slab := slabAt g.hash pos r.row (q % 8)
      if g.layers.testBit layer && decide (g.base ≤ slab) && decide (slab < g.limit) then some (layer, slab) else none
    | none => none

/-- R74: the portion that a stack clear writes. -/
def clearedPortion (nb layer slab gen : Nat) : List Byte :=
  portion layer slab (codePos nb slab layer) zeroCols 0 gen 8

/-- The layer of a portion index below the canary rows'. -/
def portionLayer (p : Nat) : Nat := if p < 18 * 2 ^ 27 then p / 2 ^ 27 else (p - 18 * 2 ^ 27) / 8192

/-- The portion that a stack clear, or MARCH_FULL with its last background, left at a portion index
(DEDUCED in part: log entry 34). -/
def ClearSeg.leaves (g : ClearSeg) (p : Nat) : Option (List Byte) :=
  if g.march then
    (if decide (p < canaryBase) && g.layers.testBit (portionLayer p) then some (List.replicate portionBytes 0x55#8) else none)
  else (g.slabOf p).map fun q => clearedPortion g.nb q.1 q.2 ((g.gen0 + q.2) % 2 ^ 24)

/-- What the unlisted bytes of the portion at index `p` read as: the pattern of R127 in a canary row, which is read only once it
has been written; elsewhere what the newest stack clear or MARCH_FULL that wrote there left, else 0 (DESIGN CHOICE, log entry 4). -/
def State.blankPortion (s : State) (p : Nat) : List Byte :=
  if canaryBase ≤ p then canaryPortion ((p - canaryBase) / 8 % 2) else
  (s.segs.findSome? (·.leaves p)).getD []

/-- What an unlisted byte of DRAM reads as (DESIGN CHOICE in part: log entry 4). -/
def State.blank (s : State) (a : Nat) : Byte := (s.blankPortion (a / portionBytes)).getD (a % portionBytes) 0#8

/-- The listed byte at an address. -/
def cellAt (a : Nat) : List Host.Cell → Option Byte
  | [] => none
  | (b, v) :: l => if b = a then some v else cellAt a l

/-- One byte of DRAM (DESIGN CHOICE in part: log entry 4). -/
def State.peek (s : State) (a : Nat) : Byte := (cellAt a s.dram).getD (s.blank a)

/-- Bytes written from address `a` on, keeping the canonical form. -/
def State.poke (s : State) (a : Nat) (bs : List Byte) : State :=
  let bp := s.blankPortion (a / portionBytes)
  let bl := fun i => if i / portionBytes = a / portionBytes then bp.getD (i % portionBytes) 0#8 else s.blank i
  let mid := (bs.zipIdx a).filterMap fun (v, i) => if v = bl i then none else some (i, v)
  { s with dram := s.dram.filter (fun c => c.1 < a) ++ mid ++ s.dram.filter fun c => a + bs.length ≤ c.1 }

/-- The portions that a stack clear or MARCH_FULL writes: they are no longer listed. -/
def State.addSeg (s : State) (g : ClearSeg) : State :=
  { s with segs := g :: s.segs, dram := s.dram.filter fun c => (g.leaves (c.1 / portionBytes)).isNone }

/-- Addresses strictly rising. -/
def cellsRise : List Host.Cell → Bool
  | [] => true
  | [_] => true
  | (a, _) :: (b, v) :: l => decide (a < b) && cellsRise ((b, v) :: l)

/-- The canonical form of DRAM: addresses strictly rising and no entry equal to what an unlisted address reads as. -/
def Memory.wf (s : State) : Bool := cellsRise s.dram && s.dram.all fun c => c.2 != s.blank c.1

/-- The 144 bytes of a slab's portion on a layer. -/
def State.readPortion (s : State) (layer slab : Nat) : List Byte :=
  let p := portionIndex s.hash s.remaps layer slab
  let bp := s.blankPortion p
  let near := s.dram.filter fun c => c.1 / portionBytes == p
  (List.range portionBytes).map fun i => (cellAt (s.place layer slab + i) near).getD (bp.getD i 0#8)

/-! ### The erasure map (R66 to R71) -/

/-- The state of a layer: 0 ONLINE, 1 LOST, 2 REJOINING, 3 ABSENT (R66); while PD08 is off, as saved in the
lantern domain (R267). -/
def State.layer (s : State) (n : Nat) : Nat :=
  if s.nLayer ≤ n then 3
  else if s.live 8 then s.rd R.CODE_LAYER_STATE_STATE [n] else (s.ras.savedLayers.getD n (0, 0)).1

/-- R67: layers LOST or REJOINING. -/
def State.offline (s : State) : Nat :=
  ((List.range s.nLayer).filter fun n => s.layer n == 1 || s.layer n == 2).length

/-- Table 03.7: the protection state, 0 FULL to 3 FAILED. -/
def State.protection (s : State) : Nat := min s.offline 3

/-- R69, R321: stack writes are refused. -/
def State.noWrites (s : State) : Bool := s.protection == 3 || s.is R.FAULT_STATUS_SAFE

/-- The planned erasure covers a slab's portion on a layer (R70, R331 step 4). -/
def State.planned (s : State) (layer slab : Nat) : Bool :=
  s.is R.CODE_PLANNED_ACTIVE && s.rd R.CODE_PLANNED_LAYER == layer &&
    s.posOf slab == 32 * s.rd R.CODE_PLANNED_CHANNEL + 4 * s.rd R.CODE_PLANNED_BANK_GROUP + s.rd R.CODE_PLANNED_BANK &&
    rowOf slab / 64 == s.rd R.CODE_PLANNED_ROW_GROUP &&
    decide (s.rd R.TEST_CS_PROGRESS_REBUILD_PTR ≤ 8 * (rowOf slab % 64) + colOf slab)

/-- Class MAPPED of Table 03.4. -/
def State.mapped (s : State) (layer slab : Nat) : Bool :=
  s.layer layer == 1 || (s.layer layer == 2 && decide (s.rd R.CODE_REJOIN_PTR_SLAB ≤ slab)) ||
    s.is R.CODE_SUSPECT_MARKS [layer, s.posOf slab] || s.planned layer slab

/-- Layers whose portion of a slab is MAPPED, as a bit map. -/
def State.mappedMap (s : State) (slab : Nat) : Nat := mapOf s.nLayer fun n => s.mapped n slab

/-- A retention-suspect mark is set. -/
def State.suspectAny (s : State) : Bool :=
  (List.range s.nLayer).any fun n => (List.range 64).any fun p => s.is R.CODE_SUSPECT_MARKS [n, p]

/-- R71: the largest number of MAPPED erasures of any slab, at most 3. -/
def State.budget (s : State) : Nat :=
  let fixed := fun pos slab => popCount s.nLayer <| mapOf s.nLayer fun n =>
    s.layer n == 1 || (s.layer n == 2 && decide (s.rd R.CODE_REJOIN_PTR_SLAB ≤ slab)) || s.is R.CODE_SUSPECT_MARKS [n, pos]
  let last := fun pos => slabAt s.hash pos 0x3FFFF 7
  let here := 32 * s.rd R.CODE_PLANNED_CHANNEL + 4 * s.rd R.CODE_PLANNED_BANK_GROUP + s.rd R.CODE_PLANNED_BANK
  let plan := slabAt s.hash here (64 * s.rd R.CODE_PLANNED_ROW_GROUP + 63) 7
  min 3 (max ((List.range 64).foldl (fun m p => max m (fixed p (last p))) 0)
    (if s.is R.CODE_PLANNED_ACTIVE then popCount s.nLayer (s.mappedMap plan) else 0))

/-- R60: a slab write issues a portion to the layer. -/
def State.writes (s : State) (layer slab : Nat) : Bool :=
  (s.layer layer == 0 || s.layer layer == 2) && !s.planned layer slab

/-- The LINK_STATUS.STATE code of ACTIVE, RECOVERY, HOLD and OFFLINE (Table 06.6). -/
def linkDown : Nat := 0
def linkActive : Nat := 2
def linkRecovery : Nat := 3
def linkHold : Nat := 4
def linkOffline : Nat := 5

/-! ### Decoding (R61 to R65) -/

/-- Portion classes (Table 03.4). -/
inductive PClass where
  | good | mapped | missing | crc | achk | role | stale
deriving DecidableEq, Repr

/-- The CLASS code of Table 13.4. -/
def PClass.code : PClass → Nat
  | .good => 0
  | .mapped => 1
  | .missing => 2
  | .crc => 3
  | .achk => 4
  | .role => 5
  | .stale => 6

/-- Decode outcomes (Table 03.6). -/
inductive Outcome4 where
  | clean | degraded | corrected | uncorrectable
deriving DecidableEq, Repr

/-- A decoded slab. -/
structure Decoded where
  outcome : Outcome4
  tie : Bool
  data : List Byte
  /-- The stored bitmap with the newly poisoned sectors, and the newly poisoned ones alone. -/
  poison : Nat
  fresh : Nat
  /-- Erased layers, and `e`. -/
  erased : Nat
  erasures : Nat
  /-- Charged layers with the class of the charge, 7 a column correction, lowest layer first (R297). -/
  charged : List (Nat × Nat)
  /-- Columns corrected at `e` = 0. -/
  columns : Nat
deriving DecidableEq, Repr

/-- The fields of a portion's side data. -/
def sideCrc (p : List Byte) : Nat := leNat (slice p 128 4)
def sidePoison (p : List Byte) : Nat := leNat (slice p 132 4)
def sideGen (p : List Byte) : Nat := leNat (slice p 136 3)
def sideFlags (p : List Byte) : Nat := leNat (slice p 139 1)
def sideAchk (p : List Byte) : Nat := leNat (slice p 140 4)

/-- Classes 1 to 5 of Table 03.4. -/
def classify (nb layer slab : Nat) (mapped : Bool) (p : Option (List Byte)) : PClass :=
  if mapped then .mapped else
  match p with
  | none => .missing
  | some p =>
    if sideCrc p ≠ crc32c (p.take 128 ++ p.drop 132) then .crc
    else if sideAchk p ≠ achk layer slab then .achk
    else if sideFlags p % 4 ≠ roleFlags (codePos nb slab layer) then .role
    else .good

/-- R62: the values of a list with their numbers of occurrences. -/
def tally : List Nat → List (Nat × Nat)
  | [] => []
  | g :: gs => (g, (gs.filter (· = g)).length + 1) :: (tally gs).filter fun p => p.1 ≠ g

/-- R62: the generation carried by most portions, and whether another shares its number. -/
def majority (gens : List Nat) : Option Nat × Bool :=
  let t := tally gens
  let m := t.foldl (fun m p => max m p.2) 0
  match t.filter fun p => p.2 = m with
  | [] => (none, false)
  | [(g, _)] => (some g, false)
  | (g, _) :: _ => (some g, true)

/-- The positions that a column's syndromes name at `e` = 0 (Table 03.5). -/
def locate (n : Nat) (s0 s1 : Byte) : Option Nat :=
  (List.range n).find? fun i => gfMul s0 (gfAlpha i) == s1

/-- One column at `e` = 0: the error position with its value, or uncorrectable. -/
def column0 (n : Nat) (s0 s1 : Byte) : Option (Option (Nat × Byte)) :=
  if s0 = 0#8 ∧ s1 = 0#8 then some none
  else if s0 = 0#8 ∨ s1 = 0#8 then none
  else (locate n s0 s1).map fun i => some (i, s0)

/-- R64: the sectors that uncorrectable columns poison, `half` 0 for columns 0 to 63 and 1 for 64 to 127. -/
def columnPoison (n : Nat) (bad : List Nat) : Nat :=
  mapOf (2 * (n - 2)) fun k => bad.any fun j => j / 64 == k % 2

/-- R61 to R65: a slab decoded from what reached the decoder, layer by layer; `inject` inverts the P symbol of column 0
(Table 14.5). -/
def decodeSlab (nb slab mapped : Nat) (ps : List (Option (List Byte))) (inject : Bool) : Decoded :=
  let n := 2 * nb
  let c1 := ps.mapIdx fun layer p => classify nb layer slab (mapped.testBit layer) p
  let gens := (ps.zip c1).filterMap fun (p, c) => if c = .good then p.map sideGen else none
  let g := majority gens
  let cls := (ps.zip c1).map fun (p, c) =>
    if c = PClass.good ∧ p.map sideGen ≠ g.1 then PClass.stale else c
  let goodOf := fun layer => if cls.getD layer .missing = .good then ps.getD layer none else none
  let word := (List.range n).map fun pos => goodOf (layerAt nb slab pos)
  let stored := word.foldl (fun m p => m ||| (p.map sidePoison).getD 0) 0
  let erasedPos := (List.range n).filter fun pos => (word.getD pos none).isNone
  let e := erasedPos.length
  let erased := mapOf n fun layer => cls.getD layer .missing != .good
  let cols := word.mapIdx fun pos p =>
    let d := (p.map (·.take 128)).getD zeroCols
    if inject && pos == 0 && p.isSome then modAt (· ^^^ 0xFF#8) d 0 else d
  let t0 := sumCols cols
  let t1 := wsumCols cols
  let errClass := cls.zipIdx.filterMap fun (c, layer) =>
    if c = PClass.good ∨ c = PClass.mapped then none else some (layer, c.code)
  let all := 2 ^ (2 * (n - 2)) - 1
  let finish := fun (cols : List (List Byte)) (new : Nat) (cc : List (Nat × Nat)) (k : Nat) (bad : Bool) =>
    let poison := stored ||| new
    { outcome := if bad then .uncorrectable
        else if cc.isEmpty && errClass.isEmpty then (if e = 0 then .clean else .degraded) else .corrected,
      tie := false, data := zeroPoison poison (cols.drop 2).flatten, poison := poison,
      fresh := new - (new &&& stored), erased := erased, erasures := e, charged := errClass ++ cc, columns := k
      : Decoded }
  if g.2 then
    { outcome := .uncorrectable, tie := true, data := List.replicate (128 * (n - 2)) 0#8, poison := all, fresh := all,
      erased := 2 ^ n - 1, erasures := n, charged := errClass, columns := 0 }
  else
    match erasedPos with
    | [] =>
      let fix := (t0.zip t1).map fun (a, b) => column0 n a b
      let bad := fix.zipIdx.filterMap fun (r, j) => if r.isNone then some j else none
      let hits := fix.zipIdx.filterMap fun (r, j) => (r.join).map fun (i, v) => (j, i, v)
      let cols := cols.mapIdx fun pos col => hits.foldl (fun col (j, i, v) =>
        if i = pos then modAt (· ^^^ v) col j else col) col
      let cc := ((List.range n).filter fun layer => hits.any fun h => h.2.1 == codePos nb slab layer).map (·, 7)
      finish cols (columnPoison n bad) cc hits.length (!bad.isEmpty)
    | [a] =>
      let res := xorCols t1 (t0.map fun x => gfMul x (gfAlpha a))
      let bad := res.zipIdx.filterMap fun (x, j) => if x = 0#8 then none else some j
      finish (setAt cols a t0) (columnPoison n bad) [] 0 (!bad.isEmpty)
    | [a, b] =>
      let d := gfInv (gfAlpha a ^^^ gfAlpha b)
      let cb := (t0.zip t1).map fun (x, y) => gfMul (y ^^^ gfMul (gfAlpha a) x) d
      let ca := xorCols t0 cb
      finish (setAt (setAt cols b cb) a ca) 0 [] 0 false
    | _ =>
      let new := mapOf (2 * (n - 2)) fun k => erasedPos.contains (k / 2 + 2)
      finish cols new [] 0 true

/-- R61: what a fetch issued with `mapped` and `missing` brings, from DRAM but for what `got` says was delivered
(DESIGN CHOICE in part: log entry 18). -/
def State.deliver (s : State) (slab mapped missing : Nat) (got : List Delivery) : List (Option (List Byte)) :=
  (List.range s.nLayer).map fun layer =>
    if mapped.testBit layer || missing.testBit layer then none
    else match got.find? fun d => d.layer == layer with
      | some d => d.bytes
      | none => some (s.readPortion layer slab)

end Sys2Proof.Machine
end

