-- ==== Sys2Proof/Machine/RegIO.lean ====
section
/-! DEFINITION. Words of the register map: which fields a BAR0 word holds, and their plain reads and writes (R8, R9, R469). -/
namespace Sys2Proof.Machine

/-- The fields of the block at a BAR0 offset (Table 22.1). -/
def blockTab (off : Nat) : List Fam :=
  match off / 0x10000 with
  | 0x00 => R.tabGLOBAL
  | 0x01 => R.tabHOST
  | 0x02 => R.tabDICT
  | 0x10 | 0x11 | 0x12 | 0x13 => R.tabHAUL
  | 0x14 => R.tabHG
  | 0x16 => R.tabCODING
  | 0x18 => R.tabCACHE
  | 0x1A => R.tabCODE ++ R.tabRAS
  | 0x40 => R.tabREG
  | 0x41 => R.tabTIME
  | 0x42 => R.tabPOWER
  | 0x43 => R.tabTHERMAL
  | 0x44 => R.tabFAULT
  | 0x45 => R.tabTEST
  | 0x46 => R.tabFUSE
  | 0x47 => R.tabRL
  | 0x48 => R.tabMGMT
  | b => if 0x20 ≤ b ∧ b < 0x29 then R.tabBENCH else if 0x30 ≤ b ∧ b < 0x39 then R.tabSHAFT else []

/-- The members that lie in the word at a BAR0 byte offset. -/
def fieldsAt (off : Nat) : List (Fam × List Nat) := (blockTab off).flatMap fun f => (f.inWord off).map fun i => (f, i)

/-- R163: REF_CTRL, REF_STATUS and REF_EVENTS of benches 1 to 8, which read zero. -/
def refCopy (off : Nat) : Bool :=
  decide (0x310000 ≤ off) && decide (off < 0x390000) && decide (0xF000 ≤ off % 0x10000) && decide (off % 0x10000 ≤ 0xF008)

/-- R471: a defined register word. -/
def definedWord (off : Nat) : Bool := !(fieldsAt off).isEmpty || refCopy off

/-- Where a member's bits begin in its word. -/
def bitOf (f : Fam) (i : List Nat) : Nat := f.key i % 32

/-- A member's value, read under R470: nothing of a part that is off, but for its lantern fields. -/
def State.readable (s : State) (f : Fam) (off : Nat) : Bool :=
  match f.held with
  | .lantern => !s.absentBlock off
  | _ => s.blockOn off

/-- R470: the word has a field that an access does not reach, of a block that is off. -/
def State.offWord (s : State) (off : Nat) : Bool := (fieldsAt off).any fun p => p.1.held != .lantern && !s.blockOn off

/-- A word as its fields hold it; write-only fields read 0. -/
def State.readRaw (s : State) (off : Nat) : Nat :=
  (fieldsAt off).foldl (fun n p =>
    if p.1.acc == .wo || !s.readable p.1 off then n else n + (s.rd p.1 p.2 <<< bitOf p.1 p.2)) 0

/-- A plain write to one field by its access code; whether it carried a reserved value (R9). W1S and WO fields act through
their own steps. -/
def State.writeField (s : State) (f : Fam) (i : List Nat) (v : Nat) : State × Bool :=
  match f.acc with
  | .rw => if f.legal v then (s.wr f v i, false) else (s, true)
  | .w1c => (s.wr f (s.rd f i - (s.rd f i &&& v)) i, false)
  | .w1s | .ro | .wo => (s, false)

/-- A plain write to a word; whether any field carried a reserved value. -/
def State.writeRaw (s : State) (off data : Nat) : State × Bool :=
  (fieldsAt off).foldl (fun (a : State × Bool) p =>
    if a.1.readable p.1 off then
      let r := a.1.writeField p.1 p.2 (field data (bitOf p.1 p.2) p.1.width)
      (r.1, a.2 || r.2)
    else a) (s, false)

end Sys2Proof.Machine
end

