-- ==== Sys2Proof/Config.lean ====
section
/-! DEFINITION. What the spec leaves open: constants without a body, so that no proof can rest on a value of theirs. -/
namespace Sys2Proof.Config

/-- R372: the SHA-384 digest of bytes; the spec names the standard and does not restate it
(DESIGN CHOICE in part: log entry 6). -/
opaque sha384 : List Byte → List Byte

/-- R372: whether an ECDSA P-384 signature verifies over a digest under a public key (DESIGN CHOICE in part: log entry 6). -/
opaque ecdsaP384 : (key digest signature : List Byte) → Bool

/-- R270, R271: a node's model value after one step of 10 µs, from the node's number and value, the values of the nodes next
to it in stack order, the lid temperature where the lid is next to it, its power input, its MODEL_SCALE and the sensed TRIM
words, whose format is internal to the factory. Values are in 1/256 of a NODE_TEMP unit, power in 0.1 mW
(DESIGN CHOICE in part: log entry 7). -/
opaque thermalStep : (node own : Nat) → (beside : List Nat) → (lid : Option Nat) → (power scale : Nat) →
    (trim : List (Nat × Nat)) → Nat

/-- R343: a byte of SHAFT_TRIM or DRV_TRIM that the TRIM words give, by its offset in the calibration record
(DESIGN CHOICE in part: log entry 7). -/
opaque trimByte : (offset : Nat) → (trim : List (Nat × Nat)) → Byte

/-- R352: the factory row repairs (layer, bank position, row, spare) and lane repairs (bench, down 0 or up 1, lane) that the REPAIR
words hold, whose format is internal to the factory (DESIGN CHOICE in part: log entry 56). -/
opaque factoryRows : (repair : List Nat) → List (Nat × Nat × Nat × Nat)
opaque factoryLanes : (repair : List Nat) → List (Nat × Nat × Nat)

/-- R271: the voltage in mV by which the current of a switched domain with two rails counts (PD00, PD01, PD22, PD25 + 4*b* and
PD26 + 4*b* of Table 01.5), from its number and the VID code in force (DESIGN CHOICE in part: log entry 58). -/
opaque mixedRail : (dom vid : Nat) → Nat

/-- R369: the JEDEC ID of the board's flash and its size in MiB (DESIGN CHOICE in part: log entry 8). -/
opaque flashId : BitVec 24
opaque flashMib : BitVec 16

/-- Table 18.9: the boot ROM version (DESIGN CHOICE in part: log entry 8). -/
opaque romVersion : BitVec 32

/-- A free value: what the spec leaves undefined, drawn by index (the field `fresh` of the state counts the draws)
(DESIGN CHOICE in part: log entry 43). -/
opaque freeNat : Nat → Nat

end Sys2Proof.Config
end

