-- ==== Sys2Proof/Machine/Fragment.lean ====
section
/-! DEFINITION. The fragment code and the digest (R214 to R217), and the operands of coded operations (R218). -/
namespace Sys2Proof.Machine

/-- R217: CRC-64, polynomial 0x42F0E1EBA9EA3693 reflected, initial value and final XOR all ones. -/
def crc64 (bs : List Byte) : Nat :=
  crcRefl 0xC96C5795D7870F42 0xFFFFFFFFFFFFFFFF 0xFFFFFFFFFFFFFFFF bs

/-- R215: the coefficient of data fragment `d` in check fragment `p` of a code with `m` check fragments. -/
def cauchy (m p d : Nat) : Byte := gfInv (BitVec.ofNat 8 p ^^^ BitVec.ofNat 8 (m + d))

/-- Row `f` of the generator matrix (R215). -/
def genRow (k m f : Nat) : List Byte :=
  (List.range k).map fun j => if f < k then (if j = f then 1#8 else 0#8) else cauchy m (f - k) j

/-- A linear combination of fragments. -/
def combine (cs : List Byte) (frags : List (List Byte)) (n : Nat) : List Byte :=
  (cs.zip frags).foldl (fun acc p => List.zipWith (fun a b => a ^^^ gfMul p.1 b) acc p.2) (List.replicate n 0#8)

/-- R215: the check fragments of data fragments of `n` bytes. -/
def checkFrags (k m n : Nat) (data : List (List Byte)) : List (List Byte) :=
  (List.range m).map fun p => combine (genRow k m (k + p)) data n

/-- A matrix row times a scalar. -/
def rowScale (a : Byte) (r : List Byte) : List Byte := r.map (gfMul a)

/-- Sum of matrix rows. -/
def rowAdd (a b : List Byte) : List Byte := List.zipWith (· ^^^ ·) a b

/-- One column of Gauss-Jordan elimination: a row of `done` to `n - 1` with a non-zero entry in column `done` is put at its
place, scaled to 1 there and taken out of every other row. -/
def gaussColumn (m : List (List Byte)) (j : Nat) : List (List Byte) :=
  match (List.range m.length).find? fun i => decide (j ≤ i) && (m.getD i []).getD j 0#8 != 0#8 with
  | none => m
  | some i =>
    let pivot := rowScale (gfInv ((m.getD i []).getD j 0#8)) (m.getD i [])
    let m := setAt (setAt m i (m.getD j [])) j pivot
    m.mapIdx fun i r => if i = j then r else rowAdd r (rowScale (r.getD j 0#8) pivot)

/-- The inverse of a square matrix. -/
def gfInverse (a : List (List Byte)) : List (List Byte) :=
  let n := a.length
  let aug := a.mapIdx fun i r => r ++ (List.range n).map fun j => if i = j then 1#8 else 0#8
  ((List.range n).foldl gaussColumn aug).map fun r => r.drop n

/-- R216: the data fragments from `k` intact ones, the fragments `rows` of the stripe. -/
def rebuildData (k m n : Nat) (rows : List Nat) (frags : List (List Byte)) : List (List Byte) :=
  (gfInverse (rows.map (genRow k m))).map fun b => combine b frags n

/-- R216: fragment `f` of the stripe from its data fragments. -/
def rebuildFrag (k m n f : Nat) (data : List (List Byte)) : List Byte :=
  if f < k then data.getD f [] else combine (genRow k m f) data n

/-! ### Operands (Table 08.3, Table 09.1) -/

/-- The ARGS of a coded descriptor. -/
structure CArgs where
  op : Nat
  units : Nat
  k : Nat
  m : Nat
  code : Nat
  mask : Nat
  first : Nat
  gen : Nat
deriving DecidableEq, Repr

/-- The ARGS of a descriptor. -/
def cArgs (raw : List Byte) : CArgs where
  op := leNat (slice raw 0 4) % 16
  units := leNat (slice raw 40 2)
  k := leNat (slice raw 42 1)
  m := leNat (slice raw 43 1)
  code := leNat (slice raw 44 1)
  mask := leNat (slice raw 46 10)
  first := leNat (slice raw 56 4)
  gen := leNat (slice raw 60 4)

/-- Bytes of a fragment. -/
def CArgs.size (a : CArgs) : Nat := 4096 * a.units

/-- Fragments that MASK names. -/
def CArgs.masked (a : CArgs) : List Nat := bitsOf 80 a.mask

/-- R194 step 3 and the constraints of Table 09.1. -/
def CArgs.bad (a : CArgs) (reserved : Nat) : Bool :=
  let n := a.masked.length
  decide (a.units = 0) || decide (256 < a.units) || decide (a.k = 0) || decide (64 < a.k) || decide (16 < a.m) || reserved != 0 ||
    decide (2 ^ (a.k + a.m) ≤ a.mask) ||
    (match a.op with
     | 3 => a.m != 0 || a.mask != 0
     | 4 => a.m == 0 || a.mask != 0
     | 5 => a.code == 0 || (a.m == 0 && a.mask != 0)
     | _ => a.m == 0 || n == 0 || decide (a.m < n))

/-- The fragments that SRC holds, ascending. -/
def CArgs.supplied (a : CArgs) : List Nat :=
  match a.op with
  | 5 => List.range (a.k + a.m)
  | 6 => (List.range (a.k + a.m)).filter fun f => !a.mask.testBit f
  | _ => List.range a.k

/-- The fragments that DST holds, ascending; none where it is ignored. -/
def CArgs.slots (a : CArgs) : List Nat :=
  match a.op with
  | 3 => []
  | 4 => (List.range a.m).map (a.k + ·)
  | _ => a.masked

/-- R219: the ledger entries of the stripe. -/
def CArgs.count (a : CArgs) : Nat := if a.op = 3 then a.k else a.k + a.m

/-- The descriptor is ledgered. -/
def CArgs.ledgered (a : CArgs) : Bool := a.code != 0

/-! ### Ledger entries (Table 09.2) -/

/-- DIGEST, GEN, STATE and CODE_ID of an entry; a reserved STATE counts as EMPTY (R221). -/
def entDigest (e : List Byte) : Nat := leNat (slice e 0 8)
def entGen (e : List Byte) : Nat := leNat (slice e 8 4)
def entState (e : List Byte) : Nat := let v := leNat (slice e 12 1); if 4 < v then 0 else v
def entCode (e : List Byte) : Nat := leNat (slice e 13 1)

/-- The 16 bytes of an entry. -/
def entBytes (digest gen state code : Nat) : List Byte :=
  leBytes 8 digest ++ leBytes 4 gen ++ leBytes 1 state ++ leBytes 1 code ++ leBytes 2 0

/-- R222: a supplied fragment matches its entry. -/
def entMatches (e : List Byte) (digest gen code : Nat) : Bool :=
  entState e != 0 && entGen e == gen && entCode e == code && entDigest e == digest

end Sys2Proof.Machine
end

