-- ==== Sys2Proof/Machine/Domain.lean ====
section
/-! DEFINITION. What a power domain loses when it is switched off or reset with the base die (Table 01.5, Table 22.1, R266,
R267, R301). -/
namespace Sys2Proof.Machine

/-- Domain PD`d` of bench `b`'s four, from PD24 on. -/
def benchDom (b k : Nat) : Nat := 24 + 4 * b + k

/-- Every domain that carries bench `b`: its endpoint, its four own domains and its layers' peripheries (R252). -/
def benchDoms (b : Nat) : List Nat := [13 + b, benchDom b 0, benchDom b 1, benchDom b 2, benchDom b 3, 60 + 2 * b, 61 + 2 * b]

/-- A bench's record changed. -/
def State.modBench (s : State) (b : Nat) (f : BenchSt → BenchSt) : State := { s with bench := modAt f s.bench b }

/-- A shaft link's record changed. -/
def State.modShaft (s : State) (b : Nat) (f : ShaftSt → ShaftSt) : State := { s with shaft := modAt f s.shaft b }

/-- A channel controller after its domain was off: nothing queued, every row closed; the refresh debt, the activation
counters and the targeted-refresh tasks stay in the bench core (R118, R125). -/
def ChanCtl.idle (c : ChanCtl) : ChanCtl :=
  { ChanCtl.reset with debt := c.debt, acts := c.acts, tasks := c.tasks }

/-- What domain PD`d` holds, put back to reset (R267: every field that is not held in the lantern domain). -/
def State.loseDomain (s : State) (d : Nat) : State :=
  if d = 2 then { s.resetBlock 0x10000 0x20000 with host := HostSt.reset }
  else if d = 3 then
    let t := (((s.dropUpdate.resetBlock 0 0x10000).resetBlock 0x20000 0x30000).resetBlock 0x300000 0x460000).resetBlock 0x480000 0x490000
    let t : State := { t with regs := t.regs.filter fun p =>
      !(decide (0x200000 * 8 ≤ p.1) && decide (p.1 < 0x300000 * 8)) }
    { t with
      shaft := t.shaft.map fun _ => ShaftSt.reset
      regul := RegulSt.reset
      thermal := { ThermalSt.reset with trip := t.thermal.trip, warnCopy := t.thermal.warnCopy }
      fault := { t.fault with shadows := [], inj := none }
      test := { t.test with mem := none, way := none, lane := none, test := none, lbist := [], ran := [], entering := false, back := [], fullDone := false }
      dict := { t.dict with port := CarrierSt.reset, rack := CarrierSt.reset, claims := [] }
      time := { t.time with sinceReset := 0 } }
  else if d = 4 then
    { (s.resetBlock 0x180000 0x190000).wr R.TEST_CS_WAY_PTR_WAY_FAILED 0 with
      cache := { CacheSt.reset with merge := s.cache.merge, nextId := s.cache.nextId } }
  else if d = 8 then
    { s.resetBlock 0x1A0000 0x1B0000 with
      cache := { s.cache with merge := [], ops := [], opq := [], reqs := [] }
      ras := { s.ras with
        ceTotal := 0, watch := [], charges := [], reports := [], clearNext := none, rejoinNext := none, sweeps := [], repair := none, slice := none, ueSeen := [] } }
  else if d = 9 then { s.resetBlock 0x100000 0x150000 with haul := { HaulSt.reset with nextTag := s.haul.nextTag } }
  else if d = 10 then { s.resetBlock 0x160000 0x170000 with coding := ⟨[], [], 0⟩ }
  else if d = 11 then
    { s with mgmt := { s.mgmt with bootAge := 0, runAge := 0, activating := false, persistTo := none, second := false, loaded := false } }
  else if d = 12 then
    { s with
      mgmt := { s.mgmt with ring := [], staged := [], stageTotal := 0, updTotal := 0, confirmDelay := 6000000 }
      dict := { s.dict with
        assetTag := [], startupMarch := 0, benchCfg := benchCfgReset, shaftCfg := shaftCfgReset, unsaved := none, saveFailed := false }
      ras := { s.ras with recDue := [] } }
  else if d = 22 then { s.resetBlock 0x470000 0x480000 with rack := RackSt.reset }
  else if d = 23 then
    { s.resetBlock 0x460000 0x470000 with
      fuse := { s.fuse with unlocked := false, armed := none, burn := none, overrides := [] }
      test := { s.test with
        active := neutralRecord, shadow := neutralRecord, run := none, apply := none, atTick := [], save := none } }
  else if 13 ≤ d ∧ d ≤ 21 then
    s.modShaft (d - 13) fun l => { l with down := ShaftDir.reset, up := ShaftDir.reset, reg := none, regq := [], upQueue := 0 }
  else if 24 ≤ d ∧ d < 60 then
    let b := (d - 24) / 4
    let lo := (0x200000 + b * 0x10000 + 0x1000) * 8
    let hi := (0x200000 + b * 0x10000 + 0x10000) * 8
    match (d - 24) % 4 with
    | 0 =>
      let t : State := { s with bregs := s.bregs.filter fun p => p.1 < lo || hi ≤ p.1 }
      t.modBench b fun x => { BenchSt.reset with canaryMode := x.canaryMode }
    | 1 => s.modBench b fun x => { x with chA := x.chA.idle }
    | 2 => s.modBench b fun x => { x with chB := x.chB.idle }
    | _ => s.modShaft b fun l => { l with records := [], upQueue := 0 }
  else s

/-- A domain switched off. -/
def State.domainOff (s : State) (d : Nat) : State :=
  let t := s.loseDomain d
  { t with power := { t.power with domOn := setBit t.power.domOn d false } }

/-- A domain switched on; what it holds is at reset. -/
def State.domainOn (s : State) (d : Nat) : State :=
  { s with power := { s.power with domOn := setBit s.power.domOn d true } }

/-- Domains switched off, in order. -/
def State.domainsOff (s : State) (ds : List Nat) : State := ds.foldl State.domainOff s

/-- Domains switched on, in order. -/
def State.domainsOn (s : State) (ds : List Nat) : State := ds.foldl State.domainOn s

/-- R4, R5, R252: the domain exists and may be on: not one of an inactive or offline bench, nor PD10 without the coding
engine. -/
def State.mayBeOn (s : State) (d : Nat) : Bool :=
  let ok := fun b => decide (b < s.nBench) && s.rd R.SHAFT_LINK_STATUS_STATE [b] != linkOffline
  if d = 10 then s.codingOn
  else if 13 ≤ d ∧ d ≤ 21 then ok (d - 13)
  else if 24 ≤ d ∧ d < 60 then ok ((d - 24) / 4)
  else if 60 ≤ d then ok ((d - 60) / 2)
  else true

/-- R251, R252, Table 11.4: the domains that are on in a state, 0 ACTIVE to 3 EMBER. -/
def State.stateDoms (s : State) (st : Nat) : List Nat :=
  (List.range 78).filter fun d =>
    s.mayBeOn d &&
      (if st ≤ 1 then true
       else if st = 2 then
         decide (d ≤ 3) || d == 11 || d == 12 || d == 22 || d == 23 || (decide (24 ≤ d) && decide (d < 60) && d % 4 == 0) ||
           decide (60 ≤ d)
       else d == 22 && s.is R.POWER_CTRL_RL_LISTEN)

/-- R266: the order in which entry switches domains off. -/
def offOrder : List Nat :=
  ((List.range 9).flatMap fun b => [benchDom b 1, benchDom b 2, benchDom b 3]) ++ (List.range 9).map (13 + ·) ++
    [4, 5, 6, 7, 8, 9, 10] ++ [11, 12, 23, 0, 1, 2, 3] ++ ((List.range 9).map fun b => benchDom b 0) ++
    (List.range 18).map (60 + ·) ++ [22]

/-- The domains that are on, but for those of a list, switched off in the order of R266. -/
def State.offBut (s : State) (keep : List Nat) : State :=
  s.domainsOff (offOrder.filter fun d => s.power.domOn.testBit d && !keep.contains d)

/-- The domains of a list that are off, switched on in the reverse order (R266). -/
def State.onUpTo (s : State) (ds : List Nat) : State :=
  s.domainsOn (offOrder.reverse.filter fun d => !s.power.domOn.testBit d && ds.contains d)

/-! ### The VID code (R248) -/

/-- The VID code of a level, with its offset from the RAILS region, capped at 0xB (R248). -/
def State.vidCode (s : State) (l : Nat) : Nat :=
  min 0xB ([9, 5, 2, 0].getD l 0 + field (s.fuseWord 12) (2 * l) 2)

/-- The VID code driven. -/
def State.driveVid (s : State) (code : Nat) : State :=
  { s.wr R.POWER_STATUS_VID code with pins := { s.pins with vid := code } }

/-- R267, R450: what the base die holds is lost as it enters reset; lantern fields, benches and DRAM stay. -/
def State.loseBaseDie (s : State) : State := (List.range 24).foldl State.loseDomain s

/-- R66, R267, R450: the layer states and marks saved in the lantern domain loaded into MEMRAS. -/
def State.loadLayers (s : State) : State :=
  s.ras.savedLayers.zipIdx.foldl (fun s (p, n) =>
    (s.wr R.CODE_LAYER_STATE_STATE p.1 [n]).wr R.CODE_LAYER_STATE_CAUSE p.2 [n]) s

end Sys2Proof.Machine
end

