-- ==== Sys2Proof/Machine/React.lean ====
section
/-! DEFINITION. The erasure map's changes, the haul halt, the management-core restart, and fault capture with its reactions
(Fault collection and reaction). -/
namespace Sys2Proof.Machine

/-! ### Words that the event log copies -/

/-- FAULT.FIRST. -/
def State.firstWord (s : State) : Nat :=
  s.rd R.FAULT_FIRST_SOURCE + 128 * s.rd R.FAULT_FIRST_VALID + 256 * s.rd R.FAULT_FIRST_REACTION

/-- POWER.LAST_ENTRY. -/
def State.lastEntryWord (s : State) : Nat :=
  s.rd R.POWER_LAST_ENTRY_TARGET + 4 * s.rd R.POWER_LAST_ENTRY_RESULT + 16 * s.rd R.POWER_LAST_ENTRY_BLOCK +
    256 * s.rd R.POWER_LAST_ENTRY_REASON + 65536 * s.rd R.POWER_LAST_ENTRY_SOURCE

/-- SHAFT `b` LINK_STATUS. -/
def State.linkStatusWord (s : State) (b : Nat) : Nat :=
  let f := fun (x : Fam) => s.rd x [b] <<< x.lsb
  f R.SHAFT_LINK_STATUS_STATE + f R.SHAFT_LINK_STATUS_WIDTH_DN + f R.SHAFT_LINK_STATUS_WIDTH_UP +
    f R.SHAFT_LINK_STATUS_STEP_DONE + f R.SHAFT_LINK_STATUS_STEP_FAIL + f R.SHAFT_LINK_STATUS_FAIL_CODE +
    f R.SHAFT_LINK_STATUS_REF_LOCK_BASE + f R.SHAFT_LINK_STATUS_REF_LOCK_BENCH + f R.SHAFT_LINK_STATUS_SPARES_DN +
    f R.SHAFT_LINK_STATUS_SPARES_UP

/-- Table 17.6 source 0x04: a state entry, refusal or wake. -/
def State.logPower (s : State) : State :=
  s.log 4 0 (s.rd R.POWER_LAST_ENTRY_RESULT) (leBytes 4 s.lastEntryWord ++ leBytes 4 (s.rd R.POWER_WAKE_SRC_SRC))

/-- R255: a host request, a doorbell or a descriptor in execution: the idle ticks count anew. -/
def State.notIdle (s : State) : State := { s with power := { s.power with idleTicks := 0 } }

/-- R255: the device returns from DOZE to ACTIVE. -/
def State.dozeExit (s : State) : State :=
  if s.rd R.POWER_STATUS_STATE = 1 then (s.wr R.POWER_STATUS_STATE 0).logPower else s

/-- Table 17.6 source 0x07: an event of shaft `b`, by its EVENTS bit. -/
def State.logShaft (s : State) (b bit : Nat) : State := s.log 7 b bit (leBytes 4 (s.linkStatusWord b))

/-! ### Pins that follow the state -/

/-- R321, R359, R457: FAULT#, ALERT# and THERMTRIP#. -/
def State.drivePins (s : State) : State :=
  { s with pins := { s.pins with
      fault := s.is R.FAULT_STATUS_SAFE || s.fuse.hold
      alert := s.is R.FAULT_FIRST_VALID || s.thermal.warnCopy
      thermtrip := s.thermal.trip.isSome } }

/-! ### Held dirty data (R477) -/

/-- Any dirty line or open merge-buffer entry. -/
def State.anyDirty (s : State) : Bool := s.cache.lines.any (·.dirty != 0) || !s.cache.merge.isEmpty

/-- HELD_DIRTY follows the state of the cache while stack writes are refused. -/
def State.heldUpdate (s : State) : State :=
  let held := s.noWrites && s.anyDirty
  let t := if held && !s.is R.CACHE_STATUS_HELD_DIRTY then s.raise E.CACHE_HELD_DIRTY else s
  t.wrB R.CACHE_STATUS_HELD_DIRTY held

/-! ### The erasure map -/

/-- R72: a new erasure ends a march under a planned erasure; the row-group is rebuilt at once
(DEDUCED in part: log entry 34). -/
def State.stopMarch (s : State) : State :=
  match s.test.mem with
  | some m =>
    if m.rebuilding then s
    else { s.wr R.TEST_CS_PROGRESS_REBUILD_PTR 0 with test := { s.test with mem := some { m with rebuilding := true } } }
  | none => s

/-- R311: a field-repair record falls due. -/
def State.recordDue (s : State) (type unit a b spare : Nat) : State :=
  { s with ras := { s.ras with recDue := s.ras.recDue ++ [⟨type, 0, unit, a, b, spare⟩] } }

/-- A layer's state and cause set, with the lantern copy of R450; a layer that the part lacks stays ABSENT
(DEDUCED in part: log entry 19). -/
def State.setLayer (s : State) (n st cause : Nat) : State :=
  if s.nLayer ≤ n then s else
  let t : State := if s.live 8 then (s.wr R.CODE_LAYER_STATE_STATE st [n]).wr R.CODE_LAYER_STATE_CAUSE cause [n] else s
  let saved := if t.ras.savedLayers.length < 18 then
    t.ras.savedLayers ++ List.replicate (18 - t.ras.savedLayers.length) (0, 0) else t.ras.savedLayers
  let t : State := { t with ras := { t.ras with savedLayers := setAt saved n (st, cause) } }
  if st = 1 ∧ (cause = 1 ∨ cause = 3) then t.recordDue 3 n cause 0 0 else t

/-- R73: a sweep with no REJOINING layer left ends without REJOIN_DONE. -/
def State.sweepCheck (s : State) : State :=
  if s.ras.rejoinNext.isSome && !(List.range s.nLayer).any (fun n => s.layer n == 2) then
    { (s.clr R.CODE_CODE_STATUS_REJOIN_BUSY).wr R.CODE_REJOIN_PTR_SLAB 0 with ras := { s.ras with rejoinNext := none } }
  else s

/-- A layer lost by cause `cause`; one that is LOST already keeps its cause. A new erasure ends a march (R72)
(DEDUCED in part: log entry 19). -/
def State.loseLayer (s : State) (n cause : Nat) : State :=
  if s.layer n = 1 ∨ s.layer n = 3 then s else ((s.setLayer n 1 cause).stopMarch).sweepCheck

/-- R67, R314: PROTECTION and OFFLINE_COUNT follow the map; a change sets STATE_CHANGE and yields FS032. On leaving FULL a
running injection is cancelled (R326), but for one that waits for the next sensing. -/
def State.protUpdate (s : State) : State × List Nat :=
  if !s.live 8 then (s, []) else
  let old := s.rd R.CODE_CODE_STATUS_PROTECTION
  let new := s.protection
  let t := s.wr R.CODE_CODE_STATUS_OFFLINE_COUNT s.offline
  if old = new then (t, []) else
  let t := (t.wr R.CODE_CODE_STATUS_PROTECTION new).raise E.CODE_STATE_CHANGE
  let t := if old = 0 ∧ t.fault.inj.isSome then
      { (t.clr R.FAULT_INJ_CTRL_GO).wr R.FAULT_INJ_STATUS_REMAINING 0 with fault := { t.fault with inj := none } }
    else t
  (t.heldUpdate, [32])

/-! ### Benches -/

/-- R160: bench `b` goes offline (DEDUCED in part: log entry 19). -/
def State.offlineCore (s : State) (b : Nat) : State :=
  let t := (s.loseLayer (2 * b) 2).loseLayer (2 * b + 1) 2
  let t := t.modShaft b fun l => { l with queue := [], records := [], flight := [], step := 0, mapping := false }
  let t := t.wr R.SHAFT_LINK_STATUS_STATE linkOffline [b]
  let t := (t.clr R.BENCH_STATUS_LINK_UP [b]).clr R.SHAFT_TRAIN_CTRL_GO [b]
  let t := (t.raise E.SHAFT_OFFLINE [b]).logShaft b 3
  ({ t with test := { t.test with back := t.test.back.filter (· != b) } } : State).domainsOff (benchDoms b)

/-! ### The haul engine -/

/-- Enabled channels set to a STATE code. -/
def State.setEnabled (s : State) (code : Nat) : State :=
  (List.range 64).foldl (fun s c => if s.is R.HAUL_CTRL_EN [c] then s.wr R.HAUL_STATUS_STATE code [c] else s) s

/-- The write of a completion entry. -/
def Use.isCompletion : Use → Bool
  | .completion _ _ => true
  | _ => false

/-- Requests of the haul and coding ports that the cache has not accepted withdrawn, but for completion writes. -/
def State.dropHaulPort (s : State) : State :=
  let kept := s.haul.chans.flatMap fun c => (c.st.filter fun p => p.2.isCompletion).map (·.1)
  let keep : CReq → Bool := fun r => match r.src with
    | .haul _ | .coding _ => kept.contains r.id
    | _ => true
  { s with cache := { s.cache with port := s.cache.port.filter keep } }

/-- R207 step 4: a run that has finished all its work: its read-back has returned, and the write of its last ledger update has been
accepted. -/
def State.runFinished (s : State) (c : HChan) (r : Run) : Bool :=
  match r.phase with
  | .completing => true
  | .updating => r.lastPcie.isNone && ((r.updates.isEmpty && r.await == 0) ||
      (r.updates.length == 1 && c.st.any fun p => p.2 == .ledgerWr && !s.cache.port.any (·.id == p.1)))
  | _ => false

/-- A channel as the halt leaves it: without its work, but for a run that has only its completion left (R207 steps 4 and 5); SAFE
ends that too, and no completion is written any more (R210). -/
def State.haltChan (s : State) (c : HChan) : HChan :=
  let safe := s.is R.FAULT_STATUS_SAFE
  let keep := !safe && c.run.any (s.runFinished c)
  { c with
    run := if keep then c.run else none
    todo := []
    st := c.st.filter fun p => (!safe && p.2.isCompletion) || (keep && p.2 == .ledgerWr) }

/-- Every channel as the halt leaves it; outstanding requests are abandoned. -/
def State.haltWork (s : State) : State :=
  let chans := s.haul.chans.map s.haltChan
  let t := ({ s with haul := { s.haul with chans := chans } } : State).dropHaulPort
  { t with
    haul := { t.haul with np := [], abandoned := t.haul.abandoned ++ t.haul.np.map NpReq.left }
    coding := { t.coding with
      active := t.coding.active.filter fun c => ((chans[c]?).bind (·.run)).isSome, waiting := [] } }

/-- R207 steps 1 and 3 to 7: the engine halts; a further trigger while it is halted only sets HALT_MORE (type 0: nothing). SAFE
ends what the first had kept (R210). -/
def State.haulHalt (s : State) (type kind addr : Nat) : State :=
  if s.is R.HG_STATUS_HALTED then
    let t := if type = 0 then s else s.set R.HG_EVENTS_HALT_MORE
    if s.is R.FAULT_STATUS_SAFE then t.haltWork else t
  else
    let t := (s.set R.HG_STATUS_HALTED).set R.HG_EVENTS_HALT
    let t := (t.wr R.HG_HALT_ADDR_LO_ADDR addr).wr R.HG_HALT_ADDR_HI_ADDR (addr / 2 ^ 32)
    let t := ((t.wr R.HG_HALT_INFO_TYPE type).wr R.HG_HALT_INFO_KIND kind).wr R.HG_HALT_TICK_TICK t.tick32
    let t := (t.setEnabled 3).haltWork
    (List.range 64).foldl (fun s c => if s.is R.HAUL_CTRL_IRQ_ERR [c] then s.msix c else s) t

/-! ### The management core -/

/-- Firmware runs (FW_STATE RUNNING). -/
def State.fwRuns (s : State) : Bool := s.live 3 && s.live 11 && s.rd R.MGMT_STATUS_FW_STATE == 2

/-- Table 17.2: the bytes of a boot header before its CHECK. -/
def BootHdr.head (h : BootHdr) : List Byte :=
  leBytes 4 0x544C4248 ++ leBytes 4 h.seq ++ leBytes 1 h.active ++ leBytes 1 (b2n h.trial) ++ leBytes 1 h.boots ++ leBytes 1 0

/-- Table 17.2: a boot header as it lies in the flash. -/
def BootHdr.bytes (h : BootHdr) : List Byte := h.head ++ leBytes 4 (crc32c h.head)

/-- R371: the boot header that 16 bytes hold: none unless MAGIC and CHECK hold. -/
def bootHdrOf (l : List Byte) : Option BootHdr :=
  if leNat (slice l 0 4) = 0x544C4248 ∧ leNat (slice l 12 4) = crc32c (l.take 12) then
    some ⟨leNat (slice l 4 4), leNat (slice l 8 1) % 2, leNat (slice l 9 1) == 1, leNat (slice l 10 1)⟩
  else none

/-- R371: the governing boot-header copy, and whether it is copy 1. -/
def State.header (s : State) : Option (BootHdr × Bool) :=
  match bootHdrOf s.mgmt.hdr0, bootHdrOf s.mgmt.hdr1 with
  | some a, some b => if a.seq < b.seq then some (b, true) else some (a, false)
  | some a, none => some (a, false)
  | none, some b => some (b, true)
  | none, none => none

/-- R371: a header write replaces the copy that does not govern, with SEQ one higher. -/
def State.writeHeader (s : State) (active : Nat) (trial : Bool) (boots : Nat) : State :=
  match s.header with
  | some (h, true) => { s with mgmt := { s.mgmt with hdr0 := (⟨h.seq + 1, active, trial, boots⟩ : BootHdr).bytes } }
  | some (h, false) => { s with mgmt := { s.mgmt with hdr1 := (⟨h.seq + 1, active, trial, boots⟩ : BootHdr).bytes } }
  | none => { s with mgmt := { s.mgmt with hdr0 := (⟨1, active, trial, boots⟩ : BootHdr).bytes } }

/-- R393, R403: a flash operation that firmware performs within a command ends; whether it succeeds is the flash's, and no operand of
the command: a free value (DESIGN CHOICE in part: log entry 42). -/
def State.flashOp (s : State) : Bool × State :=
  let d := s.draw
  (Config.freeNat d.1 % 2 == 0, d.2)

/-! ### Images (R372) -/

/-- Byte `i` of an image; what has not been programmed reads as 0xFF. -/
def imgByte (img : List Byte) (i : Nat) : Byte := img.getD i 0xFF#8

/-- Bytes `[off, off + n)` of an image (DEDUCED in part: log entry 39). -/
def imgBytes (img : List Byte) (off n : Nat) : List Byte := (List.range n).map fun i => imgByte img (off + i)

/-- A little-endian field of an image header. -/
def imgField (img : List Byte) (off n : Nat) : Nat := leNat (imgBytes img off n)

/-- VERSION and ROLLBACK_VER. -/
def imgVersion (img : List Byte) : Nat := imgField img 8 4
def imgRollback (img : List Byte) : Nat := imgField img 0xC 1

/-- Table 17.6 source 0x06. -/
def State.logImage (s : State) (slot code version rollback : Nat) : State :=
  s.log 6 slot code (leBytes 4 version ++ leBytes 1 rollback)

/-- The contents of a slot: 0 A, 1 B. -/
def State.slot (s : State) (k : Nat) : List Byte := if k = 0 then s.mgmt.slotA else s.mgmt.slotB

/-- Table 17.6 source 0x06, for the image in slot `k`. -/
def State.logSlot (s : State) (k code : Nat) : State := s.logImage k code (imgVersion (s.slot k)) (imgRollback (s.slot k))

/-- R374 steps 1 to 3, R375: the boot ROM selects the slot it tries first. -/
def State.bootStart (s : State) (bootsel : Bool) : State :=
  let s := (s.wrB R.MGMT_STATUS_BOOTSEL bootsel).clr R.MGMT_STATUS_ROLLED_BACK
  let s : State := { s with mgmt := { s.mgmt with bootAge := 0, second := false, runAge := 0 } }
  if bootsel then s.wr R.MGMT_STATUS_FW_STATE 4
  else
    let s := if s.rd R.MGMT_STATUS_FW_STATE = 5 then s else s.wr R.MGMT_STATUS_FW_STATE 1
    match s.header with
    | none => { s.clr R.MGMT_STATUS_TRIAL with mgmt := { s.mgmt with loading := 0 } }
    | some (h, _) =>
      if h.trial && decide (h.boots < 2) then
        let s := s.writeHeader h.active true (h.boots + 1)
        { s.set R.MGMT_STATUS_TRIAL with mgmt := { s.mgmt with loading := h.active } }
      else if h.trial then
        let s := (s.writeHeader (1 - h.active) false 0).clr R.MGMT_STATUS_TRIAL
        let s := (s.set R.MGMT_STATUS_ROLLED_BACK).raise E.MGMT_ROLLED_BACK
        let s := s.logSlot (1 - h.active) 0
        { s with mgmt := { s.mgmt with loading := 1 - h.active } }
      else { s.clr R.MGMT_STATUS_TRIAL with mgmt := { s.mgmt with loading := h.active } }

/-- Ring entries from SEQ `a` on, before SEQ `b`. -/
def ringBetween (ring : List LogEntry) (a b : Nat) : List LogEntry :=
  ring.filter fun e => seqFrom e.seq a && !seqFrom e.seq b

/-- R381: entries programmed from a fresh page on; sectors are erased so that at most 480 of the 512 hold entries
(DEDUCED in part: log entry 38). -/
def appendLog (area : List (Option LogEntry)) (es : List LogEntry) : List (Option LogEntry) :=
  let pad := List.replicate ((8 - area.length % 8) % 8) none
  let l := area ++ pad ++ es.map some
  l.drop ((l.length - 61440 + 127) / 128 * 128)

/-- R381: the entries before SEQ `b` persisted, where they are not already. -/
def State.persistBefore (s : State) (b : Nat) : State :=
  let es := ringBetween s.mgmt.ring (s.rd R.MGMT_LOG_PERSISTED_SEQ_SEQ) b
  if seqFrom (s.rd R.MGMT_LOG_PERSISTED_SEQ_SEQ) b then s else
  let s := s.wr R.MGMT_LOG_PERSISTED_SEQ_SEQ b
  { s with mgmt := { s.mgmt with flashLog := if es.isEmpty then s.mgmt.flashLog else appendLog s.mgmt.flashLog es } }

/-- R381, R382: the whole ring persisted at once, by what waits for it. -/
def State.persistAll (s : State) : State := (s.persistBefore (s.rd R.MGMT_LOG_SEQ_SEQ)).raise E.MGMT_LOG_PERSISTED

/-- R378: a staged image's header is written, after the ring has been persisted. -/
def State.activate (s : State) : State :=
  let s := s.persistAll
  let slot := 1 - s.rd R.MGMT_STATUS_SLOT
  let s := (s.logSlot slot 0).writeHeader slot true 0
  { s.wr R.MGMT_STATUS_UPDATE_STATE 0 with mgmt := { s.mgmt with activating := true } }

/-- R379: the management core is reset and restarted from the boot ROM. An update in progress is dropped with its slot (R377); a staged
image with ACT_MODE 0 is activated (R378) (DEDUCED in part: log entry 39). -/
def State.mgmtRestart (s : State) : State :=
  if !s.live 11 then s else
  let u := s.rd R.MGMT_STATUS_UPDATE_STATE
  let s := if u = 4 ∧ s.rd R.MGMT_UPDATE_INFO_ACT_MODE = 0 then s.activate
    else s.dropUpdate
  let s := (s.wr R.MGMT_STATUS_FW_STATE 5).incSat R.MGMT_MGMT_RESETS_COUNT
  let s := (s.clr R.MGMT_WDOG_CTRL_EN).wr R.MGMT_WDOG_COUNT_TICKS 0
  let s : State := { s with
    mgmt := { s.mgmt with persistTo := none, persistDue := s.mgmt.persistDue || s.mgmt.persistTo.isSome, updTotal := 0 }
    dict := { s.dict with port := { s.dict.port with open_ := none }, rack := { s.dict.rack with open_ := none } } }
  (s.clr R.MGMT_CTRL_LOG_PERSIST).bootStart s.pins.bootsel

/-! ### Sleep entry under a fault (R260) -/

/-- LAST_ENTRY and LAST_ENTRY_TICK written. -/
def State.lastEntry (s : State) (target result block reason source tick : Nat) : State :=
  let s := s.wr R.POWER_LAST_ENTRY_TICK_TICK tick
  let s := (s.wr R.POWER_LAST_ENTRY_TARGET target).wr R.POWER_LAST_ENTRY_RESULT result
  ((s.wr R.POWER_LAST_ENTRY_BLOCK block).wr R.POWER_LAST_ENTRY_REASON reason).wr R.POWER_LAST_ENTRY_SOURCE source

/-- The sequencer becomes idle. A deferred shift start takes effect at the first tick after that at the earliest (R32, R38). -/
def State.seqIdle (s : State) : State :=
  { (s.clr R.POWER_STATUS_SEQ_BUSY).clr R.POWER_REQ_GO with
    power := { s.power with seq := .idle, granted := [], waitReady := [] }
    time := { s.time with freshShift := s.time.freshShift || s.time.startDeferred } }

/-- The benches that block 8 asks: those that are not offline and have been trained. -/
def State.askedBenches (s : State) : List Nat :=
  (List.range s.nBench).filter fun b =>
    s.rd R.SHAFT_LINK_STATUS_STATE [b] != linkOffline && s.rd R.SHAFT_LINK_STATUS_STATE [b] != linkDown

/-- R153, R161: a bench's link goes to HOLD, from where training starts, with its layers in self-refresh; a training step that
runs is cut off. -/
def State.holdBench (s : State) (b : Nat) : State :=
  let s := ((s.wr R.SHAFT_LINK_STATUS_STATE linkHold [b]).clr R.BENCH_STATUS_LINK_UP [b]).clr R.SHAFT_TRAIN_CTRL_GO [b]
  let s := s.modShaft b fun l => { l with step := 0 }
  (s.modBench b fun x => { x with selfRefresh := true }).wrB R.BENCH_STATUS_SELF_REFRESH (s.live (benchDom b 0)) [b]

/-- Every trained link goes to HOLD. -/
def State.holdLinks (s : State) : State := s.askedBenches.foldl State.holdBench s

/-- Table 11.7, R260: block 8 restarts: the links train again, and canary mode clears with no check. -/
def State.restartBenches (s : State) : State :=
  let s := s.holdLinks
  { s with bench := s.bench.map fun x => { x with canaryMode := false, retaining := false, canaryDue := false, drain := none } }

/-- The sequencer has asked block 8, or prepares to (R257). -/
def SeqPhase.benches : SeqPhase → Bool
  | .asking b => b == 8
  | .preparing | .switching => true
  | _ => false

/-- R260: a SAFE or TRIP reaction ends an entry in progress; after SAFE the blocks restart and the device stays in its prior
state, in REST with the P3 code (R250). -/
def State.faultAbort (s : State) (trip : Bool) : State :=
  match s.power.seq with
  | .asking _ | .preparing | .switching =>
    let s := s.lastEntry s.power.target 3 0 0 s.power.source s.power.reqTick
    let prior := s.rd R.POWER_STATUS_STATE
    let on := s.stateDoms prior
    let s := if trip then s else
      let t := if s.power.seq.benches then s.restartBenches else s
      let t := (t.offBut on).onUpTo on
      if prior = 2 then t.driveVid (t.vidCode 3) else t
    s.seqIdle.logPower
  | _ => s

/-! ### Fault capture (R317 to R324) -/

/-- Sources that Table 14.1 names. -/
def srcNamed (n : Nat) : Bool :=
  n < 121 && !(n == 15 || (decide (24 ≤ n) && decide (n ≤ 31)) || (decide (57 ≤ n) && decide (n ≤ 63)) ||
    (decide (76 ≤ n) && decide (n ≤ 79)) || (decide (90 ≤ n) && decide (n ≤ 95)) || (decide (107 ≤ n) && decide (n ≤ 111)))

/-- The domain whose loss silences a source (R317); 3 for those of the fabric and the lantern domain. -/
def srcDomain (n : Nat) : Nat :=
  if 32 ≤ n ∧ n ≤ 39 then 8
  else if 40 ≤ n ∧ n ≤ 43 then 4
  else if n = 44 then 8
  else if 48 ≤ n ∧ n ≤ 56 then benchDom (n - 48) 0
  else if n = 80 ∨ n = 81 then 9
  else if n = 82 ∨ n = 83 ∨ n = 85 then 2
  else if 86 ≤ n ∧ n ≤ 88 then 10
  else if n = 96 ∨ n = 97 ∨ n = 102 ∨ n = 104 then 23
  else if 98 ≤ n ∧ n ≤ 106 then (if n = 103 then 3 else 11)
  else if 112 ≤ n ∧ n ≤ 115 then 22
  else 3

/-- A source can be set on this part now (R317). -/
def State.srcLive (s : State) (n : Nat) : Bool :=
  srcNamed n && s.live 3 && s.live (srcDomain n) &&
    !(decide (48 ≤ n) && decide (n ≤ 56) && decide (s.nBench ≤ n - 48)) &&
    !(decide (64 ≤ n) && decide (n ≤ 72) && decide (s.nBench ≤ n - 64))

/-- Table 14.4: the sources that a target's shadow masks. -/
def shadowMask (t n : Nat) : Bool :=
  match t with
  | 0 => n == 80 || n == 81 || n == 83
  | 1 => n == 80 || n == 81 || (decide (86 ≤ n) && decide (n ≤ 88))
  | 2 => (decide (98 ≤ n) && decide (n ≤ 101)) || n == 105 || n == 106 || n == 120
  | 3 => decide (112 ≤ n) && decide (n ≤ 116)
  | t => n == 43 + t || n == 59 + t || n == 34 || n == 46 || n == 47 || n == 74 || n == 75

/-- The fence target of a source (Table 14.1). -/
def fenceTarget (n : Nat) : Option Nat :=
  if 48 ≤ n ∧ n ≤ 56 then some (n - 43)
  else if 64 ≤ n ∧ n ≤ 72 then some (n - 59)
  else if n = 80 ∨ n = 81 then some 0
  else if n = 86 then some 1
  else if n = 98 ∨ n = 99 then some 2
  else if n = 115 then some 3
  else none

/-- R324: a shadow opened, or restarted. -/
def State.openShadow (s : State) (t : Nat) : State :=
  let n := s.rd R.FAULT_CTRL_SHADOW
  { s.set R.FAULT_STATUS_SHADOW_OPEN with
    fault := { s.fault with shadows := s.fault.shadows.filter (·.1 != t) ++ [(t, n)] } }

/-- R318: capture in STICKY and FIRST; whether the sticky bit was 0 (DEDUCED in part: log entry 32). -/
def State.capture (s : State) (n reaction : Nat) : State × Bool :=
  let was := s.is R.FAULT_STICKY_SOURCES [n]
  let t := s.set R.FAULT_STICKY_SOURCES [n]
  let t := if t.is R.FAULT_FIRST_VALID then t
    else ((t.wr R.FAULT_FIRST_SOURCE n).wr R.FAULT_FIRST_REACTION reaction).wr R.FAULT_FIRST_TICK_TICK t.tick32
      |>.set R.FAULT_FIRST_VALID
  (t.drivePins, !was)

/-- R319, R475: EVENTS bits of the FAULT block that one clock sets raise vector 66 once. -/
def State.raiseFault (s : State) (note fence shadow : Bool) : State :=
  let n := note && !s.is R.FAULT_EVENTS_NOTE
  let f := fence && !s.is R.FAULT_EVENTS_FENCE
  let h := shadow && !s.is R.FAULT_EVENTS_SHADOWED
  let en := s.rd R.FAULT_EVENT_EN_EN
  let t := if n then s.set R.FAULT_EVENTS_NOTE else s
  let t := if f then t.set R.FAULT_EVENTS_FENCE else t
  let t := if h then t.set R.FAULT_EVENTS_SHADOWED else t
  if (n && en.testBit 0) || (f && en.testBit 1) || (h && en.testBit 2) then t.msix 66 else t

/-- What one clock leaves for the next: sources detected, and shadows that open. -/
structure Later where
  srcs : List Nat
  opens : List Nat
deriving DecidableEq, Repr

/-- R321: SAFE. -/
def State.safeAct (s : State) : State × Later :=
  if s.is R.FAULT_STATUS_SAFE then (s, ⟨[], []⟩) else
  let t := ((s.set R.FAULT_STATUS_SAFE).haulHalt 0 0 0).openShadow 0
  let t : State := { t with host := { t.host with aer := t.host.aer ++ [Aer.uncorrectableInternal] } }
  ((((t.emit (.aer .uncorrectableInternal)).faultAbort false).heldUpdate).drivePins, ⟨[83], []⟩)

/-- R280: the device switches off in the order of R266, and PERST# counts no more. The latch's record is written by the caller. -/
def State.tripAct (s : State) : State :=
  let t := (s.faultAbort true).set R.FAULT_STATUS_TRIPPED
  let t : State := if t.thermal.trip.isSome then t else { t with thermal := { t.thermal with trip := some (0, 0) } }
  let t : State := { t with power := { t.power with perstHeld := false, resetReq := none } }
  (t.offBut []).seqIdle.drivePins

/-- Table 14.3: a FENCE of target `t`. One that is fenced already changes nothing; a bench that is offline already stays so. -/
def State.fenceAct (s : State) (t : Nat) : State × Later :=
  if (s.rd R.FAULT_FENCED_TARGETS).testBit t then (s, ⟨[], []⟩) else
  let s := (s.wr R.FAULT_FENCED_TARGETS (setBit (s.rd R.FAULT_FENCED_TARGETS) t true)).openShadow t
  match t with
  | 0 => (s.haulHalt 0 0 0, ⟨[], []⟩)
  | 1 => if s.is R.HG_STATUS_HALTED then (s.haulHalt 0 0 0, ⟨[], []⟩) else ((s.haulHalt 0 0 0).openShadow 0, ⟨[], []⟩)
  | 2 => (s.mgmtRestart, ⟨[], []⟩)
  | 3 => (s, ⟨[], []⟩)
  | t =>
    let b := t - 5
    if s.rd R.SHAFT_LINK_STATUS_STATE [b] = linkOffline then (s, ⟨[], []⟩) else
    let r := (s.offlineCore b).protUpdate
    (r.1, ⟨(59 + t) :: r.2, []⟩)

/-- One clock of the collector: the sources detected, against the shadows open before it, and their reactions
(DEDUCED in part: log entry 32). -/
def State.detectClock (s : State) (l : Later) : State × Later :=
  let srcs := (List.range 128).filter fun n => l.srcs.contains n && s.srcLive n
  let isMasked : Nat → Bool := fun n => s.fault.shadows.any fun p => 0 < p.2 && shadowMask p.1 n
  let masked := srcs.filter isMasked
  let plain := srcs.filter fun n => !isMasked n
  let s := masked.foldl (fun s n =>
    (s.set R.FAULT_SHADOW_STICKY_SOURCES [n]).incSat R.FAULT_SHADOW_COUNT_COUNT) s
  let s := l.opens.foldl State.openShadow s
  let got := plain.foldl (fun (a : State × List Nat) n =>
    let r := a.1.rd R.FAULT_REACT_REACTION [n]
    let c := a.1.capture n r
    (c.1, if c.2 && decide (1 ≤ r) then a.2 ++ [n] else a.2)) (s, [])
  let s := got.2.foldl (fun s n => s.log 1 n (s.rd R.FAULT_REACT_REACTION [n]) (leBytes 4 s.firstWord)) got.1
  let code : Nat → Nat := fun n => s.rd R.FAULT_REACT_REACTION [n]
  let fences := plain.filterMap fun n => if code n = 2 then fenceTarget n else none
  let fresh := fences.any fun t => !(s.rd R.FAULT_FENCED_TARGETS).testBit t
  let safe := plain.any fun n => code n == 3
  let trip := plain.any fun n => code n == 4
  let s := s.raiseFault (!got.2.isEmpty) fresh (!masked.isEmpty)
  let r := fences.foldl (fun (a : State × Later) t =>
    let f := a.1.fenceAct t
    (f.1, ⟨a.2.srcs ++ f.2.srcs, a.2.opens ++ f.2.opens⟩)) (s, ⟨[], []⟩)
  let r := if safe then
      let f := r.1.safeAct
      (f.1, ⟨r.2.srcs ++ f.2.srcs, r.2.opens⟩)
    else r
  if trip then (r.1.tripAct, ⟨[], []⟩) else r

/-- The collector run until a clock leaves nothing for the next. -/
def State.detectGo : Nat → State → Later → State
  | 0, s, _ => s
  | k + 1, s, l =>
    if l.srcs.isEmpty && l.opens.isEmpty then s
    else
      let r := s.detectClock l
      State.detectGo k r.1 r.2

/-- R318: sources detected in one clock, with shadows that open in that clock. -/
def State.detect (s : State) (srcs : List Nat) (opens : List Nat := []) : State := State.detectGo 12 s ⟨srcs, opens⟩

/-- The protection state brought up to date, with FS032. -/
def State.protSettle (s : State) : State :=
  let r := s.protUpdate
  r.1.detect r.2

/-- R160, R324: a bench goes offline for a cause other than a FENCE: FS064 + `b` and the shadow in one clock, then FS032. -/
def State.offline1 (s : State) (b : Nat) : State :=
  let r := (s.offlineCore b).protUpdate
  (r.1.detect [64 + b] [5 + b]).detect r.2

/-- R207, R324: a bus-error halt. -/
def State.busHalt (s : State) (type kind addr : Nat) : State :=
  let more := s.is R.HG_STATUS_HALTED
  let t := s.haulHalt type kind addr
  if more then t else t.detect [80] [0]

/-- R177: a violation logged, with FS084. -/
def State.violate (s : State) (v : Viol) (bar addr : Nat) (write : Bool) (src : RegSrc) : State :=
  (s.violog v bar addr write src).detect [84]

/-- R178: a register write refused or ignored with logging. -/
def State.refuse (s : State) (src : RegSrc) (off : Nat) : State := s.violate .regRule 0 off true src

/-- R181: the header of the TLP in error in the header log, in the standard's format, which the spec does not restate
(DESIGN CHOICE in part: log entry 14). -/
def State.logHeader (s : State) : State :=
  let r := s.draw
  { r.2 with host := { r.2.host with hdrLog := (List.range 4).map fun k => Config.freeNat (4 * r.1 + k) % 2 ^ 32 } }

/-- An error that a TLP shows, so that it has a header. -/
def aerHasHeader : Aer → Bool
  | .completionTimeout | .uncorrectableInternal => false
  | _ => true

/-- An error recorded through AER, with FS083 where it is uncorrectable. The first one is the error of the header log. -/
def State.aer (s : State) (e : Aer) : State :=
  let t := if s.host.aer.isEmpty && aerHasHeader e then s.logHeader else s
  (({ t with host := { t.host with aer := if t.host.aer.contains e then t.host.aer else t.host.aer ++ [e] } } : State).emit
    (.aer e)).detect [83]

end Sys2Proof.Machine
end

