-- ==== Sys2Proof/Machine/Regulation.lean ====
section
/-! DEFINITION. Pitch labels and bandwidth regulation: windows, charging, classes and the guarantee ceiling (R234 to R246). -/
namespace Sys2Proof.Machine

/-! ### Units (R237) -/

/-- The charge of one fetch, or of one full-slab write. -/
def State.slabUnits (s : State) : Nat := if s.is16 then 8 else 6

/-! ### The guarantee ceiling (R242) -/

/-- G over written budgets, with label `l`'s BUDGET and FIXED taken as given. -/
def State.writtenG (s : State) (l budget : Nat) (fixed : Bool) : Nat :=
  (List.range 64).foldl (fun g k =>
    if k = l then (if fixed then g else g + budget)
    else if s.is R.REG_LABEL_CFG_FIXED [k] then g else g + s.rd R.REG_LABEL_CFG_BUDGET [k]) 0

/-- The written G. -/
def State.gSum (s : State) : Nat := s.writtenG 64 0 true

/-- The G in force. -/
def State.gForce (s : State) (budgets : List Nat) : Nat :=
  ((budgets.zipIdx.filter fun p => !s.is R.REG_LABEL_EFF_FIXED [p.2]).map (·.1)).sum

/-- CEILING × WINDOW, over the written values. -/
def State.ceilingNow (s : State) : Nat := s.rd R.REG_CEILING_UNITS * s.rd R.REG_CTRL_WINDOW

/-- A write refused under R241 or R242. -/
def State.ceilingRefused (s : State) (src : RegSrc) (off : Nat) : State := (s.raise E.REG_CEILING_REFUSED).refuse src off

/-- Written FIXED bits. -/
def State.fixedCount (s : State) : Nat := ((List.range 64).filter fun k => s.is R.REG_LABEL_CFG_FIXED [k]).length

/-- G_SUM follows the written values. -/
def State.gSettle (s : State) : State := s.wr R.REG_G_SUM_UNITS s.gSum

/-- R241, R242: a write of LABEL_CFG `l`; the FIXED bit and the whole word are judged in turn. -/
def State.labelCfgWrite (s : State) (src : RegSrc) (l data : Nat) : State :=
  if 64 ≤ l ∨ !s.live 3 then s else
  let was := s.is R.REG_LABEL_CFG_FIXED [l]
  let want := data.testBit 20 || l == 1
  let bad := want && !was && (decide (62 ≤ l) || decide (4 ≤ s.fixedCount))
  let fixed := want && !bad
  let budget := field data 0 20
  let short := decide (s.ceilingNow < s.writtenG l budget fixed)
  let t := if short then s else (s.wr R.REG_LABEL_CFG_BUDGET budget [l]).wrB R.REG_LABEL_CFG_FIXED fixed [l]
  let t := t.gSettle
  if bad || short then t.ceilingRefused src (R.REG_LABEL_CFG_BUDGET.off + 4 * l) else t

/-- R242: a write of CEILING. -/
def State.ceilingWrite (s : State) (src : RegSrc) (v : Nat) : State :=
  let v := v % 65536
  if !s.live 3 then s
  else if v = 0 then s.refuse src R.REG_CEILING_UNITS.off
  else if v * s.rd R.REG_CTRL_WINDOW < s.gSum then s.ceilingRefused src R.REG_CEILING_UNITS.off
  else s.wr R.REG_CEILING_UNITS v

/-- R239, R242: a write of CTRL.WINDOW. -/
def State.windowWrite (s : State) (src : RegSrc) (v : Nat) : State :=
  let v := v % 128
  if !s.live 3 then s
  else if v = 0 ∨ 64 < v then s.refuse src R.REG_CTRL_WINDOW.off
  else if s.rd R.REG_CEILING_UNITS * v < s.gSum then s.ceilingRefused src R.REG_CTRL_WINDOW.off
  else s.wr R.REG_CTRL_WINDOW v

/-! ### Classes and charging (R237, R238, R240, R241) -/

/-- The class of a label: 0 FIXED, 1 GUARANTEED, 2 SPILL. -/
def State.classOf (s : State) (l : Nat) : Nat :=
  if s.is R.REG_LABEL_EFF_FIXED [l] then 0
  else if s.rd R.REG_LABEL_USED_UNITS [l] < s.rd R.REG_LABEL_EFF_UNITS [l] then 1 else 2

/-- A slab operation charged to its label (DEDUCED in part: log entry 28). -/
def State.charge (s : State) (l units : Nat) : State :=
  let before := s.classOf l
  let t := s.addSat R.REG_LABEL_USED_UNITS units [l]
  if before = 1 ∧ t.classOf l = 2 then (t.set R.REG_LABEL_USED_SPILL [l]).incSat R.REG_LABEL_SPILLS_COUNT [l] else t

/-! ### Windows (R236, R239, R243) -/

/-- Request `id` waits at a cache port, or its packet at PCIe egress. -/
def State.waits (s : State) (id : Nat) : Bool := s.cache.port.any (·.id == id) || s.host.egress.any (·.id == id)

/-- No window has started at this tick yet. -/
def State.windowFresh (s : State) : Bool := s.regul.first || s.regul.started != s.time.now

/-- R236: a window starts at this tick: the tick is a multiple of WINDOW, or none has started since the reset; and none has
started at this tick yet. -/
def State.windowDue (s : State) : Bool :=
  s.regul.first || (s.time.now % s.regul.window == 0 && s.windowFresh)

/-- Consumption of the labels that were fixed-high in the window that ends, 0 for the first window after reset (R243). -/
def State.fixedUsed (s : State) : Nat :=
  if s.regul.first then 0 else
    ((List.range 64).map fun k =>
      if s.is R.REG_LABEL_EFF_FIXED [k] then s.rd R.REG_LABEL_USED_UNITS [k] else 0).sum

/-- What the governor's step takes from regulation (R285, R288, R289): W, F and the G in force, of the window that starts at
this tick where one is due. -/
def State.govW (s : State) : Nat := if s.windowDue then s.rd R.REG_CTRL_WINDOW else s.regul.window

@[inherit_doc State.govW]
def State.govF (s : State) : Nat := if s.windowDue then s.fixedUsed else s.rd R.REG_FIXED_PREV_UNITS

@[inherit_doc State.govW]
def State.govG (s : State) : Nat := if s.windowDue then s.gSum else s.gForce s.regul.budgets

/-- A regulation window starts. D takes the governor's figure of the previous tick and the fixed-high consumption of the
window that ends (DEDUCED in part: log entry 28). -/
def State.newWindow (s : State) : State :=
  if !s.live 3 then s else
  let f := s.fixedUsed
  let w := s.rd R.REG_CTRL_WINDOW
  let s := (List.range 64).foldl (fun s k => s.wrB R.REG_LABEL_EFF_FIXED (s.is R.REG_LABEL_CFG_FIXED [k]) [k]) s
  let budgets := (List.range 64).map fun k => s.rd R.REG_LABEL_CFG_BUDGET [k]
  let g := s.gForce budgets
  let d := w * s.regul.prevD - f
  let eff : Nat → Nat := fun k =>
    if s.is R.REG_LABEL_EFF_FIXED [k] then 0
    else
      let b := budgets.getD k 0
      if g ≤ d then b else b * d / g
  let s := (List.range 64).foldl (fun s k =>
    let e := eff k
    ((s.wr R.REG_LABEL_EFF_UNITS e [k]).wr R.REG_LABEL_USED_UNITS 0 [k]).wrB R.REG_LABEL_USED_SPILL
      (e == 0 && !s.is R.REG_LABEL_EFF_FIXED [k]) [k]) s
  let short := decide (d < g)
  let sat := short && d == 0
  let wasOver := s.is R.REG_STATUS_OVERSUBSCRIBED
  let s := if short && !wasOver then s.raise E.REG_OVERSUB_SET else s
  let s := if !short && wasOver then s.raise E.REG_OVERSUB_CLEAR else s
  let s := if sat && !s.is R.REG_STATUS_FIXED_SATURATED then s.raise E.REG_FIXED_SATURATED else s
  let s := (s.wrB R.REG_STATUS_OVERSUBSCRIBED short).wrB R.REG_STATUS_FIXED_SATURATED sat
  let s := if short then s.incSat R.REG_OVERSUB_WINDOWS_COUNT else s
  let s := (s.wr R.REG_D_NOW_UNITS (min d 0xFFFFFF)).wr R.REG_FIXED_PREV_UNITS (min f 0xFFFFFF)
  let s := s.wr R.REG_STATUS_FIXED_COUNT s.fixedCount
  { s with regul := { s.regul with window := w, started := s.time.now, first := false, budgets := budgets, aged := s.regul.aged.filter s.waits } }

/-! ### Commands -/

/-- REGULATION_WINDOW_START. -/
def execRegulationWindowStart (s : State) : Host.Outcome State Fault Refusal :=
  .next (if s.windowDue then s.newWindow else s)

/-- The label of what waits under an identifier, at a cache port or at PCIe egress. -/
def State.waitLabel (s : State) (id : Nat) : Option Nat :=
  match s.cache.port.find? (·.id == id) with
  | some r => some r.label
  | none => (s.host.egress.find? (·.id == id)).bind (·.label)

/-- R240: a SPILL request that has waited 2 µs at a cache port or at PCIe egress is served as GUARANTEED
(DESIGN CHOICE in part: log entry 10). -/
def State.spillAged (s : State) (id : Nat) : State :=
  match s.waitLabel id with
  | some l =>
    if s.classOf l = 2 ∧ !s.regul.aged.contains id then
      { s with regul := { s.regul with aged := s.regul.aged ++ [id] } }
    else s
  | none => s

/-- SPILL_AGED. -/
def execSpillAged (id : Nat) (s : State) : Host.Outcome State Fault Refusal := .next (s.spillAged id)

end Sys2Proof.Machine
end

