-- ==== Sys2Proof/Machine/ShaftLine.lean ====
section
/-! DEFINITION. What travels on the lanes of a shaft: control words, the places of a frame's bits, scrambling and stuffing
(R139, R140, R147 to R150). -/
namespace Sys2Proof.Machine

/-! ### Control words (R140, R150) -/

/-- A number's `n` bytes, the highest first. -/
def beBytes (n v : Nat) : List Byte := (leBytes n v).reverse

/-- Bytes that fill a shaft frame's payload. -/
def padTo (n : Nat) (l : List Byte) : List Byte := l ++ List.replicate (n - l.length) 0#8

/-- Bits [63:16] of a control word (Table 06.2). -/
def wordHead (type : Nat) (f : Frame) : Nat := type % 2 ^ 8 * 2 ^ 40 + f.tag % 2 ^ 16 * 2 ^ 24 + f.aux % 2 ^ 24

/-- R140: the CRC-16 of a frame: its control word's bits [63:16], then its 128 payload bytes. -/
def frameCrc (head : Nat) (payload : List Byte) : Nat := crc16 (beBytes 6 head ++ padTo 128 payload)

/-- R140: a frame's control word. -/
def controlWord (type : Nat) (f : Frame) : Nat := wordHead type f * 2 ^ 16 + frameCrc (wordHead type f) f.payload

/-- R150: the short word of an IDLE frame; its link information is bits [23:8] of AUX. -/
def shortWord (aux : Nat) : Nat := field aux 8 16 * 2 ^ 8 + crc8 (beBytes 3 (field aux 8 16))

/-- What a frame's control lanes carry: its control word, or an IDLE frame's short word. -/
def lineWord (type : Nat) (f : Frame) : Nat := if type = 0 then shortWord f.aux else controlWord type f

/-- The word in the bit order of R139: a short word stands in UI 0 to 7 (R150). -/
def lineBits (type : Nat) (f : Frame) : Nat := if type = 0 then lineWord type f * 2 ^ 32 else lineWord type f

/-- R140: the receiver's check of a frame. -/
def frameGood (word : Nat) (payload : List Byte) : Bool := frameCrc (word / 2 ^ 16) payload == word % 2 ^ 16

/-- R150: the receiver's check of a short word. -/
def shortGood (word : Nat) : Bool := crc8 (beBytes 3 (word / 2 ^ 8)) == word % 2 ^ 8

/-! ### The places of a frame's bits (R139) -/

/-- The payload width of a WIDTH code. -/
def payloadWidth (code : Nat) : Nat := [64, 32, 16].getD code 0

/-- The UI of a frame at payload width `w`. -/
def frameUi (w : Nat) : Nat := 1024 / w

/-- The bit of a frame on control lane C`k` in UI `u`. -/
def controlBit (word u k : Nat) : Bool := decide (u < 16) && word.testBit (63 - (4 * u + k))

/-- The bit of a frame on payload lane D`k` in UI `u` at width `w`: bit `k` mod 8 of byte `u` × (`w` / 8) + `k` / 8. -/
def payloadBit (w : Nat) (payload : List Byte) (u k : Nat) : Bool :=
  (payload.getD (u * (w / 8) + k / 8) 0#8).getLsbD (k % 8)

/-- A frame before scrambling: per logical lane, C0 to C3 and then D0 on, its bits in order. -/
def frameLanes (w word : Nat) (payload : List Byte) : List (List Bool) :=
  (List.range (4 + w)).map fun l => (List.range (frameUi w)).map fun u =>
    if l < 4 then controlBit word u l else payloadBit w payload u (l - 4)

/-- The bit of lane `l` in UI `u`. -/
def laneBit (lanes : List (List Bool)) (l u : Nat) : Bool := (lanes.getD l []).getD u false

/-- The control word that lanes carry. -/
def wordOfLanes (lanes : List (List Bool)) : Nat := mapOf 64 fun i => laneBit lanes ((63 - i) % 4) ((63 - i) / 4)

/-- The payload that lanes carry at width `w`. -/
def payloadOfLanes (w : Nat) (lanes : List (List Bool)) : List Byte :=
  (List.range 128).map fun t =>
    BitVec.ofNat 8 (mapOf 8 fun i => laneBit lanes (4 + 8 * (t % (w / 8)) + i) (t / (w / 8)))

/-! ### Scrambling (R147) -/

/-- The 23-bit seed of physical lane `l` of a direction. -/
def laneSeed (seedHi : Nat) (up : Bool) (l : Nat) : Nat :=
  (if up then seedHi ^^^ 0x8000 else seedHi) % 2 ^ 16 * 2 ^ 7 + l % 2 ^ 7

/-- One UI of the scrambler x^23 + x^18 + 1 (DESIGN CHOICE in part: log entry 24). -/
def scrStep (r : Nat) : Nat := 2 * r % 2 ^ 23 + b2n (xor (r.testBit 22) (r.testBit 17))

/-! ### Stuffing (R148, R149) -/

/-- The run of identical line bits that a lane is in: the bit, and how many there have been. -/
structure LineRun where
  bit : Bool
  len : Nat
deriving DecidableEq, Repr

/-- A line bit taken into the run. -/
def LineRun.take (r : LineRun) (b : Bool) : LineRun := if b == r.bit then ⟨b, r.len + 1⟩ else ⟨b, 1⟩

/-- A lane's line bits for some of its frame's bits: how many of them are stuffed, and the scrambler and the run after them. -/
structure Stuffed where
  bits : List Bool
  stuffed : Nat
  scr : Nat
  run : LineRun
deriving DecidableEq, Repr

/-- R147, R148: bits scrambled, and one of the opposite value sent after every 15 that are alike; the scrambler advances once for
each line bit (DEDUCED in part: log entry 24). -/
def stuff : Nat → LineRun → List Bool → Stuffed
  | scr, r, [] => ⟨[], 0, scr, r⟩
  | scr, r, b :: bs =>
    let k := scrStep scr
    let x := xor b (k.testBit 0)
    let n := r.take x
    if n.len = 15 then
      let t := stuff (scrStep k) ⟨!x, 1⟩ bs
      { t with bits := x :: (!x) :: t.bits, stuffed := t.stuffed + 1 }
    else
      let t := stuff k n bs
      { t with bits := x :: t.bits }

/-- What a receiver makes of line bits: the bits kept, the bits deleted and the stuffing violations among them. -/
structure Unstuffed where
  bits : List Bool
  deleted : Nat
  violations : Nat
  run : LineRun
deriving DecidableEq, Repr

/-- R148: the bit after 15 that are alike deleted; one of the run's value is a violation. -/
def unstuff : LineRun → List Bool → Unstuffed
  | r, [] => ⟨[], 0, 0, r⟩
  | r, b :: bs =>
    if r.len = 15 then
      let t := unstuff ⟨b, 1⟩ bs
      { t with deleted := t.deleted + 1, violations := t.violations + b2n (b == r.bit) }
    else
      let t := unstuff (r.take b) bs
      { t with bits := b :: t.bits }

/-- R148, R149: the bits that a frame's receiver deletes per lane, but for those of stuffing violations, which come one by one. -/
def frameDeletions (f : Frame) : List (Nat × Nat) :=
  f.line.map fun p =>
    let u := unstuff ⟨false, 0⟩ p.2
    (p.1, u.deleted - u.violations)

/-- R149: the filler bits that a lane with debt `d` sends in the last 8 UI of an IDLE frame. -/
def idleFiller (d : Nat) : Nat := 8 - min d 8

/-- A lane sends its bits of a frame. In an IDLE frame the last 8 UI hold only filler bits, by which the debt falls (R149). -/
def LaneTx.send (x : LaneTx) (idle : Bool) (bits : List Bool) : LaneTx × List Bool :=
  let bits := if idle then bits.take (bits.length - 8 + idleFiller x.debt) else bits
  let owed := if idle then x.debt - min x.debt 8 else x.debt
  let r := stuff x.scr ⟨x.bit, x.run⟩ bits
  (⟨r.scr, r.run.bit, r.run.len, owed + r.stuffed⟩, r.bits)

/-- R153: the seeds loaded: every lane of a direction starts anew. -/
def laneSeeds (seedHi : Nat) (up : Bool) : List LaneTx := (List.range 76).map fun l => ⟨laneSeed seedHi up l, false, 0, 0⟩

end Sys2Proof.Machine
end

