-- ==== Sys2Proof/Machine/ShaftTx.lean ====
section
/-! DEFINITION. The transmitters and receivers of a shaft link: sequence numbers, replay, link information, line-coding debt
(R142, R146 to R149). -/
namespace Sys2Proof.Machine

/-- Bench `b`'s link. -/
def State.link (s : State) (b : Nat) : ShaftSt := s.shaft.getD b ShaftSt.reset

/-- The state of bench `b`'s link (Table 06.6). -/
def State.linkState (s : State) (b : Nat) : Nat := s.rd R.SHAFT_LINK_STATUS_STATE [b]

/-- One direction of bench `b`'s link. -/
def State.dir (s : State) (b : Nat) (down : Bool) : ShaftDir := if down then (s.link b).down else (s.link b).up

/-- One direction of bench `b`'s link changed. -/
def State.modDir (s : State) (b : Nat) (down : Bool) (f : ShaftDir → ShaftDir) : State :=
  s.modShaft b fun l => if down then { l with down := f l.down } else { l with up := f l.up }

/-- R142: link information for frames sent in a direction: what its sender has received in the other one. ACK_VALID is 0 until
a frame has been accepted (DEDUCED in part: log entry 24). -/
def State.linkInfo (s : State) (b : Nat) (down : Bool) : Nat :=
  let r := s.dir b (!down)
  (if r.seen then ((r.rxSeq + 63) % 64) * 2 ^ 18 + 2 ^ 17 else 0) + (b2n r.nak) * 2 ^ 16

/-! ### Lanes in service (R155, R156) -/

/-- FAILED bits of a direction. -/
def failedFam (up : Bool) : Fam := if up then R.SHAFT_FAILED_UP_LANES else R.SHAFT_FAILED_DN_LANES

/-- The WIDTH field of a direction. -/
def widthFam (up : Bool) : Fam := if up then R.SHAFT_LINK_STATUS_WIDTH_UP else R.SHAFT_LINK_STATUS_WIDTH_DN

/-- The good lanes of a direction, ascending. -/
def State.goodLanes (s : State) (b : Nat) (up : Bool) : List Nat := (List.range 76).filter fun l => !s.is (failedFam up) [b, l] &&
    !s.test.lane.any fun c => c.used && c.bench == b && c.up == up && c.lane == l

/-- A frame on the lanes: logical lane *k* is carried by the *k*-th good lane (R155), and the others carry zeros; every lane is
scrambled and stuffed. A direction whose seeds have not been loaded shows no line bits (DESIGN CHOICE in part: log entry 24). -/
def State.lineOut (s : State) (b : Nat) (down : Bool) (type : Nat) (f : Frame) : List (LaneTx × List Bool) :=
  let lanes := (s.dir b down).lanes
  if lanes.isEmpty then [] else
  let w := payloadWidth (s.rd (widthFam (!down)) [b])
  let logical := frameLanes w (lineBits type f) f.payload
  let good := s.goodLanes b (!down)
  lanes.zipIdx.map fun (x, l) => x.send (type == 0) (logical.getD (good.idxOf l) (List.replicate (frameUi w) false))

/-- A frame on the lanes, with the word that its control lanes carry (R139, R140, R147 to R150). -/
def State.emitFrame (s : State) (b : Nat) (down : Bool) (type : Nat) (f : Frame) : State :=
  let out := s.lineOut b down type f
  (s.modDir b down fun d => { d with lanes := out.map (·.1) }).emit (.shaft b down type f (lineWord type f) (out.map (·.2)))

/-- R142, R145: the credits that an up frame returns, up to 3 of each queue. -/
def State.creditInfo (s : State) (b : Nat) (down : Bool) : Nat :=
  if down then 0 else ((s.link b).freed.zipIdx.map fun p => min 3 p.1 * 2 ^ (8 + 2 * p.2)).sum

/-- The credits of an up frame have left the bench. -/
def State.creditsLeave (s : State) (b : Nat) (down : Bool) : State :=
  if down then s else s.modShaft b fun l => { l with freed := l.freed.map (· - 3) }

/-- R145: `n` entries have left a queue of bench `b`. -/
def State.freeEntries (s : State) (b ch : Nat) (write : Bool) (n : Nat) : State :=
  s.modShaft b fun l => { l with freed := modAt (· + n) l.freed (2 * ch + b2n write) }

/-- Frame types whose AUX carries link information (Table 06.3). -/
def hasInfo (type : Nat) : Bool :=
  type == 0x10 || type == 0x11 || type == 0x12 || type == 0x13 || type == 0x14 || type == 0x18 || type == 0x39

/-- An IDLE frame sent in a direction with its link information. -/
def State.sendIdle (s : State) (b : Nat) (down : Bool) : State :=
  (s.emitFrame b down 0 ⟨0, s.linkInfo b down + s.creditInfo b down, [], []⟩).creditsLeave b down

/-- R149: the bits deleted from a frame's lanes join the receiver's debt. -/
def addDebt (l : List (Nat × Nat)) (more : List (Nat × Nat)) : List (Nat × Nat) :=
  more.foldl (fun l p => kvPut p.1 ((kvGet p.1 l).getD 0 + p.2) l) l

/-- R149: an IDLE frame received lets every lane recover up to 8 bits of debt. -/
def recoverDebt (l : List (Nat × Nat)) : List (Nat × Nat) := (l.map fun p => (p.1, p.2 - 8)).filter fun p => decide (0 < p.2)

/-- R149: the IDLE frame that a debt of 8 forces before the next frame; the lanes' debts fall as it is sent. -/
def State.forcedIdle (s : State) (b : Nat) (down : Bool) : State :=
  if (s.dir b down).lanes.any fun x => decide (8 ≤ x.debt) then (s.sendIdle b down).incSat R.SHAFT_FORCED_IDLES_COUNT [b] else s

/-- A data frame that goes up (Table 06.3). -/
def isRdata (down : Bool) (type : Nat) : Bool := !down && (type == 0x13 || type == 0x14)

/-- A frame that takes the next sequence number leaves, and is kept until it is acknowledged
(DEDUCED in part: log entry 24). -/
def State.transmit (s : State) (b : Nat) (down : Bool) (type : Nat) (f : Frame) : State :=
  let s := s.forcedIdle b down
  let f := if hasInfo type then { f with aux := f.aux + s.linkInfo b down + s.creditInfo b down } else f
  let s := (if hasInfo type then s.creditsLeave b down else s).emitFrame b down type f
  s.modDir b down fun d => { d with txSeq := (d.txSeq + 1) % 64, replay := d.replay ++ [(d.txSeq, type, f)] }

/-- A frame to be sent, with the side bytes of the portion that a data frame carries. -/
structure Item where
  type : Nat
  frame : Frame
  side : Option (List Byte)

/-- A portion as a data frame. -/
def dataItem (type tag : Nat) (p : List Byte) : Item := ⟨type, ⟨tag, 0, p.take 128, []⟩, some (p.drop 128)⟩

/-- The SIDE frame of a group. -/
def sideOf (sides : List (List Byte)) : Frame := ⟨0, 2 ^ sides.length - 1, padTo 128 sides.flatten, []⟩

/-- R144: a SIDE frame is due: after the 8th data frame of a group, or as soon as no further data frame is ready. -/
def ShaftDir.sideDue (d : ShaftDir) : Bool :=
  !d.group.isEmpty && (decide (8 ≤ d.group.length) || !d.wait.any (·.2.2.isSome))

/-- A frame can leave now: the link is in service, no frame waits, no SIDE frame is due and the replay buffer has room. -/
def State.canSend (s : State) (b : Nat) (down : Bool) : Bool :=
  s.linkState b == linkActive && (s.dir b down).wait.isEmpty && (s.dir b down).group.isEmpty &&
    decide ((s.dir b down).replay.length < 64)

/-- Frames that wait, sent in order while there is room, each SIDE frame as soon as it is due. -/
def State.sendWaiting (b : Nat) (down : Bool) : Nat → State → State
  | 0, s => s
  | n + 1, s =>
    let d := s.dir b down
    if 64 ≤ d.replay.length then s
    else if d.sideDue then
      State.sendWaiting b down n ((s.modDir b down fun d => { d with group := [] }).transmit b down 0x18 (sideOf d.group))
    else
      match d.wait with
      | [] => s
      | (type, f, side) :: w =>
        let t := (s.modDir b down fun d => { d with wait := w, group := d.group ++ side.toList }).modShaft b fun l =>
          { l with upQueue := l.upQueue - b2n (isRdata down type) }
        State.sendWaiting b down n (t.transmit b down type f)

/-- Every frame that waits and finds room, sent. -/
def State.sendWaits (s : State) (b : Nat) (down : Bool) : State := State.sendWaiting b down 64 s

/-- Frames that join those which wait in a direction. -/
def State.addWaits (s : State) (b : Nat) (down : Bool) (is : List Item) : State :=
  (s.modDir b down fun d => { d with wait := d.wait ++ is.map fun i => (i.type, i.frame, i.side) }).modShaft b fun l =>
    { l with upQueue := l.upQueue + (is.filter fun i => isRdata down i.type).length }

/-- R144, R146: frames sent in a direction while the link is in service. They wait while the replay buffer is full, and through a
recovery; in the other states of the link they are dropped (DESIGN CHOICE in part: log entry 54). -/
def State.sendItems (s : State) (b : Nat) (down : Bool) (is : List Item) : State :=
  if s.linkState b = linkActive then (s.addWaits b down is).sendWaits b down
  else if s.linkState b = linkRecovery then s.addWaits b down is
  else s

/-- A frame that carries no portion sent in a direction. -/
def State.sendFrame (s : State) (b : Nat) (down : Bool) (type : Nat) (f : Frame) : State :=
  if s.canSend b down then s.transmit b down type f else s.sendItems b down [⟨type, f, none⟩]

/-- A frame sent down a bench's shaft. -/
def State.sendDown (s : State) (b type : Nat) (f : Frame) : State := s.sendFrame b true type f

/-- A frame sent up a bench's shaft. -/
def State.sendUp (s : State) (b type : Nat) (f : Frame) : State := s.sendFrame b false type f

/-- R146: REPLAY and every unacknowledged frame sent again, as it was sent first (DESIGN CHOICE in part: log entry 55). -/
def State.replayAll (s : State) (b : Nat) (down : Bool) : State :=
  let d := s.dir b down
  let first := (d.replay.head?.map (·.1)).getD d.txSeq
  let s := (s.emitFrame b down 1 ⟨0, first, [], []⟩).incSat R.SHAFT_REPLAYS_COUNT [b]
  d.replay.foldl (fun s p => s.emitFrame b down p.2.1 p.2.2) s

/-- Unacknowledged frames after the acknowledged one. -/
def afterAck (ack : Nat) (l : List (Nat × Nat × Frame)) : List (Nat × Nat × Frame) :=
  match l.findIdx? fun p => p.1 == ack with
  | some i => l.drop (i + 1)
  | none => l

/-- R142, R146: link information received with a frame of a direction: acknowledgement and NAK of the other one, and the
credits that an up frame returns (DEDUCED in part: log entry 24). -/
def State.takeInfo (s : State) (b : Nat) (down : Bool) (aux : Nat) : State :=
  let other := !down
  let s := if aux.testBit 17 then s.modDir b other fun d => { d with replay := afterAck (field aux 18 6) d.replay } else s
  let s := if aux.testBit 16 then s.replayAll b other else s
  let s := s.sendWaits b other
  if down then s
  else
    let add := fun (s : State) (f : Fam) (k : Nat) => s.wr f (min 64 (s.rd f [b] + field aux (8 + 2 * k) 2)) [b]
    add (add (add (add s R.SHAFT_CREDITS_A_RD 0) R.SHAFT_CREDITS_A_WR 1) R.SHAFT_CREDITS_B_RD 2) R.SHAFT_CREDITS_B_WR 3

end Sys2Proof.Machine
end

