-- ==== Sys2Proof/Machine/ShaftQueue.lean ====
section
/-! DEFINITION. The shaft request queues of the base die: records queued, arbitrated and sent under credits, and slab writes
(R60, R109, R143 to R145, R159, R240, R241). -/
namespace Sys2Proof.Machine

/-! ### Records -/

/-- The request queue of R111 that a record is for: 2 × channel + write. -/
def TxRec.port (r : TxRec) : Nat := 2 * field r.slab 3 1 + b2n r.write

/-- The credit counter of a request queue (Table 06.6). -/
def creditFam : Nat → Fam
  | 0 => R.SHAFT_CREDITS_A_RD
  | 1 => R.SHAFT_CREDITS_A_WR
  | 2 => R.SHAFT_CREDITS_B_RD
  | _ => R.SHAFT_CREDITS_B_WR

/-- R145: the credits held for a request queue of bench `b`. -/
def State.credits (s : State) (b port : Nat) : Nat := s.rd (creditFam port) [b]

/-- Credits of a request queue returned. -/
def State.addCredits (s : State) (b port n : Nat) : State := s.wr (creditFam port) (min 64 (s.credits b port + n)) [b]

/-- R143: LAYERS of a record: the layers of the bench that are neither LOST nor ABSENT nor under a planned erasure there. -/
def State.recLayers (s : State) (b slab : Nat) : Nat := mapOf 2 fun i => s.writes (2 * b + i) slab

/-- R240, R241: the class at which a record arbitrates. -/
def State.recClass (s : State) (r : TxRec) : Nat := if r.sweep then 1 else s.classOf r.label

/-- R250: the settle time in whole ticks. -/
def State.settleTicks (s : State) : Nat := (s.rd R.POWER_CTRL_VID_SETTLE + 9) / 10

/-- R123: the next tick boundary starts a level change. -/
def State.pauseSoon (s : State) : Bool :=
  s.live 3 && s.rd R.THERMAL_GOV_CHOSEN != s.rd R.POWER_STATUS_LEVEL && s.power.pauseTo.isNone &&
    decide (s.rd R.POWER_STATUS_STATE < 2) && match s.power.riseAt with
      | some t => decide (s.settleTicks ≤ tickSub s.time.now t + 1)
      | none => true

/-- Requests of a channel that the bench has not answered for. -/
def State.outstanding (s : State) (b ch : Nat) : Nat := (64 - s.credits b (2 * ch)) + (64 - s.credits b (2 * ch + 1))

/-- The layers of bench `b` that a record commands: those of R143, and for a read none whose portion is MISSING already (R159). -/
def State.recAt (s : State) (b : Nat) (r : TxRec) : Nat :=
  let gone := if r.write then 0 else ((s.cache.ops.find? (·.tag == r.tag)).map (·.missing)).getD 0
  mapOf 2 fun i => (s.recLayers b r.slab).testBit i && !gone.testBit (2 * b + i)

/-- R123, R145: bench `b`'s link takes a record: it is in service, nothing that waited for it goes first, no level change holds it
back, and there is a credit. -/
def State.benchTakes (s : State) (b port : Nat) : Bool :=
  s.linkState b == linkActive && s.power.pauseTo.isNone && decide (0 < s.credits b port) &&
    (!s.pauseSoon || decide (s.outstanding b (port / 2) < 16))

/-- R143: a record may be sent: every bench in service that it commands takes it, so that all get the same records in the same
order (DEDUCED in part: log entry 18). -/
def State.recReady (s : State) (r : TxRec) : Bool :=
  s.power.pauseTo.isNone && (List.range s.nBench).all fun b =>
    s.linkState b != linkActive || s.recAt b r == 0 || ((s.link b).queue.isEmpty && s.benchTakes b r.port)

/-- The records that may be sent before every other: the first of each label, none of them after another of its slab. -/
def txHeads (q : List TxRec) : List TxRec :=
  (q.zipIdx.filter fun p => !(q.take p.2).any fun e => e.slab == p.1.slab || e.label == p.1.label).map (·.1)

/-- R240: the record sent next: of the highest class, of the label served longest ago. -/
def State.recPick (s : State) : Option TxRec :=
  let heads := (txHeads s.cache.reqs).filter s.recReady
  let best := heads.foldl (fun m r => min m (s.recClass r)) 3
  let last := s.cache.reqRr.getD best 63
  let dist := fun (r : TxRec) => (r.label + 128 - last - 1) % 64
  (heads.filter fun r => s.recClass r == best).foldl (fun (m : Option TxRec) r =>
    match m with
    | some q => if dist r < dist q then some r else some q
    | none => some r) none

/-- A record as bench `b` is sent it: it takes a credit, and is outstanding from then on. -/
def State.sendRec (s : State) (b : Nat) (r : TxRec) : State :=
  let e : SentRec := ⟨r.tag, r.slab, r.write, r.port, s.recAt b r, r.portions.getD (2 * b) [], r.portions.getD (2 * b + 1) [], false⟩
  (s.wr (creditFam r.port) (s.credits b r.port - 1) [b]).modShaft b fun l => { l with flight := l.flight ++ [e] }

/-- R143, R159: a record leaves the shaft request queues: every bench in service that it commands is sent it; a write waits for the
links that are not. -/
def State.spreadRec (s : State) (r : TxRec) : State :=
  (List.range s.nBench).foldl (fun s b =>
    if s.recAt b r = 0 then s
    else if s.linkState b = linkActive then s.sendRec b r
    else if r.write then s.modShaft b fun l => { l with queue := l.queue ++ [r] }
    else s) s

/-- Up to `n` records taken from the shaft request queues, each with the CLASS with which it is sent. -/
def State.takeRecs : Nat → State → State × List (TxRec × Nat)
  | 0, s => (s, [])
  | n + 1, s =>
    match s.recPick with
    | none => (s, [])
    | some r =>
      let k := s.recClass r
      let t : State := { s with cache := { s.cache with
        reqs := dropFirst (·.tag == r.tag) s.cache.reqs, reqRr := setAt s.cache.reqRr k r.label } }
      let q := State.takeRecs n (t.spreadRec r)
      (q.1, (r, k) :: q.2)

/-- R159: up to `n` of the records that waited for bench `b`'s link, sent in order before every later one. -/
def State.takeLate (b : Nat) : Nat → State → State × List (TxRec × Nat)
  | 0, s => (s, [])
  | n + 1, s =>
    match (s.link b).queue with
    | [] => (s, [])
    | r :: q =>
      let t := s.modShaft b fun l => { l with queue := q }
      if s.recAt b r = 0 then State.takeLate b n t
      else if s.benchTakes b r.port then
        let u := State.takeLate b n (t.sendRec b r)
        (u.1, (r, s.recClass r) :: u.2)
      else (s, [])

/-! ### Frames (R143, R144) -/

/-- Table 06.4: a request record as sent. -/
def recWord (loc : Nat) (write : Bool) (cls layers tag : Nat) : Nat :=
  loc % 2 ^ 27 + b2n write * 2 ^ 27 + cls % 4 * 2 ^ 28 + layers % 4 * 2 ^ 30 + tag % 2 ^ 16 * 2 ^ 32

/-- R143, R144: a REQ frame of up to 16 records, each with its LAYERS and CLASS, and the data frames of its writes to bench `b`. -/
def reqItems (hash : Bool) (b : Nat) (rs : List (TxRec × Nat × Nat)) : List Item :=
  let bytes := rs.flatMap fun (r, layers, k) => leBytes 8 (recWord (locOf hash r.slab) r.write k layers r.tag)
  ⟨0x10, ⟨0, rs.length - 1, padTo 128 bytes, []⟩, none⟩ :: rs.flatMap fun (r, layers, _) =>
    if r.write then
      (if layers.testBit 0 then [dataItem 0x11 r.tag (r.portions.getD (2 * b) [])] else []) ++
        (if layers.testBit 1 then [dataItem 0x12 r.tag (r.portions.getD (2 * b + 1) [])] else [])
    else []

/-- The frames of records sent to bench `b`. -/
def State.sendRecs (s : State) (b : Nat) (rs : List (TxRec × Nat)) : State :=
  let mine := (rs.map fun (r, k) => (r, s.recAt b r, k)).filter (·.2.1 != 0)
  if mine.isEmpty || s.linkState b != linkActive then s
  else s.sendItems b true ((chunks 16 (mine.length / 16 + 1) mine).filter (!·.isEmpty) |>.flatMap (reqItems s.hash b))

/-- R159: the records that waited for bench `b`'s link and may be sent, sent. -/
def State.latePump (s : State) (b : Nat) : State :=
  if (s.link b).queue.isEmpty then s else
  let r := State.takeLate b (s.link b).queue.length s
  r.1.sendRecs b r.2

/-- The records of the shaft request queues that may be sent, sent. -/
def State.shaftPump (s : State) : State :=
  let s := (List.range s.nBench).foldl State.latePump s
  if s.cache.reqs.isEmpty then s else
  let r := State.takeRecs s.cache.reqs.length s
  (List.range s.nBench).foldl (fun t b => t.sendRecs b r.2) r.1

/-- A record queued for every bench. -/
def State.queueRec (s : State) (r : TxRec) : State :=
  ({ s with cache := { s.cache with reqs := s.cache.reqs ++ [r] } } : State).shaftPump

/-- No portion write waits at a shaft request queue. -/
def State.queuesEmpty (s : State) : Bool := !s.cache.reqs.any (·.write) && s.shaft.all (·.queue.isEmpty)

/-- No portion write waits at a shaft request queue, or at a bench that has been shown to hold it. -/
def State.writesDone (s : State) : Bool :=
  s.queuesEmpty && s.bench.all (fun x => x.chA.writes.isEmpty && x.chB.writes.isEmpty) && s.shaft.all fun l => l.records.isEmpty

/-! ### What the bench has done with a record (R109 to R111, R144, R145) -/

/-- Layers of bench `b` whose portion of a slab a command of the bench reaches: none that is LOST or ABSENT, and none whose
row-group there is under a planned erasure (R110). -/
def State.cmdLayers (s : State) (b layers slab : Nat) : List Nat :=
  [2 * b, 2 * b + 1].filter fun n => layers.testBit (n - 2 * b) && s.layer n != 1 && s.layer n != 3 && !s.planned n slab

/-- A write's portions put into the memory layers. -/
def State.putPortions (s : State) (b layers slab : Nat) (lower upper : List Byte) : State :=
  (s.cmdLayers b layers slab).foldl (fun s n => s.poke (s.place n slab) (if n = 2 * b then lower else upper)) s

/-- A request with a tag stands in a queue of bench `b`, or waits there for its data. -/
def State.heldAt (s : State) (b tag : Nat) : Bool :=
  let x := s.bench.getD b BenchSt.reset
  (x.chA.reads ++ x.chA.writes ++ x.chB.reads ++ x.chB.writes ++ (s.link b).records).any (·.tag == tag)

/-- The writes among records sent to bench `b` performed in order, with their entries leaving the bench's queues, where no frame has
shown them: a later event of the link, or of the fetch that follows them there, shows that they have been
(DESIGN CHOICE in part: log entry 18). -/
def State.landWrites (s : State) (b : Nat) (es : List SentRec) : State :=
  (es.filter fun e => e.write && !s.heldAt b e.tag).foldl (fun s e =>
    let t := (s.putPortions b e.layers e.slab e.lower e.upper).freeEntries b (e.port / 2) true 1
    t.modShaft b fun l => { l with flight := l.flight.filter fun x => !(x.write && x.tag == e.tag) }) s

/-- Every write sent to bench `b` that no frame has shown there, performed. -/
def State.landAll (s : State) (b : Nat) : State := s.landWrites b (s.link b).flight

/-- The same at every bench. -/
def State.landBenches (s : State) : State := (List.range s.nBench).foldl State.landAll s

/-- The slabs of the portion writes that wait at a shaft request queue, or are on their way to the memory layers. -/
def State.writesWaiting (s : State) : List Nat :=
  let req := fun (l : List BReq) => (l.filter (·.write)).map fun r => locOf s.hash r.loc
  (s.cache.reqs.filter (·.write)).map (·.slab) ++
    (s.shaft.flatMap fun l => l.queue.map (·.slab) ++ (l.flight.filter (·.write)).map (·.slab) ++ req l.records) ++
    s.bench.flatMap fun x => req x.chA.writes ++ req x.chB.writes

/-- R111: what a fetch brings from bench `b` without frames of its own comes after the writes sent before it. -/
def State.landFetch (s : State) (tag : Nat) : State :=
  (List.range s.nBench).foldl (fun s b =>
    if (s.link b).flight.any fun e => !e.write && e.tag == tag && !e.left then
      s.landWrites b ((s.link b).flight.takeWhile fun e => e.write || e.tag != tag)
    else s) s

/-! ### Register accesses (R141) -/

/-- A register access sent over bench `b`'s shaft. -/
def State.regSend (s : State) (b : Nat) (a : RegAcc) : State :=
  let t := s.modShaft b fun l => { l with reg := some a }
  if a.write then t.sendDown b 0x21 ⟨a.data % 65536, a.word * 65536 + a.data / 65536, [], []⟩
  else t.sendDown b 0x20 ⟨0, a.word * 65536, [], []⟩

/-- A register access of bench `b` started; it waits while another is outstanding. -/
def State.regAccess (s : State) (b : Nat) (a : RegAcc) : State :=
  if (s.link b).reg.isSome then s.modShaft b fun l => { l with regq := l.regq ++ [a] } else s.regSend b a

/-- The row repair has an access outstanding or waiting at bench `b`. -/
def State.regAsked (s : State) (b : Nat) : Bool :=
  ((s.link b).reg.toList ++ (s.link b).regq).any (·.asker == .repair)

/-- The outstanding access of bench `b` is over: the next one that waits is sent. -/
def State.regNext (s : State) (b : Nat) : State :=
  match (s.link b).regq with
  | [] => s.modShaft b fun l => { l with reg := none }
  | a :: q => (s.modShaft b fun l => { l with reg := none, regq := q }).regSend b a

/-! ### Slab writes (R58, R60) -/

/-- R58, R60, R159: a slab written to every written layer with a new GEN; the record for a bench whose link is out of service waits
for it. Stack writes are refused under R69 and R321. -/
def State.writeSlab (s : State) (slab : Nat) (data : List Byte) (poison flags label : Nat) (sweep : Bool) : State :=
  if s.noWrites then s else
  let ps := encodeSlab s.nBench slab data poison s.ras.gen flags
  let tag := s.cache.nextTag
  let s : State := { s with
    ras := { s.ras with gen := (s.ras.gen + 1) % 2 ^ 24 }
    cache := { s.cache with nextTag := (tag + 1) % 2 ^ 16 } }
  let s := s.clr R.CODE_CODE_STATUS_EMPTY
  s.queueRec ⟨slab, true, label, sweep, tag, ps⟩

/-! ### Fetch records (R143, R159) -/

/-- A fetch's record queued for the benches. -/
def State.askPortions (s : State) (op : SlabOp) (sweep : Bool) : State :=
  s.queueRec ⟨op.slab, false, op.label, sweep, op.tag, []⟩

/-- The record of a fetch has not been sent yet. -/
def State.unsent (s : State) (op : SlabOp) : Bool := s.cache.reqs.any fun r => !r.write && r.tag == op.tag

/-- R159, R297: an operation whose portions from bench `b` are MISSING because its link is out of service. -/
def SlabOp.linkLost (o : SlabOp) (b : Nat) : SlabOp :=
  { o with
    missing := setBit (setBit o.missing (2 * b) true) (2 * b + 1) true
    linkDown := setBit (setBit o.linkDown (2 * b) true) (2 * b + 1) true }

/-- R159: bench `b`'s link has left service: of the fetches that have not been sent its portions are MISSING. -/
def State.dropReads (s : State) (b : Nat) : State :=
  let tags := (s.cache.reqs.filter (!·.write)).map (·.tag)
  if tags.isEmpty then s else
  { s with cache := { s.cache with ops := s.cache.ops.map fun o => if tags.contains o.tag then o.linkLost b else o } }

/-- A fetch is over: what of it is still outstanding at a bench no longer is, so that its RDATA is discarded (R146). Where no frame
has shown its entry, the completion stands for the frames, and the entry has left the bench's queue, whose credit a later up frame
returns (R142) (DESIGN CHOICE in part: log entry 18). -/
def State.closeAsked (s : State) (op : SlabOp) : State :=
  (List.range s.nBench).foldl (fun s b =>
    match (s.link b).flight.find? fun e => !e.write && e.tag == op.tag with
    | none => s
    | some e =>
      let s := s.modShaft b fun l => { l with flight := l.flight.filter fun x => x.write || x.tag != op.tag }
      let came := op.arrived.any fun d => d.layer / 2 == b
      if e.left || came || s.heldAt b op.tag || (op.missing >>> (2 * b)) &&& e.layers == e.layers then s
      else s.freeEntries b (e.port / 2) false 1) s

end Sys2Proof.Machine
end

