-- ==== Sys2Proof/Machine/Thermal.lean ====
section
/-! DEFINITION. The thermal model, the sensors, the thresholds and the power governor (Heat and the power cap). -/
namespace Sys2Proof.Machine

/-! ### Lists of numbers -/

/-- A number placed in a rising list. -/
def insertNat (n : Nat) : List Nat → List Nat
  | [] => [n]
  | m :: l => if n ≤ m then n :: m :: l else m :: insertNat n l

/-- R275: the median; the mean of the two middle values when their number is even. -/
def median (l : List Nat) : Nat :=
  let r := l.foldr insertNat []
  let n := r.length
  if n = 0 then 0
  else if n % 2 = 1 then r.getD (n / 2) 0
  else (r.getD (n / 2 - 1) 0 + r.getD (n / 2) 0) / 2

/-- The mean of a list that is not empty. -/
def mean (l : List Nat) : Nat := l.sum / l.length

/-- The distance between two numbers. -/
def dist (a b : Nat) : Nat := max a b - min a b

/-- A 16-bit two's-complement number. -/
def int16 (n : Nat) : Int := if n % 65536 < 32768 then (n % 65536 : Nat) else (n % 65536 : Nat) - 65536

/-! ### The stack's nodes, sensors and dies (Tables 12.1, 12.2, R278, R280) -/

/-- °C in NODE_TEMP units. -/
def degC (t : Int) : Nat := ((t + 64) * 16).toNat

/-- The node of a sensor. -/
def sensorNode (i : Nat) : Nat := if i < 8 then i / 2 else if i < 26 then 4 + (i - 8) / 2 else 13 + (i - 26)

/-- The correction zone of a node: base zones 0 to 3, then benches. -/
def nodeZone (n : Nat) : Nat := if n < 4 then n else if n < 13 then n else 4 + (n - 13) / 2

/-- The die of a node: 0 base die, 1 + `b` BL`b`, 10 + `n` ML`n`. -/
def nodeDie (n : Nat) : Nat := if n < 4 then 0 else n - 3

/-- The sensors of a node. -/
def nodeSensors (n : Nat) : List Nat := (List.range 44).filter fun i => sensorNode i == n

/-- Nodes next to a node in the stack order of Table 01.1. -/
def nodeBeside (n : Nat) : List Nat :=
  if n < 4 then [13]
  else if n < 13 then [13 + 2 * (n - 4), 14 + 2 * (n - 4)]
  else
    let m := n - 13
    let b := m / 2
    if m % 2 = 0 then (if m = 0 then [0, 1, 2, 3] else [13 + m - 1]) ++ [4 + b]
    else [4 + b] ++ (if m = 17 then [] else [13 + m + 1])

/-- The domain whose loss switches a node's die off. -/
def nodeDom (n : Nat) : Nat := if n < 4 then 3 else if n < 13 then benchDom (n - 4) 0 else 60 + (n - 13)

/-- R273: sensor `i` shares a reference group with `j`: the base die, or its bench zone. -/
def sameGroup (i j : Nat) : Bool :=
  if i < 8 then j < 8 else decide (8 ≤ j) && nodeZone (sensorNode i) == nodeZone (sensorNode j)

/-- Domains whose monitors feed a node (Table 12.1). -/
def nodeMonitors (n : Nat) : List Nat :=
  match n with
  | 0 => [0, 1]
  | 1 => [4, 5, 6, 7, 8]
  | 2 => [9, 10]
  | 3 => [2, 3] ++ (List.range 13).map (· + 11)
  | n => if n < 13 then (List.range 4).map (benchDom (n - 4)) else []

/-! ### Calibration record fields (Table 15.3) -/

/-- A little-endian field of the values in force. -/
def State.calField (s : State) (off n : Nat) : Nat := leNat (slice s.test.active off n)

/-- R275, Table 15.2: a diode reading with its offset, and whether it is out of the range of R274
(DEDUCED in part: log entry 29). -/
def State.reading (s : State) (env : TickEnv) (i : Nat) : Nat × Bool :=
  let v : Int := (env.sensors.getD i 0 : Nat) + int16 (s.calField (0x10 + 2 * i) 2)
  let bad := env.outside.getD i false || decide (v < (degC (-40) : Int)) || decide ((degC 150 : Int) < v) ||
    !s.live (nodeDom (sensorNode i))
  (v.toNat, bad)

/-- Table 11.2: VDD_CORE in mV by VID code. -/
def coreVolts (code : Nat) : Nat := [600, 625, 650, 675, 700, 720, 740, 760, 780, 800, 825, 850].getD code 850

/-- A switched domain on two rails (Table 01.5). -/
def twoRails (d : Nat) : Bool := d < 2 || d == 22 || (decide (24 ≤ d) && (d % 4 == 1 || d % 4 == 2))

/-- R271: the voltage in mV of a monitor's rail: VDD_CORE by the VID code in force, or VDDQ_S (Table 21.2). -/
def State.railVolts (s : State) (i : Nat) : Nat :=
  if 60 ≤ i then 1050
  else if twoRails i then Config.mixedRail i (s.rd R.POWER_STATUS_VID)
  else coreVolts (s.rd R.POWER_STATUS_VID)

/-- A monitor that reads zero: of a switched-off domain, or of a part that the variant lacks (R4). -/
def State.monitorOff (s : State) (i : Nat) : Bool :=
  if i < 60 then !s.power.domOn.testBit i else decide (60 + s.nBench ≤ i)

/-- Table 15.2: the gain of monitor `i` was measured in the tick that ends: a KIND 2 run takes one tick for each monitor in turn. -/
def State.monitorHeld (s : State) (i : Nat) : Bool := s.test.run.any fun r => r.kind == 2 && r.age == i + 1

/-- A monitor's average current over the tick; its last reading is held while its gain is measured. -/
def State.current (s : State) (env : TickEnv) (i : Nat) : Nat :=
  if s.monitorHeld i then s.thermal.lastMon.getD i 0 else env.monitors.getD i 0

/-- The readings of this tick are the last ones. -/
def State.keepCurrents (s : State) (env : TickEnv) : State :=
  { s with thermal := { s.thermal with lastMon := (List.range 69).map (s.current env) } }

/-- R271: a monitor's power in 0.1 mW: its voltage times its average current with its gain
(DEDUCED in part: log entry 29). -/
def State.monitor (s : State) (env : TickEnv) (i : Nat) : Nat :=
  if s.monitorOff i then 0 else s.railVolts i * (s.current env i * s.calField (0x68 + 2 * i) 2) / 32768000

/-- R284: measured package power in 0.1 mW. -/
def State.packagePower (s : State) (env : TickEnv) : Nat := ((List.range 69).map (s.monitor env)).sum + 3000

/-! ### One tick of the model (R271 to R282) -/

/-- A sensor is neither INVALID nor suspect. -/
def State.sensorValid (s : State) (i : Nat) : Bool := !s.is R.THERMAL_SENSOR_INVALID [i] && !s.is R.THERMAL_SUSPECT_SENSORS [i]

/-- A node's model value in NODE_TEMP units. -/
def State.nodeValue (s : State) (n : Nat) : Nat := s.thermal.nodes.getD n 0 / 256

/-- R275: the reference of a sensor. -/
def State.reference (s : State) (i : Nat) : Nat :=
  median (s.nodeValue (sensorNode i) ::
    ((List.range 44).filter fun j => j != i && sameGroup i j && s.sensorValid j).map fun j =>
      s.rd R.THERMAL_SENSOR_READING [j])

/-- R274: readings taken and judged. -/
def State.readSensors (s : State) (env : TickEnv) : State :=
  (List.range 44).foldl (fun s i =>
    let r := s.reading env i
    (s.wr R.THERMAL_SENSOR_READING (min r.1 4095) [i]).wrB R.THERMAL_SENSOR_INVALID r.2 [i]) s

/-- The TRIM region fails integrity: the thresholds of Table 12.3 lie 10 °C lower (R352). -/
def State.trimBad (s : State) : Bool := (s.rd R.FUSE_STATUS_INTEG_FAIL).testBit 4

/-- A threshold of Table 12.3 in NODE_TEMP units. -/
def State.threshold (s : State) (t : Nat) : Nat := if s.trimBad then degC (t - 10) else degC t

/-- R275, R280: the consecutive counts of each sensor. -/
def State.countSensors (s : State) : State :=
  let go := fun (p : Nat → Bool) (l : List Nat) => (List.range 44).map fun i => if p i then l.getD i 0 + 1 else 0
  let r := fun i => s.rd R.THERMAL_SENSOR_READING [i]
  { s with thermal := { s.thermal with
      away := go (fun i => s.sensorValid i && decide (96 < dist (r i) (s.reference i))) s.thermal.away
      near := go (fun i => s.is R.THERMAL_SUSPECT_SENSORS [i] && !s.is R.THERMAL_SENSOR_INVALID [i] &&
        decide (dist (r i) (s.reference i) ≤ 48)) s.thermal.near
      hot := go (fun i => s.sensorValid i && decide (s.threshold 110 ≤ r i)) s.thermal.hot } }

/-- R272: the lid temperature in NODE_TEMP units, and whether LID_TEMP stands in for the ML17 diode. -/
def State.lid (s : State) (env : TickEnv) : Nat × Bool :=
  if s.is R.THERMAL_CTRL_LID_SRC then (s.rd R.THERMAL_LID_TEMP_TEMP, false)
  else if s.sensorValid 43 then
    (s.rd R.THERMAL_SENSOR_READING [43] - s.packagePower env * s.calField 0x114 2 * 16 / 10000000, false)
  else (s.rd R.THERMAL_LID_TEMP_TEMP, true)

/-- The valid readings of a node's own sensors. -/
def State.ownReadings (s : State) (n : Nat) : List Nat :=
  ((nodeSensors n).filter s.sensorValid).map fun i => s.rd R.THERMAL_SENSOR_READING [i]

/-- R274: a model value moved by one sixteenth of the difference to the mean of its own readings. -/
def correct (v : Nat) (own : List Nat) : Nat :=
  if own.isEmpty then v
  else
    let m : Int := (mean (own.map (· * 256)) : Nat)
    ((v : Int) + (m - v) / 16).toNat

/-- R276: a zone with fewer than two valid sensors. -/
def State.zoneModelOnly (s : State) (z : Nat) : Bool :=
  ((List.range 44).filter fun i => nodeZone (sensorNode i) == z && s.sensorValid i).length < 2

/-- R271, R272, R274, R276: the model advances one step; a zone under R276 is not corrected. After a TRIM failure its coefficients
have scale 1.0 and no trim (R352) (DESIGN CHOICE in part: log entry 7). -/
def State.modelStep (s : State) (env : TickEnv) : State :=
  let old := s.thermal.nodes
  let lid := (s.lid env).1 * 256
  let nodes := (List.range 31).map fun n =>
    let power := if n < 13 then ((nodeMonitors n).map (s.monitor env)).sum else s.monitor env (60 + (n - 13) / 2) / 2
    let power := if s.live (nodeDom n) then power else 0
    let v := Config.thermalStep n (old.getD n 0) ((nodeBeside n).map (old.getD · 0))
      (if n = 30 then some lid else none) power (if s.trimBad then 128 else s.calField (0xF4 + n) 1) s.trimWords
    if s.is R.THERMAL_CTRL_CORR_EN && !s.zoneModelOnly (nodeZone n) then correct v (s.ownReadings n) else v
  { s with thermal := { s.thermal with nodes := nodes } }

/-- A node's estimate with the guards of R276 and R277. -/
def State.estimate (s : State) (n : Nat) : Nat :=
  s.nodeValue n + (if s.zoneModelOnly (nodeZone n) then 80 else 0) + (if s.is R.THERMAL_STATUS_GUARD then 80 else 0)

/-- R278: a die's temperature. -/
def State.dieTemp (s : State) (d : Nat) : Nat :=
  ((List.range 31).filter fun n => nodeDie n == d).foldl (fun m n =>
    max m ((s.ownReadings n).foldl max (s.estimate n))) 0

/-- The hottest die and its temperature, the lowest-numbered of equals. -/
def State.hottest (s : State) : Nat × Nat :=
  (List.range 28).foldl (fun m d =>
    let t := s.rd R.THERMAL_DIE_TEMP_TEMP [d]
    if m.2 < t then (d, t) else m) (0, 0)

/-- Table 17.6 source 0x08: a threshold or sensor change, by its EVENTS bit. -/
def State.logThermal (s : State) (bit : Nat) : State :=
  let f := fun (x : Fam) => s.rd x <<< x.lsb
  let st := f R.THERMAL_STATUS_WARNING + f R.THERMAL_STATUS_THROTTLE + f R.THERMAL_STATUS_GUARD + f R.THERMAL_STATUS_PROG_OK +
    f R.THERMAL_STATUS_MODEL_ONLY_ANY + f R.THERMAL_STATUS_START_HOLD + f R.THERMAL_STATUS_THROTTLE_LIMIT +
    f R.THERMAL_STATUS_LID_FALLBACK
  s.log 8 0 bit (leBytes 4 st ++ leBytes 1 s.hottest.1)

/-- NODE_TEMP, DIE_TEMP, MODEL_ONLY and PROG_OK follow the model; a zone that falls under R276 yields FS020. -/
def State.publishTemps (s : State) : State × List Nat :=
  let fell := (List.range 31).any fun n => s.zoneModelOnly (nodeZone n) && !s.is R.THERMAL_NODE_TEMP_MODEL_ONLY [n]
  let s := (List.range 31).foldl (fun s n =>
    (s.wr R.THERMAL_NODE_TEMP_ESTIMATE (min (s.estimate n) 4095) [n]).wrB R.THERMAL_NODE_TEMP_MODEL_ONLY
      (s.zoneModelOnly (nodeZone n)) [n]) s
  let s := (List.range 28).foldl (fun s d => s.wr R.THERMAL_DIE_TEMP_TEMP (min (s.dieTemp d) 4095) [d]) s
  let s := s.wrB R.THERMAL_STATUS_MODEL_ONLY_ANY ((List.range 13).any s.zoneModelOnly)
  let low := (List.range 4).foldl (fun m n => min m (s.nodeValue n)) 4095
  let ok := decide (s.rd R.THERMAL_DIE_TEMP_TEMP [0] ≤ degC 85) && decide (degC 0 ≤ low)
  (s.wrB R.THERMAL_STATUS_PROG_OK ok, if fell then [20] else [])

/-- R279: one threshold against the hottest die; the fault source when it sets. -/
def State.thresholdStep (s : State) (st : Fam) (set clr : Ev) (level src : Nat) : State × List Nat :=
  let t := s.hottest.2
  if !s.is st && decide (s.threshold level ≤ t) then (((s.set st).raise set).logThermal set.i, [src])
  else if s.is st && decide (t < s.threshold (level - 3)) then (((s.clr st).raise clr).logThermal clr.i, [])
  else (s, [])

/-- R280: the shutdown condition, with the die and temperature that the latch records. -/
def State.shutdown (s : State) : Option (Nat × Nat) :=
  let h := s.hottest
  if s.threshold 110 ≤ h.2 then some h
  else match (List.range 44).find? fun i => decide (2 ≤ s.thermal.hot.getD i 0) with
    | some i => some (nodeDie (sensorNode i), s.rd R.THERMAL_SENSOR_READING [i])
    | none => none

/-- R282: an operation ended because the window was left, or refused outside it. -/
def State.progRefused (s : State) : State := (s.raise E.THERMAL_PROG_REFUSED).detect [22]

/-- R277: the model has no history: a 1,000-tick guard, and start values from the next readings
(DEDUCED in part: log entry 29). -/
def State.modelInit (s : State) : State :=
  let s := s.set R.THERMAL_STATUS_GUARD
  { s with thermal := { s.thermal with nodes := List.replicate 31 (degC 95 * 256), fresh := true, guardAge := 0 } }

/-- R277: the model's start values, from the valid readings. -/
def State.modelStart (s : State) : State :=
  let all := ((List.range 44).filter s.sensorValid).map fun i => s.rd R.THERMAL_SENSOR_READING [i]
  let start := fun n =>
    let own := ((List.range 44).filter fun i => nodeDie (sensorNode i) == nodeDie n && s.sensorValid i).map fun i =>
      s.rd R.THERMAL_SENSOR_READING [i]
    if !own.isEmpty then mean (own.map (· * 256))
    else if !all.isEmpty then mean (all.map (· * 256)) else degC 95 * 256
  { s with thermal := { s.thermal with nodes := (List.range 31).map start, fresh := false } }

/-- R292: one more tick counts toward the next limit step: under THROTTLE while the target stands at 12 W, else while the limit is
being released. -/
def State.limitOlder (s : State) : State :=
  let counts := if s.is R.THERMAL_STATUS_THROTTLE then decide (s.rd R.THERMAL_TARGET ≤ 120)
    else s.rd R.THERMAL_STATUS_THROTTLE_LIMIT != 0
  { s with thermal := { s.thermal with limitAge := if counts then s.thermal.limitAge + 1 else 0 } }

/-- R285 step 1: the model advances, the thresholds and the shutdown are evaluated. -/
def State.thermalTick (s : State) (env : TickEnv) : State :=
  if !s.live 3 then s else
  let s := s.readSensors env
  let fresh := s.thermal.fresh
  let s := (if fresh then s.modelStart else s).countSensors
  let fb := (s.lid env).2
  let lidSrc := if fb && !s.is R.THERMAL_STATUS_LID_FALLBACK then [21] else []
  let s := s.wrB R.THERMAL_STATUS_LID_FALLBACK fb
  let s := if fresh then s else s.modelStep env
  let p := s.publishTemps
  let w := p.1.thresholdStep R.THERMAL_STATUS_WARNING E.THERMAL_WARN_SET E.THERMAL_WARN_CLEAR 85 16
  let hotBefore := w.1.is R.THERMAL_STATUS_THROTTLE
  let h := w.1.thresholdStep R.THERMAL_STATUS_THROTTLE E.THERMAL_THROTTLE_SET E.THERMAL_THROTTLE_CLEAR 95 17
  let s := if hotBefore == h.1.is R.THERMAL_STATUS_THROTTLE then h.1.limitOlder
    else { h.1 with thermal := { h.1.thermal with limitAge := 0 } }
  let s : State := { s with thermal := { s.thermal with warnCopy := s.is R.THERMAL_STATUS_WARNING } }
  let trip := if s.thermal.trip.isSome then none else s.shutdown
  let s : State := if trip.isSome then { s with thermal := { s.thermal with trip := trip } } else s
  (s.detect (lidSrc ++ p.2 ++ w.2 ++ h.2 ++ if trip.isSome then [18] else [])).drivePins

/-! ### The power governor (R283 to R293) -/

/-- full_L (R286). -/
def State.fullRate (s : State) (l : Nat) : Nat :=
  if s.is16 then [72000, 56000, 36000, 18000].getD l 0 else [54000, 42000, 27000, 13500].getD l 0

/-- R_L (R286). -/
def State.refreshAllow (s : State) (l : Nat) : Nat :=
  let twice := (List.range s.nBench).any fun b => s.is R.BENCH_STATUS_REFRESH_2X [b]
  s.fullRate l / (if twice then 16 else 32)

/-- raw_L for a target in 0.1 W (R286). -/
def State.rawRate (s : State) (l target : Nat) : Nat :=
  min (s.fullRate l)
    (s.rd R.THERMAL_GOV_COEF_K [l] * (target * 10 - s.rd R.THERMAL_GOV_COEF_BASE [l]) * s.rd R.THERMAL_GOV_TRIM / 25600)

/-- A schedule entry's fields are indexed by the entry alone. -/
def State.schedTarget (s : State) (i : Nat) : Nat :=
  s.rd R.TIME_SCHED_TARGET_LO [i] + s.rd R.TIME_SCHED_TARGET_HI [i] * 2 ^ 32

/-- An entry acts at this tick: it is armed, was armed before the tick, and its target has been reached
(DEDUCED in part: log entry 12). -/
def State.schedDue (s : State) (i : Nat) : Bool :=
  s.is R.TIME_SCHED_ARM [i] && !s.time.freshSched.contains i && reached s.time.now (s.schedTarget i)

/-- R35: entries with an action other than WAKE and EVENT are skipped: in REST, in EMBER, and once TIME has granted an entry. -/
def State.schedSkips (s : State) : Bool := decide (2 ≤ s.rd R.POWER_STATUS_STATE) || s.power.granted.contains 1

/-- R285: the setpoint that the governor's step of this tick works with: that of the last SET_CAP entry which acts at this tick,
since schedule entries act before the step; else the setpoint held. -/
def State.capAhead (s : State) : Nat :=
  let due := (List.range 64).filter s.schedDue
  let ahead := due.takeWhile fun i => s.rd R.TIME_SCHED_ACTION [i] != 2
  if s.schedSkips then s.rd R.THERMAL_CAP_SETPOINT
  else ((ahead.filter fun i => s.rd R.TIME_SCHED_ACTION [i] == 3).map fun i => s.rd R.TIME_SCHED_ARG [i]).getLastD
    (s.rd R.THERMAL_CAP_SETPOINT)

/-- R283: the cap in force under a setpoint. -/
def State.capUnder (s : State) (setpoint : Nat) : Nat := min setpoint (s.rd R.THERMAL_CAP_CEIL_CEIL)

/-- R283: the cap in force and the cap target, after the throttle's reduction (R292) (DEDUCED in part: log entry 29). -/
def State.capSettle (s : State) : State :=
  let inForce := s.capUnder s.capAhead
  let t := if inForce = s.rd R.THERMAL_CAP_IN_FORCE then s
    else (s.wr R.THERMAL_CAP_IN_FORCE inForce).raise E.THERMAL_CAP_CHANGE
  t.wr R.THERMAL_TARGET (max (min 120 inForce) (inForce - t.thermal.reduction))

/-- R249: the fastest level in force. -/
def State.levelLimit (s : State) : Nat :=
  max (s.rd R.POWER_PERF_LIMIT) (max (s.rd R.POWER_PERF_FUSE_LIMIT) (s.rd R.THERMAL_STATUS_THROTTLE_LIMIT))

/-- D of a level for the next window (R288, R289) (DEDUCED in part: log entry 28). -/
def State.levelD (s : State) (l : Nat) : Nat :=
  s.govW * (s.rawRate l (s.rd R.THERMAL_TARGET) - s.refreshAllow l) - s.govF

/-- R289: the level of choice, no faster than `lim`. -/
def State.levelChoice (s : State) (lim : Nat) : Nat :=
  let ls := (List.range 4).filter fun l => lim ≤ l
  let g := s.govG
  let ok := fun l => decide (g ≤ s.levelD l) && decide (s.govW * s.rd R.THERMAL_GOV_CTRL_MIN_D ≤ s.levelD l)
  match ls.find? ok with
  | some l => l
  | none => ls.foldl (fun m l => if s.levelD m < s.levelD l then l else m) lim

/-- The coding engine's input rate at a level, in 0.1 GB/s (Table 09.5). -/
def codeRate (l : Nat) : Nat := [2560, 2048, 1536, 1024].getD l 1024

/-- R291: the coding engine's limit. -/
def State.codeLimit (s : State) : State :=
  let f := s.rd R.THERMAL_GOV_TRIM
  let l := s.rd R.POWER_STATUS_LEVEL
  let lim := max (s.rd R.THERMAL_GOV_CTRL_CODE_FLOOR * 10) (codeRate l * f / 256)
  let low := decide (f < 256) && decide (lim < codeRate l)
  let t := s.wr R.THERMAL_CODE_LIMIT_RATE (if f < 256 then lim / 10 else 0)
  if t.live 10 then t.wrB R.CODING_STATUS_THROTTLED low else t

/-- R287: the TOKENS frames. -/
def State.tokenFrames (s : State) : State :=
  (List.range s.nBench).foldl (fun s b => s.sendDown b 0x31 ⟨0, s.rd R.THERMAL_TOKENS, [], []⟩) s

/-- R115, R287: the TEMP and TOKENS frames of a tick. -/
def State.tickFrames (s : State) : State :=
  ((List.range s.nBench).foldl (fun s b =>
    let e := fun n => min (s.estimate (13 + n)) 4095
    s.sendDown b 0x30 ⟨0, e (2 * b) + 4096 * e (2 * b + 1), [], []⟩) s).tokenFrames

/-- The level may be decided anew: the device is in ACTIVE or DOZE, no change is decided and not completed, and firmware can load
timing sets (R250, R379). -/
def State.levelFree (s : State) : Bool :=
  decide (s.rd R.POWER_STATUS_STATE < 2) && s.rd R.THERMAL_GOV_CHOSEN == s.rd R.POWER_STATUS_LEVEL &&
    s.rd R.MGMT_STATUS_FW_STATE != 5

/-- raw of a level for the cap target in force, or the start-up figure of R293. -/
def State.rawNow (s : State) (l : Nat) : Nat :=
  if s.is R.THERMAL_STATUS_START_HOLD then 18000 else s.rawRate l (s.rd R.THERMAL_TARGET)

/-- R288: the figure for D: of the chosen level, or the least of those of the level in use, the chosen level and a faster level
that is the choice but has not been made yet. -/
def State.dSettle (s : State) : State :=
  let net := fun l => s.rawNow l - s.refreshAllow l
  let chosen := s.rd R.THERMAL_GOV_CHOSEN
  let next := if s.thermal.rise = 0 then chosen else s.thermal.riseTo
  { s with regul := { s.regul with nextD := min (net (s.rd R.POWER_STATUS_LEVEL)) (min (net chosen) (net next)) } }

/-- R285 step 4, as far as it may be taken again within a tick: cap, choice, tokens and the figure for D. `count` says that a
tick has passed for the rising choice of R289. -/
def State.govSettle (s : State) (count : Bool) : State :=
  let s := s.capSettle
  let hold := s.is R.THERMAL_STATUS_START_HOLD
  let s :=
    if hold || !s.thermal.released then
      if s.levelFree then { s.wr R.THERMAL_GOV_CHOSEN 2 with thermal := { s.thermal with rise := 0 } } else s
    else if !s.levelFree then s
    else
      let now := s.rd R.POWER_STATUS_LEVEL
      let lim := if s.thermal.forced = 0 then s.levelLimit else max s.levelLimit s.thermal.forcedAt
      let l := s.levelChoice lim
      if now < l then { s.wr R.THERMAL_GOV_CHOSEN l with thermal := { s.thermal with rise := 0 } }
      else if l = now then { s with thermal := { s.thermal with rise := 0 } }
      else if !count then s
      else if s.thermal.riseTo = l then { s with thermal := { s.thermal with rise := s.thermal.rise + 1 } }
      else { s with thermal := { s.thermal with rise := 1, riseTo := l } }
  let level := s.rd R.POWER_STATUS_LEVEL
  let raw := s.rawNow level
  let tokens := if !hold && raw == s.fullRate level && decide (256 ≤ s.rd R.THERMAL_GOV_TRIM) then 0x3FFFF else raw / 4
  ((s.wr R.THERMAL_TOKENS tokens).wr R.POWER_STATUS_LEVEL_LIMIT s.levelLimit).dSettle

/-- R290, R292, R293: what a tick does to the trim, the throttle and the counters (DEDUCED in part: log entry 29). -/
def State.govCount (s : State) (env : TickEnv) : State :=
  let p := s.packagePower env
  let target := s.rd R.THERMAL_TARGET * 1000
  let hold := s.is R.THERMAL_STATUS_START_HOLD
  let f := s.rd R.THERMAL_GOV_TRIM
  let spent := s.rd R.THERMAL_TOKENS != 0x3FFFF &&
    (List.range s.nBench).any fun b => s.is R.BENCH_STATUS_LINK_UP [b] && (s.bench.getD b BenchSt.reset).tokens == 0
  let f' := if hold then 256 else if target < p then max 128 (f - 4)
    else if decide (p + 5000 < target) && spent then min 320 (f + 1) else f
  let low := if decide (f' = 128) && decide (target < p) then s.thermal.low + 1 else 0
  let throttle := s.is R.THERMAL_STATUS_THROTTLE
  let inForce := s.rd R.THERMAL_CAP_IN_FORCE
  let atFloor := decide (s.rd R.THERMAL_TARGET ≤ 120)
  let lim := s.rd R.THERMAL_STATUS_THROTTLE_LIMIT
  let red := if throttle then (if atFloor then s.thermal.reduction else min (s.thermal.reduction + 5) (inForce - 120))
    else if lim = 0 then inForce - s.rd R.THERMAL_TARGET - 1 else s.thermal.reduction
  let s := (s.wr R.THERMAL_GOV_TRIM f').wr R.THERMAL_PKG_POWER_POWER (min (p / 1000) 1023)
  { s with
    regul := { s.regul with prevD := s.regul.nextD }
    thermal := { s.thermal with
      low := low, reduction := red, forced := s.thermal.forced - 1
      guardAge := s.thermal.guardAge + 1, holdAge := s.thermal.holdAge + 1 } }

/-- R285 step 4: the governor's step at a tick boundary. -/
def State.govTick (s : State) (env : TickEnv) : State :=
  if !s.live 3 then s else ((s.govCount env).govSettle true).codeLimit.tickFrames

/-- R293: the governor's start-up state. -/
def State.govInit (s : State) : State :=
  let s := ((s.set R.THERMAL_STATUS_START_HOLD).wr R.THERMAL_GOV_TRIM 256).wr R.THERMAL_GOV_CHOSEN 2
  let s := (s.wr R.THERMAL_TOKENS 4500).clr R.THERMAL_STATUS_THROTTLE_LIMIT
  let d := 18000 - s.refreshAllow 2
  { s with
    regul := { s.regul with nextD := d, prevD := d }
    thermal := { s.thermal with
      holdAge := 0, rise := 0, riseTo := 2, low := 0, forced := 0, reduction := 0, limitAge := 0, released := false } }

/-! ### Commands -/

/-- R275: a sensor has differed from its reference on 8 consecutive ticks. -/
def State.sensorSuspect (s : State) (n : Nat) : State :=
  if 44 ≤ n ∨ !s.live 3 ∨ s.is R.THERMAL_SUSPECT_SENSORS [n] ∨ s.thermal.away.getD n 0 < 8 then s else
  let s := (s.set R.THERMAL_SUSPECT_SENSORS [n]).set R.THERMAL_SENSOR_SUSPECT [n]
  let s : State := { s with thermal := { s.thermal with
    away := setAt s.thermal.away n 0, near := setAt s.thermal.near n 0, hot := setAt s.thermal.hot n 0 } }
  ((s.raise E.THERMAL_SENSOR_SUSPECT).logThermal 4).detect [19]

/-- SENSOR_SUSPECT. -/
def execSensorSuspect (n : Nat) (s : State) : Host.Outcome State Fault Refusal := .next (s.sensorSuspect n)

/-- R275: a suspect sensor has stayed within 3 °C of its reference for 1,000 consecutive ticks. -/
def State.sensorRestored (s : State) (n : Nat) : State :=
  if 44 ≤ n ∨ !s.live 3 ∨ !s.is R.THERMAL_SUSPECT_SENSORS [n] ∨ s.thermal.near.getD n 0 < 1000 then s else
  let s := (s.clr R.THERMAL_SUSPECT_SENSORS [n]).clr R.THERMAL_SENSOR_SUSPECT [n]
  let s : State := { s with thermal := { s.thermal with near := setAt s.thermal.near n 0 } }
  (s.raise E.THERMAL_SENSOR_RESTORED).logThermal 5

/-- SENSOR_RESTORED. -/
def execSensorRestored (n : Nat) (s : State) : Host.Outcome State Fault Refusal := .next (s.sensorRestored n)

/-- R277: the guard ends after 1,000 ticks. -/
def State.guardEnd (s : State) : State :=
  if s.live 3 && s.is R.THERMAL_STATUS_GUARD && decide (1000 ≤ s.thermal.guardAge) then s.clr R.THERMAL_STATUS_GUARD else s

/-- MODEL_GUARD_END. -/
def execModelGuardEnd (s : State) : Host.Outcome State Fault Refusal := .next s.guardEnd

/-- R293: the start-up hold ends after 100 ticks. -/
def State.holdEnd (s : State) : State :=
  if s.live 3 && s.is R.THERMAL_STATUS_START_HOLD && decide (100 ≤ s.thermal.holdAge) then
    s.clr R.THERMAL_STATUS_START_HOLD
  else s

/-- GOV_START_HOLD_END. -/
def execGovStartHoldEnd (s : State) : Host.Outcome State Fault Refusal := .next s.holdEnd

/-- R250: a level is decided at this tick boundary; a rising one drives its code at once. -/
def State.decideLevel (s : State) (l : Nat) : State :=
  let now := s.rd R.POWER_STATUS_LEVEL
  let s := s.wr R.THERMAL_GOV_CHOSEN l
  let s := ({ s with thermal := { s.thermal with rise := 0 } } : State).dSettle
  if l < now then { s.driveVid (s.vidCode l) with power := { s.power with riseAt := some s.time.now } } else s

/-- R289: a faster level has been the choice for 100 consecutive ticks. -/
def State.govRise (s : State) : State :=
  if s.live 3 && s.levelFree && decide (100 ≤ s.thermal.rise) && decide (s.thermal.riseTo < s.rd R.POWER_STATUS_LEVEL) &&
      decide (s.levelLimit ≤ s.thermal.riseTo) then
    s.decideLevel s.thermal.riseTo
  else s

/-- GOV_RISE_QUALIFIED. -/
def execGovRiseQualified (s : State) : Host.Outcome State Fault Refusal := .next s.govRise

/-- R290: f has been 128 and P above the target for 32 consecutive ticks. -/
def State.govForced (s : State) : State :=
  if s.live 3 && s.levelFree && decide (32 ≤ s.thermal.low) && decide (s.rd R.POWER_STATUS_LEVEL < 3) then
    let l := s.rd R.POWER_STATUS_LEVEL + 1
    let s := s.decideLevel l
    ({ s with thermal := { s.thermal with low := 0, forced := 1000, forcedAt := l } } : State).detect [23]
  else s

/-- GOV_FORCED_STEP. -/
def execGovForcedStep (s : State) : Host.Outcome State Fault Refusal := .next s.govForced

/-- R292: the throttle's level limit steps slower while THROTTLE is 1, and faster after it has cleared. -/
def State.limitStep (s : State) : State :=
  if !s.live 3 ∨ s.thermal.limitAge < 100 then s else
  let n := s.rd R.THERMAL_STATUS_THROTTLE_LIMIT
  let s : State := { s with thermal := { s.thermal with limitAge := 0 } }
  let s := if s.is R.THERMAL_STATUS_THROTTLE then s.wr R.THERMAL_STATUS_THROTTLE_LIMIT (min 3 (n + 1))
    else s.wr R.THERMAL_STATUS_THROTTLE_LIMIT (n - 1)
  s.wr R.POWER_STATUS_LEVEL_LIMIT s.levelLimit

/-- THROTTLE_LIMIT_STEP. -/
def execThrottleLimitStep (s : State) : Host.Outcome State Fault Refusal := .next s.limitStep

end Sys2Proof.Machine
end

