-- ==== Sys2Proof/Machine/Ras.lean ====
section
/-! DEFINITION. What follows a decode: counters, logs, charges, the row watch and the judged loss of a layer (R296 to R301,
R306, R313), and the check-bit injections that a decode consumes (R325). -/
namespace Sys2Proof.Machine

/-- The SOURCE code of Table 13.4 of a requester. -/
def Src.code : Src → Nat
  | .pcie => 0
  | .haul _ => 1
  | .coding _ => 2
  | .scrub => 3
  | .selftest => 6
  | .mgmt => 7

/-! ### Injections (R325) -/

/-- One check of an injection's target consumed (DEDUCED in part: log entry 33). -/
def State.injStep (s : State) : State :=
  match s.fault.inj with
  | none => s
  | some j =>
    let r := j.remaining - 1
    let t := s.wr R.FAULT_INJ_STATUS_REMAINING r
    if r = 0 then
      ({ t.clr R.FAULT_INJ_CTRL_GO with fault := { t.fault with inj := none } } : State).raise E.FAULT_INJ_DONE
    else { t with fault := { t.fault with inj := some { j with remaining := r } } }

/-- An injection of `checker` on `target` is running (DEDUCED in part: log entry 33). -/
def State.injOn (s : State) (checker target : Nat) : Bool :=
  match s.fault.inj with
  | some j => j.checker == checker && (j.target == target || checker == 3 || checker == 6)
  | none => false

/-- The fault source of a check-bit error in an array of Table 14.5: corrected, or uncorrectable with two bits. -/
def arraySource (array : Nat) (double dirty : Bool) : List Nat :=
  if !double then (if array = 0 then [40] else [])
  else match array with
    | 0 => if dirty then [42] else [41]
    | 1 => [43]
    | 2 => [44]
    | 3 => [13]
    | 4 => [81]
    | 5 => [85]
    | 6 => [99]
    | 7 => [14]
    | n => if n ≤ 16 then [40 + n] else []

/-- A check of an SRAM array: with an injection running on it, one check is consumed; whether two bits were inverted
(DEDUCED in part: log entry 33). -/
def State.injArray (s : State) (array : Nat) : State × Option Bool :=
  match s.fault.inj with
  | some j => if j.checker = 4 ∧ j.target = array then (s.injStep, some j.double) else (s, none)
  | none => (s, none)

/-- A check of an array whose error has no effect but its source (DEDUCED in part: log entry 33). -/
def State.checkArray (s : State) (array : Nat) : State :=
  match s.injArray array with
  | (t, some d) => t.detect (arraySource array d false)
  | (t, none) => t

/-! ### The logs -/

/-- R298: a spoil-log entry. -/
def State.ceLog (s : State) (slab source : Nat) (d : Decoded) (charged : List (Nat × Nat)) : State :=
  let n := s.rd R.RAS_CELOG_STATUS_NEXT
  let layers := charged.foldl (fun m p => m ||| (1 <<< p.1)) 0
  let cls := (charged.head?.map (·.2)).getD 0
  let s := if 64 ≤ s.rd R.RAS_CELOG_STATUS_COUNT then (s.incSat R.RAS_CELOG_OVERFLOW_COUNT).raise E.RAS_CELOG_OVERFLOW
    else s.inc R.RAS_CELOG_STATUS_COUNT
  let s := (s.wr R.RAS_CELOG_SLAB_SLAB slab [n]).wr R.RAS_CELOG_SLAB_SOURCE source [n]
  let s := (s.wr R.RAS_CELOG_LAYERS_LAYERS layers [n]).wr R.RAS_CELOG_LAYERS_CLASS cls [n]
  let s := (s.wr R.RAS_CELOG_LAYERS_ERASURES d.erasures [n]).wr R.RAS_CELOG_COLS_COLUMNS d.columns [n]
  let s := (s.wr R.RAS_CELOG_TICK_TICK s.tick32 [n]).inc R.RAS_CELOG_STATUS_NEXT
  let word1 := layers + cls * 2 ^ 18 + d.erasures * 2 ^ 21
  (s.log 2 0 0 (leBytes 4 (slab + source * 2 ^ 28) ++ leBytes 4 word1 ++ leBytes 4 d.columns ++ leBytes 4 s.tick32)).raise
    E.RAS_CE

/-- R299, R300: an uncorrectable-error log entry. A DELIVERED entry merges with the newest one when that is alike. -/
def State.ueLog (s : State) (kind slab source layers poison : Nat) : State :=
  let n := s.rd R.RAS_UELOG_STATUS_NEXT
  let c := s.rd R.RAS_UELOG_STATUS_COUNT
  let p := (n + 31) % 32
  let same := kind == 1 && decide (0 < c) && s.rd R.RAS_UELOG_INFO_KIND [p] == 1 && s.rd R.RAS_UELOG_SLAB_SLAB [p] == slab &&
    s.rd R.RAS_UELOG_SLAB_SOURCE [p] == source && s.rd R.RAS_UELOG_POISON_SECTORS [p] == poison
  if same then s.incSat R.RAS_UELOG_INFO_REPEAT [p]
  else
    let s := if 32 ≤ c then (s.incSat R.RAS_UELOG_OVERFLOW_COUNT).raise E.RAS_UELOG_OVERFLOW
      else s.inc R.RAS_UELOG_STATUS_COUNT
    let s := (s.wr R.RAS_UELOG_SLAB_SLAB slab [n]).wr R.RAS_UELOG_SLAB_SOURCE source [n]
    let s := ((s.wr R.RAS_UELOG_INFO_KIND kind [n]).wr R.RAS_UELOG_INFO_REPEAT 0 [n]).wr R.RAS_UELOG_INFO_LAYERS layers [n]
    let s := (s.wr R.RAS_UELOG_POISON_SECTORS poison [n]).wr R.RAS_UELOG_TICK_TICK s.tick32 [n]
    (s.inc R.RAS_UELOG_STATUS_NEXT).log 3 0 kind
      (leBytes 4 (slab + source * 2 ^ 28) ++ leBytes 4 (kind + layers * 2 ^ 14) ++ leBytes 4 poison ++ leBytes 4 s.tick32)

/-- R300: poisoned sectors delivered. -/
def State.delivered (s : State) (slab : Nat) (src : Src) (poison : Nat) : State :=
  if poison = 0 then s else s.ueLog 1 slab (Src.code src) 0 poison

/-! ### Charges (R297, R306, R313) -/

/-- R306: the index of the entry that a new row replaces in a full table: the lowest count, the oldest of equal ones. -/
def watchVictim (l : List RowWatch) : Nat :=
  (l.zipIdx.foldl (fun (m : Nat × Nat) p => if p.1.count < m.1 then (p.1.count, p.2) else m) (256, 0)).2

/-- R306: a charge to a row. -/
def watchCharge (l : List RowWatch) (layer pos row : Nat) : List RowWatch :=
  let here : RowWatch → Bool := fun e => e.layer == layer && e.pos == pos && e.row == row
  if l.any here then l.map fun e => if here e then { e with count := min 255 (e.count + 1) } else e
  else if l.length < 64 then l ++ [⟨layer, pos, row, 1⟩]
  else l.eraseIdx (watchVictim l) ++ [⟨layer, pos, row, 1⟩]

/-- R297: one layer charged. -/
def State.chargeLayer (s : State) (slab layer cls : Nat) : State :=
  let pos := s.posOf slab
  let s := (s.incSat R.RAS_LAYER_CE_COUNT [layer]).incSat R.RAS_BANK_CE_COUNT [layer, pos]
  let watch := if cls = 3 ∨ cls = 7 then watchCharge s.ras.watch layer pos (rowOf slab) else s.ras.watch
  { s with ras := { s.ras with
      watch := watch
      charges := (s.ras.charges.filter fun c => decide (tickSub s.time.now c.tick < 1000)) ++ [⟨layer, pos, s.time.now⟩] } }

/-- R313: a layer is judged lost. -/
def State.judged (s : State) (layer : Nat) : Bool :=
  let mine := s.ras.charges.filter (·.layer == layer)
  let banks := (List.range 64).filter fun p => mine.any (·.pos == p)
  decide (s.rd R.RAS_THRESH_LOSS_THRESH ≤ mine.length) && decide (4 ≤ banks.length)

/-- R313: the layers that this decode charged are judged. -/
def State.judge (s : State) (layers : List Nat) : State :=
  layers.foldl (fun s n =>
    if s.judged n then
      let t := s.raise E.RAS_JUDGED_LOST
      let t := if t.is R.RAS_RAS_CTRL_AUTO_LOSS then t.loseLayer n 3 else t
      (t.detect [35]).protSettle
    else s) s

/-! ### What a decode counts and logs -/

/-- R296 to R299: the counts, logs and fault sources of a decode. -/
def State.rasDecode (s : State) (op : SlabOp) (d : Decoded) : State :=
  match d.outcome with
  | .clean | .degraded => s
  | .corrected =>
    let excused : Nat × Nat → Bool := fun p => p.2 == 2 && op.linkDown.testBit p.1
    let charged := d.charged.filter fun p => !excused p
    let s : State := { s with ras := { s.ras with ceTotal := (s.ras.ceTotal + 1) % 2 ^ 64 } }
    let s := s.addSat R.RAS_LINK_MISSING_COUNT (d.charged.filter excused).length
    let s := charged.foldl (fun s p => s.chargeLayer op.slab p.1 p.2) s
    ((s.ceLog op.slab op.source d charged).detect [34]).judge (charged.map (·.1))
  | .uncorrectable =>
    let s := (s.incSat R.RAS_UE_TOTAL_COUNT).ueLog (if d.tie then 2 else 0) op.slab op.source d.erased d.fresh
    let s : State := { s with ras := { s.ras with
      ueSeen := (s.ras.ueSeen.filter fun p => p.1 != op.slab && decide (tickSub s.time.now p.2 ≤ 1000)) ++
        [(op.slab, s.time.now)] } }
    (s.raise E.RAS_UE).detect (33 :: if d.tie then [39] else [])

/-! ### Slab operations (R92) -/

/-- R241: the sweeps that arbitrate as GUARANTEED. -/
def OpKind.sweep : OpKind → Bool
  | .job .rejoin | .job .suspect => true
  | _ => false

/-- A slab-level operation is in flight on a slab. -/
def State.locked (s : State) (slab : Nat) : Bool := s.cache.ops.any (·.slab == slab)

/-- R61, R109, R159, R237: a fetch issued: the erasure map is sampled, portions of a bench whose link is not in service are
MISSING at once, the label is charged, MISSES counts the fetch, and its records join the shaft request queues. -/
def State.issueOp (s : State) (op : SlabOp) : State :=
  let map := s.mappedMap op.slab
  let lk : Nat → Nat := fun n => s.rd R.SHAFT_LINK_STATUS_STATE [n / 2]
  let missing := mapOf s.nLayer fun n => !map.testBit n && lk n != linkActive
  let held := mapOf s.nLayer fun n => !map.testBit n && (lk n == linkRecovery || lk n == linkHold)
  let units := match op.kind with
    | .rmwLine | .rmwMerge => 2 * s.slabUnits
    | _ => s.slabUnits
  let t := s.charge op.label units
  let t := match op.kind with
    | .rmwLine | .rmwMerge => t.inc R.CACHE_RMW_COUNT_COUNT
    | _ => t
  let op := { op with mapped := map, missing := missing, linkDown := held, tag := t.cache.nextTag }
  let t : State := { t with cache := { t.cache with
    ops := t.cache.ops ++ [op]
    nextTag := (op.tag + 1) % 2 ^ 16
    misses := (t.cache.misses + 1) % 2 ^ 64 } }
  t.askPortions op op.kind.sweep

/-- R123, R129: no fetch may be issued: a level change is in progress, or an active bench owes its canary mask: its check, or at an
exit from EMBER the training before it. -/
def State.fetchHeld (s : State) : Bool :=
  s.power.pauseTo.isSome || (List.range s.nBench).any fun b =>
    let x := s.bench.getD b BenchSt.reset
    x.canaryDue || (x.canaryMode && s.rd R.POWER_STATUS_STATE == 3 && s.linkState b != linkOffline)

/-- A slab's fetch has to wait: for its lock, or while no fetch may be issued. -/
def State.noFetch (s : State) (slab : Nat) : Bool := s.locked slab || s.fetchHeld

/-- An operation started; queued for its slab's lock, or while no fetch may be issued. -/
def State.startOp (s : State) (slab : Nat) (kind : OpKind) (source label : Nat) (req : Option Nat := none) : State :=
  let op : SlabOp := ⟨slab, kind, 0, 0, 0, source, label, req, [], 0⟩
  if s.noFetch slab then { s with cache := { s.cache with opq := s.cache.opq ++ [op] } } else s.issueOp op

/-- R61, R159: portions that have not arrived from a bench whose link is out of service by now are MISSING too
(DESIGN CHOICE in part: log entry 18). -/
def State.linkMissing (s : State) (op : SlabOp) (got : List Delivery) : SlabOp :=
  let gone := (List.range s.nLayer).filter fun n =>
    s.linkState (n / 2) != linkActive && !op.mapped.testBit n && !(got ++ op.arrived).any (·.layer == n)
  let held := gone.filter fun n => s.linkState (n / 2) == linkRecovery || s.linkState (n / 2) == linkHold
  { op with
    missing := gone.foldl (fun m n => setBit m n true) op.missing
    linkDown := held.foldl (fun m n => setBit m n true) op.linkDown }

/-- R61: what a fetch brings to the decoder, with the injections of checkers 2 and 3 (Table 14.5). -/
def State.decodeOp (s : State) (op : SlabOp) (got : List Delivery) : State × Decoded :=
  let ps := s.deliver op.slab op.mapped op.missing (got ++ op.arrived)
  let hit := (List.range s.nLayer).find? fun n => s.injOn 2 n && (ps.getD n none).isSome
  let ps := match hit with
    | some n => modAt (fun p => p.map fun l =>
        l.mapIdx fun i b => if 128 ≤ i ∧ i < 132 then b ^^^ 0xFF#8 else b) ps n
    | none => ps
  let syn := s.injOn 3 0
  let s := if hit.isSome || syn then s.injStep else s
  (s, decodeSlab s.nBench op.slab op.mapped ps syn)

end Sys2Proof.Machine
end

