-- ==== Sys2Proof/Machine/SlabOps.lean ====
section
/-! DEFINITION. Lines, the merge buffer, write-back, eviction and the suspect-region map (R78 to R90, R100, R101, R477). -/
namespace Sys2Proof.Machine

/-! ### Sectors and requests -/

/-- Every sector of a slab. -/
def State.allSectors (s : State) : Nat := 2 ^ s.sectors - 1

/-- The byte that a write gives a slab byte. -/
def reqByte (r : CReq) (i : Nat) : Option Byte := if i < r.off then none else r.data.getD (i - r.off) none

/-- The sectors that a request reads, or in which it writes a byte. -/
def reqTouched (r : CReq) (n : Nat) : Nat :=
  mapOf n fun k =>
    if r.write then (List.range 64).any fun j => (reqByte r (64 * k + j)).isSome
    else decide (r.off < 64 * k + 64) && decide (64 * k < r.off + r.len)

/-- The sectors that a write covers whole. -/
def reqCovered (r : CReq) (n : Nat) : Nat :=
  mapOf n fun k => (List.range 64).all fun j => (reqByte r (64 * k + j)).isSome

/-- Bits of `a` that are not in `b`. -/
def minus (a b : Nat) : Nat := a - (a &&& b)

/-! ### Lines -/

/-- The line of a slab. -/
def State.lineOf (s : State) (slab : Nat) : Option Line := s.cache.lines.find? (·.slab == slab)

/-- The open merge-buffer entry of a slab. -/
def State.entryOf (s : State) (slab : Nat) : Option MEntry := s.cache.merge.find? (·.slab == slab)

/-- A line put in place of the one of its slab, or added. -/
def State.setLine (s : State) (l : Line) : State :=
  let ls := if s.cache.lines.any (·.slab == l.slab) then s.cache.lines.map fun x => if x.slab == l.slab then l else x
    else s.cache.lines ++ [l]
  { s with cache := { s.cache with lines := ls } }

/-- A slab's line removed. -/
def State.dropLine (s : State) (slab : Nat) : State :=
  { s with cache := { s.cache with lines := s.cache.lines.filter (·.slab != slab) } }

/-- A slab's merge-buffer entry changed. -/
def State.modEntry (s : State) (slab : Nat) (f : MEntry → MEntry) : State :=
  { s with cache := { s.cache with merge := s.cache.merge.map fun e => if e.slab == slab then f e else e } }

/-- A slab's merge-buffer entry removed. -/
def State.dropEntry (s : State) (slab : Nat) : State :=
  { s with cache := { s.cache with merge := s.cache.merge.filter (·.slab != slab) } }

/-! ### The suspect-region map (R101, R102) -/

/-- The region of a slab. -/
def regionOf (slab : Nat) : Nat := slab / 32768

/-- A region holds a dirty sector or an open merge-buffer entry. -/
def State.regionHeld (s : State) (g : Nat) : Bool :=
  (s.cache.lines.any fun l => l.dirty != 0 && regionOf l.slab == g) || s.cache.merge.any fun e => regionOf e.slab == g

/-- A region's bit set. -/
def State.srSet (s : State) (slab : Nat) : State := s.set R.CACHE_SRMAP_BITS [regionOf slab]

/-- A region's bit cleared once the region holds nothing, unless the map reports an unflushed reset. -/
def State.srSettle (s : State) (slab : Nat) : State :=
  if s.is R.CACHE_SRMAP_STATUS_UNFLUSHED || s.regionHeld (regionOf slab) then s
  else s.clr R.CACHE_SRMAP_BITS [regionOf slab]

/-! ### Tree pseudo-LRU (R78) -/

/-- The tree's bits after a use of `way`: the nodes on its path point away from it (DEDUCED in part: log entry 17). -/
def plruTouch (bits way : Nat) : Nat :=
  ((List.range 4).foldl (fun (a : Nat × Nat) k =>
    let d := way.testBit (3 - k)
    (setBit a.1 a.2 (!d), 2 * a.2 + 1 + b2n d)) (bits, 0)).1

/-- The way that the tree points at among those that `ok` admits, in the subtree of `node` whose ways begin at `base`
(DEDUCED in part: log entry 17). -/
def plruFind (bits : Nat) (ok : Nat → Bool) : Nat → Nat → Nat → Option Nat
  | 0, _, base => if ok base then some base else none
  | k + 1, node, base =>
    let d := bits.testBit node
    let go := fun (b : Bool) => plruFind bits ok k (2 * node + 1 + b2n b) (base + (if b then 2 ^ k else 0))
    (go d).orElse fun _ => go (!d)

/-- A use of a line recorded. -/
def State.touchWay (s : State) (slab way : Nat) : State :=
  let set := slab % 4096
  { s with cache := { s.cache with plru := kvPut set (plruTouch ((kvGet set s.cache.plru).getD 0) way) s.cache.plru } }

/-! ### Writing back (R87, R88, R100) -/

/-- Write-through is in force: from step 2 of a drain, which follows the last descriptor, to the end of the shift, and under
WT_FORCE (R39, R100). -/
def State.wt (s : State) : Bool :=
  s.rd R.TIME_SHIFT_STATUS_STATE == 4 || (s.rd R.TIME_SHIFT_STATUS_STATE == 3 && s.time.flushing) || s.is R.CACHE_CTRL_WT_FORCE

/-- R103: a slab that a running maintenance operation matched has been written: a line, or a merge-buffer entry. -/
def State.flushWrote (s : State) (slab : Nat) (entry : Bool) : State :=
  match s.cache.flush with
  | none => s
  | some f =>
    if !(if entry then f.entries else f.lines).contains slab then s
    else
      let f := if entry then { f with entries := f.entries.filter (· != slab) } else { f with lines := f.lines.filter (· != slab) }
      ({ s with cache := { s.cache with flush := some f } } : State).wr R.CACHE_FLUSH_COUNT_SLABS (s.rd R.CACHE_FLUSH_COUNT_SLABS + 1)

/-- A dirty line written back: at once when every sector is VALID, by read-modify-write otherwise; held while stack writes
are refused. The line keeps its LABEL, that of the last request that made it dirty (R79) (DESIGN CHOICE in part: log entry 17). -/
def State.writeBack (s : State) (slab : Nat) : State :=
  match s.lineOf slab with
  | none => s
  | some l =>
    if l.dirty = 0 then s
    else if s.noWrites then s.heldUpdate
    else if l.valid = s.allSectors && !s.locked slab then
      ((((s.charge l.label s.slabUnits).writeSlab slab l.data l.poison 0 l.label false).setLine { l with dirty := 0 }).srSettle slab).flushWrote
        slab false
    else if s.cache.opq.any (fun o => o.slab == slab && o.kind == .rmwLine) then s
    else s.startOp slab .rmwLine l.source l.label

/-- An entry closed (R86): written without a read when every byte is valid, by read-modify-write otherwise; held while stack
writes are refused. -/
def State.closeEntry (s : State) (slab : Nat) : State :=
  match s.entryOf slab with
  | none => s
  | some e =>
    if e.closing then s
    else if s.noWrites then s.heldUpdate
    else if e.bytes.all Option.isSome && !s.locked slab then
      ((((s.charge e.label s.slabUnits).writeSlab slab (zeroPoison e.poison (e.bytes.map (·.getD 0#8))) e.poison 0 e.label
        false).dropEntry slab).srSettle slab).flushWrote slab true
    else (s.modEntry slab fun e => { e with closing := true }).startOp slab .rmwMerge e.source e.label

/-- The oldest entry that is not closing, closed. -/
def State.closeOldest (s : State) : State :=
  match s.cache.merge.find? fun e => !e.closing with
  | some e => s.closeEntry e.slab
  | none => s

/-- R86: while more entries are open than MERGE_HIGH allows, the oldest closes. An entry that is closing by read-modify-write is not
counted as open here (DESIGN CHOICE in part: log entry 17). -/
def State.mergeHigh (s : State) : State :=
  (List.range 64).foldl (fun s _ =>
    if s.rd R.CACHE_CTRL_MERGE_HIGH < (s.cache.merge.filter fun e => !e.closing).length then s.closeOldest else s) s

/-- R86, R100: write-through mode closes every open entry. -/
def State.closeAll (s : State) : State := (s.cache.merge.map (·.slab)).foldl State.closeEntry s

/-- Everything dirty written back or closed. -/
def State.flushAll (s : State) : State :=
  let t := s.closeAll
  (((t.cache.lines.filter (·.dirty != 0)).map (·.slab)).foldl State.writeBack t).heldUpdate

/-! ### Allocation (R78, R87, R477) -/

/-- What became of a search for a way. -/
inductive Alloc where
  | way (n : Nat)
  /-- the request waits -/
  | wait
  /-- R477: every enabled way holds a held dirty line -/
  | stream
deriving DecidableEq, Repr

/-- A way found for a slab: an empty enabled way, else the pseudo-LRU one among the lines that are not held. A dirty victim is written
back first, and one whose slab is locked is waited for. -/
def State.findWay (s : State) (slab : Nat) : State × Alloc :=
  let mine := s.cache.lines.filter fun l => l.slab % 4096 == slab % 4096
  let on := (List.range 16).filter fun w => !(s.rd R.CACHE_WAY_DISABLE_WAYS).testBit w && s.test.way != some w
  match on.find? fun w => !mine.any (·.way == w) with
  | some w => (s, .way w)
  | none =>
    let held : Line → Bool := fun l => l.dirty != 0 && s.noWrites
    let ok : Nat → Bool := fun w => on.contains w && mine.any fun l => l.way == w && !held l
    if on.all fun w => mine.any fun l => l.way == w && held l then (s, .stream)
    else
      match plruFind ((kvGet (slab % 4096) s.cache.plru).getD 0) ok 4 0 0 with
      | none => (s, .wait)
      | some w =>
        match mine.find? (·.way == w) with
        | none => (s, .way w)
        | some l =>
          if s.locked l.slab then (s, .wait)
          else if l.dirty = 0 then (s.dropLine l.slab, .way w)
          else if l.valid = s.allSectors then ((s.writeBack l.slab).dropLine l.slab, .way w)
          else (s.writeBack l.slab, .wait)

/-- An empty line installed for a slab. -/
def State.install (s : State) (slab way label source : Nat) : State :=
  (s.setLine ⟨slab, way, 0, 0, 0, label, source, List.replicate s.slabBytes 0#8⟩).touchWay slab way

/-! ### Writes into lines and entries (R79, R86, R89) -/

/-- A write applied to its slab's line. -/
def State.writeLine (s : State) (r : CReq) (l : Line) : State :=
  let n := s.sectors
  let full := reqCovered r n
  let part := minus (reqTouched r n) full
  let dropped := part &&& l.poison
  let new := full ||| minus part dropped
  if reqTouched r n = 0 then s else
  let s := if new ≠ 0 then s.srSet r.slab else s
  let s := if dropped ≠ 0 then s.incSat R.CACHE_POISON_DROPS_COUNT else s
  let data := l.data.mapIdx fun i b => if new.testBit (i / 64) then (reqByte r i).getD b else b
  let l := if new = 0 then l else
    { l with
      data := data
      valid := l.valid ||| new
      dirty := l.dirty ||| new
      poison := minus l.poison full
      label := r.label
      source := Src.code r.src }
  (s.setLine l).touchWay r.slab l.way

/-- A write's bytes put into its slab's entry, with the array-2 check (Table 14.5): an uncorrectable error poisons a sector of the entry
at its close (FS044) (DEDUCED in part: log entry 33). -/
def State.writeEntry (s : State) (r : CReq) : State :=
  let chk := s.injArray 2
  let bytes := (List.range s.slabBytes).map (reqByte r)
  let part := minus (reqTouched r s.sectors) (reqCovered r s.sectors)
  let bad := if chk.2 = some true then 2 ^ ((bitsOf 32 (reqTouched r s.sectors)).head?.getD 0) else 0
  let s := match chk.2 with
    | some d => chk.1.detect (arraySource 2 d false)
    | none => chk.1
  if s.cache.merge.any (·.slab == r.slab) then
    s.modEntry r.slab fun e => { e with
      bytes := List.zipWith (fun (n o : Option Byte) => n.or o) bytes e.bytes
      poison := minus e.poison (reqCovered r s.sectors) ||| bad
      parts := if part = 0 then e.parts else part :: e.parts }
  else
    let s := s.srSet r.slab
    let e : MEntry := ⟨r.slab, r.label, Src.code r.src, 0, bytes, if part = 0 then [] else [part], bad, false⟩
    { s with cache := { s.cache with merge := s.cache.merge ++ [e] } }

/-! ### Merging for a read-modify-write (R88, R89) -/

/-- A line's DIRTY sectors over decoded data: data and poison. -/
def Line.over (l : Line) (data : List Byte) (poison : Nat) : List Byte × Nat :=
  ((data.zip l.data).mapIdx fun i p => if l.dirty.testBit (i / 64) then p.2 else p.1,
    minus poison l.dirty ||| (l.poison &&& l.dirty))

/-- An entry's valid bytes over decoded data: data, poison and the sectors whose bytes were discarded. -/
def MEntry.over (e : MEntry) (n : Nat) (data : List Byte) (poison : Nat) : List Byte × Nat × Nat :=
  let full := mapOf n fun k => (slice e.bytes (64 * k) 64).all Option.isSome
  let any := mapOf n fun k => (slice e.bytes (64 * k) 64).any Option.isSome
  let dropped := minus (any &&& poison) full
  (zeroPoison e.poison ((data.zip e.bytes).mapIdx fun i p => if dropped.testBit (i / 64) then p.1 else p.2.getD p.1),
    minus poison full ||| e.poison, dropped)

/-- R89: each write into an entry that left bytes in a sector of `m` counts in POISON_DROPS. -/
def State.drops (s : State) (e : MEntry) (m : Nat) : State :=
  s.addSat R.CACHE_POISON_DROPS_COUNT (e.parts.filter fun p => p &&& m != 0).length

end Sys2Proof.Machine
end

