-- ==== Sys2Proof/Machine/HostCpl.lean ====
section
/-! DEFINITION. PCIe egress, and the completions of host reads (R16, R171, R174, R179, R240, R241). -/
namespace Sys2Proof.Machine

/-! ### PCIe egress (R174, R240, R241) -/

/-- R174: the pitch label of a BAR2 request. -/
def State.hostLabel (s : State) (addr : Nat) (st : Option Nat) : Nat :=
  match st with
  | some t =>
    if s.is R.HOST_CTRL_TPH_EN && s.is R.HOST_TPH_LABEL_VALID [t % 256] then s.rd R.HOST_TPH_LABEL_LABEL [t % 256]
    else s.rd R.HOST_SUBWIN_LABEL_LABEL [field addr 34 4]
  | none => s.rd R.HOST_SUBWIN_LABEL_LABEL [field addr 34 4]

/-- The class at which a packet arbitrates; a completion of BAR0 or BAR4 is FIXED. -/
def State.egClass (s : State) (e : EgItem) : Nat :=
  match e.label with
  | none => 0
  | some l => if s.classOf l = 2 && s.regul.aged.contains e.id then 1 else s.classOf l

/-- The first packet of each label. -/
def egHeads (q : List EgItem) : List EgItem :=
  (q.zipIdx.filter fun p => !(q.take p.2).any (·.label == p.1.label)).map (·.1)

/-- The packet sent next: of the highest class, of the label served longest ago. -/
def State.egPick (s : State) : Option EgItem :=
  let heads := egHeads s.host.egress
  let best := heads.foldl (fun m e => min m (s.egClass e)) 3
  let last := s.host.egressRr.getD best 63
  let dist := fun (e : EgItem) => (e.label.getD 64 + 129 - last) % 65
  (heads.filter fun e => s.egClass e == best).foldl (fun (m : Option EgItem) e =>
    match m with
    | some q => if dist e < dist q then some e else some q
    | none => some e) none

/-- Packets sent while the link is up. -/
def State.egGo : Nat → State → State
  | 0, s => s
  | n + 1, s =>
    match s.egPick with
    | none => s
    | some e =>
      let t : State := { s with host := { s.host with
        egress := dropFirst (· == e) s.host.egress
        egressRr := setAt s.host.egressRr (s.egClass e) (e.label.getD 64) } }
      State.egGo n (t.tlp e.out)

/-- Every packet that waits, sent in the order of R240 (DESIGN CHOICE in part: log entry 15). -/
def State.egDrain (s : State) : State := if s.is R.HOST_STATUS_LINK_UP then State.egGo s.host.egress.length s else s

/-- A packet placed at PCIe egress. -/
def State.toEgress (s : State) (label : Option Nat) (o : Output) : State :=
  { s with
    cache := { s.cache with nextId := s.cache.nextId + 1 }
    host := { s.host with egress := s.host.egress ++ [⟨label, s.cache.nextId, o⟩] } }

/-! ### Completions of BAR2 reads (R171, R179) -/

/-- A run of bytes cut into completions: each poisoned 64-byte piece alone, the others joined while they fit the maximum
payload. `pieces` are (address, bytes, poisoned) in ascending order. -/
def joinPieces (mps : Nat) : List (Nat × List Byte × Bool) → List (Nat × List Byte × Bool)
  | [] => []
  | p :: ps =>
    match joinPieces mps ps with
    | [] => [p]
    | q :: qs =>
      if p.2.2 || q.2.2 || decide (mps < p.2.1.length + q.2.1.length) then p :: q :: qs
      else (p.1, p.2.1 ++ q.2.1, false) :: qs

/-- The pieces of `len` bytes from `addr`, cut at 64-byte boundaries. -/
def cutAt64 : Nat → Nat → List Byte → List (Nat × List Byte)
  | 0, _, _ => []
  | k + 1, addr, bs =>
    if bs.isEmpty then []
    else
      let n := 64 - addr % 64
      (addr, bs.take n) :: cutAt64 k (addr + n) (bs.drop n)

/-- The completions of a read, from its bytes and the poisoned 64-byte blocks of the stack address space
(DEDUCED in part: log entry 15). -/
def readCompletions (mps : Nat) (q : HostRd) (data : List Byte) (bad : Nat → Bool) : List Cpl :=
  let ps := (cutAt64 (data.length / 64 + 2) q.addr data).map fun p => (p.1, p.2, bad (p.1 / 64))
  (joinPieces mps ps).map fun p =>
    ⟨q.rid, q.tag, 0, q.len - (p.1 - q.addr), p.1, if p.2.2 then p.2.1.map fun _ => 0#8 else p.2.1, p.2.2⟩

/-- A completion placed at egress, counted when it is poisoned. -/
def State.sendCpl (s : State) (label : Option Nat) (c : Cpl) : State :=
  (if c.ep then s.incSat R.HOST_EP_SENT_COUNT else s).toEgress label (.cpl c)

/-- A completion without data, with status 1 UR or 4 CA (R176). -/
def State.refuseRead (s : State) (label : Option Nat) (q : HostRd) (status : Nat) : State :=
  (s.sendCpl label ⟨q.rid, q.tag, status, q.len, q.addr, [], false⟩).egDrain

/-- Whether every part of a read has been delivered. -/
def HostRdSt.full (h : HostRdSt) : Bool := h.parts.all fun p => p.2.isSome

/-- The completions of a read whose parts are all delivered. -/
def State.finishRead (s : State) (h : HostRdSt) : State :=
  let data := h.parts.flatMap fun p => (p.2.map (·.1)).getD []
  let bad : Nat → Bool := fun blk =>
    let slab := blk * 64 / s.slabBytes
    let k := slab - h.req.addr / s.slabBytes
    ((h.parts.getD k (0, none)).2.map fun d => d.2.testBit (blk * 64 % s.slabBytes / 64)).getD false
  if h.req.len = 0 then s.sendCpl (some h.label) ⟨h.req.rid, h.req.tag, 0, 1, h.req.addr, [], false⟩
  else (readCompletions s.host.maxPayload h.req data bad).foldl (fun s c => s.sendCpl (some h.label) c) s

/-- A part of a BAR2 read delivered by the cache: its bytes and the slab's poisoned sectors. -/
def State.hostDeliver (s : State) (id : Nat) (data : List Byte) (poison : Nat) : State :=
  let rs := s.cache.reads.map fun h =>
    { h with parts := h.parts.map fun p => if p.1 = id ∧ p.2.isNone then (p.1, some (data, poison)) else p }
  let done := rs.filter HostRdSt.full
  let s : State := { s with cache := { s.cache with reads := rs.filter fun h => !h.full } }
  if done.isEmpty then s else (done.foldl State.finishRead s).egDrain

/-! ### Register reads (R141, R170) -/

/-- Every word of a register read is known. -/
def RegRd.full (r : RegRd) : Bool := r.words.all Option.isSome

/-- A register read answered: to the host with one completion at class FIXED, or to firmware, with an error response where a
word lies in a block that is off (R174, R470). -/
def State.regAnswer (s : State) (r : RegRd) : State :=
  let data := r.words.flatMap fun w => leBytes 4 (w.getD 0)
  match r.src with
  | .host rid => s.sendCpl none ⟨rid, r.tag, 0, data.length, r.addr, data, false⟩
  | _ => s.emit (.firmwareRead r.tag data ((List.range r.words.length).any fun k => s.offWord (r.addr + 4 * k)))

/-- A register read of `n` words begins. -/
def State.regOpen (s : State) (src : RegSrc) (tag addr n : Nat) : State :=
  { s with
    cache := { s.cache with nextId := s.cache.nextId + 1 }
    host := { s.host with regReads := s.host.regReads ++ [⟨s.cache.nextId, src, tag, addr, List.replicate n none⟩] } }

/-- Word `i` of register read `id`; a read with all its words is answered. -/
def State.regWordIn (s : State) (id i v : Nat) : State :=
  let rs := s.host.regReads.map fun r => if r.id = id then { r with words := setAt r.words i (some v) } else r
  let done := rs.filter RegRd.full
  let s : State := { s with host := { s.host with regReads := rs.filter fun r => !r.full } }
  if done.isEmpty then s else (done.foldl State.regAnswer s).egDrain

/-! ### Requests to the cache -/

/-- A request presented to a cache port, with the next identifier. -/
def State.present (s : State) (src : Src) (label : Nat) (write : Bool) (slab off len : Nat) (data : List (Option Byte))
    (media : Bool) : State × Nat :=
  let id := s.cache.nextId
  let r : CReq := ⟨id, src, label, write, slab, off, len, data, media, none⟩
  ({ s with cache := { s.cache with nextId := id + 1, port := s.cache.port ++ [r] } }, id)

/-- The slab-wide parts of `len` bytes from stack address `sa`: (slab, offset, length). -/
def slabParts (slabBytes : Nat) : Nat → Nat → Nat → List (Nat × Nat × Nat)
  | 0, _, _ => []
  | k + 1, sa, len =>
    if len = 0 then []
    else
      let n := min len (slabBytes - sa % slabBytes)
      (sa / slabBytes, sa % slabBytes, n) :: slabParts slabBytes k (sa + n) (len - n)

/-- The parts of a stretch of the stack. -/
def State.stackParts (s : State) (sa len : Nat) : List (Nat × Nat × Nat) := slabParts s.slabBytes (len / s.slabBytes + 2) sa len

end Sys2Proof.Machine
end

