-- ==== Sys2Proof/Machine/HaulBase.lean ====
section
/-! DEFINITION. The haul engine's rings, slots, streams, request issue and completions (R188 to R206). -/
namespace Sys2Proof.Machine

/-! ### Statuses (Table 08.7) -/

def stOk : Nat := 0x00
def stShiftEnd : Nat := 0x01
def stBadDesc : Nat := 0x02
def stBadLength : Nat := 0x03
def stNotSupported : Nat := 0x04
def stStackRange : Nat := 0x05
def stStackFailed : Nat := 0x06
def stStackPoison : Nat := 0x07
def stMediaFail : Nat := 0x08
def stStackBusy : Nat := 0x09
def stDescPoison : Nat := 0x0A
def stRepaired : Nat := 0x10
def stUnrecoverable : Nat := 0x11
def stLedgerPoison : Nat := 0x12
def stLedgerRange : Nat := 0x13

/-! ### Channels -/

/-- A channel's record. -/
def State.chan (s : State) (c : Nat) : HChan := s.haul.chans.getD c HChan.reset

/-- A channel's record changed. -/
def State.modChan (s : State) (c : Nat) (f : HChan → HChan) : State :=
  { s with haul := { s.haul with chans := modAt f s.haul.chans c } }

/-- A channel's descriptor in execution replaced. -/
def State.setRun (s : State) (c : Nat) (r : Run) : State := s.modChan c fun h => { h with run := some r }

/-- R209: fetching runs only in IDLE and IN_SHIFT. -/
def State.gated (s : State) : Bool :=
  s.rd R.TIME_SHIFT_STATUS_STATE != 0 && s.rd R.TIME_SHIFT_STATUS_STATE != 2

/-- The engine is halted. -/
def State.halted (s : State) : Bool := s.is R.HG_STATUS_HALTED

/-- Entries of a channel's rings. -/
def State.ringSize (s : State) (c : Nat) : Nat := 2 ^ s.rd R.HAUL_ACT_CFG_SIZE_LOG2 [c]

/-- R195: the channel's active LABEL. -/
def State.chanLabel (s : State) (c : Nat) : Nat := s.rd R.HAUL_ACT_CFG_LABEL [c]

/-- The base of a channel's descriptor ring. -/
def State.descBase (s : State) (c : Nat) : Nat :=
  s.rd R.HAUL_ACT_DESC_BASE_LO_BASE [c] * 4096 + s.rd R.HAUL_ACT_DESC_BASE_HI_BASE [c] * 2 ^ 32

/-- The base of a channel's completion ring. -/
def State.compBase (s : State) (c : Nat) : Nat :=
  s.rd R.HAUL_ACT_COMP_BASE_LO_BASE [c] * 4096 + s.rd R.HAUL_ACT_COMP_BASE_HI_BASE [c] * 2 ^ 32

/-- R204: a hand-over would change a ring's place or size. -/
def State.ringChange (s : State) (c : Nat) : Bool :=
  s.rd R.HAUL_SH_DESC_BASE_LO_BASE [c] != s.rd R.HAUL_ACT_DESC_BASE_LO_BASE [c] ||
  s.rd R.HAUL_SH_DESC_BASE_HI_BASE [c] != s.rd R.HAUL_ACT_DESC_BASE_HI_BASE [c] ||
  s.rd R.HAUL_SH_COMP_BASE_LO_BASE [c] != s.rd R.HAUL_ACT_COMP_BASE_LO_BASE [c] ||
  s.rd R.HAUL_SH_COMP_BASE_HI_BASE [c] != s.rd R.HAUL_ACT_COMP_BASE_HI_BASE [c] ||
  s.rd R.HAUL_SH_CFG_SIZE_LOG2 [c] != s.rd R.HAUL_ACT_CFG_SIZE_LOG2 [c] ||
  s.rd R.HAUL_SH_CFG_DESC_SPACE [c] != s.rd R.HAUL_ACT_CFG_DESC_SPACE [c] ||
  s.rd R.HAUL_SH_CFG_COMP_SPACE [c] != s.rd R.HAUL_ACT_CFG_COMP_SPACE [c]

/-- A descriptor is posted and not completed. -/
def State.chanPosted (s : State) (c : Nat) : Bool := s.rd R.HAUL_COMP_INDEX [c] != s.rd R.HAUL_TAIL_INDEX [c]

/-- Completion entries of a channel that have been issued to the stack and are not performed. -/
def State.cplOut (s : State) (c : Nat) : Nat := ((s.chan c).st.filter (·.2.isCompletion)).length

/-- The ring index whose completion is issued next. -/
def State.nextIdx (s : State) (c : Nat) : Nat := (s.rd R.HAUL_COMP_INDEX [c] + s.cplOut c) % s.ringSize c

/-- Descriptor reads of a channel that have not come back. -/
def State.descOut (s : State) (c : Nat) : Nat :=
  let isDesc : Use → Bool := fun u => match u with
    | .desc _ => true
    | _ => false
  ((s.chan c).todo.filter fun p => isDesc p.use).length + ((s.chan c).st.filter fun p => isDesc p.2).length +
    (s.haul.np.filter fun q => q.chan == c && isDesc q.use).length

/-- R189, R204: a channel's ring is empty, and every descriptor that was fetched from it has been completed
(DEDUCED in part: log entry 26). -/
def State.ringEmpty (s : State) (c : Nat) : Bool :=
  s.rd R.HAUL_HEAD_INDEX [c] == s.rd R.HAUL_TAIL_INDEX [c] && (s.chan c).pre.isEmpty && (s.chan c).got.isEmpty &&
    s.descOut c == 0 && s.cplOut c == 0

/-- R255, Table 11.5: a channel has a descriptor posted or in execution. -/
def State.haulBusy (s : State) : Bool :=
  (List.range 64).any fun c => (s.chan c).run.isSome || s.chanPosted c

/-- R202, R204: the pending hand-over of a channel can be made now. -/
def State.handReady (s : State) (c : Nat) : Bool :=
  s.is R.HAUL_COMMIT [c] && (s.chan c).run.isNone && (!s.ringChange c || s.ringEmpty c)

/-- STATUS of a channel follows its state (Table 08.8). -/
def State.chanSettle (s : State) (c : Nat) : State :=
  let en := s.is R.HAUL_CTRL_EN [c]
  let ch := s.chan c
  let work := ch.run.isSome || decide (0 < s.cplOut c) || (en && s.chanPosted c && !ch.needTail)
  let st := if en && s.halted then 3 else if en && s.gated then 4 else if work then 2 else if en then 1 else 0
  ((s.wr R.HAUL_STATUS_STATE st [c]).wrB R.HAUL_STATUS_COMMIT_WAIT (s.is R.HAUL_COMMIT [c] && !s.handReady c && s.ringChange c)
    [c]).wrB R.HAUL_STATUS_BME_WAIT (en && work && !s.host.busMaster) [c]

/-! ### Tags (R182, R206) -/

/-- TAG_MODE: 2 14-bit, 1 10-bit, 0 8-bit. -/
def State.tagMode (s : State) : Nat :=
  if s.is R.HOST_STATUS_FLIT_MODE && s.host.tag14 then 2 else if s.host.tag10 then 1 else 0

/-- The first tag of the mode, and how many there are. -/
def State.tagRange (s : State) : Nat × Nat :=
  match s.tagMode with
  | 2 => (0, 4096)
  | 1 => (256, 768)
  | _ => (0, 256)

/-- R212: OUT_PEAK is never below the requests outstanding. -/
def State.outPeak (s : State) : State :=
  let n := s.haul.np.length + s.haul.abandoned.length
  if s.rd R.HG_OUT_PEAK_COUNT < n then s.wr R.HG_OUT_PEAK_COUNT n else s

/-- A tag that is free (DEDUCED in part: log entry 26). -/
def State.freeTag (s : State) : Option Nat :=
  let used := s.haul.np.map (·.tag) ++ s.haul.abandoned.map (·.1) ++ s.haul.quarantined.map (·.1)
  if s.tagRange.2 ≤ used.length then none
  else ((List.range s.tagRange.2).map fun k => s.tagRange.1 + (s.haul.nextTag + k) % s.tagRange.2).find? fun t =>
    !used.contains t

/-- The cache source of a channel's request: ledger accesses enter through the coding-engine port (R206). -/
def useSrc (c : Nat) : Use → Src
  | .ledgerRd _ | .ledgerWr => .coding c
  | _ => .haul c

/-! ### Slots and lists (R193, R194, R197, R210) -/

/-- The address, length and flag word of an element. -/
def elemAddr (b : List Byte) : Nat := leNat (slice b 0 8)
def elemLen (b : List Byte) : Nat := leNat (slice b 8 4)
def elemFlags (b : List Byte) : Nat := leNat (slice b 12 4)

/-- The stack is not ready or is being cleared (R210). -/
def State.stackBusy (s : State) : Bool := !s.is R.HOST_STATUS_STACK_READY || s.is R.CODE_CODE_STATUS_CLEAR_BUSY

/-- The status of an element that follows `total` bytes of its slot; `soft` adds the checks of R210 that COPY and FILL make
element by element, STACK_FAILED before STACK_BUSY as in a coded descriptor; an element without bytes writes no stack
(DEDUCED in part: log entry 26). -/
def State.elemStatus (s : State) (b : List Byte) (total : Nat) (dst soft : Bool) : Nat :=
  let f := elemFlags b
  let n := elemLen b
  if f / 8 ≠ 0 ∨ 1 < f % 4 ∨ 2 ^ 64 < elemAddr b + n ∨ 2 ^ 32 ≤ total + n then stBadDesc
  else if f % 4 = 1 then
    if n ≠ 0 ∧ s.capacity < elemAddr b + n then stStackRange
    else if soft && dst && n != 0 && s.protection == 3 then stStackFailed
    else if soft && s.stackBusy then stStackBusy
    else stOk
  else stOk

/-- An element taken into a slot. -/
def State.slotAdd (s : State) (t : Slot) (b : List Byte) (dst soft last : Bool) : Slot :=
  let st := s.elemStatus b t.total dst soft
  let st := if st = stOk && !last && t.elems.length == 4095 then stBadDesc else st
  if st ≠ stOk then { t with done := true, status := st }
  else { t with
    elems := t.elems ++ [⟨elemAddr b, elemLen b, elemFlags b % 4 == 1⟩]
    total := t.total + elemLen b
    done := last }

/-- A slot that is not used. -/
def Slot.empty : Slot := ⟨[], 0, true, 0, false, 0, false⟩

/-- A slot as the descriptor gives it. -/
def State.slotOf (s : State) (b : List Byte) (isList dst soft : Bool) : Slot :=
  let f := elemFlags b
  if isList then
    if f / 8 ≠ 0 ∨ 1 < f % 4 ∨ elemLen b ≠ 0 ∨ elemAddr b % 16 ≠ 0 then { Slot.empty with isList := true, status := stBadDesc }
    else if f % 4 = 1 ∧ s.stackBusy then { Slot.empty with isList := true, status := stStackBusy }
    else ⟨[], 0, false, 0, true, elemAddr b, f % 4 == 1⟩
  else s.slotAdd { Slot.empty with done := false } b dst soft true

/-- The read of a list's next piece, or the slot ended where the list reaches the user capacity. COPY and FILL fetch one element
at a time, as the transfer reaches it. -/
def State.listPiece (s : State) (t : Slot) (label : Nat) (dst one : Bool) : Slot × List Piece :=
  let want := if one then 16 else 16 * (4096 - t.elems.length)
  if t.stack then
    if s.capacity < t.next + 16 then ({ t with done := true, status := stStackRange }, [])
    else
      let n := min want (min (s.slabBytes - t.next % s.slabBytes) (s.capacity - t.next))
      (t, [⟨true, t.next, n, label, .list dst⟩])
  else (t, [⟨false, t.next, min want (min s.host.maxRead (4096 - t.next % 4096)), label, .list dst⟩])

/-- A piece of a list that has arrived; `bad` lists the offsets at which its poisoned sectors begin. -/
def State.slotFeed (s : State) (t : Slot) (bs : List Byte) (bad : List Nat) (dst soft : Bool) : Slot :=
  let u := (chunks 16 (bs.length / 16) bs).zipIdx.foldl (fun u (b, k) =>
    if u.done then u
    else if bad.any fun o => (t.next + o) / 64 == (t.next + 16 * k) / 64 then { u with done := true, status := stDescPoison }
    else s.slotAdd u b dst soft ((elemFlags b).testBit 2)) t
  { u with next := t.next + bs.length }

/-! ### Streams (R206, R218) -/

/-- A stretch of a stream over its elements: (element, stack, address, length, stream offset). -/
def streamParts : List Elem → Nat → Nat → Nat → Nat → List (Nat × Bool × Nat × Nat × Nat)
  | [], _, _, _, _ => []
  | e :: es, i, at_, lo, hi =>
    let a := max lo at_
    let b := min hi (at_ + e.len)
    let rest := streamParts es (i + 1) (at_ + e.len) lo hi
    if a < b then (i, e.stack, e.addr + (a - at_), b - a, a) :: rest else rest

/-- A range cut at multiples of `cut` and into pieces of at most `most`: (address, length). -/
def cutRange (cut most : Nat) : Nat → Nat → Nat → List (Nat × Nat)
  | 0, _, _ => []
  | k + 1, a, n =>
    if n = 0 then []
    else
      let m := min n (min most (cut - a % cut))
      (a, m) :: cutRange cut most k (a + m) (n - m)

/-- The reads of stream bytes `lo` to `hi`; data is placed at its stream offset. -/
def State.streamReads (s : State) (es : List Elem) (lo hi label : Nat) : List Piece :=
  (streamParts es 0 0 lo hi).flatMap fun (_, stack, a, n, off) =>
    let cs := if stack then cutRange s.slabBytes s.slabBytes n a n else cutRange 4096 s.host.maxRead n a n
    cs.map fun p => ⟨stack, p.1, p.2, label, .data (off + (p.1 - a))⟩

/-- The writes of `data` at stream offset `lo`. -/
def State.streamWrites (s : State) (es : List Elem) (lo : Nat) (data : List Byte) : List WPiece :=
  (streamParts es 0 0 lo (lo + data.length)).flatMap fun (i, stack, a, n, off) =>
    let cs := if stack then cutRange s.slabBytes s.slabBytes n a n else cutRange 4096 s.host.maxPayload n a n
    cs.map fun p => ⟨i, stack, p.1, slice data (off - lo + (p.1 - a)) p.2⟩

/-- The bytes of a stretch of `n` that parts have brought. -/
def assemble (parts : List (Nat × List Byte × List Nat)) (n : Nat) : List Byte :=
  parts.foldl (fun d p => overlay d p.1 p.2.1) (List.replicate n 0#8)

/-- The element of a stream offset. -/
def elemIndex (es : List Elem) (off : Nat) : Nat :=
  ((streamParts es 0 0 off (off + 1)).head?.map (·.1)).getD 0

/-! ### Descriptor fields (R191, Table 08.2) -/

/-- CTRL. -/
def dCtrl (raw : List Byte) : Nat := leNat (slice raw 0 4)
/-- OP. -/
def dOp (raw : List Byte) : Nat := dCtrl raw % 16
/-- TO_MEDIA. -/
def dMedia (raw : List Byte) : Bool := (dCtrl raw).testBit 12
/-- IRQ. -/
def dIrq (raw : List Byte) : Bool := (dCtrl raw).testBit 11
/-- USER. -/
def dUser (raw : List Byte) : Nat := leNat (slice raw 4 4)
/-- A coded operation. -/
def opCoded (op : Nat) : Bool := decide (3 ≤ op) && decide (op ≤ 6)

/-- Labels that belong to internal masters (R175, R194, R204). -/
def labelBarred (l : Nat) : Bool := l == 1 || l == 62 || l == 63

/-- R194 step 1. -/
def ctrlBad (raw : List Byte) : Bool :=
  let w := dCtrl raw
  decide (7 < w % 16) || w.testBit 15 || decide (2 ^ 18 ≤ w) || field w 13 2 == 3 || (w.testBit 10 && labelBarred (field w 4 6))

/-- R195: the label of a descriptor's requests. -/
def State.descLabel (s : State) (c : Nat) (raw : List Byte) : Nat :=
  if (dCtrl raw).testBit 10 then field (dCtrl raw) 4 6 else s.chanLabel c

/-- A descriptor that starts. -/
def Run.init (idx : Nat) (raw : List Byte) (label : Nat) : Run where
  idx := idx
  raw := raw
  label := label
  phase := .completing
  src := Slot.empty
  dst := Slot.empty
  await := 0
  parts := []
  writes := []
  status := none
  endStatus := none
  reached := 0
  base := 0
  bytes := 0
  lastPcie := none
  stackWrote := false
  mediaOk := true
  entries := []
  digests := []
  erased := 0
  mismatch := 0
  outcome := 0
  changed := false
  rows := []
  rebuilds := []
  result := 0
  updates := []
  waitFor := []
  waitSlabs := none

/-- R197: the first non-OK status met stands. -/
def Run.note (r : Run) (st elem : Nat) (dst : Bool) : Run :=
  if r.status.isSome then r else { r with status := some (st, elem, dst) }

/-- ERR_ELEM of an element of a slot: 0xFFFF for an inline slot. A list slot that is itself malformed gives 0, the element that would
have come first (DESIGN CHOICE in part: log entry 26). -/
def Slot.errElem (t : Slot) (i : Nat) : Nat := if t.isList then i else 0xFFFF

/-! ### Completions (R196, R198) -/

/-- The 32 bytes of a completion entry (Table 08.6). -/
def cplEntry (seq idx status flags user bytes elem result : Nat) : List Byte :=
  leBytes 4 seq ++ leBytes 2 idx ++ leBytes 1 status ++ leBytes 1 flags ++ leBytes 4 user ++ leBytes 4 bytes ++
    leBytes 2 elem ++ leBytes 2 0 ++ leBytes 10 result ++ leBytes 2 0

/-- R198: a completion's message. -/
def State.cplMsi (s : State) (c status : Nat) (irq : Bool) : Bool :=
  (s.is R.HAUL_CTRL_IRQ_EN [c] && irq) ||
    (s.is R.HAUL_CTRL_IRQ_ERR [c] && status != stOk && status != stShiftEnd)

/-- Fetches of a channel and what they brought dropped; what is outstanding brings nothing any more. -/
def State.dropFetches (s : State) (c : Nat) : State :=
  let un : Use → Use := fun u => match u with
    | .desc _ => .drop
    | _ => u
  let keep : Piece → Bool := fun p => match p.use with
    | .desc _ => false
    | _ => true
  let t := s.modChan c fun h =>
    { h with pre := [], got := [], todo := h.todo.filter keep, st := h.st.map fun p => (p.1, un p.2) }
  { t with haul := { t.haul with np := t.haul.np.map fun q => if q.chan == c then { q with use := un q.use } else q } }

/-- HEAD set back to the next descriptor whose completion has not been issued. -/
def State.headBack (s : State) (c : Nat) : State := s.wr R.HAUL_HEAD_INDEX (s.nextIdx c) [c]

/-- R210: a channel whose completion ring cannot be written clears EN. -/
def State.cplRefused (s : State) (c : Nat) : State := ((s.clr R.HAUL_CTRL_EN [c]).dropFetches c).headBack c

/-- A completion has been written: COMP, COMP_SEQ and the counts follow. After a RESET, HEAD stays with COMP until the next TAIL
write (R208). -/
def State.cplCounts (s : State) (c status : Nat) : State :=
  let next := (s.rd R.HAUL_COMP_INDEX [c] + 1) % s.ringSize c
  let t := (s.inc R.HAUL_COMP_SEQ_SEQ [c]).wr R.HAUL_COMP_INDEX next [c]
  let t := if (s.chan c).needTail then t.wr R.HAUL_HEAD_INDEX next [c] else t
  let t := t.inc R.HAUL_DONE_COUNT_COUNT [c]
  if status = stShiftEnd then t.incSat R.HAUL_SHIFT_END_COUNT_COUNT [c]
  else if status ≠ stOk then t.incSat R.HAUL_ERR_COUNT_COUNT [c] else t

/-- Channel `c` writes the completion of entry `idx`. With its completion ring in stack space and stack writes refused, the
channel is disabled instead (R210). -/
def State.writeCpl (s : State) (c idx status flags user bytes elem result : Nat) (irq : Bool) : State :=
  let stack := s.is R.HAUL_ACT_CFG_COMP_SPACE [c]
  let e := cplEntry ((s.rd R.HAUL_COMP_SEQ_SEQ [c] + s.cplOut c) % 2 ^ 32) idx status flags user bytes elem result
  let a := s.compBase c + 32 * idx
  let msi := s.cplMsi c status irq
  if !stack then
    let t := ((s.toEgress (some (s.chanLabel c)) (.memWr a e)).egDrain).cplCounts c status
    if msi then t.msix c else t
  else if s.noWrites then s.cplRefused c
  else
    let r := s.present (.haul c) (s.chanLabel c) true (a / s.slabBytes) (a % s.slabBytes) 32 (e.map some) false
    r.1.modChan c fun h => { h with st := h.st ++ [(r.2, .completion msi status)] }

/-- R182: a channel can write completions now. -/
def State.canComplete (s : State) (c : Nat) : Bool := s.is R.HAUL_ACT_CFG_COMP_SPACE [c] || s.host.busMaster

/-! ### Fetching (R189, R190, R205, R206, R209) -/

/-- Channel `c` may fetch now. -/
def State.mayFetch (s : State) (c : Nat) : Bool :=
  s.is R.HAUL_CTRL_EN [c] && !s.halted && !s.gated && !(s.chan c).needTail && s.live 9 && s.host.flr.isNone &&
    !s.power.granted.contains 2 && s.power.resetReq.isNone &&
    !((s.is R.HAUL_ACT_CFG_DESC_SPACE [c] || s.is R.HAUL_ACT_CFG_COMP_SPACE [c]) && s.stackBusy)

/-- Up to `n` descriptor fetches of a channel queued, at most 8 ahead of execution. -/
def State.fetchUpTo : Nat → State → Nat → State
  | 0, s, _ => s
  | n + 1, s, c =>
    let head := s.rd R.HAUL_HEAD_INDEX [c]
    if s.rd R.HAUL_TAIL_INDEX [c] = head then s
    else if 8 ≤ (s.chan c).pre.length + (s.chan c).got.length + s.descOut c then s
    else
      let p : Piece := ⟨s.is R.HAUL_ACT_CFG_DESC_SPACE [c], s.descBase c + 64 * head, 64, s.chanLabel c, .desc head⟩
      State.fetchUpTo n ((s.wr R.HAUL_HEAD_INDEX ((head + 1) % s.ringSize c) [c]).modChan c fun h =>
        { h with todo := h.todo ++ [p] }) c

/-- The fetches of a channel that may fetch. -/
def State.kick (s : State) (c : Nat) : State := if s.mayFetch c then State.fetchUpTo 8 s c else s

/-- R209: the posted descriptors of a gated channel completed with SHIFT_END, from the next one on; `users` are the prefetched
ones. -/
def State.sweepGo : Nat → State → Nat → List (Nat × List Byte × Bool) → State
  | 0, s, _, _ => s
  | n + 1, s, c, users =>
    let k := s.nextIdx c
    if k = s.rd R.HAUL_TAIL_INDEX [c] || !s.canComplete c || !s.is R.HAUL_CTRL_EN [c] then s
    else
      let raw := ((users.find? fun p => p.1 == k && !p.2.2).map (·.2.1)).getD []
      State.sweepGo n (s.writeCpl c k stShiftEnd 0 (dUser raw) 0 0xFFFF 0 (dIrq raw)) c users

/-- R206, R209: a queued read may be issued: a descriptor fetch neither while the channel is gated nor, with a ring in stack space,
while the stack is not ready or is being cleared. -/
def State.mayIssue (s : State) (c : Nat) (p : Piece) : Bool :=
  match p.use with
  | .desc _ => !s.gated && !((s.is R.HAUL_ACT_CFG_DESC_SPACE [c] || s.is R.HAUL_ACT_CFG_COMP_SPACE [c]) && s.stackBusy)
  | _ => true

/-- R209: what a shift boundary does to a channel that executes nothing: not during a reset of the function, which ends its queued
descriptors without entries (R185), nor while it waits for the TAIL write that follows a RESET (R208). The descriptors of a disabled
channel wait (R205) (DESIGN CHOICE in part: log entry 26). -/
def State.gateSweep (s : State) (c : Nat) : State :=
  if !s.gated || s.halted || s.host.flr.isSome || (s.chan c).needTail || !s.is R.HAUL_CTRL_EN [c] || (s.chan c).run.isSome ||
      s.nextIdx c == s.rd R.HAUL_TAIL_INDEX [c]
  then s
  else
    let users := (s.chan c).pre
    (State.sweepGo (s.ringSize c) (s.dropFetches c) c users).headBack c

end Sys2Proof.Machine
end

