-- ==== Sys2Proof/Machine/Haul.lean ====
section
/-! DEFINITION. The execution of haul descriptors and of the coded operations with their ledger (R190 to R201, R207 to R210,
R218 to R229). -/
namespace Sys2Proof.Machine

/-! ### The coding engine's places (R230) -/

/-- A coded descriptor of channel `c` has ended. -/
def State.codingLeave (s : State) (c : Nat) : State :=
  { s with coding := { s.coding with
      active := s.coding.active.filter (· != c), waiting := s.coding.waiting.filter (· != c) } }

/-- A coded descriptor of channel `c` takes one of 16 places, or waits for one (DEDUCED in part: log entry 27). -/
def State.codingEnter (s : State) (c : Nat) : State :=
  if s.coding.active.length < 16 then { s with coding := { s.coding with active := s.coding.active ++ [c] } }
  else { s with coding := { s.coding with waiting := s.coding.waiting ++ [c] } }

/-! ### The ledger (R219 to R221) -/

/-- The stack address of ledger entry `n`. -/
def State.entryAddr (s : State) (n : Nat) : Nat := s.rd R.CODING_LEDGER_BASE_GIB * 2 ^ 30 + 16 * n

/-- LEDGER_LAST. -/
def State.ledgerLast (s : State) : Nat := s.rd R.CODING_LEDGER_SIZE_GIB * 2 ^ 26 - 1

/-- R219, R220: entries outside the region. -/
def State.ledgerOut (s : State) (a : CArgs) : Bool :=
  let last := a.first + a.count - 1
  decide (2 ^ 32 ≤ last) || !s.is R.CODING_CTRL_LEDGER_EN || decide (s.ledgerLast < last)

/-! ### Checks before a transfer (R194, R210, R218, R219, R229) -/

/-- A run that has met its last status and only completes. -/
def Run.stop (r : Run) (st elem : Nat) (dst : Bool) : Run :=
  { r.note st elem dst with phase := .completing, await := 0, writes := [] }

/-- The end status of a COPY or FILL of `n` bytes. -/
def copyEnd (r : Run) (fill : Bool) (n : Nat) : Option (Nat × Nat × Bool) :=
  if !fill && r.src.status != stOk && r.src.total == n then some (r.src.status, r.src.errElem r.src.elems.length, false)
  else if r.dst.status != stOk && r.dst.total == n then some (r.dst.status, r.dst.errElem r.dst.elems.length, true)
  else if n = 0 || (!fill && (r.src.total != n || r.dst.total != n)) then some (stBadLength, 0xFFFF, false)
  else none

/-- Stream bytes up to `n` of a COPY or FILL moved, from where it has come to. -/
def State.movePart (s : State) (c : Nat) (r : Run) (n : Nat) : State :=
  let lo := r.reached
  let r := { r with base := lo, reached := n }
  if dOp r.raw = 2 then
    let pat := slice r.raw 40 8
    let data := (List.range (n - lo)).map fun d => pat.getD ((lo + d) % 8) 0#8
    s.setRun c { r with phase := .writing, writes := s.streamWrites r.dst.elems lo data }
  else
    let ps := s.streamReads r.src.elems lo n r.label
    (s.modChan c fun h => { h with todo := h.todo ++ ps }).setRun c
      { r with phase := .reading, await := ps.length, parts := [] }

/-- The status that a coded descriptor meets before it reads anything, 0 for none: status, element, destination. -/
def State.codedCheck (s : State) (r : Run) : Option (Nat × Nat × Bool) :=
  let a := cArgs r.raw
  let anyStack := (r.src.elems ++ r.dst.elems).any (·.stack)
  if r.src.status ≠ stOk then some (r.src.status, r.src.errElem r.src.elems.length, false)
  else if r.dst.status ≠ stOk then some (r.dst.status, r.dst.errElem r.dst.elems.length, true)
  else if r.src.total ≠ a.supplied.length * a.size ∨ (!a.slots.isEmpty && r.dst.total != a.slots.length * a.size) then
    some (stBadLength, 0xFFFF, false)
  else if a.ledgered && s.ledgerOut a then some (stLedgerRange, 0xFFFF, false)
  else if s.protection == 3 && (a.ledgered || r.dst.elems.any fun e => e.stack && e.len != 0) then some (stStackFailed, 0xFFFF, false)
  else if s.stackBusy && (a.ledgered || anyStack) then some (stStackBusy, 0xFFFF, false)
  else none

/-- The source fragments `fs` read from a descriptor's source stream, fragment `i` of SRC at its place there. -/
def State.fragReads (s : State) (r : Run) (fs : List Nat) : List Piece :=
  let a := cArgs r.raw
  fs.flatMap fun f =>
    let i := a.supplied.findIdx (· == f)
    s.streamReads r.src.elems (i * a.size) ((i + 1) * a.size) r.label

/-- Pass 1 begins: every source fragment is read. -/
def State.beginPass1 (s : State) (c : Nat) (r : Run) : State :=
  let ps := s.fragReads r (cArgs r.raw).supplied
  (s.modChan c fun h => { h with todo := h.todo ++ ps }).setRun c
    { r with phase := .reading, await := ps.length, parts := [] }

/-- Both slots of a coded descriptor are known: phase 1, or pass 1 when it is not ledgered (DEDUCED in part: log entry 27). -/
def State.planCoded (s : State) (c : Nat) (r : Run) : State :=
  match s.codedCheck r with
  | some (st, e, d) => s.setRun c (r.stop st e d)
  | none =>
    let a := cArgs r.raw
    if a.ledgered then
      let base := s.entryAddr a.first
      let ps := (cutRange s.slabBytes s.slabBytes (a.count * 16) base (a.count * 16)).map fun p =>
        (⟨true, p.1, p.2, r.label, .ledgerRd ((p.1 - base) / 16)⟩ : Piece)
      (s.modChan c fun h => { h with todo := h.todo ++ ps }).setRun c
        { r with phase := .ledger, await := ps.length, parts := [] }
    else s.beginPass1 c r

/-! ### Ledger updates (R225 to R227, Table 09.4) -/

/-- The updates that an outcome gives. -/
def updatesOf (r : Run) : List Upd :=
  let a := cArgs r.raw
  let dig : Nat → Option Nat := fun f => (r.digests.find? (·.1 == f)).map (·.2)
  let mis : Nat → Bool := fun f => r.mismatch.testBit f
  let old : Nat → Nat := fun f => entState (r.entries.getD f [])
  match a.op with
  | 3 | 4 => (List.range a.count).map fun f => ⟨f, 1, dig f, true⟩
  | op =>
    (List.range (a.k + a.m)).filterMap fun f =>
      if r.outcome = stUnrecoverable then
        if mis f then some ⟨f, 2, none, false⟩
        else if op == 6 && a.mask.testBit f then some ⟨f, 3, none, false⟩ else none
      else if r.rebuilds.contains f then some ⟨f, 4, dig f, op == 6⟩
      else if mis f then some ⟨f, 2, none, false⟩
      else if a.supplied.contains f && (old f == 2 || old f == 3) then some ⟨f, 1, none, false⟩
      else none

/-- R225: the descriptor updates the ledger. -/
def Run.updates? (r : Run) : Bool :=
  let a := cArgs r.raw
  a.ledgered && !r.changed &&
    (match r.status with
     | none => true
     | some (st, _, _) => st == stStackPoison && decide (5 ≤ a.op))

/-- The read of the entry that is updated next (DEDUCED in part: log entry 27). -/
def State.nextUpdate (s : State) (c : Nat) (r : Run) (u : Upd) : State :=
  if s.noWrites then s.setRun c { r.note stStackFailed 0xFFFF false with updates := [] }
  else
    let p : Piece := ⟨true, s.entryAddr ((cArgs r.raw).first + u.frag), 16, r.label, .ledgerRd u.frag⟩
    (s.modChan c fun h => { h with todo := h.todo ++ [p] }).setRun c { r with await := 1 }

/-- R226: an earlier ledgered descriptor whose entries overlap those of `r` has to be performed first. A DIGEST or an ENCODE does not
wait for a VERIFY or a REBUILD, whose updates are conditional (DEDUCED in part: log entry 27). -/
def State.rangeHeld (s : State) (c : Nat) (r : Run) : Bool :=
  let a := cArgs r.raw
  a.ledgered && (s.coding.active.takeWhile (· != c)).any fun d => (s.chan d).run.any fun e =>
    let b := cArgs e.raw
    b.ledgered && decide (b.first < a.first + a.count) && decide (a.first < b.first + b.count) && !(decide (5 ≤ b.op) && decide (a.op ≤ 4))

/-- R226: another channel's read-modify-write of ledger entry `n` is under way. -/
def State.entryHeld (s : State) (c n : Nat) : Bool :=
  (List.range 64).any fun d => d != c && (s.chan d).run.any fun r =>
    r.phase == .updating && r.await != 0 && r.updates.head?.any fun u => (cArgs r.raw).first + u.frag == n

/-- R226: a conditional update still applies. -/
def updHolds (was now : List Byte) : Bool :=
  (entState was == 0 && entState now == 0) || (entGen now == entGen was && entCode now == entCode was)

/-- The entry of the first update has been read: it is written, or skipped (DEDUCED in part: log entry 27). -/
def State.applyUpdate (s : State) (c : Nat) (r : Run) (now : List Byte) (poisoned : Bool) : State :=
  match r.updates with
  | [] => s
  | u :: us =>
    let a := cArgs r.raw
    let was := r.entries.getD u.frag []
    let s := if 4 < leNat (slice now 12 1) then s.incSat R.CODING_LEDGER_BAD_STATE_COUNT else s
    if !poisoned && decide (5 ≤ a.op) && !updHolds was now then
      (s.incSat R.CODING_LEDGER_SKIPS_COUNT).setRun c { r with updates := us, await := 0 }
    else
      let e := entBytes (u.digest.getD (entDigest now)) (if u.ident then a.gen else entGen now) u.state
        (if u.ident then a.code else entCode now)
      let changed := decide (5 ≤ a.op) && u.state == 4 && entState was != 0 && entGen was == a.gen && entCode was == a.code &&
        u.digest.any (· != entDigest was)
      let s := if changed then (s.incSat R.CODING_DIGEST_CHANGES_COUNT).raise E.CODING_DIGEST_CHANGED else s
      let addr := s.entryAddr (a.first + u.frag)
      -- R221: a CODE_ID of 0x00 is never written
      let data := if slice e 13 1 = [0#8] then setAt (e.map some) 13 none else e.map some
      let q := s.present (.coding c) r.label true (addr / s.slabBytes) (addr % s.slabBytes) 16 data false
      let r := if poisoned then r.note stLedgerPoison 0xFFFF false else r
      (q.1.modChan c fun h => { h with st := h.st ++ [(q.2, .ledgerWr)] }).setRun c { r with await := 1 }

/-! ### Destination writes (R199, R200, R210) -/

/-- R210: a write to the stack has been refused: nothing more is written. -/
def Run.refused (r : Run) (elem : Nat) : Run :=
  { r.note stStackFailed (r.dst.errElem elem) true with
    writes := [], mediaOk := false, await := 0, endStatus := some (stStackFailed, r.dst.errElem elem, true) }

/-- The next destination write of a run whose last one has been performed, and whether it is issued
(DEDUCED in part: log entry 26). -/
def State.writeNext (s : State) (c : Nat) (r : Run) : State × Bool :=
  match r.writes with
  | [] => (s, false)
  | w :: ws =>
    if r.phase != .writing || r.await != 0 then (s, false)
    else if w.stack then
      if s.noWrites then (s.setRun c (r.refused w.elem), true)
      else
        let q := s.present (.haul c) r.label true (w.addr / s.slabBytes) (w.addr % s.slabBytes) w.bytes.length
          (w.bytes.map some) (dMedia r.raw)
        ((q.1.modChan c fun h => { h with st := h.st ++ [(q.2, .write)] }).setRun c { r with await := 1 }, true)
    else if !s.host.busMaster then (s, false)
    else
      ((s.toEgress (some r.label) (.memWr w.addr w.bytes)).setRun c { r with
        writes := ws, bytes := r.bytes + w.bytes.length, lastPcie := some ((w.addr + w.bytes.length - 1) / 4 * 4) }, true)

/-- R199: the read-back of a run whose work is done, or its completion. -/
def State.toReadBack (s : State) (c : Nat) (r : Run) : State :=
  match r.lastPcie with
  | some a =>
    (s.modChan c fun h => { h with todo := h.todo ++ [⟨false, a, 4, r.label, .readBack⟩] }).setRun c
      { r with phase := .readBack, await := 1 }
  | none => s.setRun c { r with phase := .completing }

/-- All destination writes of a run are made. -/
def State.afterWrites (s : State) (c : Nat) (r : Run) : State :=
  let a := cArgs r.raw
  let r := match r.endStatus with
    | some (st, e, d) => r.note st e d
    | none => r
  if opCoded a.op then
    let s := if a.op ≥ 5 then s.addSat R.CODING_FRAGS_WRITTEN_COUNT (r.bytes / a.size) else s
    let r := { r with updates := if r.updates? then updatesOf r else [] }
    s.setRun c { r with phase := .updating, await := 0 }
  else s.toReadBack c r

/-! ### Pass 1 and pass 2 (R223, R224, R228) -/

/-- The fragments that pass 1, or the second reading of `fs`, has brought. -/
def fragsRead (r : Run) (fs : List Nat) : List (Nat × List Byte) :=
  let a := cArgs r.raw
  let data := assemble r.parts (a.supplied.length * a.size)
  fs.map fun f => (f, slice data (a.supplied.findIdx (· == f) * a.size) a.size)

/-- The end of pass 1: digests, ENCODE's check fragments, the erasures and the outcome (DEDUCED in part: log entry 27). -/
def State.pass1 (s : State) (c : Nat) (r : Run) : State :=
  let a := cArgs r.raw
  let frags := fragsRead r a.supplied
  let bad := r.parts.flatMap (·.2.2)
  let badFrag : Nat → Bool := fun f => bad.any fun o => o / a.size == a.supplied.findIdx (· == f)
  let s : State := { s with coding := { s.coding with bytesIn := (s.coding.bytesIn + a.supplied.length * a.size) % 2 ^ 64 } }
  let digests := frags.map fun p => (p.1, crc64 p.2)
  let r := match bad.foldl (fun (m : Option Nat) o => some (m.elim o (min o))) none with
    | some o => r.note stStackPoison (r.src.errElem (elemIndex r.src.elems o)) false
    | none => r
  let data := frags.map (·.2)
  match a.op with
  | 3 => s.setRun c { r with phase := .writing, await := 0, digests := digests, result := crc64 data.flatten }
  | 4 =>
    let ch := checkFrags a.k a.m a.size data
    let digests := digests ++ ch.mapIdx fun p b => (a.k + p, crc64 b)
    s.setRun c { r with
      phase := .writing, await := 0, digests := digests, writes := s.streamWrites r.dst.elems 0 ch.flatten }
  | op =>
    let mis := (a.supplied.filter fun f => badFrag f || (a.ledgered &&
      !entMatches (r.entries.getD f []) (((digests.find? (·.1 == f)).map (·.2)).getD 0) a.gen a.code))
    let s := s.addSat R.CODING_MISMATCHES_COUNT mis.length
    let mismatch := mapOf 80 mis.contains
    let erased := if op = 6 then mismatch ||| a.mask else mismatch
    let e := popCount 80 erased
    let n := a.masked.length
    let outcome := if a.m < e then stUnrecoverable
      else if op = 5 then (if e = 0 then stOk else stRepaired)
      else if e = n then stOk else stRepaired
    let rebuilds := if outcome = stUnrecoverable then [] else if op = 5 then a.masked.filter erased.testBit else a.masked
    let rows := ((List.range (a.k + a.m)).filter fun f => !erased.testBit f).take a.k
    let r := { r with
      digests := digests, mismatch := mismatch, erased := erased, outcome := outcome, result := erased, rebuilds := rebuilds,
      rows := rows, parts := [] }
    if rebuilds.isEmpty then s.setRun c { r with phase := .writing, await := 0 }
    else
      let ps := s.fragReads r rows
      (s.modChan c fun h => { h with todo := h.todo ++ ps }).setRun c { r with phase := .pass2, await := ps.length }

/-- The intact fragments have been read again: they are checked, and the fragments named are reconstructed and written
(DEDUCED in part: log entry 27). -/
def State.pass2 (s : State) (c : Nat) (r : Run) : State :=
  let a := cArgs r.raw
  let frags := fragsRead r r.rows
  let s : State := { s with coding := { s.coding with bytesIn := (s.coding.bytesIn + r.rows.length * a.size) % 2 ^ 64 } }
  if frags.any fun p => ((r.digests.find? (·.1 == p.1)).map (·.2)) != some (crc64 p.2) then
    let s := (s.incSat R.CODING_SOURCE_CHANGES_COUNT).raise E.CODING_SOURCE_CHANGED
    s.setRun c { r with
      phase := .writing, await := 0, changed := true, outcome := stOk, rebuilds := [],
      status := some (stUnrecoverable, 0xFFFF, false) }
  else
    let data := rebuildData a.k a.m a.size r.rows (frags.map (·.2))
    let out := r.rebuilds.map fun f => (f, rebuildFrag a.k a.m a.size f data)
    let writes := out.flatMap fun p =>
      s.streamWrites r.dst.elems (a.slots.findIdx (· == p.1) * a.size) p.2
    let digests := (r.digests.filter fun d => !r.rebuilds.contains d.1) ++ out.map fun p => (p.1, crc64 p.2)
    s.setRun c { r with phase := .writing, await := 0, digests := digests, writes := writes }

/-! ### Starting and completing (R190, R192, R194, R196) -/

/-- A FENCE's condition (R95, R201): the run with what it still waits for, and whether it has completed its wait. With scope MEDIA that
is every read-modify-write, and every portion write that has not reached the memory layers. -/
def State.fenceStep (s : State) (r : Run) : State × Run × Bool :=
  let scope := field (dCtrl r.raw) 13 2
  let left := r.waitFor.filter fun i => s.cache.wait.any (·.id == i)
  let r := { r with waitFor := left }
  if !left.isEmpty then (s, r, false)
  else if scope < 2 then (s, r, true)
  else if s.protection == 3 then (s, r.note stStackFailed 0xFFFF false, true)
  else
    let rmw : SlabOp → Bool := fun o => o.kind == .rmwLine || o.kind == .rmwMerge
    let left := fun (s : State) => ((s.cache.ops ++ s.cache.opq).filter rmw).map (·.slab) ++ s.writesWaiting
    match r.waitSlabs with
    | none =>
      let t := s.flushAll.landBenches
      let slabs := left t
      (t, { r with waitSlabs := some slabs }, slabs.isEmpty)
    | some l =>
      let t := s.landBenches
      let busy := l.filter (left t).contains
      (t, { r with waitSlabs := some busy }, busy.isEmpty)

/-- What the checks of R194 steps 1 to 3 make of a descriptor that starts. -/
def State.startRun (s : State) (c idx : Nat) (raw : List Byte) (poisoned : Bool) : State :=
  let r := Run.init idx raw (s.descLabel c raw)
  let zero := fun (a n : Nat) => leNat (slice raw a n) == 0
  let op := dOp raw
  if poisoned then s.setRun c (r.note stDescPoison 0xFFFF false)
  else if ctrlBad raw then s.setRun c (r.note stBadDesc 0xFFFF false)
  else if opCoded op then
    if !s.codingOn || (s.rd R.FAULT_FENCED_TARGETS).testBit 1 then s.setRun c (r.note stNotSupported 0xFFFF false)
    else if (cArgs raw).bad (leNat (slice raw 45 1)) then s.setRun c (r.note stBadDesc 0xFFFF false)
    else
      let dst := if (cArgs raw).slots.isEmpty then Slot.empty
        else s.slotOf (slice raw 24 16) ((dCtrl raw).testBit 17) true false
      (s.codingEnter c).setRun c { r with
        phase := .place, src := s.slotOf (slice raw 8 16) ((dCtrl raw).testBit 16) false false, dst := dst }
  else if !(if op = 2 then zero 48 16 else zero 40 24) then s.setRun c (r.note stBadDesc 0xFFFF false)
  else if op = 0 then s.setRun c r
  else if op = 7 then
    let w := if field (dCtrl raw) 13 2 = 0 then [] else (s.cache.wait.filter (·.write)).map (·.id)
    s.setRun c { r with phase := .fence, waitFor := w }
  else
    let src := if op = 2 then Slot.empty else s.slotOf (slice raw 8 16) ((dCtrl raw).testBit 16) false true
    s.setRun c { r with
      phase := .lists, src := src, dst := s.slotOf (slice raw 24 16) ((dCtrl raw).testBit 17) true true }

/-- What a coded descriptor's completion counts (R232): the completions of descriptors that the coding engine has taken, whatever
their status, and not of those that end at the checks before it (DESIGN CHOICE in part: log entry 27). -/
def State.codingDone (s : State) (c op status : Nat) : State :=
  let s := match op with
    | 3 => s.inc R.CODING_DIGESTS_COUNT
    | 4 => s.inc R.CODING_ENCODES_COUNT
    | 5 => s.inc R.CODING_VERIFIES_COUNT
    | _ => s.inc R.CODING_REBUILDS_COUNT
  let s := s.codingLeave c
  if status = stRepaired then s.raise E.CODING_REPAIRED
  else if status = stUnrecoverable then ((s.incSat R.CODING_UNRECOVERABLES_COUNT).raise E.CODING_UNRECOVERABLE).detect [87]
  else if status = stLedgerPoison then (s.raise E.CODING_LEDGER_POISON).detect [88]
  else s

/-- The completion of a run whose work is done. -/
def State.finish (s : State) (c : Nat) (r : Run) : State :=
  let st := r.status.getD (stOk, 0xFFFF, false)
  let media := dMedia r.raw && r.stackWrote && r.mediaOk
  let s := s.modChan c fun h => { h with run := none }
  let op := dOp r.raw
  let ran := opCoded op && (s.coding.active.contains c || s.coding.waiting.contains c)
  let s := s.writeCpl c r.idx st.1 (b2n st.2.2 + 2 * b2n media) (dUser r.raw) r.bytes st.2.1 r.result (dIrq r.raw)
  let s := if ran then s.codingDone c op st.1 else s
  if s.is R.HAUL_CTRL_EN [c] then s else s.headBack c

/-- Channel `c` may start a descriptor. -/
def State.mayStart (s : State) (c : Nat) : Bool :=
  s.live 9 && s.is R.HAUL_CTRL_EN [c] && !s.halted && !s.gated && s.host.flr.isNone && (s.chan c).run.isNone && !s.handReady c

/-- A prefetched descriptor that no operation of Table 08.2 names, or that was read from a poisoned sector, starts and
completes without a command of its own. -/
def State.autoStart (s : State) (c : Nat) : State × Bool :=
  match (s.chan c).pre with
  | [] => (s, false)
  | (i, raw, bad) :: ps =>
    if s.mayStart c && (bad || decide (7 < dOp raw)) then
      (((s.modChan c fun h => { h with pre := ps })).startRun c i raw bad, true)
    else (s, false)

/-- A list's next read issued, or the slot ended (DEDUCED in part: log entry 26). -/
def State.listNext (s : State) (c : Nat) (r : Run) (dst : Bool) : State :=
  let p := s.listPiece (if dst then r.dst else r.src) (s.chanLabel c) dst (!opCoded (dOp r.raw))
  let r := if dst then { r with dst := p.1 } else { r with src := p.1 }
  (s.modChan c fun h => { h with todo := h.todo ++ p.2 }).setRun c { r with await := p.2.length }

/-- R194: a COPY or FILL goes on: the next element of the stream that has none left is fetched, the bytes that both streams hold
are moved, or the transfer ends (DEDUCED in part: log entry 26). -/
def State.moveNext (s : State) (c : Nat) (r : Run) : State :=
  let fill := dOp r.raw == 2
  let spent := fun (t : Slot) => t.total == r.reached
  let failed := fun (t : Slot) => t.done && t.status != stOk && spent t
  let n := if fill then r.dst.total else min r.src.total r.dst.total
  if (!fill && failed r.src) || failed r.dst then s.afterWrites c { r with endStatus := copyEnd r fill n }
  else if !fill && spent r.src && !r.src.done then s.listNext c r false
  else if spent r.dst && !r.dst.done then s.listNext c r true
  else if n = r.reached then s.afterWrites c { r with endStatus := copyEnd r fill n }
  else s.movePart c r n

/-- The source bytes of a part have arrived: they are written. -/
def State.partRead (s : State) (c : Nat) (r : Run) : State :=
  let bad := (r.parts.flatMap (·.2.2)).foldl (fun (m : Option Nat) o => some (m.elim o (min o))) none
  let r := match bad with
    | some o => r.note stStackPoison (r.src.errElem (elemIndex r.src.elems o)) false
    | none => r
  let data := assemble (r.parts.map fun p => (p.1 - r.base, p.2)) (r.reached - r.base)
  s.setRun c { r with phase := .writing, parts := [], writes := s.streamWrites r.dst.elems r.base data }

/-- R207: a halted engine goes on with nothing but the completion of a run that has finished. -/
def Run.halts (r : Run) : Bool := !(r.phase == .completing || (r.phase == .updating && r.updates.isEmpty && r.await == 0))

/-- One step of a channel's execution, and whether anything changed. -/
def State.advStep (s : State) (c : Nat) : State × Bool :=
  match (s.chan c).run with
  | none => s.autoStart c
  | some r =>
    if s.halted && r.halts then (s, false)
    else match r.phase with
    | .place => if s.coding.active.contains c then (s.setRun c { r with phase := .lists }, true) else (s, false)
    | .lists =>
      if r.await ≠ 0 then (s, false)
      else if !opCoded (dOp r.raw) then (s.moveNext c r, true)
      else if !r.src.done then (s.listNext c r false, true)
      else if !r.dst.done then (s.listNext c r true, true)
      else if (s.codedCheck r).isNone && s.rangeHeld c r then (s, false)
      else (s.planCoded c r, true)
    | .ledger | .pass2 => (s, false)
    | .reading =>
      if r.await ≠ 0 || opCoded (dOp r.raw) then (s, false) else (s.partRead c r, true)
    | .writing =>
      if r.await ≠ 0 || !r.writes.isEmpty then (s, false)
      else if opCoded (dOp r.raw) || r.endStatus.isSome then (s.afterWrites c r, true)
      else (s.setRun c { r with phase := .lists }, true)
    | .updating =>
      if r.await ≠ 0 then (s, false)
      else
        match r.updates with
        | [] => (s.toReadBack c (if r.outcome = stOk then r else r.note r.outcome 0xFFFF false), true)
        | u :: _ =>
          if s.entryHeld c ((cArgs r.raw).first + u.frag) then (s, false) else (s.nextUpdate c r u, true)
    | .readBack => if r.await ≠ 0 then (s, false) else (s.setRun c { r with phase := .completing }, true)
    | .fence =>
      let f := s.fenceStep r
      (f.1.setRun c (if f.2.2 then { f.2.1 with phase := .completing } else f.2.1), f.2.2)
    | .completing => if s.canComplete c then (s.finish c r, true) else (s, false)

/-- A channel advanced until it waits for something. -/
def State.advGo : Nat → State → Nat → State
  | 0, s, _ => s
  | n + 1, s, c =>
    match s.advStep c with
    | (t, true) => State.advGo n t c
    | (t, false) => t

/-! ### Request issue (R182, R190, R206) -/

/-- The first read that channel `c` has to issue, issued when it may be. -/
def State.issueRead (s : State) (c : Nat) (p : Piece) (ps : List Piece) : State × Bool :=
  if p.stack then
    let r := s.present (useSrc c p.use) p.label false (p.addr / s.slabBytes) (p.addr % s.slabBytes) p.len [] false
    (r.1.modChan c fun h => { h with todo := ps, st := h.st ++ [(r.2, p.use)] }, true)
  else if !s.host.busMaster then (s, false)
  else
    match s.freeTag with
    | none => (s, false)
    | some t =>
      let q : NpReq := ⟨t, c, p.addr, p.len, p.use, []⟩
      let u : State := { s with haul := { s.haul with np := s.haul.np ++ [q], nextTag := t + 1 - s.tagRange.1 } }
      let u := u.outPeak
      ((u.modChan c fun h => { h with todo := ps }).toEgress (some p.label) (.memRd t p.addr p.len), true)

/-- The next request of channel `c` issued: a read, or a destination write; the channel goes on once its writes are made. -/
def State.issueOne (s : State) (c : Nat) : State × Bool :=
  if s.halted then (s, false)
  else match (s.chan c).todo.find? (s.mayIssue c), (s.chan c).run with
    | some p, _ => s.issueRead c p (dropFirst (s.mayIssue c) (s.chan c).todo)
    | none, some r =>
      match s.writeNext c r with
      | (t, true) => (State.advGo 512 t c, true)
      | n => n
    | none, none => (s, false)

/-- R190: the turn passes to the next channel. -/
def State.nextTurn (s : State) : State := { s with haul := { s.haul with turn := (s.haul.turn + 1) % 64, share := 0 } }

/-- R190: requests issued in weighted turns, up to 2^PRIORITY in each, until no channel can issue one. `idle` counts the
turns since the last one issued. -/
def State.issueGo : Nat → Nat → State → State
  | 0, _, s => s
  | n + 1, idle, s =>
    if 64 ≤ idle then s
    else
      let c := s.haul.turn
      let left := if s.haul.share = 0 then 2 ^ s.rd R.HAUL_ACT_CFG_PRIORITY [c] else s.haul.share
      match s.issueOne c with
      | (t, true) =>
        State.issueGo n 0 (if left = 1 then t.nextTurn else { t with haul := { t.haul with share := left - 1 } })
      | (_, false) => State.issueGo n (idle + 1) s.nextTurn

/-- Requests that channels have still to issue. -/
def State.issueCount (s : State) : Nat :=
  (s.haul.chans.map fun h => h.todo.length + (h.run.map fun r => r.writes.length).getD 0).sum

/-- Every request that can be issued, issued, and sent in the order of PCIe egress. -/
def State.pump (s : State) : State :=
  let n := s.issueCount
  if n = 0 then s else (State.issueGo (65 * (4 * n + 64)) 0 s).egDrain

/-- Waiting coded descriptors given the places that have become free. -/
def State.placeGo : Nat → State → State
  | 0, s => s
  | n + 1, s =>
    match s.coding.waiting with
    | [] => s
    | w :: ws =>
      if s.coding.active.length < 16 then
        let t : State := { s with coding := { s.coding with active := s.coding.active ++ [w], waiting := ws } }
        State.placeGo n ((State.advGo 512 t w).chanSettle w)
      else s

/-- R226: the coded descriptors that have read their lists go on, where no earlier one holds them back. -/
def State.wakeRanges (s : State) : State :=
  s.coding.active.foldl (fun s c =>
    if (s.chan c).run.any fun r => r.phase == .lists && r.await == 0 && r.src.done && r.dst.done then
      (State.advGo 512 s c).chanSettle c
    else s) s

/-- A channel advanced, with the fetches and requests that follow. -/
def State.advance (s : State) (c : Nat) : State :=
  let s := State.placeGo 64 (State.advGo 512 s c).wakeRanges
  (((s.gateSweep c).kick c).pump).chanSettle c

/-- Every channel with work advanced. -/
def State.advanceAll (s : State) : State :=
  if s.live 9 then
    (List.range 64).foldl (fun s c =>
      if (s.chan c).run.isSome || s.chanPosted c || s.is R.HAUL_CTRL_EN [c] then s.advance c else s) s
  else s

/-! ### What requests bring -/

/-- R226: the channels that wait for a ledger entry go on. -/
def State.wakeUpdates (s : State) : State :=
  s.coding.active.foldl (fun s c => if (s.chan c).run.any (·.phase == .updating) then s.advance c else s) s

/-- Bytes brought for a purpose, with the offsets in them at which poisoned sectors begin. -/
def State.bring (s : State) (c : Nat) (u : Use) (bs : List Byte) (bad : List Nat) : State :=
  match u, (s.chan c).run with
  | .desc i, _ => s.modChan c fun h => { h with got := h.got ++ [(i, bs, !bad.isEmpty)] }
  | .data o, some r =>
    (s.setRun c { r with parts := r.parts ++ [(o, bs, bad.map (· + o))], await := r.await - 1 }).advance c
  | .list dst, some r =>
    let soft := !opCoded (dOp r.raw)
    let r := if dst then { r with dst := s.slotFeed r.dst bs bad true soft } else { r with src := s.slotFeed r.src bs bad false soft }
    (s.setRun c { r with await := 0 }).advance c
  | .readBack, some r => (s.setRun c { r with await := 0 }).advance c
  | .ledgerRd f, some r =>
    if r.phase == .updating then ((s.applyUpdate c r bs (!bad.isEmpty)).advance c).wakeUpdates
    else (s.setRun c { r with parts := r.parts ++ [(16 * f, bs, bad)], await := r.await - 1 }).advance c
  | _, _ => s

/-- The offsets in a stretch of a slab at which its poisoned sectors begin. -/
def poisonOffsets (n off len poison : Nat) : List Nat :=
  ((List.range n).filter fun k => poison.testBit k && decide (off < 64 * k + 64) && decide (64 * k < off + len)).map fun k =>
    max (64 * k) off - off

/-- A stack read of a channel delivered. -/
def State.haulDeliver (s : State) (c : Nat) (q : CReq) (data : List Byte) (poison : Nat) : State :=
  match (s.chan c).st.find? (·.1 == q.id) with
  | none => s
  | some p =>
    let t := s.modChan c fun h => { h with st := h.st.filter (·.1 != q.id) }
    t.bring c p.2 data (poisonOffsets s.sectors q.off q.len poison)

/-- A stack write of a channel performed, or refused; `lost`: bytes of it were discarded for a poisoned sector (R89), which a ledger
update reports (R227). -/
def State.haulWritten (s : State) (c : Nat) (q : CReq) (ok lost : Bool) : State :=
  match (s.chan c).st.find? (·.1 == q.id) with
  | none => s
  | some p =>
    let t := s.modChan c fun h => { h with st := h.st.filter (·.1 != q.id) }
    match p.2, (t.chan c).run with
    | .write, some r =>
      match r.writes with
      | [] => t
      | w :: ws =>
        let r := if !ok then r.refused w.elem
          else
            let r := { r with bytes := r.bytes + w.bytes.length, stackWrote := true }
            if q.media then r else { r with writes := ws, await := 0 }
        (t.setRun c r).advance c
    | .ledgerWr, some r =>
      let r := if ok && lost then r.note stLedgerPoison 0xFFFF false else r
      let r := if ok then { r with updates := r.updates.drop 1, await := 0 }
        else { r.note stStackFailed 0xFFFF false with updates := [], await := 0 }
      ((t.setRun c r).advance c).wakeUpdates
    | .completion msi status, _ =>
      if ok then
        let t := t.cplCounts c status
        (if msi then t.msix c else t).chanSettle c
      else (t.cplRefused c).chanSettle c
    | _, _ => t

/-- R96, R200: a to-media verify fetch of a channel's write has confirmed it, or not. -/
def State.haulVerified (s : State) (c slab off : Nat) (ok : Bool) : State :=
  match (s.chan c).run with
  | none => s
  | some r =>
    match r.writes with
    | [] => s
    | w :: ws =>
      if r.phase == .writing && r.await == 1 && w.stack && w.addr == slab * s.slabBytes + off then
        let r := if ok then r else { r.note stMediaFail (r.dst.errElem w.elem) true with mediaOk := false }
        (s.setRun c { r with writes := ws, await := 0 }).advance c
      else s

/-! ### Commands -/

/-- KIND of HALT_INFO. -/
def useKind : Use → Nat
  | .data _ => 0
  | .readBack => 2
  | _ => 1

/-- A tag of an abandoned request. -/
def State.isLate (s : State) (tag : Nat) : Bool := (s.haul.abandoned ++ s.haul.quarantined).any (·.1 == tag)

/-- `n` bytes have come for a tag, or all that will: it is free once nothing is left to come. -/
def lateLeft (tag n : Nat) (all : Bool) (l : List (Nat × Nat)) : List (Nat × Nat) :=
  (l.map fun p => if p.1 = tag then (p.1, if all then 0 else p.2 - n) else p).filter fun p => p.1 != tag || p.2 != 0

/-- R185, R207, R208: a completion of `n` bytes, or an error or a timeout, for a request that was abandoned. -/
def State.lateCompletion (s : State) (tag n : Nat) (err : Bool) : State :=
  let t : State := { s with haul := { s.haul with
    abandoned := lateLeft tag n err s.haul.abandoned, quarantined := lateLeft tag n err s.haul.quarantined } }
  let t := if err && s.halted && s.haul.abandoned.any (·.1 == tag) then t.set R.HG_EVENTS_HALT_MORE else t
  t.pump

/-- R207: a bus error halts the engine; what had finished completes. -/
def State.haulError (s : State) (type : Nat) (q : NpReq) : State := (s.busHalt type (useKind q.use) q.addr).advanceAll

/-- R207: a completion for a haul request. -/
def State.haulCompletion (s : State) (tag status : Nat) (ep : Bool) (data : List Byte) : State :=
  if !s.live 9 then s else
  match s.haul.np.find? (·.tag == tag) with
  | none =>
    if s.isLate tag then s.lateCompletion tag data.length (status != 0 || ep)
    else s.aer .unexpected
  | some q =>
    let t : State := { s with haul := { s.haul with np := s.haul.np.filter (·.tag != tag) } }
    if status ≠ 0 then t.haulError (if status = 4 then 2 else 1) q
    else if ep then (t.haulError 4 q).aer .poisoned
    else
      let got := q.got ++ data
      if got.length < q.len then
        { s with haul := { s.haul with np := s.haul.np.map fun x => if x.tag == tag then { x with got := got } else x } }
      else ((t.bring q.chan q.use (got.take q.len) []).pump).chanSettle q.chan

/-- HAUL_COMPLETION_RX. -/
def execHaulCompletionRx (tag status : Nat) (ep : Bool) (data : List Byte) (s : State) : Host.Outcome State Fault Refusal :=
  .next (s.haulCompletion tag status ep data)

/-- R182: Completion Timeout Disable is 0. -/
def State.timeoutsOn (s : State) : Bool := !(s.cfgWord 0x88).testBit 4

/-- R182, R207: a haul request times out. -/
def State.haulTimeout (s : State) (tag : Nat) : State :=
  if !s.live 9 || !s.timeoutsOn then s else
  match s.haul.np.find? (·.tag == tag) with
  | none =>
    if s.isLate tag then s.lateCompletion tag 0 true else s
  | some q =>
    let t : State := { s with haul := { s.haul with np := s.haul.np.filter (·.tag != tag) } }
    (t.haulError 3 q).aer .completionTimeout

/-- COMPLETION_TIMEOUT. -/
def execCompletionTimeout (tag : Nat) (s : State) : Host.Outcome State Fault Refusal := .next (s.haulTimeout tag)

/-- R189: a write to a channel's TAIL. -/
def State.doorbell (s : State) (src : RegSrc) (c data : Nat) : State :=
  if 64 ≤ c ∨ !s.live 9 then s else
  let i := data % 65536
  if s.ringSize c ≤ i then s.refuse src (R.HAUL_TAIL_INDEX.off + 0x1000 * c)
  else
    let t : State := { s with power := { s.power with idleTicks := 0 } }
    let t := if (s.chan c).needTail then t.headBack c else t
    ((t.wr R.HAUL_TAIL_INDEX i [c]).modChan c fun h => { h with needTail := false }).advance c

/-- R190: the next descriptor of the ring that has arrived enters the descriptor buffer. -/
def State.descFetched (s : State) (c : Nat) : State :=
  let h := s.chan c
  let size := s.ringSize c
  let want := match h.pre.getLast?, h.run with
    | some p, _ => (p.1 + 1) % size
    | none, some r => (r.idx + 1) % size
    | none, none => s.nextIdx c
  match h.got.find? (·.1 == want) with
  | none => s
  | some d => (s.modChan c fun h => { h with pre := h.pre ++ [d], got := h.got.filter (·.1 != want) }).advance c

/-- DESCRIPTOR_FETCHED. -/
def execDescriptorFetched (c : Nat) (s : State) : Host.Outcome State Fault Refusal := .next (s.descFetched c)

/-- R190, R192: the next descriptor of channel `c` starts when its OP is `op` and the channel may start one. -/
def State.startDesc (s : State) (c op : Nat) : State :=
  match (s.chan c).pre with
  | [] => s
  | (i, raw, bad) :: ps =>
    if !s.mayStart c || bad || dOp raw != op then s
    else
      let t := s.checkArray 4
      if t.halted then t else ((t.modChan c fun h => { h with pre := ps }).startRun c i raw false).advance c

/-- NOP. -/
def execNop (c : Nat) (s : State) : Host.Outcome State Fault Refusal := .next (s.startDesc c 0)

/-- COPY. -/
def execCopy (c : Nat) (s : State) : Host.Outcome State Fault Refusal := .next (s.startDesc c 1)

/-- FILL. -/
def execFill (c : Nat) (s : State) : Host.Outcome State Fault Refusal := .next (s.startDesc c 2)

/-- DIGEST. -/
def execDigest (c : Nat) (s : State) : Host.Outcome State Fault Refusal := .next (s.startDesc c 3)

/-- ENCODE. -/
def execEncode (c : Nat) (s : State) : Host.Outcome State Fault Refusal := .next (s.startDesc c 4)

/-- VERIFY. -/
def execVerify (c : Nat) (s : State) : Host.Outcome State Fault Refusal := .next (s.startDesc c 5)

/-- REBUILD. -/
def execRebuild (c : Nat) (s : State) : Host.Outcome State Fault Refusal := .next (s.startDesc c 6)

/-- FENCE. -/
def execFence (c : Nat) (s : State) : Host.Outcome State Fault Refusal := .next (s.startDesc c 7)

/-- R223: the entries of a ledgered descriptor have been read. -/
def State.ledgerRead (s : State) (c : Nat) : State :=
  match (s.chan c).run with
  | some r =>
    if r.phase == .ledger && r.await == 0 && !s.halted then
      let n := (cArgs r.raw).count
      if r.parts.any fun p => !p.2.2.isEmpty then
        (s.setRun c (r.stop stLedgerPoison 0xFFFF false)).advance c
      else
        let es := chunks 16 n (assemble r.parts (16 * n))
        let odd := (es.filter fun e => decide (4 < leNat (slice e 12 1))).length
        ((s.addSat R.CODING_LEDGER_BAD_STATE_COUNT odd).beginPass1 c { r with entries := es }).advance c
    else s
  | none => s

/-- LEDGER_READ_DONE. -/
def execLedgerReadDone (c : Nat) (s : State) : Host.Outcome State Fault Refusal := .next (s.ledgerRead c)

/-- PASS_1_DONE. -/
def State.pass1Done (s : State) (c : Nat) : State :=
  match (s.chan c).run with
  | some r =>
    if r.phase == .reading && r.await == 0 && opCoded (dOp r.raw) && !s.halted then (s.pass1 c r).advance c else s
  | none => s

@[inherit_doc State.pass1Done]
def execPass1Done (c : Nat) (s : State) : Host.Outcome State Fault Refusal := .next (s.pass1Done c)

/-- PASS_2_DONE. -/
def State.pass2Done (s : State) (c : Nat) : State :=
  match (s.chan c).run with
  | some r => if r.phase == .pass2 && r.await == 0 && !s.halted then (s.pass2 c r).advance c else s
  | none => s

@[inherit_doc State.pass2Done]
def execPass2Done (c : Nat) (s : State) : Host.Outcome State Fault Refusal := .next (s.pass2Done c)

/-- R202, R204: a write of 1 to COMMIT. -/
def State.commitWrite (s : State) (src : RegSrc) (c : Nat) : State :=
  if 64 ≤ c ∨ !s.live 9 ∨ s.is R.HAUL_COMMIT [c] then s else
  let n := s.rd R.HAUL_SH_CFG_SIZE_LOG2 [c]
  let db := s.rd R.HAUL_SH_DESC_BASE_LO_BASE [c] * 4096 + s.rd R.HAUL_SH_DESC_BASE_HI_BASE [c] * 2 ^ 32
  let cb := s.rd R.HAUL_SH_COMP_BASE_LO_BASE [c] * 4096 + s.rd R.HAUL_SH_COMP_BASE_HI_BASE [c] * 2 ^ 32
  let bad := n = 0 ∨ 16 < n ∨ (s.is R.HAUL_SH_CFG_DESC_SPACE [c] ∧ s.capacity < db + 64 * 2 ^ n) ∨
    (s.is R.HAUL_SH_CFG_COMP_SPACE [c] ∧ s.capacity < cb + 32 * 2 ^ n)
  if bad then s.refuse src (R.HAUL_COMMIT.off + 0x1000 * c) else (s.set R.HAUL_COMMIT [c]).chanSettle c

/-- R202 to R204: the shadow set is copied into the active set. -/
def State.handOver (s : State) (c : Nat) : State :=
  if !s.handReady c ∨ !s.live 9 then s else
  let ring := s.ringChange c
  let cp := fun (t : State) (a b : Fam) => t.wr b (s.rd a [c]) [c]
  let t := cp s R.HAUL_SH_DESC_BASE_LO_BASE R.HAUL_ACT_DESC_BASE_LO_BASE
  let t := cp t R.HAUL_SH_DESC_BASE_HI_BASE R.HAUL_ACT_DESC_BASE_HI_BASE
  let t := cp t R.HAUL_SH_COMP_BASE_LO_BASE R.HAUL_ACT_COMP_BASE_LO_BASE
  let t := cp t R.HAUL_SH_COMP_BASE_HI_BASE R.HAUL_ACT_COMP_BASE_HI_BASE
  let t := cp t R.HAUL_SH_CFG_SIZE_LOG2 R.HAUL_ACT_CFG_SIZE_LOG2
  let t := cp t R.HAUL_SH_CFG_DESC_SPACE R.HAUL_ACT_CFG_DESC_SPACE
  let t := cp t R.HAUL_SH_CFG_COMP_SPACE R.HAUL_ACT_CFG_COMP_SPACE
  let t := cp t R.HAUL_SH_CFG_LABEL R.HAUL_ACT_CFG_LABEL
  let t := (cp t R.HAUL_SH_CFG_PRIORITY R.HAUL_ACT_CFG_PRIORITY).clr R.HAUL_COMMIT [c]
  let t := if ring then ((t.wr R.HAUL_HEAD_INDEX 0 [c]).wr R.HAUL_TAIL_INDEX 0 [c]).wr R.HAUL_COMP_INDEX 0 [c] else t
  t.advance c

/-- HAND_OVER. -/
def execHandOver (c : Nat) (s : State) : Host.Outcome State Fault Refusal := .next (s.handOver c)

/-- R205: CTRL.EN set. -/
def State.channelEnable (s : State) (src : RegSrc) (c : Nat) : State :=
  if 64 ≤ c ∨ !s.live 9 ∨ s.is R.HAUL_CTRL_EN [c] then s
  else if s.rd R.HAUL_ACT_CFG_SIZE_LOG2 [c] = 0 then s.refuse src (R.HAUL_CTRL_EN.off + 0x1000 * c)
  else (s.set R.HAUL_CTRL_EN [c]).advance c

/-- R205: CTRL.EN cleared; HEAD goes back to the next completion that no descriptor in execution will write
(DEDUCED in part: log entry 26). -/
def State.channelDisable (s : State) (c : Nat) : State :=
  if 64 ≤ c ∨ !s.live 9 ∨ !s.is R.HAUL_CTRL_EN [c] then s else
  let t := (s.clr R.HAUL_CTRL_EN [c]).dropFetches c
  let k := t.nextIdx c + b2n (t.chan c).run.isSome
  (t.wr R.HAUL_HEAD_INDEX (k % t.ringSize c) [c]).chanSettle c

/-- The work of the haul and coding engines ended without completions; outstanding requests are abandoned. -/
def State.haulStop (s : State) : State :=
  let t := s.dropHaulPort
  { t with
    haul := { t.haul with
      chans := t.haul.chans.map fun h => { HChan.reset with st := h.st.filter fun p => p.2.isCompletion }
      np := [], abandoned := t.haul.abandoned ++ t.haul.np.map NpReq.left }
    coding := { t.coding with active := [], waiting := [] } }

/-- R208: a haul-engine reset. -/
def State.haulReset (s : State) : State :=
  if !s.live 9 then s else
  let t := s.haulStop
  let t : State := { t with haul := { t.haul with
    chans := t.haul.chans.map fun h => { h with needTail := true }
    abandoned := [], quarantined := t.haul.quarantined ++ t.haul.abandoned } }
  let t := (t.clr R.HG_STATUS_HALTED).wr R.HG_HALT_ADDR_LO_ADDR 0
  let t := ((t.wr R.HG_HALT_ADDR_HI_ADDR 0).wr R.HG_HALT_INFO_TYPE 0).wr R.HG_HALT_INFO_KIND 0
  let t := (t.wr R.HG_HALT_TICK_TICK 0).set R.HG_EVENTS_RESET_DONE
  let t := t.wr R.FAULT_FENCED_TARGETS (setBit (t.rd R.FAULT_FENCED_TARGETS) 0 false)
  (List.range 64).foldl (fun t c => (t.wr R.HAUL_HEAD_INDEX (t.rd R.HAUL_COMP_INDEX [c]) [c]).chanSettle c) t

/-- R220: a write of CODING.CTRL.LEDGER_EN, which the lantern domain holds (R470). -/
def State.ledgerEnWrite (s : State) (src : RegSrc) (v : Nat) : State :=
  if !s.codingOn ∨ v % 2 = s.rd R.CODING_CTRL_LEDGER_EN then s
  else if !s.coding.active.isEmpty ∨ !s.coding.waiting.isEmpty ∨
      (v % 2 = 1 ∧ s.capacity / 2 ^ 30 < s.rd R.CODING_LEDGER_BASE_GIB + s.rd R.CODING_LEDGER_SIZE_GIB) then
    s.refuse src R.CODING_CTRL_LEDGER_EN.off
  else s.wr R.CODING_CTRL_LEDGER_EN v

/-- R220, R9: a write of LEDGER_BASE or LEDGER_SIZE, which the lantern domain holds (R470). -/
def State.ledgerRegionWrite (s : State) (src : RegSrc) (off data : Nat) : State :=
  if !s.codingOn ∨ !(off == R.CODING_LEDGER_BASE_GIB.off || off == R.CODING_LEDGER_SIZE_GIB.off) then s
  else if s.is R.CODING_CTRL_LEDGER_EN then s.refuse src off
  else if off = R.CODING_LEDGER_BASE_GIB.off then s.wr R.CODING_LEDGER_BASE_GIB data
  else if data % 128 = 0 ∨ 64 < data % 128 then s.refuse src off
  else s.wr R.CODING_LEDGER_SIZE_GIB data

end Sys2Proof.Machine
end

