-- ==== Sys2Proof/Machine/Cache.lean ====
section
/-! DEFINITION. Requests at the slab cache: arbitration, acceptance, service, and what waits (R80 to R86, R91 to R100, R240,
R477). -/
namespace Sys2Proof.Machine

/-! ### What a request's source is told -/

/-- A read performed: its bytes, poisoned sectors zero, with the slab's poison bits; `fresh` are those that the fetch made
for it poisoned (R91, R300). -/
def State.deliverRead (s : State) (r : CReq) (data : List Byte) (poison fresh : Nat) : State :=
  let need := reqTouched r s.sectors
  let p := poison &&& need
  let bs := slice (zeroPoison p data) r.off r.len
  let s := s.delivered r.slab r.src (minus p fresh)
  match r.src with
  | .pcie => s.hostDeliver r.id bs p
  | .haul c | .coding c => s.haulDeliver c r bs p
  | .mgmt => s.emit (.firmwareRead r.id bs (p != 0))
  | _ => s

/-- A write performed, or refused because stack writes are. Bytes of it have been discarded where a sector that it touches is still
poisoned in its line (R89). -/
def State.wrote (s : State) (r : CReq) (ok : Bool) : State :=
  match r.src with
  | .haul c | .coding c =>
    s.haulWritten c r ok ((s.lineOf r.slab).any fun l => l.poison &&& reqTouched r s.sectors != 0)
  | .pcie => if !ok && s.is R.FAULT_STATUS_SAFE then s.incSat R.FAULT_SAFE_WRITES_COUNT else s
  | _ => s

/-! ### Service (Table 04.4, R84, R85, R477) -/

/-- The label allocates lines. -/
def State.allocates (s : State) (l : Nat) : Bool := s.rd R.CACHE_LABEL_POLICY_POLICY [l] == 0

/-- A request served without a fetch, counted. -/
def State.hit (s : State) (count : Bool) : State :=
  if count then { s with cache := { s.cache with hits := (s.cache.hits + 1) % 2 ^ 64 } } else s

/-- The array-0 check of a line that is read (Table 14.5): a clean sector is dropped and fetched again, a DIRTY one poisoned. -/
def State.checkLine (s : State) (l : Line) (need : Nat) : State :=
  match s.injArray 0 with
  | (t, none) => t
  | (t, some double) =>
    let k := (bitsOf 32 need).head?.getD 0
    let bit := 2 ^ k
    let dirty := l.dirty.testBit k
    let t := if !double then t
      else if dirty then t.setLine { l with
        poison := l.poison ||| bit, data := zeroPoison bit l.data }
      else t.setLine { l with valid := minus l.valid bit, poison := minus l.poison bit }
    t.detect (arraySource 0 double dirty)

/-- The bytes that an entry holds for a read, when it holds all of them. -/
def entryCovers (e : MEntry) (r : CReq) : Bool := (slice e.bytes r.off r.len).all Option.isSome

/-- A fetch for a request whose slab has a line or none (DEDUCED in part: log entry 17). -/
def State.fetchFor (s : State) (r : CReq) (kind : OpKind) : State := s.startOp r.slab kind (Src.code r.src) r.label (some r.id)

/-- A read: the state, and whether it has been performed (DEDUCED in part: log entry 17). -/
def State.serveRead (s : State) (r : CReq) (count : Bool) : State × Bool :=
  let need := reqTouched r s.sectors
  if r.len = 0 then
    -- R172: a zero-length read follows every earlier write from the host
    if s.cache.wait.any (fun e => e.src == .pcie && e.write) then (s, false) else (s.deliverRead r [] 0 0, true)
  else match s.lineOf r.slab with
  | some l =>
    if minus need l.valid = 0 then
      let t := (s.touchWay r.slab l.way).checkLine l need
      match t.lineOf r.slab with
      | some l =>
        if minus need l.valid = 0 then ((t.hit count).deliverRead r l.data l.poison 0, true)
        else if t.noFetch r.slab then (t, false) else (t.fetchFor r .fill, false)
      | none => (t, false)
    else if s.noFetch r.slab then (s, false)
    else (s.fetchFor r .fill, false)
  | none =>
    match s.entryOf r.slab with
    | some e =>
      if s.noWrites then (if s.noFetch r.slab then (s, false) else (s.fetchFor r .stream, false))
      else if !s.allocates r.label && entryCovers e r then
        ((s.hit count).deliverRead r (e.bytes.map (·.getD 0#8)) e.poison 0, true)
      else (s.closeEntry r.slab, false)
    | none =>
      if s.noFetch r.slab then (s, false)
      else if s.allocates r.label then
        match s.findWay r.slab with
        | (t, .way w) => ((t.install r.slab w r.label (Src.code r.src)).fetchFor r .fill, false)
        | (t, .wait) => (t, false)
        | (t, .stream) => (t.fetchFor r .stream, false)
      else (s.fetchFor r .stream, false)

/-- What follows a write that has been performed: write-through and the to-media verify (R96, R100). -/
def State.afterWrite (s : State) (r : CReq) (inLine : Bool) : State :=
  let t := if s.wt || r.media then (if inLine then s.writeBack r.slab else s.closeEntry r.slab)
    else if inLine then s
    else
      match s.entryOf r.slab with
      | some e => if e.bytes.all Option.isSome then s.closeEntry r.slab else s
      | none => s
  let t := if r.media then
      match r.src with
      | .haul c => t.startOp r.slab (.verify c r.off r.data) (Src.code r.src) r.label
      | _ => t
    else t
  t.wrote r true

/-- A write: the state, and whether it has been performed. -/
def State.serveWrite (s : State) (r : CReq) (count : Bool) : State × Bool :=
  let need := reqTouched r s.sectors
  let part := minus need (reqCovered r s.sectors)
  if s.noWrites then (s.wrote r false, true)
  else match s.lineOf r.slab with
  | some l =>
    if minus part l.valid = 0 then (((s.hit count).writeLine r l).afterWrite r true, true)
    else if s.noFetch r.slab then (s, false)
    else (s.fetchFor r .fill, false)
  | none =>
    if s.allocates r.label then
      match s.entryOf r.slab with
      | some _ => (s.closeEntry r.slab, false)
      | none =>
        if s.locked r.slab || (part != 0 && s.fetchHeld) then (s, false)
        else
          match s.findWay r.slab with
          | (t, .way w) =>
            let t := t.install r.slab w r.label (Src.code r.src)
            if part = 0 then
              match t.lineOf r.slab with
              | some l => (((t.hit count).writeLine r l).afterWrite r true, true)
              | none => (t, false)
            else (t.fetchFor r .fill, false)
          | (t, _) => (t, false)
    else
      match s.entryOf r.slab with
      | some _ => (((s.hit count).writeEntry r).afterWrite r false, true)
      | none =>
        if s.locked r.slab then (s, false)
        else
          let s := if 64 ≤ s.cache.merge.length && !s.cache.merge.any (·.closing) then s.closeOldest else s
          if 64 ≤ s.cache.merge.length then (s, false)
          else
            let t := (s.hit count).writeEntry r
            (t.mergeHigh.afterWrite r false, true)

/-- The SOURCE code of Table 13.4 of an engine's fetch. -/
def jobSource : Job → Nat
  | .walk => 3
  | .patrol => 4
  | .rebuild => 6
  | _ => 5

/-- A request's service. A fetch of an engine is issued once its slab is unlocked. -/
def State.serve (s : State) (r : CReq) (count : Bool) : State × Bool :=
  let t := s.checkArray 1
  match r.job with
  | some j => if t.noFetch r.slab then (t, false) else (t.startOp r.slab (.job j) (jobSource j) r.label, true)
  | none => if r.write then t.serveWrite r count else t.serveRead r count

/-! ### Ordering (R92, R94, R95) -/

/-- Two requests touch a sector in common. -/
def reqOverlap (n : Nat) (a b : CReq) : Bool := reqTouched a n &&& reqTouched b n != 0

/-- A request is served by VALID sectors of a resident line (DEDUCED in part: log entry 17). -/
def State.fullHit (s : State) (r : CReq) : Bool :=
  r.job.isNone && match s.lineOf r.slab with
  | some l =>
    minus (if r.write then minus (reqTouched r s.sectors) (reqCovered r s.sectors) else reqTouched r s.sectors) l.valid == 0
  | none => false

/-- An earlier request that has not been performed holds `r` back (DEDUCED in part: log entry 17). -/
def State.heldBy (s : State) (r e : CReq) : Bool :=
  (e.src == r.src && e.write && (r.write || r.src == .pcie)) ||
    (e.slab == r.slab && !(s.fullHit r && e.src != r.src && !reqOverlap s.sectors r e))

/-- A request served when nothing before it holds it back; it waits in the transaction table otherwise. -/
def State.serveOrWait (s : State) (r : CReq) : State :=
  let later := fun (t : State) => ({ t with cache := { t.cache with wait := t.cache.wait ++ [r] } } : State)
  if s.cache.wait.any (s.heldBy r) then later s
  else
    match s.serve r true with
    | (t, true) => t
    | (t, false) => later t

/-- The waiting requests tried again, oldest first. -/
def State.retryWait (s : State) : State :=
  s.cache.wait.foldl State.serveOrWait { s with cache := { s.cache with wait := [] } }

/-! ### The operation queue (R92) -/

/-- A queued operation still has something to do. -/
def State.opDue (s : State) (o : SlabOp) : Bool :=
  match o.kind with
  | .rmwLine => !s.noWrites && ((s.lineOf o.slab).any fun l => l.dirty != 0)
  | .rmwMerge => !s.noWrites && (s.entryOf o.slab).isSome
  | _ => true

/-- Queued operations whose slab is unlocked started while fetches may be issued, oldest first; a line or an entry that is whole by now is written without
a read (R86, R87). -/
def State.runOpq (s : State) : State :=
  s.cache.opq.foldl (fun s o =>
    if s.locked o.slab || s.fetchHeld then { s with cache := { s.cache with opq := s.cache.opq ++ [o] } }
    else if !s.opDue o then s.modEntry o.slab fun e => { e with closing := false }
    else match o.kind with
    | .rmwLine => s.writeBack o.slab
    | .rmwMerge => (s.modEntry o.slab fun e => { e with closing := false }).closeEntry o.slab
    | _ => s.issueOp o) { s with cache := { s.cache with opq := [] } }

/-- Every FENCE tried again. -/
def State.retryFences (s : State) : State :=
  (List.range 64).foldl (fun s c =>
    match (s.chan c).run with
    | some r => if r.phase == .fence then s.advance c else s
    | none => s) s

/-- What a change in the cache lets go on. -/
def State.cacheSettle (s : State) : State := ((s.runOpq.retryWait).retryFences).heldUpdate

/-! ### Ports and arbitration (R80, R240) -/

/-- The port of a source. -/
def srcPort : Src → Nat
  | .pcie => 0
  | .haul _ => 1
  | .coding _ => 2
  | _ => 3

/-- The class at which a request arbitrates; a SPILL request that has waited 2 µs counts as GUARANTEED, as does a sweep (R241). -/
def State.reqClass (s : State) (r : CReq) : Nat :=
  let k := s.classOf r.label
  if r.job.any fun j => (OpKind.job j).sweep then 1 else if k = 2 && s.regul.aged.contains r.id then 1 else k

/-- A request may not be accepted before an earlier one of its source that is still at the port. -/
def reqBehind (r e : CReq) : Bool :=
  e.id < r.id && e.src == r.src && ((e.write && (r.write || r.src == .pcie)) || e.slab == r.slab)

/-- The request that a port takes next: of the highest class, of the label served longest ago, the oldest of that label. -/
def State.portPick (s : State) (port : Nat) : Option CReq :=
  let here := s.cache.port.filter fun r => srcPort r.src == port && !s.cache.port.any (reqBehind r)
  let heads := here.filter fun r => !here.any fun e => e.label == r.label && decide (e.id < r.id)
  let best := heads.foldl (fun m r => min m (s.reqClass r)) 3
  let last := s.cache.rr.getD (3 * port + best) 63
  let dist := fun (r : CReq) => (r.label + 128 - last - 1) % 64
  (heads.filter fun r => s.reqClass r == best).foldl (fun (m : Option CReq) r =>
    match m with
    | some q => if dist r < dist q then some r else some q
    | none => some r) none

/-- An engine's fetch is in flight or queued for one of the purposes that `p` admits, or stands at the internal port or in the
transaction table. -/
def State.jobsAny (s : State) (p : Nat → Job → Bool) : Bool :=
  ((s.cache.ops ++ s.cache.opq).any fun o => match o.kind with
    | .job j => p o.slab j
    | _ => false) || (s.cache.port ++ s.cache.wait).any fun r => r.job.any (p r.slab)

/-- Entries of the transaction table in use: an engine's fetch holds its own until it has been performed. -/
def State.txnUsed (s : State) : Nat :=
  s.cache.wait.length + (s.cache.ops.filter fun o => match o.kind with
    | .job _ => true
    | _ => false).length

/-- R80: an entry of the transaction table is free to a request. Of what is in use, every class counts toward the 7,680 that an
unprivileged one may share in (DESIGN CHOICE in part: log entry 17). -/
def State.txnFree (s : State) (r : CReq) : Bool :=
  let n := s.txnUsed
  decide (n < 7680) || (decide (n < 8192) && (srcPort r.src == 3 || s.classOf r.label == 0))

/-- R173: the credits of a host request return once every request that it became has passed into the transaction table. -/
def rxPassed (rx : List RxHold) (id : Nat) : List RxHold :=
  (rx.map fun h => { h with ids := h.ids.filter (· != id) }).filter fun h => !h.ids.isEmpty

/-- A request taken into the transaction table and served, or kept waiting. -/
def State.accept (s : State) (r : CReq) : State :=
  let s := s.checkArray 3
  let s : State := { s with
    cache := { s.cache with
      port := s.cache.port.filter (·.id != r.id)
      rr := setAt s.cache.rr (3 * srcPort r.src + s.reqClass r) r.label }
    regul := { s.regul with aged := s.regul.aged.filter (· != r.id) }
    host := { s.host with rx := rxPassed s.host.rx r.id } }
  let n := s.txnUsed + 1
  let s := if s.rd R.CACHE_TXN_PEAK_COUNT < n then s.wr R.CACHE_TXN_PEAK_COUNT n else s
  (s.serveOrWait r).cacheSettle

/-- The cache and the merge buffer run. -/
def State.cacheOn (s : State) : Bool := s.live 4 && s.live 8

/-- R234: the label of a source's requests: the fixed ones of the internal masters. -/
def srcLabel (src : Src) (label : Nat) : Nat :=
  match src with
  | .scrub => 62
  | .selftest => 63
  | .mgmt => 1
  | _ => label

/-- The request that a port takes next, accepted while an entry of the table is free to it. -/
def State.acceptNext (s : State) (port : Nat) : State :=
  match s.portPick port with
  | some r => if s.txnFree r then s.accept r else s
  | none => s

/-- The requests at the internal port accepted while they can be. -/
def State.acceptInner (s : State) : State :=
  (s.cache.port.filter fun r => srcPort r.src == 3).foldl (fun s _ => s.acceptNext 3) s

/-- R80: an engine's fetch presented at the internal port. -/
def State.internalOp (s : State) (slab : Nat) (j : Job) : State :=
  let src : Src := if j = .rebuild then .selftest else .scrub
  let r : CReq := ⟨s.cache.nextId, src, srcLabel src 0, false, slab, 0, 0, [], false, some j⟩
  ({ s with cache := { s.cache with nextId := r.id + 1, port := s.cache.port ++ [r] } } : State).acceptInner

/-- A request at a port accepted: the one that its port takes next. A request of the internal port comes with the command and
joins those that wait there. -/
def State.cacheReq (s : State) (r : CReq) : State :=
  if !s.cacheOn || (srcPort r.src != 3 && !s.txnFree r) || decide (2 ^ 27 ≤ r.slab) || decide (s.slabBytes < r.off + max r.len r.data.length) then s
  else if srcPort r.src = 3 then
    let id := s.cache.nextId
    let q := { r with id := id, label := srcLabel r.src r.label, media := false, job := none }
    let s : State := { s with cache := { s.cache with nextId := id + 1, port := s.cache.port ++ [q] } }
    s.acceptInner
  else if s.portPick (srcPort r.src) = some r then (s.accept r).acceptInner
  else s

/-- CACHE_READ. -/
def execCacheRead (r : CReq) (s : State) : Host.Outcome State Fault Refusal :=
  .next (if r.write then s else s.cacheReq r)

/-- CACHE_WRITE. -/
def execCacheWrite (r : CReq) (s : State) : Host.Outcome State Fault Refusal :=
  .next (if r.write then s.cacheReq r else s)

/-- Requests accepted in order. -/
def State.acceptEach (s : State) (rs : List CReq) : State := rs.foldl State.accept s

/-- Requests at the ports accepted in order, each after the earlier ones of its source that it may not pass, while the
transaction table has room for them. -/
def State.acceptAll (s : State) (rs : List CReq) : State :=
  if s.cacheOn then rs.foldl (fun s r => if s.txnFree r && !s.cache.port.any (reqBehind r) then s.accept r else s) s else s

/-- R94, R95: the BAR2 writes at the PCIe port accepted, oldest first, each after the earlier reads of its slab. They pass into the
transaction table before the register write even where it is full: the model has no later moment for that write
(DESIGN CHOICE in part: log entry 17). -/
def State.acceptHostWrites (s : State) : State :=
  let host := s.cache.port.filter (·.src == .pcie)
  if s.cacheOn then State.acceptEach s (host.filter fun r => r.write || host.any fun w => w.write && w.slab == r.slab && decide (r.id < w.id)) else s

/-- R185 step 3: every BAR2 request at the PCIe port accepted. -/
def State.acceptHost (s : State) : State := s.acceptAll (s.cache.port.filter (·.src == .pcie))

/-- R185 step 3: every host request received before has been performed. -/
def State.hostServed (s : State) : Bool :=
  !(s.cache.port ++ s.cache.wait).any (·.src == .pcie) && s.cache.reads.isEmpty &&
    !s.host.regReads.any fun r => match r.src with
      | .host _ => true
      | _ => false

/-- R95, R255: what a register write by `src` does first: a host's follows the BAR2 writes received before it, and a host's or a
dictionary object's ends DOZE. -/
def State.inbound (s : State) (src : RegSrc) : State :=
  match src with
  | .firmware => s
  | .host _ => (if s.cache.port.isEmpty then s else s.acceptHostWrites).notIdle.dozeExit
  | .dict _ => s.dozeExit

/-! ### The merge age (R86) -/

/-- R86: an entry that has reached MERGE_AGE closes. -/
def State.mergeAge (s : State) (slab : Nat) : State :=
  match s.entryOf slab with
  | some e =>
    if s.cacheOn && decide (s.rd R.CACHE_CTRL_MERGE_AGE ≤ e.age) then (s.closeEntry slab).cacheSettle else s
  | none => s

/-- MERGE_AGE_EXPIRY. -/
def execMergeAgeExpiry (slab : Nat) (s : State) : Host.Outcome State Fault Refusal := .next (s.mergeAge slab)

/-! ### Flush and invalidate (R97 to R99) -/

/-- A slab and label lie in a scope. -/
def State.inScope (s : State) (scope label slab l : Nat) : Bool :=
  match scope with
  | 0 => true
  | 1 => l == label
  | _ => decide (s.rd R.CACHE_RANGE_BASE_SLAB ≤ slab) && decide (slab ≤ s.rd R.CACHE_RANGE_LIMIT_SLAB)

/-- R99: the operation is refused. -/
def State.flushRefused (s : State) (op scope : Nat) : Bool :=
  s.cache.flush.isSome || s.rd R.TIME_SHIFT_STATUS_STATE == 3 || s.is R.CODE_CODE_STATUS_CLEAR_BUSY || decide (2 < op) ||
    decide (2 < scope) || (scope == 2 &&
      (decide (s.rd R.CACHE_RANGE_LIMIT_SLAB < s.rd R.CACHE_RANGE_BASE_SLAB) || decide (slabCount ≤ s.rd R.CACHE_RANGE_LIMIT_SLAB)))

/-- An entry or a line discarded without being written (R97). -/
def State.discard (s : State) (slab : Nat) : State := ((s.dropLine slab).dropEntry slab).srSettle slab

/-- A line invalidated unless it holds a DIRTY sector (R98). -/
def State.dropClean (s : State) (slab : Nat) : State :=
  match s.lineOf slab with
  | some l => if l.dirty = 0 then s.dropLine slab else s
  | none => s

/-- A maintenance operation started over what matches (R97) (DEDUCED in part: log entry 17). -/
def State.flushStart (s : State) (op scope label : Nat) : State :=
  let ls := (s.cache.lines.filter fun l => s.inScope scope label l.slab l.label).map (·.slab)
  let es := (s.cache.merge.filter fun e => s.inScope scope label e.slab e.label).map (·.slab)
  let s := ((s.set R.CACHE_FLUSH_CTRL_GO).set R.CACHE_STATUS_FLUSH_BUSY).wr R.CACHE_FLUSH_COUNT_SLABS 0
  let dirty := (s.cache.lines.filter fun l => l.dirty != 0 && ls.contains l.slab).map (·.slab)
  let s : State := { s with cache := { s.cache with flush := some ⟨op, dirty, es, ls⟩ } }
  let t := if op = 2 then (ls ++ es).foldl State.discard s else ls.foldl State.writeBack (es.foldl State.closeEntry s)
  (if op = 1 then ls.foldl State.dropClean t else t).cacheSettle

/-- R97, R99: FLUSH_CTRL written with GO. Of a write whose GO is refused, OP, SCOPE and LABEL are not written either
(DESIGN CHOICE in part: log entry 17). -/
def State.flushGo (s : State) (src : RegSrc) (op scope label : Nat) : State :=
  if !s.cacheOn then s
  else if s.flushRefused op scope then (s.raise E.CACHE_FLUSH_REFUSED).refuse src R.CACHE_FLUSH_CTRL_GO.off
  else
    (((s.wr R.CACHE_FLUSH_CTRL_OP op).wr R.CACHE_FLUSH_CTRL_SCOPE scope).wr R.CACHE_FLUSH_CTRL_LABEL label).flushStart op
      scope (label % 64)

/-- FLUSH. -/
def execFlush (src : RegSrc) (scope label : Nat) (s : State) : Host.Outcome State Fault Refusal :=
  .next ((s.inbound src).flushGo src 0 scope label)

/-- FLUSH_INV. -/
def execFlushInv (src : RegSrc) (scope label : Nat) (s : State) : Host.Outcome State Fault Refusal :=
  .next ((s.inbound src).flushGo src 1 scope label)

/-- INV. -/
def execInv (src : RegSrc) (scope label : Nat) (s : State) : Host.Outcome State Fault Refusal :=
  .next ((s.inbound src).flushGo src 2 scope label)

/-- R98: what matched at GO has been handled: no read-modify-write of a matched slab runs or waits. -/
def State.flushHandled (s : State) (f : FlushOp) : Bool :=
  !(s.cache.ops ++ s.cache.opq).any fun o =>
    (o.kind == .rmwLine && f.lines.contains o.slab) || (o.kind == .rmwMerge && f.entries.contains o.slab)

/-- R98: the end of a maintenance operation; FLUSH_INV invalidates the matched lines that are clean. -/
def State.flushEnd (s : State) : State :=
  match s.cache.flush with
  | none => s
  | some f =>
    if !s.flushHandled f then s
    else
      let t := if f.op = 1 then f.matched.foldl State.dropClean s else s
      let t : State := { t with cache := { t.cache with flush := none } }
      (((t.clr R.CACHE_FLUSH_CTRL_GO).clr R.CACHE_STATUS_FLUSH_BUSY).raise E.CACHE_FLUSH_DONE).cacheSettle

/-- FLUSH_DONE. -/
def execFlushDone (s : State) : Host.Outcome State Fault Refusal := .next s.flushEnd

/-! ### The suspect-region map (R102) -/

/-- R102: RELEASE. -/
def State.srRelease (s : State) : State :=
  if !s.cacheOn then s else
  let t := s.clr R.CACHE_SRMAP_STATUS_UNFLUSHED
  (List.range 4096).foldl (fun t g =>
    if t.is R.CACHE_SRMAP_BITS [g] && !t.regionHeld g then t.clr R.CACHE_SRMAP_BITS [g] else t) t

/-- SRMAP_RELEASE. -/
def execSrmapRelease (src : RegSrc) (s : State) : Host.Outcome State Fault Refusal := .next (s.inbound src).srRelease

/-- R102: on leaving a reset with a map bit set (DEDUCED in part: log entry 31). -/
def State.srResetExit (s : State) : State :=
  if (List.range 4096).any fun g => s.is R.CACHE_SRMAP_BITS [g] then
    ((s.set R.CACHE_SRMAP_STATUS_UNFLUSHED).raise E.CACHE_UNFLUSHED).detect [45]
  else s

end Sys2Proof.Machine
end

