-- ==== Sys2Proof/Machine/ScrubCore.lean ====
section
/-! DEFINITION. The field-repair area, the admission of row repairs, and the order of a scrub slice's work (R302 to R308,
R310). -/
namespace Sys2Proof.Machine

/-! ### Field-repair records (R310, R311) -/

/-- Records a half holds. -/
def halfRoom : Nat := 2048

/-- Table 13.2: the bytes of a record that its CRC covers. -/
def FieldRec.head (r : FieldRec) : List Byte :=
  leBytes 1 r.type ++ leBytes 3 r.seq ++ leBytes 1 r.unit ++ leBytes 1 r.a ++ leBytes 3 r.b ++ leBytes 1 r.spare ++ leBytes 2 0

/-- Table 13.2: a record as it lies in the flash. -/
def FieldRec.bytes (r : FieldRec) : List Byte := r.head ++ leBytes 4 (crc32c r.head)

/-- R310: the record that 16 bytes hold: none unless their CRC checks. -/
def recordOfBytes (l : List Byte) : Option FieldRec :=
  if l.length = 16 ∧ leNat (slice l 12 4) = crc32c (l.take 12) then
    some ⟨leNat (l.take 1), leNat (slice l 1 3), leNat (slice l 4 1), leNat (slice l 5 1), leNat (slice l 6 3), leNat (slice l 9 1)⟩
  else none

/-- R310: the 16 bytes of place `i` of a half; an erased place reads 0xFF. -/
def slotBytes (half : List (List Byte)) (i : Nat) : List Byte := half.getD i (List.replicate 16 0xFF#8)

/-- The valid records of a half, oldest first. -/
def halfRecords (half : List (List Byte)) : List FieldRec := half.filterMap recordOfBytes

/-- R310: the second half is active: its first valid record has the higher SEQ. -/
def State.halfB (s : State) : Bool :=
  match halfRecords s.ras.recA, halfRecords s.ras.recB with
  | _, [] => false
  | [], _ :: _ => true
  | a :: _, b :: _ => decide (a.seq < b.seq)

/-- What has been programmed into the active half. -/
def State.activeHalf (s : State) : List (List Byte) := if s.halfB then s.ras.recB else s.ras.recA

/-- The records of the active half. -/
def State.records (s : State) : List FieldRec := halfRecords s.activeHalf

/-- R310: the live records among `l`, which `later` follow. -/
def liveRecords (later : List FieldRec) : List FieldRec → List FieldRec
  | [] => []
  | r :: rs =>
    if r.type = 1 ∨ r.type = 2 ∨ (r.type = 3 ∧ !(rs ++ later).any fun q => q.type == 4 && q.unit == r.unit) then
      r :: liveRecords later rs
    else liveRecords later rs

/-- R310: what a compaction writes: the live records, and the held ones, which all count as live. -/
def State.compacted (s : State) : List FieldRec := liveRecords s.ras.recDue s.records ++ s.ras.recDue

/-- Records given consecutive SEQs from `n` on, as bytes. -/
def renumber (n : Nat) (rs : List FieldRec) : List (List Byte) :=
  rs.zipIdx.map fun p => ({ p.1 with seq := (n + p.2) % 2 ^ 24 } : FieldRec).bytes

/-- The SEQ of the next record written. -/
def State.nextSeq (s : State) : Nat := ((s.records.getLast?.map (·.seq)).getD 0 + 1) % 2 ^ 24

/-- R307, R310: the area has room for one record, after a compaction if need be. -/
def State.recordRoom (s : State) : Bool :=
  decide (s.activeHalf.length + s.ras.recDue.length < halfRoom) || decide (s.compacted.length < halfRoom)

/-- The active half replaced. -/
def State.setHalf (s : State) (b : Bool) (rs : List (List Byte)) : State :=
  if b then { s with ras := { s.ras with recB := rs } } else { s with ras := { s.ras with recA := rs } }

/-! ### Row repair (R306 to R308) -/

/-- The lowest repair spare of a layer's bank position that no remap uses. -/
def State.freeSpare (s : State) (layer pos : Nat) : Option Nat :=
  (List.range 16).find? fun k => !s.remaps.any fun r => r.layer == layer && r.pos == pos && r.spare == k

/-- The slab of place `i` of the row-group under the planned erasure. -/
def State.plannedSlab (s : State) (i : Nat) : Nat :=
  let pos := 32 * s.rd R.CODE_PLANNED_CHANNEL + 4 * s.rd R.CODE_PLANNED_BANK_GROUP + s.rd R.CODE_PLANNED_BANK
  slabAt s.hash pos (64 * s.rd R.CODE_PLANNED_ROW_GROUP + i / 8) (i % 8)

/-- The slabs of the row under repair. -/
def State.repairSlabs (s : State) (r : Repair) : List Nat := (List.range 8).map fun k => slabAt s.hash r.pos r.row k

/-- R307: a candidate may be admitted, but for a spare. -/
def State.repairable (s : State) (w : RowWatch) : Bool :=
  let st := s.layer w.layer
  (st == 0 || st == 2) && s.protection != 3 && s.rd R.SHAFT_LINK_STATUS_STATE [w.layer / 2] == linkActive &&
    !s.is R.CODE_CODE_STATUS_CLEAR_BUSY && s.recordRoom &&
    !(s.is R.CODE_PLANNED_ACTIVE && s.rd R.CODE_PLANNED_LAYER == w.layer && s.posOf (s.plannedSlab 0) == w.pos &&
      s.rd R.CODE_PLANNED_ROW_GROUP == w.row / 64)

/-- R306: the entries at their threshold (DEDUCED in part: log entry 21). -/
def State.candidates (s : State) : List RowWatch :=
  if s.is R.RAS_RAS_CTRL_AUTO_REPAIR then s.ras.watch.filter fun w => decide (s.rd R.RAS_THRESH_ROW_THRESH ≤ w.count) else []

/-- R308 steps 1 and 2: the row's eight slabs locked and fetched. -/
def State.repairFetch (s : State) (r : Repair) : State :=
  let t : State := { s.set R.RAS_SCRUB_STATUS_REPAIR_BUSY with
    ras := { s.ras with repair := some { r with got := [], failed := false } } }
  (t.repairSlabs r).foldl (fun t slab => t.internalOp slab .repair) t

/-- R307: a candidate without a spare sets SPARES_OUT (DEDUCED in part: log entry 21). -/
def State.sparesOut (s : State) : State :=
  if s.candidates.any fun w => (s.freeSpare w.layer w.pos).isNone then (s.raise E.RAS_SPARES_OUT).detect [36] else s

/-- R307: the oldest candidate that can be repaired admitted, while no repair is in progress. -/
def State.repairAdmit (s : State) : State :=
  if s.ras.repair.isSome then s else
  match s.candidates.find? fun w => s.repairable w && (s.freeSpare w.layer w.pos).isSome with
  | some w => s.repairFetch ⟨w.layer, w.pos, w.row, (s.freeSpare w.layer w.pos).getD 0, [], false, false⟩
  | none => s

/-! ### Slices (R302, R303, R305) -/

/-- R305: the oldest report served. -/
def State.reportServe (s : State) : State :=
  match s.ras.reports with
  | [] => s
  | r :: rs =>
    let t : State := { s.wr R.RAS_REPORT_QUEUE_COUNT rs.length with ras := { s.ras with reports := rs } }
    let t := t.inc R.RAS_REPORTS_TAKEN_COUNT
    let gone := (bitsOf 18 r.layers).all fun n => t.layer n == 1
    let planned := t.is R.CODE_PLANNED_ACTIVE && t.posOf r.slab == t.posOf (t.plannedSlab 0) &&
      rowOf r.slab / 64 == t.rd R.CODE_PLANNED_ROW_GROUP
    let seen := t.protection == 3 && t.ras.ueSeen.any fun p => p.1 == r.slab && decide (tickSub t.time.now p.2 ≤ 1000)
    if gone || planned || seen then t else t.internalOp r.slab .patrol

/-- Scrub work runs (R302): not in service mode, nor while the stack is not ready for it (R336). -/
def State.scrubRuns (s : State) : Bool :=
  s.cacheOn && !s.is R.TEST_CTRL_SERVICE && !s.is R.TEST_STATUS_SERVICE_MODE && s.rd R.POWER_STATUS_STATE == 0 && s.rd R.TIME_SHIFT_STATUS_STATE != 3 && s.is R.RAS_RAS_CTRL_SCRUB_EN &&
    !s.is R.RAS_RAS_CTRL_PAUSED && !s.power.granted.contains 4

/-- One walk slab: its fetch, and the pointer on. -/
def State.walkOne (s : State) : State :=
  let p := s.rd R.RAS_SCRUB_PTR_SLAB
  let s := s.internalOp p .walk
  if p + 1 < slabCount then s.wr R.RAS_SCRUB_PTR_SLAB (p + 1)
  else ((s.wr R.RAS_SCRUB_PTR_SLAB 0).inc R.RAS_SCRUB_PASSES_COUNT).raise E.RAS_PASS_DONE

/-- The slice in progress: reports and walk slabs left to it. -/
def State.setSlice (s : State) (l : Option (Nat × Nat)) : State := { s with ras := { s.ras with slice := l } }

/-- The scrub engine is at work on a slab or on a row. -/
def State.scrubBusy (s : State) : Bool :=
  (s.jobsAny fun _ j => j == .walk || j == .patrol) || s.ras.repair.any fun r => !r.failed

/-- R302, R303: a slice goes on in its order of precedence, up to the next slab that it waits for: an admitted repair, then
reports, then the walk. A slice that is stopped ends. `k` bounds the steps. -/
def State.sliceGo : Nat → State → State
  | 0, s => s
  | k + 1, s =>
    match s.ras.slice with
    | none => s
    | some (n, w) =>
      if !s.scrubRuns then s.setSlice none
      else
        let t := s.repairAdmit
        if t.scrubBusy then t
        else if 0 < n ∧ !t.ras.reports.isEmpty then State.sliceGo k ((t.setSlice (some (n - 1, w))).reportServe)
        else if 0 < w then State.sliceGo k ((t.setSlice (some (n, w - 1))).walkOne)
        else t.setSlice none

/-- The slice in progress goes on. -/
def State.kickScrub (s : State) : State := State.sliceGo 10 s

end Sys2Proof.Machine
end

