-- ==== Sys2Proof/Machine/Fetch.lean ====
section
/-! DEFINITION. The completion of a slab fetch and what each purpose makes of it (R61, R65, R72, R73, R88 to R90, R96, R130,
R296, R304, R308, R331). -/
namespace Sys2Proof.Machine

/-! ### Write-backs that a decode owes (R90, R296) -/

/-- A decode owes a write-back: it corrected the slab, or poisoned sectors anew. -/
def Decoded.owed (d : Decoded) : Bool :=
  match d.outcome with
  | .corrected => true
  | .uncorrectable => d.fresh != 0
  | _ => false

/-- A decoded slab written, as a charge of its own. -/
def State.writeDecoded (s : State) (op : SlabOp) (d : Decoded) (flags : Nat) : State :=
  if s.noWrites then s else (s.charge op.label s.slabUnits).writeSlab op.slab d.data d.poison flags op.label op.kind.sweep

/-- The write-back that a decode owes, when it owes one. -/
def State.writeOwed (s : State) (op : SlabOp) (d : Decoded) (flags : Nat) : State :=
  if d.owed then s.writeDecoded op d flags else s

/-- The same for a read-modify-write whose line or entry has gone: its write has been charged with its fetch (R237). -/
def State.writeGone (s : State) (op : SlabOp) (d : Decoded) : State :=
  if d.owed then s.writeSlab op.slab d.data d.poison 0 op.label false else s

/-- R90: sectors poisoned anew written back at once. -/
def State.poisonBack (s : State) (op : SlabOp) (d : Decoded) : State := if d.fresh = 0 then s else s.writeDecoded op d 4

/-! ### Requests that a fetch was made for -/

/-- R84, R477: what a reader gets from a decode: DIRTY data of a resident line, and the bytes of a held entry, take
precedence. -/
def State.overlaid (s : State) (slab : Nat) (d : Decoded) : List Byte × Nat :=
  match s.lineOf slab, s.entryOf slab with
  | some l, _ => l.over d.data d.poison
  | none, some e => let o := e.over s.sectors d.data d.poison; (o.1, o.2.1)
  | none, none => (d.data, d.poison)

/-- The request that an operation was started for, performed with what the operation brought; a write is served anew. -/
def State.answer (s : State) (op : SlabOp) (data : List Byte) (poison fresh : Nat) : State :=
  match op.req with
  | none => s
  | some id =>
    match s.cache.wait.find? (·.id == id) with
    | none => s
    | some r =>
      let t : State := { s with cache := { s.cache with wait := s.cache.wait.filter (·.id != id) } }
      if r.write then
        match t.serve r false with
        | (u, true) => u
        | (u, false) => { u with cache := { u.cache with wait := r :: u.cache.wait } }
      else t.deliverRead r data poison fresh

/-! ### Sweeps (R72, R73, R130, R302, R331) -/

/-- Sweeps may run: the device is ACTIVE and block 4 of Table 11.5 has not been asked, no drain runs, and stack writes are
accepted. -/
def State.sweepsRun (s : State) : Bool :=
  s.live 8 && s.live 4 && s.rd R.POWER_STATUS_STATE == 0 && s.rd R.TIME_SHIFT_STATUS_STATE != 3 && !s.noWrites &&
    !s.is R.CODE_CODE_STATUS_CLEAR_BUSY && !s.power.granted.contains 4

/-- An engine's fetch of a slab has been asked for and has not been performed. -/
def State.jobOn (s : State) (slab : Nat) (j : Job) : Bool := s.jobsAny fun n k => n == slab && k == j

/-- The slab of place `i` of a suspect pass: rows ascending, then column slots. -/
def State.sweepSlab (s : State) (pos i : Nat) : Nat := slabAt s.hash pos (i / 8) (i % 8)

/-- The rejoin sweep's next fetch (DEDUCED in part: log entry 19). -/
def State.kickRejoin (s : State) : State :=
  match s.ras.rejoinNext with
  | some n => if n < slabCount && !s.jobOn n .rejoin then s.internalOp n .rejoin else s
  | none => s

/-- The suspect passes' next fetches, of up to four positions. -/
def State.kickSuspect (s : State) : State :=
  (s.ras.sweeps.take 4).foldl (fun s p =>
    let slab := s.sweepSlab p.1 p.2
    if p.2 < 2 ^ 21 && !s.jobOn slab .suspect then s.internalOp slab .suspect else s) s

/-- The core-sample rebuild's next fetch. -/
def State.kickRebuild (s : State) : State :=
  match s.test.mem with
  | some m =>
    let i := s.rd R.TEST_CS_PROGRESS_REBUILD_PTR
    if m.rebuilding && decide (i < 512) && !s.jobOn (s.plannedSlab i) .rebuild then s.internalOp (s.plannedSlab i) .rebuild else s
  | none => s

/-- The requests left at the internal port, then the next fetches of every sweep that may run, and of the scrub slice. A rebuild goes on in every power state and during a
drain, outside FAILED. -/
def State.kickSweeps (s : State) : State :=
  let s := s.acceptInner
  let s := if s.sweepsRun then s.kickRejoin.kickSuspect else s
  (if s.live 8 && s.live 4 && !s.noWrites then s.kickRebuild else s).kickScrub

/-! ### Row repair (R308, R309) -/

/-- REMAP_ADDR of a layer's spare (Table 05.3). -/
def remapAddrWord (layer pos spare : Nat) : Nat :=
  pos % 32 + 32 * (2 * (layer % 2) + pos / 32) + 128 * spare

/-- Step 3 of a repair whose eight slabs are fetched: the remap entry written by two register accesses. -/
def State.kickRepair (s : State) : State :=
  match s.ras.repair with
  | none => s
  | some r =>
    let b := r.layer / 2
    if r.remapped || r.failed || decide (r.got.length < 8) || s.regAsked b || s.linkState b != linkActive then s
    else s.regAccess b ⟨(R.BENCH_REMAP_ADDR_POSITION.off - 0x201000) / 4, true, remapAddrWord r.layer r.pos r.spare, .repair⟩

/-- A slab of the row under repair has been fetched. -/
def State.repairGot (s : State) (op : SlabOp) (d : Decoded) : State :=
  match s.ras.repair with
  | none => s
  | some r =>
    ({ s with ras := { s.ras with repair := some { r with got := r.got ++ [(op.slab, d.data, d.poison)] } } } : State).kickRepair

/-! ### The completion of an operation -/

/-- What a fetch's purpose makes of its decode. The operation has left the list of those in flight. -/
def State.finishOp (s : State) (op : SlabOp) (d : Decoded) : State :=
  match op.kind with
  | .fill =>
    let s := s.writeOwed op d 0
    match s.lineOf op.slab with
    | none => s.answer op d.data d.poison d.fresh
    | some l =>
      let l := { l with
        data := (l.data.zip d.data).mapIdx fun i p => if l.valid.testBit (i / 64) then p.1 else p.2
        poison := (l.poison &&& l.valid) ||| minus d.poison l.valid
        valid := s.allSectors }
      (s.setLine l).answer op l.data l.poison d.fresh
  | .stream =>
    let s := s.writeOwed op d 0
    let o := s.overlaid op.slab d
    s.answer op o.1 o.2 d.fresh
  | .rmwLine =>
    match s.lineOf op.slab with
    | none => s.writeGone op d
    | some l =>
      if s.noWrites then s.heldUpdate
      else
        let o := l.over d.data d.poison
        (((s.writeSlab op.slab o.1 o.2 0 op.label false).setLine { l with dirty := 0 }).srSettle op.slab).flushWrote op.slab false
  | .rmwMerge =>
    match s.entryOf op.slab with
    | none => s.writeGone op d
    | some e =>
      if s.noWrites then (s.modEntry op.slab fun e => { e with closing := false }).heldUpdate
      else
        let o := e.over s.sectors d.data d.poison
        ((((s.writeSlab op.slab o.1 o.2.1 0 op.label false).drops e o.2.2).dropEntry op.slab).srSettle op.slab).flushWrote op.slab true
  | .verify c off bytes =>
    let clean := match d.outcome with
      | .clean | .degraded => true
      | _ => false
    let same := (bytes.mapIdx fun i b => match b with
      | none => true
      | some v => d.data.getD (off + i) 0#8 == v && !d.poison.testBit ((off + i) / 64)).all id
    (s.writeOwed op d 0).haulVerified c op.slab off (clean && same)
  | .job .walk | .job .patrol => s.writeOwed op d 4
  | .job .rejoin =>
    let s' := s.writeDecoded op d 4
    if s.noWrites then s
    else if s'.ras.rejoinNext = some op.slab then
      { s'.wr R.CODE_REJOIN_PTR_SLAB (op.slab + 1) with ras := { s'.ras with rejoinNext := some (op.slab + 1) } }
    else s'
  | .job .suspect =>
    let t := s.writeDecoded op d 4
    if s.noWrites then s
    else
      let sw := t.ras.sweeps.map fun p => if t.sweepSlab p.1 p.2 = op.slab then (p.1, p.2 + 1) else p
      { t with ras := { t.ras with sweeps := sw } }
  | .job .rebuild =>
    -- R331 step 4: the pointer passes the slab first, so that its write reaches the layer under the planned erasure
    let i := s.rd R.TEST_CS_PROGRESS_REBUILD_PTR
    if s.noWrites then s
    else (if s.plannedSlab i = op.slab then s.wr R.TEST_CS_PROGRESS_REBUILD_PTR (i + 1) else s).writeDecoded op d 4
  | .job .repair => (s.poisonBack op d).repairGot op d

/-- R72: a portion of an error class in the row-group under a planned erasure ends the march. -/
def State.marchErasure (s : State) (op : SlabOp) (d : Decoded) : State :=
  if s.is R.CODE_PLANNED_ACTIVE && s.planned (s.rd R.CODE_PLANNED_LAYER) op.slab && !d.charged.isEmpty then s.stopMarch else s

/-- R61 to R65: the operation on a slab completes (DESIGN CHOICE in part: log entry 18). -/
def State.completeOp (s : State) (op : SlabOp) (got : List Delivery) : State :=
  let s := s.landFetch op.tag
  let op := s.linkMissing op got
  let r := (s.closeAsked op).decodeOp op got
  let s := (r.1.marchErasure op r.2).rasDecode op r.2
  let s : State := if op.kind == .job .repair then s
    else { s with cache := { s.cache with ops := s.cache.ops.filter (·.slab != op.slab) } }
  (((s.finishOp op r.2).shaftPump).cacheSettle).kickSweeps

/-- The fetch on a slab, in flight and not yet decoded. -/
def State.fetching (s : State) (slab : Nat) : Option SlabOp :=
  match s.cache.ops.find? (·.slab == slab) with
  | some op =>
    if op.kind == .job .repair && s.ras.repair.any fun r => r.got.any (·.1 == slab) then none else some op
  | none => none

/-- SLAB_FETCH_COMPLETE: the expected portions of a slab fetch whose records have been sent have arrived
(DESIGN CHOICE in part: log entry 18). -/
def execSlabFetchComplete (slab : Nat) (got : List Delivery) (s : State) : Host.Outcome State Fault Refusal :=
  .next (match s.fetching slab with
    | some op => if s.cacheOn && !s.unsent op then s.completeOp op got else s
    | none => s)

/-- R61, R297: a layer's portion of an operation MISSING; `excused` when its link is in RECOVERY or HOLD. -/
def SlabOp.lose (o : SlabOp) (layer : Nat) (excused : Bool) : SlabOp :=
  { o with
    missing := setBit o.missing layer true
    linkDown := setBit o.linkDown layer (o.linkDown.testBit layer || excused) }

/-- R61: a portion that has not arrived within 2 µs is classed MISSING; while its link is in RECOVERY or HOLD it is not charged
to the layer (R297). It is no longer asked for (R146). -/
def State.portionTimeout (s : State) (slab layer : Nat) : State :=
  let st := s.linkState (layer / 2)
  let late : SlabOp → Bool := fun o => o.slab == slab && decide (layer < s.nLayer) && !o.mapped.testBit layer
  let tags := (s.cache.ops.filter late).map (·.tag)
  let t := s.modShaft (layer / 2) fun l =>
    { l with flight := (l.flight.map fun e =>
        if !e.write && tags.contains e.tag then { e with layers := setBit e.layers (layer % 2) false } else e).filter fun e =>
          e.write || e.layers != 0 }
  let ops := t.cache.ops.map fun o => if late o then o.lose layer (st == linkRecovery || st == linkHold) else o
  { t with cache := { t.cache with ops := ops } }

/-- PORTION_TIMEOUT. -/
def execPortionTimeout (slab layer : Nat) (s : State) : Host.Outcome State Fault Refusal := .next (s.portionTimeout slab layer)

end Sys2Proof.Machine
end

