-- ==== Sys2Proof/Machine/Erasure.lean ====
section
/-! DEFINITION. Requests on the erasure map, rejoin and suspect sweeps, the stack clear, and the bank hash (R49, R71 to R75,
R130). -/
namespace Sys2Proof.Machine

/-! ### Bank hash (R49) -/

/-- R49: a write of BANK_HASH. -/
def State.bankHashWrite (s : State) (src : RegSrc) (v : Nat) : State :=
  if !s.live 8 ∨ v % 2 = s.rd R.CODE_CODE_CTRL_BANK_HASH then s
  else if s.is R.CODE_CODE_STATUS_EMPTY then s.wr R.CODE_CODE_CTRL_BANK_HASH v
  else (s.raise E.CODE_REQ_REFUSED).refuse src R.CODE_CODE_CTRL_BANK_HASH.off

/-- BANK_HASH_WRITE. -/
def execBankHashWrite (src : RegSrc) (v : Nat) (s : State) : Host.Outcome State Fault Refusal := .next ((s.inbound src).bankHashWrite src v)

/-! ### Requests on layers (Table 03.8) -/

/-- A request on a layer refused. -/
def State.layerRefused (s : State) (src : RegSrc) (n : Nat) : State :=
  (s.raise E.CODE_REQ_REFUSED).refuse src (R.CODE_LAYER_STATE_STATE.off + 4 * n)

/-- R71: REQ_LOST (DEDUCED in part: log entry 19). -/
def State.reqLost (s : State) (src : RegSrc) (n : Nat) : State :=
  if 18 ≤ n ∨ !s.live 8 then s else
  let st := s.layer n
  let after := if st = 0 then s.offline + 1 else s.offline
  if st = 3 ∨ 2 < after then s.layerRefused src n
  else ((s.loseLayer n 1).protSettle).kickSweeps

/-- REQ_LOST. -/
def execReqLost (src : RegSrc) (n : Nat) (s : State) : Host.Outcome State Fault Refusal := .next ((s.inbound src).reqLost src n)

/-- R73: a layer made REJOINING, with the sweep from slab 0. -/
def State.startRejoin (s : State) (n : Nat) : State :=
  let t := s.setLayer n 2 (s.rd R.CODE_LAYER_STATE_CAUSE [n])
  let t := (t.wr R.CODE_REJOIN_PTR_SLAB 0).set R.CODE_CODE_STATUS_REJOIN_BUSY
  (({ t with ras := { t.ras with rejoinNext := some 0 } } : State).protSettle).kickSweeps

/-- R71, R73: REQ_REJOIN. A bench's shaft counts as trained while its link is ACTIVE (DEDUCED in part: log entry 19). -/
def State.reqRejoin (s : State) (src : RegSrc) (n : Nat) : State :=
  if 18 ≤ n ∨ !s.live 8 then s
  else if s.layer n = 1 ∧ s.rd R.CODE_LAYER_STATE_CAUSE [n] ≠ 5 ∧ s.rd R.SHAFT_LINK_STATUS_STATE [n / 2] = linkActive ∧
      s.protection ≠ 3 then s.startRejoin n
  else s.layerRefused src n

/-- REQ_REJOIN. -/
def execReqRejoin (src : RegSrc) (n : Nat) (s : State) : Host.Outcome State Fault Refusal := .next ((s.inbound src).reqRejoin src n)

/-- R73: the rejoin sweep has passed the last slab. -/
def State.rejoinDone (s : State) : State :=
  if s.ras.rejoinNext = some slabCount && s.live 8 then
    let back := (List.range s.nLayer).filter fun n => s.layer n == 2
    let t := back.foldl (fun t n => (t.setLayer n 0 0).recordDue 4 n 0 0 0) s
    let t : State := { t with ras := { t.ras with rejoinNext := none } }
    let t := ((t.clr R.CODE_CODE_STATUS_REJOIN_BUSY).wr R.CODE_REJOIN_PTR_SLAB 0).raise E.CODE_REJOIN_DONE
    t.protSettle
  else s

/-- REJOIN_DONE. -/
def execRejoinDone (s : State) : Host.Outcome State Fault Refusal := .next s.rejoinDone

/-! ### Suspect marks and their sweep (R130, R132) -/

/-- The bench register that holds a layer's pending mark of a position: word 2 × upper + channel. -/
def pendIdx (layer pos : Nat) : List Nat := [layer / 2, 2 * (layer % 2) + pos / 32, pos % 32]

/-- Positions with a mark on any layer, ascending. -/
def State.markedPos (s : State) : List Nat :=
  (List.range 64).filter fun p => (List.range s.nLayer).any fun n => s.is R.CODE_SUSPECT_MARKS [n, p]

/-- A bench's CANARY_RESULT is all zero. -/
def State.pendNone (s : State) (b : Nat) : Bool :=
  !(List.range 4).any fun k => (List.range 32).any fun i => s.is R.BENCH_CANARY_RESULT_PENDING [b, k, i]

/-- A position's marks cleared on every layer, in MEMRAS and in the benches; SWEEP_DONE of a bench whose last one went. -/
def State.clearPos (s : State) (pos : Nat) : State :=
  (List.range s.nBench).foldl (fun s b =>
    let had := !s.pendNone b
    let s := (s.clr R.CODE_SUSPECT_MARKS [2 * b, pos]).clr R.CODE_SUSPECT_MARKS [2 * b + 1, pos]
    let s := if s.live (benchDom b 0) then
        (s.clr R.BENCH_CANARY_RESULT_PENDING (pendIdx (2 * b) pos)).clr R.BENCH_CANARY_RESULT_PENDING (pendIdx (2 * b + 1) pos)
      else s
    if had && s.pendNone b then s.raise E.BENCH_SWEEP_DONE [b] else s) s

/-- SUSPECT_ANY and its lantern copy follow the marks. -/
def State.suspectSettle (s : State) : State :=
  let t := s.wrB R.CODE_CODE_STATUS_SUSPECT_ANY s.suspectAny
  { t with ras := { t.ras with savedSuspect := s.suspectAny } }

/-- R130: the sweep of the positions that carry marks. -/
def State.suspectStart (s : State) : State :=
  if s.live 8 && s.is R.HOST_STATUS_STACK_READY && s.ras.sweeps.isEmpty && !s.markedPos.isEmpty then
    ({ s with ras := { s.ras with sweeps := s.markedPos.map (·, 0) } } : State).kickSweeps
  else s

/-- SUSPECT_SWEEP_START. -/
def execSuspectSweepStart (s : State) : Host.Outcome State Fault Refusal := .next s.suspectStart

/-- R130: a position's pass has ended. -/
def State.sweepDone (s : State) (pos : Nat) : State :=
  if s.live 8 && s.ras.sweeps.contains (pos, 2 ^ 21) then
    let t : State := { s with ras := { s.ras with sweeps := s.ras.sweeps.filter (·.1 != pos) } }
    ((t.clearPos pos).suspectSettle).kickSweeps
  else s

/-- SWEEP_POSITION_DONE. -/
def execSweepPositionDone (pos : Nat) (s : State) : Host.Outcome State Fault Refusal := .next (s.sweepDone pos)

/-! ### Stack clear (R74, R75) -/

/-- R75 steps 1 and 2 (DEDUCED in part: log entry 20). -/
def State.clearStart (s : State) : State :=
  let t := (s.clr R.CODE_CODE_STATUS_EMPTY).set R.CODE_CODE_STATUS_CLEAR_PENDING
  let t := (t.set R.CODE_CODE_STATUS_CLEAR_BUSY).set R.CODE_CODE_CTRL_CLEAR
  let t := (t.wr R.CODE_CLEAR_PTR_SLAB 0).clr R.CACHE_SRMAP_STATUS_UNFLUSHED
  let t : State := { t with ras := { t.ras with clearNext := some 0 } }
  let t := (List.range 4096).foldl (fun t g => if t.is R.CACHE_SRMAP_BITS [g] then t.clr R.CACHE_SRMAP_BITS [g] else t) t
  (({ t with cache := { t.cache with lines := [], merge := [] } } : State).cacheSettle).heldUpdate

/-- R74: the request is refused. -/
def State.clearRefused (s : State) : Bool :=
  let sh := s.rd R.TIME_SHIFT_STATUS_STATE
  (s.haul.chans.any fun h => h.run.isSome) || sh == 1 || sh == 2 || sh == 3 || s.is R.CODE_PLANNED_ACTIVE ||
    s.ras.rejoinNext.isSome || !s.ras.sweeps.isEmpty || s.protection == 3

/-- R75: firmware restarts a clear that a base-die reset cut off; only protection state FAILED refuses it. -/
def State.clearAgain (s : State) (src : RegSrc) : Bool :=
  src == .firmware && s.is R.CODE_CODE_STATUS_CLEAR_PENDING && !s.is R.HOST_STATUS_STACK_READY && s.protection != 3

/-- R74: CODE_CTRL.CLEAR (DEDUCED in part: log entry 20). -/
def State.stackClear (s : State) (src : RegSrc) : State :=
  if !s.cacheOn || s.is R.CODE_CODE_CTRL_CLEAR then s
  else if s.clearRefused && !s.clearAgain src then (s.raise E.CODE_REQ_REFUSED).refuse src R.CODE_CODE_CTRL_CLEAR.off
  else s.clearStart

/-- STACK_CLEAR. -/
def execStackClear (src : RegSrc) (s : State) : Host.Outcome State Fault Refusal := .next ((s.inbound src).stackClear src)

/-- The stack with the slabs from `p` to below `q` cleared (DEDUCED in part: log entry 20). -/
def State.clearedDram (s : State) (p q : Nat) : State :=
  s.addSeg ⟨false, s.nBench, mapOf s.nLayer fun n => s.layer n == 0 || s.layer n == 2, p, q,
    (s.ras.gen + 2 ^ 24 - p % 2 ^ 24) % 2 ^ 24, s.hash, s.remaps⟩

/-- R75 step 2: up to `n` slabs of a running clear written under label 63, up to the first slab that another operation holds
locked, or whose earlier write has not reached the memory layers (R92, R234, R237). -/
def State.clearRun (s : State) (n : Nat) : State :=
  match s.ras.clearNext with
  | none => s
  | some p =>
    let s := s.landBenches
    let stop := (s.cache.ops.map (·.slab) ++ s.writesWaiting).foldl (fun m k => if p ≤ k then min m k else m) slabCount
    let q := min (p + n) stop
    if q ≤ p ∨ s.noWrites then s
    else
      let t := s.clearedDram p q
      let t : State := { t with ras := { t.ras with gen := (t.ras.gen + (q - p)) % 2 ^ 24, clearNext := some q } }
      (t.charge 63 ((q - p) * t.slabUnits)).wr R.CODE_CLEAR_PTR_SLAB q

/-- R75: the slabs that a clear writes in one tick: what the rate of R286 leaves beside the other labels' traffic
(DEDUCED in part: log entry 20). -/
def State.clearRate (s : State) : Nat :=
  let other := ((List.range 63).map fun l => s.rd R.REG_LABEL_USED_UNITS [l]).sum / max 1 (tickSub s.time.now s.regul.started)
  (s.regul.nextD - other) / s.slabUnits

/-- One tick of a running clear. -/
def State.clearTick (s : State) : State :=
  if s.live 8 && s.is R.CODE_CODE_STATUS_CLEAR_BUSY then s.clearRun s.clearRate else s

/-- R75 step 4. The command stands for the end of the walk: what is left of it is written first
(DEDUCED in part: log entry 20). -/
def State.clearDone (s : State) : State :=
  let s := if s.live 8 && s.is R.CODE_CODE_STATUS_CLEAR_BUSY then s.clearRun slabCount else s
  if !(s.live 8 && s.is R.CODE_CODE_STATUS_CLEAR_BUSY) || s.ras.clearNext != some slabCount then s else
  let t : State := { s with ras := { s.ras with clearNext := none } }
  let t := ((List.range t.nLayer).foldl (fun t n => if t.layer n = 2 then t.setLayer n 0 0 else t) t).sweepCheck
  let t := (t.markedPos.foldl State.clearPos t).suspectSettle
  let t := ((t.set R.CODE_CODE_STATUS_EMPTY).clr R.CODE_CODE_STATUS_CLEAR_PENDING).clr R.CODE_CODE_STATUS_CLEAR_BUSY
  let t := (t.clr R.CODE_CODE_CTRL_CLEAR).raise E.CODE_CLEAR_DONE
  (t.protSettle).advanceAll

/-- CLEAR_DONE. -/
def execClearDone (s : State) : Host.Outcome State Fault Refusal := .next s.clearDone

end Sys2Proof.Machine
end

