-- ==== Sys2Proof/Machine/Scrub.lean ====
section
/-! DEFINITION. Scrub slices, patrol reports, row repair, the logs' clearing and the field-repair records (R302 to R311). -/
namespace Sys2Proof.Machine

/-! ### Field-repair records (R310, R311) -/

/-- R310, R311: firmware appends the oldest record that is due; a full half is compacted, held records with it, and what does
not fit is held. It waits while the management core is not running (R379) (DEDUCED in part: log entry 22). -/
def State.recordAppend (s : State) : State :=
  match s.ras.recDue with
  | [] => s
  | r :: rs =>
    if !s.fwRuns || !s.live 12 then s
    else if s.activeHalf.length < halfRoom then
      let t := s.setHalf s.halfB (s.activeHalf ++ [({ r with seq := s.nextSeq } : FieldRec).bytes])
      { t with ras := { t.ras with recDue := rs } }
    else
      let l := s.compacted
      if l.length ≤ halfRoom then
        let b := s.halfB
        let t := (s.setHalf (!b) (renumber s.nextSeq l)).setHalf b []
        { t with ras := { t.ras with recDue := [] } }
      else (s.raise E.RAS_RECORD_FULL).detect [37]

/-- R311: every record that is due appended, oldest first, while the area has room. -/
def State.recordFlush : Nat → State → State
  | 0, s => s
  | k + 1, s =>
    if s.ras.recDue.isEmpty || !(decide (s.activeHalf.length < halfRoom) || decide (s.compacted.length ≤ halfRoom)) then s
    else State.recordFlush k s.recordAppend

/-- FIELD_RECORD_APPEND. -/
def execFieldRecordAppend (s : State) : Host.Outcome State Fault Refusal := .next s.recordAppend

/-! ### Row repair (R308, R309) -/

/-- The locks of a repair released. -/
def State.repairUnlock (s : State) : State :=
  let mine : SlabOp → Bool := fun o => o.kind == .job .repair
  let asked : CReq → Bool := fun r => r.job == some .repair
  { s.clr R.RAS_SCRUB_STATUS_REPAIR_BUSY with
    ras := { s.ras with repair := none }
    cache := { s.cache with
      ops := s.cache.ops.filter fun o => !mine o, opq := s.cache.opq.filter fun o => !mine o
      port := s.cache.port.filter fun r => !asked r, wait := s.cache.wait.filter fun r => !asked r } }

/-- R308 step 5. -/
def State.repairEnd (s : State) (r : Repair) : State :=
  let t := s.repairUnlock
  let t := (t.addSat R.RAS_SPARES_USED_COUNT 1 [r.layer, r.pos]).inc R.RAS_REPAIRS_COUNT
  let t : State := { t with ras := { t.ras with
    watch := t.ras.watch.filter fun w => !(w.layer == r.layer && w.pos == r.pos && w.row == r.row) } }
  let a := r.pos / 32 + 2 * (r.pos % 32 / 4) + 16 * (r.pos % 4)
  (((t.recordDue 1 r.layer a r.row r.spare).raise E.RAS_ROW_REPAIRED).cacheSettle).kickSweeps

/-- R308 steps 4 and 5, R309: the repair of a row whose remap is written; with the layer LOST, or stack writes refused, step 4
writes nothing (DEDUCED in part: log entry 21). -/
def State.repairDone (s : State) : State :=
  match s.ras.repair with
  | none => s
  | some r =>
    if !r.remapped || !s.cacheOn then s
    else if s.layer r.layer = 1 then s.repairEnd r
    else if r.failed || decide (r.got.length < 8) || s.rd R.SHAFT_LINK_STATUS_STATE [r.layer / 2] != linkActive then s
    else
      let t := if s.noWrites then s
        else r.got.foldl (fun t g => (t.charge 62 t.slabUnits).writeSlab g.1 g.2.1 g.2.2 4 62 false) s
      t.repairEnd r

/-- ROW_REPAIR_DONE. -/
def execRowRepairDone (s : State) : Host.Outcome State Fault Refusal := .next s.repairDone

/-- R309: bench `b`'s link has left ACTIVE: a repair of one of its rows is cut off, and retried later when the remap is
written (DEDUCED in part: log entry 21). -/
def State.repairCut (s : State) (b : Nat) : State :=
  match s.ras.repair with
  | none => s
  | some r =>
    if r.layer / 2 ≠ b then s
    else if r.remapped then
      let t := s.repairUnlock
      ({ t.set R.RAS_SCRUB_STATUS_REPAIR_BUSY with ras := { t.ras with repair := some { r with failed := true, got := [] } } }
        : State).cacheSettle
    else s.repairUnlock.cacheSettle

/-- R309: a repair whose bench's link is not ACTIVE is cut off. -/
def State.repairSettle (s : State) : State :=
  match s.ras.repair with
  | some r =>
    if !r.failed && s.rd R.SHAFT_LINK_STATUS_STATE [r.layer / 2] != linkActive then s.repairCut (r.layer / 2) else s
  | none => s

/-- R309: the link is ACTIVE again: the repair starts anew from step 1. -/
def State.repairRetry (s : State) : State :=
  match s.ras.repair with
  | some r =>
    if r.failed && s.cacheOn && s.rd R.SHAFT_LINK_STATUS_STATE [r.layer / 2] == linkActive && s.layer r.layer != 1 then
      s.repairFetch r
    else s
  | none => s

/-- ROW_REPAIR_RETRY. -/
def execRowRepairRetry (s : State) : Host.Outcome State Fault Refusal := .next s.repairRetry

/-- The scrub engine's register access on bench `b` has been answered: after REMAP_ADDR it writes REMAP_DATA, and after that
the row is remapped. -/
def State.repairAnswer (s : State) (b word : Nat) : State :=
  match s.ras.repair with
  | none => s
  | some r =>
    let w0 := (R.BENCH_REMAP_ADDR_POSITION.off - 0x201000) / 4
    if r.layer / 2 ≠ b ∨ r.failed ∨ r.remapped ∨ r.got.length < 8 then s
    else if word = w0 then s.regAccess b ⟨w0 + 1, true, r.row + 2 ^ 31, .repair⟩
    else if word = w0 + 1 then { s with ras := { s.ras with repair := some { r with remapped := true } } }
    else s.kickRepair

/-! ### Patrol reports (R305) -/

/-- R305: a report queued, merged or dropped. -/
def State.reportIn (s : State) (slab layer check : Nat) : State :=
  let q := s.ras.reports
  if q.any (·.slab == slab) then
    { s with ras := { s.ras with reports := q.map fun r =>
      if r.slab == slab then { r with layers := r.layers ||| 2 ^ layer } else r } }
  else if 64 ≤ q.length then s.incSat R.RAS_REPORT_DROPS_COUNT
  else
    { s.wr R.RAS_REPORT_QUEUE_COUNT (q.length + 1) with ras := { s.ras with reports := q ++ [⟨slab, 2 ^ layer, check⟩] } }

/-! ### Slices (R302, R303) -/

/-- A kind of slice has been granted at this tick. -/
def State.sliced (s : State) (k : Nat) : Bool := s.time.sliced.contains k

/-- A kind of slice granted at this tick. -/
def State.grantSlice (s : State) (k : Nat) : State := { s with time := { s.time with sliced := k :: s.time.sliced } }

/-- R303: a scrub slice is granted: up to 8 reports and COUNT_M1 + 1 slabs of the walk (DEDUCED in part: log entry 21). -/
def State.scrubSlice (s : State) : State :=
  if s.scrubRuns && s.time.now % s.rd R.RAS_SCRUB_CTRL_INTERVAL == 0 && !s.sliced 0 then
    (((s.grantSlice 0).sparesOut).setSlice (some (8, s.rd R.RAS_SCRUB_CTRL_COUNT_M1 + 1))).kickScrub
  else s

/-- SCRUB_SLICE. -/
def execScrubSlice (s : State) : Host.Outcome State Fault Refusal := .next s.scrubSlice

/-! ### Clearing the logs (R298, R300) -/

/-- CELOG_STATUS.CLEAR: the ring is empty. -/
def State.celogClear (s : State) : State :=
  if s.live 8 then (s.wr R.RAS_CELOG_STATUS_COUNT 0).wr R.RAS_CELOG_STATUS_NEXT 0 else s

/-- CELOG_CLEAR. -/
def execCelogClear (src : RegSrc) (s : State) : Host.Outcome State Fault Refusal := .next (s.inbound src).celogClear

/-- UELOG_STATUS.CLEAR: the ring is empty. -/
def State.uelogClear (s : State) : State :=
  if s.live 8 then (s.wr R.RAS_UELOG_STATUS_COUNT 0).wr R.RAS_UELOG_STATUS_NEXT 0 else s

/-- UELOG_CLEAR. -/
def execUelogClear (src : RegSrc) (s : State) : Host.Outcome State Fault Refusal := .next (s.inbound src).uelogClear

end Sys2Proof.Machine
end

