-- ==== Sys2Proof/Machine/Repairs.lean ====
section
/-! DEFINITION. Repairs loaded from the FIELD words and the field-repair records (R134, R154, R312, R355). -/
namespace Sys2Proof.Machine

/-- R134: a remap entry put into a table, ordered so that the lowest-numbered spare of a row comes first. -/
def putRemap (r : Remap) (l : List Remap) : List Remap :=
  let k := fun (x : Remap) => (x.layer * 64 + x.pos) * 16 + x.spare
  l.filter (fun x => k x < k r) ++ r :: l.filter fun x => k r < k x

/-- A remap entry removed. -/
def dropRemap (layer pos spare : Nat) (l : List Remap) : List Remap :=
  l.filter fun x => !(x.layer == layer && x.pos == pos && x.spare == spare)

/-- R355: the check word of a FIELD word. -/
def fieldCrcGood (w : Nat) : Bool := crc16 (leBytes 6 w) == w / 2 ^ 48

/-- R355: the repair that a FIELD word holds, as a field-repair record (DEDUCED in part: log entry 22). -/
def fieldRecord (w : Nat) : Option FieldRec :=
  let t := w % 4
  if t = 1 ∧ fieldCrcGood w then
    some ⟨1, 0, field w 2 5, field w 7 6, field w 13 18, field w 31 4⟩
  else if t = 2 ∧ fieldCrcGood w then some ⟨2, 0, field w 2 5, field w 7 1, field w 13 7, 0⟩
  else none

/-- The FIELD words in force that hold a repair: of a region that fails integrity only those under an override (R352, R360). -/
def State.fieldRecords (s : State) : List FieldRec :=
  (List.range 8).filterMap fun i => fieldRecord (s.fuseWord (112 + i))

/-- The words of the REPAIR region in force. -/
def State.repairWords (s : State) : List Nat := (List.range 64).map fun i => s.fuseWord (48 + i)

/-- R352: the factory repairs as records; blank words hold none (DESIGN CHOICE in part: log entry 56). -/
def State.factoryRecords (s : State) : List FieldRec :=
  let ws := s.repairWords
  if ws.all (· == 0) then []
  else ((Config.factoryRows ws).map fun (layer, pos, row, spare) =>
      (⟨1, 0, layer % 18, pos / 32 % 2 + 2 * field pos 2 3 + 16 * (pos % 4), row % 2 ^ 18, spare % 16⟩ : FieldRec)) ++
    (Config.factoryLanes ws).map fun (b, d, lane) => ⟨2, 0, b % 9, d % 2, lane % 76, 0⟩

/-- Every repair to apply, in the order of R134 and R312: the REPAIR region, FIELD words, then flash records
(DEDUCED in part: log entry 22). -/
def State.repairRecords (s : State) : List FieldRec := s.factoryRecords ++ s.fieldRecords ++ s.records

/-- Table 13.2: the remap entry of a ROW record. -/
def FieldRec.remap (r : FieldRec) : Remap := ⟨r.unit, 32 * (r.a % 2) + 4 * field r.a 1 3 + field r.a 4 2, r.spare, r.b % 2 ^ 18⟩

/-- Bench `b`'s valid remap entries changed; REMAP_USED follows. -/
def State.setRemaps (s : State) (b : Nat) (f : List Remap → List Remap) : State :=
  let t := s.modBench b fun x => { x with remaps := f x.remaps }
  t.wr R.BENCH_REMAP_USED_COUNT (t.bench.getD b BenchSt.reset).remaps.length [b]

/-- The row repairs to apply. -/
def State.rowRecords (s : State) : List Remap := (s.repairRecords.filter (·.type == 1)).map FieldRec.remap

/-- R134: the two register writes, word and data, that make a remap entry. -/
def remapWrites (r : Remap) : List (Nat × Nat) :=
  let w0 := (R.BENCH_REMAP_ADDR_POSITION.off - 0x201000) / 4
  [(w0, remapAddrWord r.layer r.pos r.spare), (w0 + 1, r.row + 2 ^ 31)]

/-- R301: SPARES_USED follows the repairs on record; it holds 15 for 16. -/
def State.loadSpares (s : State) : State :=
  let rows := s.rowRecords.foldl (fun l r => putRemap r l) []
  (List.range s.nLayer).foldl (fun s n => (List.range 64).foldl (fun s p =>
    s.wr R.RAS_SPARES_USED_COUNT (min 15 (rows.filter fun r => r.layer == n && r.pos == p).length) [n, p]) s) s

/-- R154, R312: bench `b`'s FAILED maps loaded from the LANE records. -/
def State.loadLanes (s : State) (b : Nat) : State :=
  (s.repairRecords.filter fun r => r.type == 2 && r.unit == b && decide (r.b < 76)).foldl (fun s r =>
    s.set (if r.a % 2 = 0 then R.SHAFT_FAILED_DN_LANES else R.SHAFT_FAILED_UP_LANES) [b, r.b]) s

/-- The layers that the records hold as lost, with their causes (DEDUCED in part: log entry 22). -/
def State.lostRecords (s : State) : List (Nat × Nat) :=
  (liveRecords [] s.records).filterMap fun r => if r.type = 3 then some (r.unit, r.a) else none

/-- R66, R312: LAYER_STATE loaded at power-up from OFF. Causes are loaded without a new record
(DEDUCED in part: log entry 22). -/
def State.loadLost (s : State) : State :=
  s.lostRecords.foldl (fun s p =>
    if s.nLayer ≤ p.1 ∨ s.layer p.1 = 1 then s
    else
      let t := (s.wr R.CODE_LAYER_STATE_STATE 1 [p.1]).wr R.CODE_LAYER_STATE_CAUSE p.2 [p.1]
      let saved := if t.ras.savedLayers.length < 18 then
        t.ras.savedLayers ++ List.replicate (18 - t.ras.savedLayers.length) (0, 0) else t.ras.savedLayers
      { t with ras := { t.ras with savedLayers := setAt saved p.1 (1, p.2) } }) s

end Sys2Proof.Machine
end

