-- ==== Sys2Proof/Machine/Bench.lean ====
section
/-! DEFINITION. The benches: channel controllers, refresh, patrol, level changes and retention (Bench memory control). -/
namespace Sys2Proof.Machine

/-- Bench `b`. -/
def State.bn (s : State) (b : Nat) : BenchSt := s.bench.getD b BenchSt.reset

/-- Bench `b` is one of the part's and its core is on. -/
def State.benchOn (s : State) (b : Nat) : Bool := decide (b < s.nBench) && s.live (benchDom b 0)

/-- A channel controller: 0 A, 1 B. -/
def State.ctl (s : State) (b ch : Nat) : ChanCtl := if ch = 0 then (s.bn b).chA else (s.bn b).chB

/-- A channel controller changed. -/
def State.modCtl (s : State) (b ch : Nat) (f : ChanCtl → ChanCtl) : State :=
  s.modBench b fun x => if ch = 0 then { x with chA := f x.chA } else { x with chB := f x.chB }

/-- BENCH.STATUS follows the bench (R133). -/
def State.publishBench (s : State) (b : Nat) : State :=
  let x := s.bn b
  let on := s.live (benchDom b 0)
  let s := (s.wrB R.BENCH_STATUS_SELF_REFRESH (on && x.selfRefresh) [b]).wrB R.BENCH_STATUS_REFRESH_2X (on && x.twice) [b]
  (s.wrB R.BENCH_STATUS_LOCAL_TEMP (on && x.est.isNone) [b]).wrB R.BENCH_STATUS_TR_WARMUP (on && x.warm) [b]

/-! ### Refresh temperature (R115) -/

/-- The refresh rate that the temperatures call for. -/
def BenchSt.doubled (x : BenchSt) : Bool :=
  let own := [x.diode.1, x.diode.2].filterMap id
  let all := own ++ match x.est with
    | some (a, b) => [a, b]
    | none => []
  let hi := if x.est.isSome then degC 85 else degC 80
  let lo := if x.est.isSome then degC 82 else degC 77
  match all.max? with
  | none => true
  | some t => if hi < t then true else if t < lo then false else x.twice

/-- The rate brought up to date, with REFRESH_2X_CHANGE. -/
def State.refreshRate (s : State) (b : Nat) : State :=
  if !s.benchOn b then s else
  let new := (s.bn b).doubled
  let t := if new == (s.bn b).twice then s
    else (s.modBench b fun x => { x with twice := new }).raise E.BENCH_REFRESH_2X_CHANGE [b]
  t.publishBench b

/-- No model estimate has arrived for 100 µs. -/
def State.estimateLost (s : State) (b : Nat) : State :=
  if s.benchOn b then (s.modBench b fun x => { x with est := none }).refreshRate b else s

/-- TEMP_ESTIMATE_TIMEOUT. -/
def execTempEstimateTimeout (b : Nat) (s : State) : Host.Outcome State Fault Refusal := .next (s.estimateLost b)

/-- R118: the targeted-refresh warm-up ends. -/
def State.warmupEnd (s : State) (b : Nat) : State :=
  if s.benchOn b then (s.modBench b fun x => { x with warm := false }).publishBench b else s

/-- TR_WARMUP_END. -/
def execTrWarmupEnd (b : Nat) (s : State) : Host.Outcome State Fault Refusal := .next (s.warmupEnd b)

/-- R135: a value of objects 0x1611:01 to 07 written to bench `b`. -/
def State.putBenchCfg (s : State) (b k v : Nat) : State :=
  match k with
  | 0 => s.wr R.BENCH_PAGE_CTRL_IDLE v [b]
  | 1 => s.wr R.BENCH_PAGE_CTRL_HIT_CAP v [b]
  | 2 => s.wr R.BENCH_TR_CTRL_THRESH v [b]
  | 3 => s.wr R.BENCH_PATROL_CTRL_EN v [b]
  | 4 => s.wr R.BENCH_PATROL_CTRL_INTERVAL v [b]
  | 5 => s.wr R.BENCH_PATROL_CTRL_COUNT_M1 (v - 1) [b]
  | _ => s.wr R.BENCH_CANARY_CTRL_TOL v [b]

/-- R135: the bench objects applied to bench `b`. -/
def State.applyBenchCfg (s : State) (b : Nat) : State :=
  s.dict.benchCfg.zipIdx.foldl (fun s p => s.putBenchCfg b p.2 p.1) s

/-- R164: the saved link settings applied to bench `b`'s link at its power-up. -/
def State.applyShaftCfg (s : State) (b : Nat) : State :=
  let v := fun k => s.dict.shaftCfg.getD k 0
  let s := ((s.wr R.SHAFT_TRAIN_CFG_CHECK_LEN (v 0) [b]).wr R.SHAFT_TRAIN_CFG_PRBS_LIMIT (v 1) [b]).wr
    R.SHAFT_TRAIN_CFG_MIN_EYE (v 2) [b]
  (s.wr R.SHAFT_TRAIN_CFG_RECOVERY_LIMIT (v 3) [b]).wr R.SHAFT_TRAIN_CFG_AUTO_RECOVER (v 4) [b]

/-- R164, R266: domains switched on; a shaft link that is powered up takes the saved settings. -/
def State.powerUp (s : State) (ds : List Nat) : State :=
  let links := (List.range s.nBench).filter fun b => ds.contains (13 + b) && !s.live (13 + b)
  links.foldl State.applyShaftCfg (s.onUpTo ds)

/-- The words of bench `b` that the objects of R135 configure, as the objects have them. -/
def State.benchCfgWords (s : State) (b : Nat) : List (Nat × Nat) :=
  let u := s.applyBenchCfg b
  [0x1000, 0x1004, 0x1010].map fun o => ((o - 0x1000) / 4, u.readRaw (0x200000 + 0x10000 * b + o))

/-- R134, R135, R312: firmware loads bench `b`'s settings and its remap table once its link is in service: after each power-up of
its core, and at an exit from REST (DEDUCED in part: log entry 13). -/
def State.loadBench (s : State) (b : Nat) : State :=
  if (s.bn b).tabled then s else
  let rows := s.rowRecords.filter fun r => r.layer / 2 == b
  (s.benchCfgWords b ++ rows.flatMap remapWrites).foldl (fun t p => t.regAccess b ⟨p.1, true, p.2, .load⟩)
    (s.modBench b fun x => { x with tabled := true })

/-- R135: the bench objects written to bench `b`: the words that its core holds over the shaft (R141), PATROL_CTRL here. -/
def State.putBenchObj (s : State) (b k v : Nat) : State :=
  if k = 3 ∨ k = 4 ∨ k = 5 then s.putBenchCfg b k v
  else if s.linkState b = linkActive ∨ s.linkState b = linkRecovery then
    match (s.benchCfgWords b)[if k < 2 then 0 else if k = 2 then 1 else 2]? with
    | some p => s.regAccess b ⟨p.1, true, p.2, .write⟩
    | none => s
  else s

/-- A bench core at its power-up: its layers in self-refresh, its diodes alone and the warm-up running (R108, R115, R118), and
with the saved settings (R135). -/
def State.coreUp (s : State) (b : Nat) : State :=
  ((s.modBench b fun x => { x with warm := true }).applyBenchCfg b).publishBench b

/-- Domains switched on, with what each link and each bench core among them does at its power-up. -/
def State.benchesUp (s : State) (ds : List Nat) : State :=
  let cold := (List.range s.nBench).filter fun b => ds.contains (benchDom b 0) && !s.live (benchDom b 0)
  cold.foldl State.coreUp (s.powerUp ds)

/-- Bench `b`'s domains switched on. -/
def State.benchPowerUp (s : State) (b : Nat) : State := s.benchesUp ((benchDoms b).filter s.mayBeOn)

/-! ### Portion requests (R109 to R113) -/

/-- The bank of a request in its channel, 4 × bank group + bank. -/
def BReq.bank (r : BReq) : Nat := posOfLoc r.loc % 32

/-- Layers of bench `b` that a request commands (R110). -/
def State.reqLayers (s : State) (b : Nat) (r : BReq) : List Nat := s.cmdLayers b r.layers (locOf s.hash r.loc)

/-- R109: what a read returns: a data frame for each layer that it commands. -/
def State.readItems (s : State) (b : Nat) (r : BReq) : List Item :=
  (s.reqLayers b r).map fun n => dataItem (0x13 + (n - 2 * b)) r.tag (s.readPortion n (locOf s.hash r.loc))

/-- A write performed at the memory layers: it is no longer on its way. -/
def State.performWrite (s : State) (b : Nat) (r : BReq) : State :=
  (s.putPortions b r.layers (locOf s.hash r.loc) r.lower r.upper).modShaft b fun l =>
    { l with flight := dropFirst (fun e => e.write && e.tag == r.tag) l.flight }

/-- A request performed at the memory layers. A read's data frames join those that are ready to go up. -/
def State.performReq (s : State) (b : Nat) (r : BReq) : State :=
  if r.write then s.performWrite b r
  else
    let t := s.modShaft b fun l =>
      { l with flight := modFirst (fun e => !e.write && e.tag == r.tag) (fun e => { e with left := true }) l.flight }
    t.sendItems b false (s.readItems b r)

/-- R138: the bench's transmit queue has room for both portions of a read. -/
def State.upRoom (s : State) (b : Nat) : Bool := decide ((s.link b).upQueue + 2 ≤ 64)

/-- R145: a request leaves its queue: its credit is returned. -/
def State.leaveQueue (s : State) (b ch : Nat) (r : BReq) : State := s.freeEntries b ch r.write 1

/-- The targeted-refresh threshold in force (R117, R118). -/
def State.trThresh (s : State) (b : Nat) : Nat :=
  let t := s.rd R.BENCH_TR_CTRL_THRESH [b]
  if (s.bn b).warm then t / 2 else t

/-- The activation counter of a row-group. -/
def ChanCtl.act (c : ChanCtl) (bank group : Nat) : Nat :=
  ((c.acts.find? fun a => a.1 == bank && a.2.1 == group).map (·.2.2)).getD 0

/-- An activation counter set. -/
def ChanCtl.setAct (c : ChanCtl) (bank group n : Nat) : ChanCtl :=
  let rest := c.acts.filter fun a => !(a.1 == bank && a.2.1 == group)
  { c with acts := if n = 0 then rest else rest ++ [(bank, group, n)] }

/-- R117: the rows that a task covers. -/
def trRows (group : Nat) : Nat := min 262143 (64 * group + 65) + 1 - (64 * group - 2)

/-- A targeted-refresh task queued, and its counter reset. -/
def State.queueTask (s : State) (b ch bank group : Nat) : State :=
  (s.modCtl b ch fun c =>
    { c.setAct bank group 0 with tasks := c.tasks ++ [⟨bank, group, trRows group, false⟩] }).inc R.BENCH_TR_COUNT_COUNT [b]

/-- Tasks queued for counters that reached the threshold while the queue was full. -/
def State.fillTasks (s : State) (b ch : Nat) : State :=
  (s.ctl b ch).acts.foldl (fun s a =>
    if s.trThresh b ≤ a.2.2 ∧ (s.ctl b ch).tasks.length < 8 then s.queueTask b ch a.1 a.2.1 else s) s

/-- An activate counted. -/
def State.countAct (s : State) (b ch bank row : Nat) : State :=
  let n := min 4095 ((s.ctl b ch).act bank (row / 64) + 1)
  let t := s.modCtl b ch fun c => c.setAct bank (row / 64) n
  if s.trThresh b ≤ n ∧ (t.ctl b ch).tasks.length < 8 then t.queueTask b ch bank (row / 64) else t

/-- R117: `n` activates of one row-group counted, with the tasks that they call for while there is room. -/
def State.countActs (s : State) (b ch bank group n : Nat) : State :=
  let c := (s.ctl b ch).act bank group + n
  let th := max 1 (s.trThresh b)
  let k := min (c / th) (8 - (s.ctl b ch).tasks.length)
  let t := (List.range k).foldl (fun s _ => s.queueTask b ch bank group) s
  t.modCtl b ch fun x => x.setAct bank group (min 4095 (c - k * th))

/-- What a controller may do for a request at its command slot. -/
inductive Cmd where
  | precharge | activate | column
deriving DecidableEq, Repr

/-- The command that a request needs next (R112). -/
def State.nextCmd (s : State) (b : Nat) (c : ChanCtl) (r : BReq) : Cmd :=
  match c.openRow.getD r.bank none with
  | none => .activate
  | some row =>
    let cap := s.rd R.BENCH_PAGE_CTRL_HIT_CAP [b]
    let other := (c.reads ++ c.writes).any fun q => q.bank == r.bank && rowOf q.loc != row
    if row ≠ rowOf r.loc then .precharge
    else if cap ≠ 0 ∧ other ∧ cap ≤ c.hits.getD r.bank 0 then .precharge
    else .column

/-- Whether a request's next command may be issued now: tokens (R113), room for a read's portions (R138) and the
targeted-refresh queue (R117). -/
def State.cmdAllowed (s : State) (b ch : Nat) (c : ChanCtl) (r : BReq) : Bool :=
  match s.nextCmd b c r with
  | .precharge => true
  | .activate => decide (0 < (s.bn b).tokens) && decide (c.act r.bank (rowOf r.loc / 64) < s.trThresh b)
  | .column => decide (0 < (s.bn b).tokens) && (r.write || s.upRoom b) && decide (ch < 2)

/-- No earlier request to the same location is queued. -/
def ChanCtl.inOrder (c : ChanCtl) (r : BReq) : Bool :=
  (c.reads ++ c.writes).all fun q => q.loc != r.loc || decide (r.ord ≤ q.ord)

/-- R111: the batch in hand (DESIGN CHOICE in part: log entry 57). -/
def ChanCtl.batch (c : ChanCtl) : Bool :=
  let reads := c.reads.any c.inOrder
  if c.writing then decide (16 < c.writes.length) || (!reads && !c.writes.isEmpty)
  else decide (48 ≤ c.writes.length) || (!reads && !c.writes.isEmpty)

/-- R111 rules 2 to 5: a request's place in the order, smaller first. -/
def State.rank (s : State) (b : Nat) (c : ChanCtl) (r : BReq) : List Nat :=
  if r.since < s.time.now then [0, r.ord]
  else [1, r.cls, (match s.nextCmd b c r with | .column => 0 | _ => 1), r.ord]

/-- A list comes before another (DESIGN CHOICE in part: log entry 10). -/
def ranked : List Nat → List Nat → Bool
  | [], _ => true
  | _ :: _, [] => false
  | x :: xs, y :: ys => decide (x < y) || (x == y && ranked xs ys)

/-- The first of a list of requests by rank. -/
def State.pick (s : State) (b : Nat) (c : ChanCtl) (l : List BReq) : Option BReq :=
  l.foldl (fun m r => match m with
    | none => some r
    | some q => if ranked (s.rank b c q) (s.rank b c r) then some q else some r) none

/-- A token spent. -/
def State.spend (s : State) (b : Nat) : State :=
  if (s.bn b).tokens = 0x3FFFF then s else s.modBench b fun x => { x with tokens := x.tokens - 1 }

/-- A bank precharged. -/
def State.closeBank (s : State) (b ch bank : Nat) : State :=
  s.modCtl b ch fun c => { c with openRow := setAt c.openRow bank none, hits := setAt c.hits bank 0 }

/-- The next command of a request issued (DESIGN CHOICE in part: log entry 57). -/
def State.issueReq (s : State) (b ch : Nat) (r : BReq) : State :=
  match s.nextCmd b (s.ctl b ch) r with
  | .precharge => s.closeBank b ch r.bank
  | .activate =>
    let t := (s.spend b).modCtl b ch fun c => { c with openRow := setAt c.openRow r.bank (some (rowOf r.loc)) }
    t.countAct b ch r.bank (rowOf r.loc)
  | .column =>
    let t := ((s.spend b).modCtl b ch fun c =>
      { c with
        reads := c.reads.filter (·.ord != r.ord)
        writes := c.writes.filter (·.ord != r.ord)
        hits := if (c.reads ++ c.writes).any fun q => q.bank == r.bank && rowOf q.loc != rowOf r.loc then
            modAt (· + 1) c.hits r.bank else setAt c.hits r.bank 0 }).leaveQueue b ch r
    let t := t.performReq b r
    if t.rd R.BENCH_PAGE_CTRL_IDLE [b] = 0 then t.closeBank b ch r.bank else t

/-- A bank refreshed, or precharged first. -/
def State.issueRefresh (s : State) (b ch bank : Nat) : State :=
  if ((s.ctl b ch).openRow.getD bank none).isSome then s.closeBank b ch bank
  else s.modCtl b ch fun c => { c with debt := modAt (· - 1) c.debt bank }

/-- One row of the first targeted-refresh task that `p` admits, or the precharge before it. -/
def State.issueTask (s : State) (b ch : Nat) (k : TrTask) : State :=
  if ((s.ctl b ch).openRow.getD k.bank none).isSome then s.closeBank b ch k.bank
  else
    let same : TrTask → Bool := fun x => x.bank == k.bank && x.group == k.group
    let t := s.modCtl b ch fun c =>
      { c with tasks := if k.left ≤ 1 then dropFirst same c.tasks
          else modFirst same (fun x => { x with left := x.left - 1 }) c.tasks }
    t.fillTasks b ch

/-- No request of a bank is queued. -/
def ChanCtl.bankIdle (c : ChanCtl) (bank : Nat) : Bool := (c.reads ++ c.writes).all (·.bank != bank)

/-- R111: a command slot of a channel controller. Tasks that a lowered threshold calls for are queued first (R117)
(DESIGN CHOICE in part: log entry 57). -/
def State.benchIssue (s : State) (b ch : Nat) : State :=
  let x := s.bn b
  if !s.benchOn b || !s.live (benchDom b (1 + ch)) || x.selfRefresh || x.paused.isSome || decide (2 ≤ ch) then s else
  let s := s.fillTasks b ch
  let c := s.ctl b ch
  match (List.range 32).find? fun k => decide (8 ≤ c.debt.getD k 0) with
  | some k => s.issueRefresh b ch k
  | none =>
  match c.tasks.find? (·.aged) with
  | some k => s.issueTask b ch k
  | none =>
  let w := c.batch
  let s := s.modCtl b ch fun c => { c with writing := w }
  let due := (if w then c.writes else c.reads).filter c.inOrder
  let full := due.any fun r =>
    decide (s.trThresh b ≤ c.act r.bank (rowOf r.loc / 64)) && decide (s.nextCmd b c r = Cmd.activate)
  let s := if full then (s.raise E.BENCH_TR_FULL [b]).detect [47] else s
  match s.pick b c (due.filter fun r => s.cmdAllowed b ch c r) with
  | some r => s.issueReq b ch r
  | none =>
  match (List.range 32).find? fun k => decide (0 < c.debt.getD k 0) && c.bankIdle k with
  | some k => s.issueRefresh b ch k
  | none =>
  match c.tasks.find? fun k => c.bankIdle k.bank with
  | some k => s.issueTask b ch k
  | none => s

/-! ### Draining (R123, R126, R161) -/

/-- The commands that a request still needs, issued while they may be; `force`: whatever tokens and targeted refresh allow. -/
def State.drainReq (b ch : Nat) (force : Bool) (r : BReq) : Nat → State → State
  | 0, s => s
  | n + 1, s =>
    let c := s.ctl b ch
    let may := if force then r.write || s.upRoom b || decide (s.nextCmd b c r ≠ Cmd.column) else s.cmdAllowed b ch c r
    if (c.reads ++ c.writes).any (·.ord == r.ord) && c.inOrder r && may then State.drainReq b ch force r n (s.issueReq b ch r)
    else s

/-- The accepted requests of a channel performed in order of arrival, as far as they may be. -/
def State.drainChan (s : State) (b ch : Nat) (force : Bool) : State :=
  let c := s.ctl b ch
  ((c.reads ++ c.writes).mergeSort fun x y => decide (x.ord ≤ y.ord)).foldl (fun s r => State.drainReq b ch force r 3 s) s

/-- No accepted request is left at bench `b`. -/
def State.drained (s : State) (b : Nat) : Bool :=
  let x := s.bn b
  x.chA.reads.isEmpty && x.chA.writes.isEmpty && x.chB.reads.isEmpty && x.chB.writes.isEmpty

/-- Every bank of a channel precharged. -/
def ChanCtl.precharged (c : ChanCtl) : ChanCtl :=
  { c with writing := false, openRow := List.replicate 32 none, hits := List.replicate 32 0 }

/-- The banks are precharged, and what the bench drained for follows: self-refresh with READY 1 or 3, or the canary writing. -/
def State.drainEnd (s : State) (b : Nat) : State :=
  let s' := s.modBench b fun x => { x with drain := none, chA := x.chA.precharged, chB := x.chB.precharged }
  match (s.bn b).drain with
  | none => s'
  | some .hold => ((s'.modBench b fun x => { x with selfRefresh := true }).sendUp b 0x43 ⟨0, 1, [], []⟩).publishBench b
  | some (.pause l) =>
    ((s'.modBench b fun x => { x with paused := some l, selfRefresh := true }).sendUp b 0x43 ⟨0, 3, [], []⟩).publishBench b
  | some .retain =>
    s'.modBench b fun x => { x with retaining := true, chA := { x.chA with tasks := [] }, chB := { x.chB with tasks := [] } }

/-- A bench that drains goes on, within the tokens of the tick (R113). -/
def State.drainGo (s : State) (b : Nat) : State :=
  if (s.bn b).drain.isNone then s else
  let t := (s.drainChan b 0 false).drainChan b 1 false
  if t.drained b then t.drainEnd b else t

/-- A bench starts to drain. Writes that were sent to it before have arrived (DESIGN CHOICE in part: log entry 18). -/
def State.drainFor (s : State) (b : Nat) (k : Drain) : State :=
  ((s.landAll b).modBench b fun x => { x with drain := some k }).drainGo b

/-- R161 step 1: partial frames, and writes whose data or side bytes are not complete, discarded; their entries are free again
(DEDUCED in part: log entry 24). -/
def State.dropPartial (s : State) (b : Nat) : State :=
  let rs := (s.link b).records
  let s := s.modShaft b fun l =>
    { l with
      records := []
      flight := l.flight.filter fun e => !(e.write && rs.any (·.tag == e.tag))
      down := { l.down with held := [] } }
  rs.foldl (fun s r => s.freeEntries b (field r.loc 3 1) true 1) s

/-- R161: every accepted request performed in order of arrival at a loss of frame lock, which no token can end, and all banks
precharged; what the bench drained for follows. Reads for which the transmit queue has no room stay (R138)
(DEDUCED in part: log entry 24). -/
def State.completeAccepted (s : State) (b : Nat) : State :=
  ((((s.landAll b).drainChan b 0 true).drainChan b 1 true).dropPartial b).drainEnd b

/-- BENCH_COMMAND_ISSUE. -/
def execBenchCommandIssue (b ch : Nat) (s : State) : Host.Outcome State Fault Refusal :=
  .next (((if s.benchOn b then s.checkArray (8 + b) else s).benchIssue b ch).drainGo b)

/-! ### Refresh (R114, R116) and page policy (R112) -/

/-- R114, R116: a bank's refresh falls due. In self-refresh the layers refresh themselves, but for a level-change pause. -/
def State.bankRefresh (s : State) (b ch bank : Nat) : State :=
  let x := s.bn b
  if !s.benchOn b || decide (2 ≤ ch) || decide (32 ≤ bank) || (x.selfRefresh && x.paused.isNone) then s else
  let t := s.modCtl b ch fun c => { c with debt := modAt (· + 1) c.debt bank }
  let d := (t.ctl b ch).debt.getD bank 0
  let t := t.wr R.BENCH_REFRESH_PEAK_DEBT (max (t.rd R.BENCH_REFRESH_PEAK_DEBT [b]) (min 15 d.toNat)) [b]
  if d = 8 then (t.raise E.BENCH_DEBT_FORCED [b]).detect [46] else t

/-- BANK_REFRESH. -/
def execBankRefresh (b ch bank : Nat) (s : State) : Host.Outcome State Fault Refusal := .next (s.bankRefresh b ch bank)

/-- PAGE_IDLE_CLOSE (DESIGN CHOICE in part: log entry 10). -/
def execPageIdleClose (b ch bank : Nat) (s : State) : Host.Outcome State Fault Refusal :=
  .next (if s.benchOn b && decide (ch < 2) then s.closeBank b ch bank else s)

/-- R117: the oldest task of a bank reaches 8 µs of age (DESIGN CHOICE in part: log entry 10). -/
def State.taskAged (s : State) (b ch bank : Nat) : State :=
  if s.benchOn b && decide (ch < 2) then
    s.modCtl b ch fun c => { c with tasks := modFirst (fun k => k.bank == bank && !k.aged) (fun k => { k with aged := true }) c.tasks }
  else s

/-- TR_TASK_AGED. -/
def execTrTaskAged (b ch bank : Nat) (s : State) : Host.Outcome State Fault Refusal := .next (s.taskAged b ch bank)

/-- R117: a bank's 32 ms refresh window is complete (DESIGN CHOICE in part: log entry 10). -/
def State.windowReset (s : State) (b ch bank : Nat) : State :=
  if s.benchOn b && decide (ch < 2) then s.modCtl b ch fun c => { c with acts := c.acts.filter (·.1 != bank) } else s

/-- TR_WINDOW_RESET. -/
def execTrWindowReset (b ch bank : Nat) (s : State) : Host.Outcome State Fault Refusal := .next (s.windowReset b ch bank)

/-! ### Patrol (R119 to R122) -/

/-- R120, R302, Table 11.3: patrol slices may be granted. -/
def State.patrolGrants (s : State) : Bool :=
  s.live 3 && s.rd R.POWER_STATUS_STATE == 0 && s.power.seq == .idle && !s.is R.TEST_STATUS_SERVICE_MODE

/-- R120: PATROL_RUNNING follows the enable and the grants. -/
def State.patrolStatus (s : State) : State :=
  (List.range s.nBench).foldl (fun s b =>
    s.wrB R.BENCH_STATUS_PATROL_RUNNING (s.patrolGrants && s.is R.BENCH_PATROL_CTRL_EN [b] && s.linkState b == linkActive) [b]) s

/-- R120: the slices of a tick granted. -/
def State.patrolSlice (s : State) : State :=
  if !s.patrolGrants || s.sliced 1 then s else
  (List.range s.nBench).foldl (fun s b =>
    if s.is R.BENCH_PATROL_CTRL_EN [b] && s.time.now % s.rd R.BENCH_PATROL_CTRL_INTERVAL [b] == 0 then
      s.sendDown b 0x32 ⟨0, s.rd R.BENCH_PATROL_CTRL_COUNT_M1 [b], [], []⟩
    else s) ((s.grantSlice 1).patrolStatus)

/-- PATROL_SLICE. -/
def execPatrolSlice (s : State) : Host.Outcome State Fault Refusal := .next s.patrolSlice

/-- R119: the check that a portion fails: 1 CRC, 2 ACHK, 3 ROLE. -/
def patrolCheck (nb layer slab : Nat) (p : List Byte) : Option Nat :=
  match classify nb layer slab false (some p) with
  | .crc => some 1
  | .achk => some 2
  | .role => some 3
  | _ => none

/-- R119, R121: the portion of a layer is patrolled. -/
def State.patrolled (s : State) (layer slab : Nat) : Bool :=
  (s.layer layer == 0 || s.layer layer == 2) && !s.planned layer slab &&
    !s.is R.BENCH_CANARY_RESULT_PENDING (pendIdx layer (s.posOf slab))

/-- R122: up to `n` reports sent, while frames can leave. -/
def State.reportsUp (b : Nat) : Nat → State → State
  | 0, s => s
  | n + 1, s =>
    match (s.bn b).reports with
    | [] => s
    | (slab, up, check) :: rs =>
      if s.canSend b false then
        let t := s.modBench b fun x => { x with reports := rs, patrolSent := (x.patrolSent + 1) % 2 ^ 32 }
        State.reportsUp b n (t.sendUp b 0x38 ⟨slab % 65536, slab / 65536 + 2048 * b2n up + 4096 * check, [], []⟩)
      else s

/-- R122: the unsent reports sent, as far as frames can leave. -/
def State.patrolSend (s : State) (b : Nat) : State := State.reportsUp b 32 s

/-- R122: a failing portion reported, or dropped. -/
def State.patrolReport (s : State) (b layer slab check : Nat) : State :=
  if 32 ≤ (s.bn b).reports.length then
    (s.modBench b fun x => { x with patrolDrops := min (2 ^ 32 - 1) (x.patrolDrops + 1) }).raise E.BENCH_PATROL_DROP [b]
  else
    (s.modBench b fun x => { x with reports := x.reports ++ [(slab, layer % 2 == 1, check)] }).patrolSend b

/-- R119 to R122: the patrol read of one slab location: an activate and a column command, under the tokens of the tick (R113).
A read is made only in a bank with no queued request; during a level-change pause nothing is read, and with EN at 0 the
pointer stays. While no task can be queued for the row-group's counter, its activate waits (R117). -/
def State.patrolDone (s : State) (b : Nat) (got : List Delivery) : State :=
  let x := s.bn b
  let slab := x.patrolPtr
  let pos := s.posOf slab
  let layers := if x.paused.isSome then [] else [2 * b, 2 * b + 1].filter fun n => s.patrolled n slab
  let s := if s.benchOn b then s.fillTasks b (pos / 32) else s
  let full := !layers.isEmpty && decide (s.trThresh b ≤ (s.ctl b (pos / 32)).act (pos % 32) (rowOf slab / 64))
  if !s.benchOn b || !s.is R.BENCH_PATROL_CTRL_EN [b] || x.patrolLeft == 0 || x.selfRefresh && x.paused.isNone ||
      (x.paused.isNone && !(s.ctl b (pos / 32)).bankIdle (pos % 32)) || (!layers.isEmpty && decide (x.tokens < 2)) then s
  else if full then (s.raise E.BENCH_TR_FULL [b]).detect [47]
  else
    let s := s.landAll b
    let s := if layers.isEmpty then s else ((s.spend b).spend b).countAct b (pos / 32) (pos % 32) (rowOf slab)
    let s := layers.foldl (fun s n =>
      let p := match got.find? fun d => d.layer == n with
        | some d => d.bytes.getD []
        | none => s.readPortion n slab
      match patrolCheck s.nBench n slab p with
      | some k => s.patrolReport b n slab k
      | none => s) s
    s.modBench b fun x =>
      { x with
        patrolLeft := x.patrolLeft - 1
        patrolPtr := (slab + 1) % slabCount
        patrolPasses := if slab + 1 = slabCount then (x.patrolPasses + 1) % 2 ^ 32 else x.patrolPasses }

/-- PATROL_READ_DONE. -/
def execPatrolReadDone (b : Nat) (got : List Delivery) (s : State) : Host.Outcome State Fault Refusal :=
  .next (s.patrolDone b got)

/-- R120: the base die's copies of the patrol's values. -/
def State.patrolCopies (s : State) : State :=
  (List.range s.nBench).foldl (fun s b =>
    if s.is R.BENCH_STATUS_LINK_UP [b] then
      let x := s.bn b
      let s := (s.wr R.BENCH_PATROL_PTR_SLAB x.patrolPtr [b]).wr R.BENCH_PATROL_PASSES_COUNT x.patrolPasses [b]
      (s.wr R.BENCH_PATROL_REPORTS_COUNT x.patrolSent [b]).wr R.BENCH_PATROL_DROPS_COUNT x.patrolDrops [b]
    else s) s

/-! ### Remap table (R134) -/

/-- The entry that REMAP_ADDR selects: layer, bank position and spare. -/
def State.remapSel (s : State) (b : Nat) : Nat × Nat × Nat :=
  let k := s.rd R.BENCH_REMAP_ADDR_K [b]
  (2 * b + k / 2, 32 * (k % 2) + s.rd R.BENCH_REMAP_ADDR_POSITION [b], s.rd R.BENCH_REMAP_ADDR_SPARE [b])

/-- REMAP_DATA written at the bench. -/
def State.remapSet (s : State) (b data : Nat) : State :=
  let e := s.remapSel b
  let new : Remap := ⟨e.1, e.2.1, e.2.2, data % 2 ^ 18⟩
  let s := s.setRemaps b fun l => if data.testBit 31 then putRemap new l else dropRemap e.1 e.2.1 e.2.2 l
  let s := s.modBench b fun x =>
    { x with idleRows := if data.testBit 31 || data % 2 ^ 18 == 0 then dropRemap e.1 e.2.1 e.2.2 x.idleRows
        else putRemap new x.idleRows }
  (s.wr R.BENCH_REMAP_DATA_ROW data [b]).wrB R.BENCH_REMAP_DATA_VALID (data.testBit 31) [b]

/-- A write of REMAP_DATA: the host's is ignored and logged; while the link is down it is discarded. -/
def State.remapWrite (s : State) (src : RegSrc) (b data : Nat) : State :=
  if s.nBench ≤ b then s else
  match src with
  | .host _ => s.refuse src (R.BENCH_REMAP_DATA_ROW.off + 0x10000 * b)
  | _ => if s.benchOn b && s.is R.BENCH_STATUS_LINK_UP [b] then s.remapSet b data else s

/-- REMAP_WRITE. -/
def execRemapWrite (src : RegSrc) (b data : Nat) (s : State) : Host.Outcome State Fault Refusal := .next ((s.inbound src).remapWrite src b data)

/-! ### Canaries (R126 to R129) -/

/-- The DRAM address of the first of bench `b`'s canary bytes; those of canary `i` = 2 × (32 × *k* + bank) + row are the 1,152 from
1,152 × `i` after it. -/
def canaryStart (b : Nat) : Nat := canaryIndex (2 * b) 0 0 0 * portionBytes

/-- Bytes of a canary row, with its side bytes. -/
def canaryBytesOf : Nat := 8 * portionBytes

/-- R126: both canary rows of every bank of bench `b` written with the patterns of R127, which is what an unlisted byte there
reads as. -/
def State.canaryWrite (s : State) (b : Nat) : State :=
  { s with dram := s.dram.filter fun c => decide (c.1 < canaryStart b) || decide (canaryStart (b + 1) ≤ c.1) }

/-- Bits of bench `b`'s canary rows that have changed in the cells, numbered from the first byte on
(DEDUCED in part: log entry 23). -/
def State.canaryFlip (s : State) (b : Nat) (bits : List Nat) : State :=
  bits.foldl (fun s n =>
    let a := canaryStart b + n % (256 * canaryBytesOf * 8) / 8
    s.poke a [s.peek a ^^^ BitVec.ofNat 8 (2 ^ (n % 8))]) s

/-- R129: the bits of canary `i` of bench `b` that differ from its pattern. -/
def State.canaryDiff (s : State) (b i : Nat) : Nat :=
  let lo := canaryStart b + canaryBytesOf * i
  ((s.dram.filter fun c => decide (lo ≤ c.1) && decide (c.1 < lo + canaryBytesOf)).map fun c =>
    popCount 8 (c.2 ^^^ s.blank c.1).toNat).sum

/-- A 128-bit map as the 16 bytes of a CANARY frame. -/
def canaryBytes (m : Nat) : List Byte := padTo 128 (leBytes 16 m)

/-- R126: the bench has written its canaries, and compares them as it reads them back; `bad` lists the bits that the rows did not
take (DEDUCED in part: log entry 23). -/
def State.canaryEntry (s : State) (b : Nat) (bad : List Nat) : State :=
  if !s.benchOn b || !(s.bn b).retaining then s else
  let s := (s.canaryWrite b).canaryFlip b bad
  let m := mapOf 128 fun i => s.canaryDiff b (2 * i) != 0 || s.canaryDiff b (2 * i + 1) != 0
  let s := s.sendUp b 0x39 ⟨0, 1, canaryBytes m, []⟩
  let s := s.modBench b fun x => { x with retaining := false, canaryMode := true, selfRefresh := true }
  (s.sendUp b 0x43 ⟨0, 2, [], []⟩).publishBench b

/-- CANARY_ENTRY_DONE. -/
def execCanaryEntryDone (b : Nat) (bad : List Nat) (s : State) : Host.Outcome State Fault Refusal := .next (s.canaryEntry b bad)

/-- R129: the bench has compared its canary rows; `bad` lists the bits that have changed in them since they were written
(DEDUCED in part: log entry 23). -/
def State.canaryExit (s : State) (b : Nat) (bad : List Nat) : State :=
  let x := s.bn b
  if !s.benchOn b || !x.canaryDue || x.selfRefresh then s else
  let s := s.canaryFlip b bad
  let tol := s.rd R.BENCH_CANARY_CTRL_TOL [b]
  let fails := fun i => decide (tol < s.canaryDiff b i)
  let s := s.wr R.BENCH_CANARY_FAILS_COUNT (s.rd R.BENCH_CANARY_FAILS_COUNT [b] + popCount 256 (mapOf 256 fails)) [b]
  let m := mapOf 128 fun i => fails (2 * i) || fails (2 * i + 1) || s.is R.BENCH_CANARY_BAD_BANKS [b, i / 32, i % 32]
  let s := (bitsOf 128 m).foldl (fun s i => s.set R.BENCH_CANARY_RESULT_PENDING [b, i / 32, i % 32]) s
  s.sendUp b 0x39 ⟨0, 0, canaryBytes m, []⟩

/-- CANARY_EXIT_CHECK. -/
def execCanaryExitCheck (b : Nat) (bad : List Nat) (s : State) : Host.Outcome State Fault Refusal := .next (s.canaryExit b bad)

/-- R132: the marks of bench `b`'s CANARY_RESULT set in MEMRAS, and whether one is new. -/
def State.marksFrom (s : State) (b m : Nat) : State × Bool :=
  (bitsOf 128 m).foldl (fun (a : State × Bool) i =>
    let idx := [2 * b + i / 64, i % 64]
    if a.1.is R.CODE_SUSPECT_MARKS idx then a else (a.1.set R.CODE_SUSPECT_MARKS idx, true)) (s, false)

/-- R129: a CANARY frame at the base die. -/
def State.canaryReport (s : State) (b entry m : Nat) : State :=
  if entry = 1 then
    (List.range 128).foldl (fun s i => s.wrB R.BENCH_CANARY_BAD_BANKS (m.testBit i) [b, i / 32, i % 32]) s
  else
    let r := s.marksFrom b m
    let s := (List.range 128).foldl (fun s i => s.clr R.BENCH_CANARY_BAD_BANKS [b, i / 32, i % 32]) r.1
    let s := (s.modBench b fun x => { x with canaryDue := false }).suspectSettle
    let s := if r.2 then (s.raise E.BENCH_CANARY_FAIL [b]).detect [38] else s
    if s.cacheOn then s.cacheSettle.kickSweeps else s

/-! ### Level changes (R108, R123, R124, R250) -/

/-- Table 05.2: parameter `p` of the set for a level, with RX_PHASE and TX_PHASE from the values in force. -/
def State.timing (s : State) (b l p : Nat) : Nat :=
  let fixed : List Nat := [0, 56, 48, 56, 56, 112, 168, 10, 20, 40, 16, 20, 60, 10, 30, 20, 360, 15625, 400, 60]
  match p with
  | 0 => l
  | 20 => [3, 3, 2, 0].getD l 0
  | 21 => [2, 2, 1, 1].getD l 0
  | 22 => if s.is R.TEST_CAL_STATUS_VALID_A || s.is R.TEST_CAL_STATUS_VALID_B then s.calField (0xBFC + 32 * b + 2 * l) 1 else 32
  | 23 => if s.is R.TEST_CAL_STATUS_VALID_A || s.is R.TEST_CAL_STATUS_VALID_B then s.calField (0xBFD + 32 * b + 2 * l) 1 else 32
  | p => fixed.getD p 0

/-- R108: firmware loads bench `b`'s shadow set for a level (DEDUCED in part: log entry 23). -/
def State.loadTset (s : State) (b l : Nat) : State :=
  let s := (List.range 24).foldl (fun s p => s.wr R.BENCH_TSET_SHADOW_VALUE (s.timing b l p) [b, p]) s
  s.wr R.BENCH_TSET_STATUS_SHADOW_LEVEL l [b]

/-- R108: the two sets exchanged (DEDUCED in part: log entry 23). -/
def State.swapTset (s : State) (b : Nat) : State :=
  let s := (List.range 24).foldl (fun s p =>
    let a := s.rd R.BENCH_TSET_ACTIVE_VALUE [b, p]
    (s.wr R.BENCH_TSET_ACTIVE_VALUE (s.rd R.BENCH_TSET_SHADOW_VALUE [b, p]) [b, p]).wr R.BENCH_TSET_SHADOW_VALUE a [b, p]) s
  let a := s.rd R.BENCH_TSET_STATUS_ACTIVE_LEVEL [b]
  (s.wr R.BENCH_TSET_STATUS_ACTIVE_LEVEL (s.rd R.BENCH_TSET_STATUS_SHADOW_LEVEL [b]) [b]).wr
    R.BENCH_TSET_STATUS_SHADOW_LEVEL a [b]

/-- R123: a bench drains for a pause, and then enters self-refresh. -/
def State.benchPause (s : State) (b l : Nat) : State :=
  if !s.benchOn b || (s.bn b).paused.isSome || (s.bn b).drain.isSome then s else s.drainFor b (.pause l)

/-- R108: the accesses that write bench `b`'s shadow set for a level. -/
def State.tsetAccs (s : State) (b l : Nat) : List RegAcc :=
  (List.range 24).map fun p => ⟨(R.BENCH_TSET_SHADOW_VALUE.off - 0x201000) / 4 + p, true, s.timing b l p, .tset⟩

end Sys2Proof.Machine
end

