-- ==== Sys2Proof/Machine/Fuse.lean ====
section
/-! DEFINITION. The OTP array: sensing, regions and seals, values in force, trial overrides and burns (Fuses and variant
enables). -/
namespace Sys2Proof.Machine

/-! ### SEC-DED (R349) -/

/-- The positions of the 64 data bits in the Hamming code: those from 1 that are not powers of 2, in order. -/
def hamPositions : List Nat :=
  (List.range 72).filter fun p => decide (0 < p) && !(List.range 7).any fun k => p == 2 ^ k

/-- The seven Hamming check bits of 64 data bits (DESIGN CHOICE in part: log entry 5). -/
def hamCheck (d : Nat) : Nat :=
  (hamPositions.zipIdx).foldl (fun c p => if d.testBit p.2 then c ^^^ p.1 else c) 0

/-- The 8-bit check code: the Hamming bits, and even parity over all 72 bits. -/
def secCheck (d : Nat) : Nat :=
  let h := hamCheck d
  h + 128 * ((popCount 64 d + popCount 7 h) % 2)

/-- An entry: data in [63:0], check bits in [71:64] (DESIGN CHOICE in part: log entry 5). -/
def secEncode (d : Nat) : Nat := d % 2 ^ 64 + 2 ^ 64 * secCheck (d % 2 ^ 64)

/-- The data of an entry and whether one bit was corrected; none when the error is uncorrectable
(DESIGN CHOICE in part: log entry 5). -/
def secDecode (w : Nat) : Option (Nat × Bool) :=
  let d := w % 2 ^ 64
  let syn := hamCheck d ^^^ ((w >>> 64) % 128)
  let odd := popCount 72 w % 2 == 1
  if !odd then (if syn = 0 then some (d, false) else none)
  else if syn = 0 ∨ (List.range 7).any fun k => syn == 2 ^ k then some (d, true)
  else match (hamPositions.zipIdx).find? fun p => p.1 == syn with
    | some p => some (d ^^^ 2 ^ p.2, true)
    | none => none

/-! ### Reads of the array -/

/-- The 72 bits that a copy of an entry holds: words 0 to 127, seals from 128 on. -/
def State.fuseCell (s : State) (e copy : Nat) : Nat :=
  let l := if e < 128 then s.fuse.words else s.fuse.seals
  match l.find? (·.1 == e % 128) with
  | some p => if copy = 0 then p.2.copy0 else p.2.copy1
  | none => 0

/-- What a sensing read gave (R350); an injection for checker 5 inverts one check bit of each word (Table 14.5). -/
def State.senseRead (s : State) (reads : List FuseRead) (inject : Bool) (e copy ref : Nat) : Nat :=
  let raw := match reads.find? fun r => r.entry == e && r.copy == copy && r.ref == ref with
    | some r => r.bits % 2 ^ 72
    | none => s.fuseCell e copy
  if inject && decide (e < 126) then raw ^^^ 2 ^ 64 else raw

/-- The six reads of an entry: two copies at three references (DEDUCED in part: log entry 36). -/
def State.sixReads (s : State) (reads : List FuseRead) (inject : Bool) (e : Nat) : List Nat :=
  [0, 1].flatMap fun c => [0, 1, 2].map fun r => s.senseRead reads inject e c r

/-- R351: the sensed value of a word or seal; none when it is marginal (DEDUCED in part: log entry 36). -/
def judgeReads (reads : List Nat) : Option Nat :=
  match reads.filterMap secDecode with
  | [] => none
  | p :: ps => if ps.all (·.1 == p.1) then some p.1 else none

/-- What a sensing of the array yields: words and seals, none for a marginal one. -/
structure Sensed where
  words : List (Option Nat)
  seals : List (Option Nat)
deriving DecidableEq, Repr

/-- R350, R351, R354: every entry sensed; the ROLLBACK words are exempt and read as every bit that any read shows
(DEDUCED in part: log entry 36). -/
def State.senseAll (s : State) (reads : List FuseRead) (inject : Bool) : Sensed where
  words := (List.range 128).map fun w =>
    if w < 126 then judgeReads (s.sixReads reads inject w)
    else some ((s.sixReads reads inject w).foldl (fun a b => a ||| b % 2 ^ 64) 0)
  seals := (List.range 9).map fun r => judgeReads (s.sixReads reads inject (128 + r))

/-- R354: the rollback counter of 128 counter bits: one more than the highest that is 1. -/
def counterOf (bits : Nat) : Nat := if bits = 0 then 0 else Nat.log2 bits + 1

/-- The counter bits of a sensing. -/
def Sensed.counter (x : Sensed) : Nat :=
  ((x.words.getD 126 none).getD 0) + 2 ^ 64 * ((x.words.getD 127 none).getD 0)

/-! ### Regions and seals (R352, R353) -/

/-- The words of a region (Table 16.1). -/
def regionWords (r : Nat) : List Nat := (List.range 128).filter fun w => fuseRegion w == r

/-- A privileged region. -/
def privileged (r : Nat) : Bool := r == 1 || r == 2 || r == 7

/-- R353: the CHECK of a region's words. -/
def regionCheck (ws : List Nat) : Nat := crcRefl 0xEDB88320 0xFFFFFFFF 0xFFFFFFFF (ws.flatMap fun w => leBytes 8 w)

/-- The sensed values of a region's words; a marginal one reads as 0. -/
def Sensed.region (x : Sensed) (r : Nat) : List Nat := (regionWords r).map fun w => (x.words.getD w none).getD 0

/-- Every word of a region is good. -/
def Sensed.allGood (x : Sensed) (r : Nat) : Bool := (regionWords r).all fun w => (x.words.getD w none).isSome

/-- A region is open: its seal is blank. -/
def Sensed.isOpen (x : Sensed) (r : Nat) : Bool := x.seals.getD r none == some 0

/-- A well-formed locked seal of region `r`. -/
def sealFormed (r v : Nat) : Bool := v.testBit 63 && field v 32 4 == r && field v 36 27 == 0

/-- The four combinations of Table 16.5: word 16 and the Device ID. -/
def variants : List (Nat × Nat) :=
  [(0x12CD01FF, 0x2816), (0x12CC01FF, 0x2817), (0x12CD007F, 0x2812), (0x12CC007F, 0x2813)]

/-- R353, R355 to R357: a region fails integrity. -/
def Sensed.fails (x : Sensed) (r : Nat) : Bool :=
  let word := fun w => (x.words.getD w none).getD 0
  let sealBad := match x.seals.getD r none with
    | none => true
    | some v => v != 0 && !(sealFormed r v && v % 2 ^ 32 == regionCheck (x.region r))
  !x.allGood r || sealBad ||
    (match r with
     | 1 => !x.isOpen 1 && word 8 % 256 != 3
     | 2 => (List.range 4).any fun l => field (word 12) (2 * l) 2 == 3
     | 3 => !variants.contains (word 16, word 19 % 65536)
     | 6 => (regionWords 6).any fun w => word w != 0 && (fieldRecord (word w)).isNone
     | _ => false)

/-- R359: the base die stays in reset. -/
def Sensed.holds (x : Sensed) : Bool := !x.isOpen 1 && [1, 2, 7].any fun r => x.isOpen r || x.fails r

/-! ### Values in force (R357, R358, R360) -/

/-- The enables in force follow words 16 and 19: a valid combination, else those of R358. A domain that is on when an override takes
its enable away (R4, R361) stays on until something switches it (DESIGN CHOICE in part: log entry 36). -/
def State.variantSettle (s : State) (w16 w19 : Nat) (good : Bool) : State :=
  let v := if good && variants.contains (w16, w19 % 65536) then (w16, w19 % 65536) else variantDefault
  let s : State := { s with fuse := { s.fuse with variant := v.1, deviceId := v.2 } }
  let s := (s.wr R.FUSE_VARIANT_LO_WORD16 v.1).wr R.FUSE_VARIANT_ID_DEVICE_ID v.2
  (s.wr R.HOST_STATUS_SPEED_CEIL (field v.1 17 3)).wr R.THERMAL_CAP_CEIL_CEIL (field v.1 20 9)

/-- Table 17.6 source 0x09. -/
def State.logFuse (s : State) (region word : Nat) : State :=
  s.log 9 region (s.rd R.FUSE_BURN_STATUS_RESULT) (leBytes 4 word)

/-- R350 to R360: what one sensing of the array leaves, `reads` telling where a read differed from what the copy holds. -/
def State.sense (s : State) (reads : List FuseRead) : State :=
  let inject := decide (0 < s.fault.fuseInj)
  let x := s.senseAll reads inject
  let marg := (List.range 126).filter fun w => (x.words.getD w none).isNone
  let smarg := (List.range 9).filter fun r => (x.seals.getD r none).isNone
  let failed := (List.range 9).filter x.fails
  let some_ := fun (l : List (Option Nat)) => (l.zipIdx.filterMap fun p => p.1.map fun v => (p.2, v)).filter (·.2 != 0)
  let s : State := { s with
    fuse := { s.fuse with
      sensed := some_ x.words, marginal := marg, sealSensed := some_ x.seals, sealMarginal := smarg
      overrides := [], hold := x.holds, recheck := 0 }
    fault := { s.fault with fuseInj := 0 } }
  let s := (s.set R.FUSE_STATUS_SENSED).wr R.FUSE_STATUS_INTEG_FAIL (mapOf 9 failed.contains)
  let s := (s.wr R.FUSE_STATUS_OPEN (mapOf 9 x.isOpen)).wrB R.FUSE_STATUS_MANUFACTURING (x.isOpen 1)
  let s := (s.wr R.FUSE_MARGINAL_COUNT_COUNT (marg.length + smarg.length)).wr R.FUSE_ROLLBACK_COUNTER (counterOf x.counter)
  let s := s.variantSettle ((x.words.getD 16 none).getD 0) ((x.words.getD 19 none).getD 0) (!failed.contains 3)
  let s := s.wr R.POWER_PERF_FUSE_LIMIT (if failed.contains 5 then 2 else 0)
  let s := failed.foldl (fun s r => s.logFuse r 0) s
  let s := if failed.isEmpty then s else s.raise E.FUSE_INTEG_FAIL
  let s := if inject then s.raise E.FAULT_INJ_DONE else s
  (s.detect ((if failed.any fun r => !privileged r then [96] else []) ++
    if marg.isEmpty && smarg.isEmpty then [] else [97])).drivePins

/-- R361: the consistency check of one tick: both copies of a word read at the normal reference, against its value in force;
`reads` tells where a read differs from what the copy holds (DEDUCED in part: log entry 36). -/
def State.fuseRecheck (s : State) (reads : List FuseRead) : State :=
  if !s.live 23 || !s.is R.FUSE_STATUS_SENSED then s else
  let w := s.fuse.recheck
  let s : State := { s with fuse := { s.fuse with recheck := (w + 1) % 128 } }
  let good := decide (w < 126) && !s.fuse.marginal.contains w &&
    !(s.rd R.FUSE_STATUS_INTEG_FAIL).testBit (fuseRegion w)
  let was := ((s.fuse.sensed.find? (·.1 = w)).map (·.2)).getD 0
  let now := ([0, 1].map fun c => s.senseRead reads false w c 0).filterMap secDecode
  if good && now.any (·.1 != was) then s.detect [104] else s

/-! ### READ_CTRL -/

/-- A read that READ_CTRL.GO starts, of one copy at the reference REF; `reads` tells where that read differs from what the copy
holds. -/
def State.fuseReadGo (s : State) (reads : List FuseRead) : State :=
  let w := s.rd R.FUSE_READ_CTRL_WORD
  let isSeal := s.is R.FUSE_READ_CTRL_SEAL
  let src := s.rd R.FUSE_READ_CTRL_SOURCE
  let r := w % 16
  let known := !isSeal || decide (r < 9)
  let raw := if known then s.senseRead reads false (if isSeal then 128 + r else w) (src - 1) (s.rd R.FUSE_READ_CTRL_REF) else 0
  let plain := !isSeal && decide (126 ≤ w)
  let dec := secDecode raw
  let data := if src = 0 then
      (if isSeal then ((s.fuse.sealSensed.find? (·.1 = r)).map (·.2)).getD 0 else s.fuseWord w)
    else if plain then raw % 2 ^ 64 else (dec.map (·.1)).getD (raw % 2 ^ 64)
  let ecc := src != 0 && !plain
  let s := (s.wr R.FUSE_READ_LO_DATA data).wr R.FUSE_READ_HI_DATA (data / 2 ^ 32)
  let s := (s.wr R.FUSE_READ_INFO_ECC (if src = 0 then 0 else raw >>> 64)).wrB R.FUSE_READ_INFO_UNCORR (ecc && dec.isNone)
  let s := s.wrB R.FUSE_READ_INFO_CORRECTED (ecc && dec.any (·.2))
  let s := s.wrB R.FUSE_READ_INFO_OVERRIDDEN (src == 0 && !isSeal && s.fuse.overrides.any (·.1 == w))
  s.wrB R.FUSE_READ_INFO_MARGINAL (if isSeal then s.fuse.sealMarginal.contains r else s.fuse.marginal.contains w)

/-- R366: a write of READ_CTRL. -/
def State.fuseReadWrite (s : State) (src : RegSrc) (ctrl : Nat) (reads : List FuseRead) : State :=
  if !s.live 23 || !s.is R.FUSE_STATUS_SENSED then s else
  let bad := field ctrl 8 2 == 3 || field ctrl 10 2 == 3
  let t := (s.wr R.FUSE_READ_CTRL_WORD ctrl).wrB R.FUSE_READ_CTRL_SEAL (ctrl.testBit 7)
  let t := if field ctrl 8 2 = 3 then t else t.wr R.FUSE_READ_CTRL_SOURCE (ctrl >>> 8)
  let t := if field ctrl 10 2 = 3 then t else t.wr R.FUSE_READ_CTRL_REF (ctrl >>> 10)
  let t := if bad then t.refuse src R.FUSE_READ_CTRL_WORD.off else t
  if ctrl.testBit 31 then t.fuseReadGo reads else t

/-- FUSE_READ. -/
def execFuseRead (src : RegSrc) (ctrl : Nat) (s : State) (reads : List FuseRead := []) : Host.Outcome State Fault Refusal :=
  .next ((s.inbound src).fuseReadWrite src ctrl reads)

/-! ### Burns (R362 to R365) -/

/-- The fuse block answers. -/
def State.fuseOn (s : State) : Bool := s.live 23 && s.is R.FUSE_STATUS_SENSED

/-- R362: a write of BURN_UNLOCK. -/
def State.burnUnlock (s : State) (key : Nat) : State :=
  if s.fuseOn then { s with fuse := { s.fuse with unlocked := key % 2 ^ 32 == 0x46555345 } } else s

/-- BURN_UNLOCK. -/
def execBurnUnlock (src : RegSrc) (key : Nat) (s : State) : Host.Outcome State Fault Refusal := .next ((s.inbound src).burnUnlock key)

/-- BURN_UNLOCK_LAPSE: 1 tk after the unlock. -/
def execBurnUnlockLapse (s : State) : Host.Outcome State Fault Refusal :=
  .next { s with fuse := { s.fuse with unlocked := false } }

/-- R365: a write of FORCE_ARM (DEDUCED in part: log entry 37). -/
def State.forceArm (s : State) (r : Nat) : State :=
  if s.fuseOn then { s with fuse := { s.fuse with armed := some (r % 16) } } else s

/-- FORCE_ARM. -/
def execForceArm (src : RegSrc) (r : Nat) (s : State) : Host.Outcome State Fault Refusal := .next ((s.inbound src).forceArm r)

/-- FORCE_ARM_LAPSE: 1 tk after the write. -/
def execForceArmLapse (s : State) : Host.Outcome State Fault Refusal :=
  .next { s with fuse := { s.fuse with armed := none } }

/-- The end of a burn or of a refused GO. -/
def State.burnEnd (s : State) (word result : Nat) : State :=
  let s := (s.wr R.FUSE_BURN_STATUS_RESULT result).wr R.FUSE_BURN_STATUS_WORD word
  s.raise (if result = 1 then E.FUSE_BURN_DONE else E.FUSE_BURN_FAILED)

/-- Table 16.6: the RESULT of the first check that a GO fails; none when it passes (DEDUCED in part: log entry 37). -/
def State.burnCheck (s : State) (word : Nat) (isSeal force : Bool) : Option Nat :=
  let r := if isSeal then word % 16 else fuseRegion word
  let lo := s.rd R.FUSE_BURN_DATA_LO_DATA
  let x := s.senseAll [] false
  let counter := s.rd R.FUSE_ROLLBACK_COUNTER
  let roll := !isSeal && decide (126 ≤ word)
  if !s.fuse.unlocked || (force && isSeal && s.fuse.armed != some r) then some 2
  else if s.fuse.burn.isSome then some 3
  else if !s.is R.FUSE_STATUS_VPROG_OK then some 4
  else if !s.is R.THERMAL_STATUS_PROG_OK then some 5
  else if (isSeal && decide (8 < r)) || (force && !isSeal) || (roll && !(decide (1 ≤ lo % 256) && decide (lo % 256 ≤ 128))) then
    some 6
  else if privileged r && !(s.rd R.FUSE_STATUS_OPEN).testBit 1 then some 7
  else if !(s.rd R.FUSE_STATUS_OPEN).testBit r then some 8
  else if roll && decide (lo % 256 ≤ counter) then some 9
  else if !isSeal && !roll && (s.sixReads [] false word).any (· != 0) then some 9
  else if isSeal && !force && !(x.allGood r && regionCheck (x.region r) == lo) then some 10
  else none

/-- R363: a BURN_CTRL.GO (DEDUCED in part: log entry 37). -/
def State.burnGo (s : State) (word : Nat) (isSeal force : Bool) : State :=
  if !s.fuseOn then s else
  let word := word % 128
  let s := ((s.wr R.FUSE_BURN_CTRL_WORD word).wrB R.FUSE_BURN_CTRL_SEAL isSeal).wrB R.FUSE_BURN_CTRL_FORCE force
  let n := if isSeal then word % 16 else word
  match s.burnCheck word isSeal force with
  | some 5 => (s.burnEnd n 5).progRefused
  | some e => s.burnEnd n e
  | none =>
    let lo := s.rd R.FUSE_BURN_DATA_LO_DATA
    let b : Burn :=
      if isSeal then ⟨true, n, secEncode (lo + n * 2 ^ 32 + 2 ^ 63), none, false⟩
      else if 126 ≤ word then ⟨false, word, lo % 256, some (s.rd R.FUSE_ROLLBACK_COUNTER), false⟩
      else ⟨false, word, secEncode (lo + 2 ^ 32 * s.rd R.FUSE_BURN_DATA_HI_DATA), none, false⟩
    { (s.set R.FUSE_STATUS_BURN_BUSY).set R.FUSE_BURN_CTRL_GO with fuse := { s.fuse with burn := some b } }

/-- WORD_BURN. -/
def execWordBurn (src : RegSrc) (w : Nat) (s : State) : Host.Outcome State Fault Refusal := .next ((s.inbound src).burnGo w false false)

/-- SEAL_BURN. -/
def execSealBurn (src : RegSrc) (r : Nat) (s : State) : Host.Outcome State Fault Refusal := .next ((s.inbound src).burnGo r true false)

/-- FORCE_LOCK. -/
def execForceLock (src : RegSrc) (r : Nat) (s : State) : Host.Outcome State Fault Refusal := .next ((s.inbound src).burnGo r true true)

/-- ROLLBACK_BURN. -/
def execRollbackBurn (src : RegSrc) (w : Nat) (s : State) : Host.Outcome State Fault Refusal := .next ((s.inbound src).burnGo w false false)

/-- A copy of an entry given new contents. -/
def putCell (l : List (Nat × Cell2)) (k : Nat) (c : Cell2) : List (Nat × Cell2) :=
  l.filter (·.1 < k) ++ (k, c) :: l.filter (k < ·.1)

/-- The entry's contents after a burn and what it reads as from now on (DEDUCED in part: log entry 37). -/
def State.burned (s : State) (b : Burn) (c0 c1 : Nat) (good : Bool) : State :=
  let d := c0 % 2 ^ 64
  let put := fun (l : List (Nat × Nat)) => l.filter (·.1 != b.word) ++ if d = 0 then [] else [(b.word, d)]
  if b.isSeal then
    { s with fuse := { s.fuse with
        seals := putCell s.fuse.seals b.word ⟨c0, c1⟩, sealSensed := if good then put s.fuse.sealSensed else s.fuse.sealSensed } }
  else
    { s with fuse := { s.fuse with
        words := putCell s.fuse.words b.word ⟨c0, c1⟩, sensed := if good then put s.fuse.sensed else s.fuse.sensed } }

/-- The counter bits that a copy holds. -/
def State.counterBits (s : State) (copy : Nat) : Nat :=
  s.fuseCell 126 copy % 2 ^ 64 + 2 ^ 64 * (s.fuseCell 127 copy % 2 ^ 64)

/-- What the last sensing gave for a word; 0 for one that is blank or marginal. -/
def State.sensedWord (s : State) (w : Nat) : Nat := ((s.fuse.sensed.find? (·.1 = w)).map (·.2)).getD 0

/-- R354, R364: the counter bits of the two copies after a ROLLBACK burn, which adds to those that sensing showed. -/
def State.rolled (s : State) (r0 r1 : Nat) : State :=
  let cell := fun w n0 n1 => (⟨s.fuseCell w 0 ||| n0 % 2 ^ 64, s.fuseCell w 1 ||| n1 % 2 ^ 64⟩ : Cell2)
  let w0 := putCell s.fuse.words 126 (cell 126 r0 r1)
  let w1 := putCell w0 127 (cell 127 (r0 >>> 64) (r1 >>> 64))
  let s : State := { s with fuse := { s.fuse with words := w1 } }
  let bits := (s.senseAll [] false).counter ||| s.sensedWord 126 ||| (s.sensedWord 127 <<< 64)
  let put := fun (l : List (Nat × Nat)) k v => l.filter (·.1 != k) ++ if v = 0 then [] else [(k, v)]
  { s.wr R.FUSE_ROLLBACK_COUNTER (counterOf bits) with
    fuse := { s.fuse with sensed := put (put s.fuse.sensed 126 (bits % 2 ^ 64)) 127 (bits >>> 64) } }

/-- R364, R365: a burn ends; `got0` and `got1` are the bits of the two copies that read as burned after their pulses, 72, or the
128 counter bits of ROLLBACK; a burned bit stays burned. Copy 1 is burned only when copy 0 has verified
(DEDUCED in part: log entry 37). -/
def State.burnDone (s : State) (got0 got1 : Nat) : State :=
  match s.fuse.burn with
  | none => s
  | some b =>
    let region := if b.isSeal then b.word else fuseRegion b.word
    let t : State := { (s.clr R.FUSE_STATUS_BURN_BUSY).clr R.FUSE_BURN_CTRL_GO with fuse := { s.fuse with burn := none } }
    let r : State × Bool := match b.rollback with
      | some was =>
        let more := mapOf 128 fun i => decide (was ≤ i) && decide (i < b.data)
        let want0 := s.counterBits 0 ||| more
        let want1 := s.counterBits 1 ||| more
        let new0 := s.counterBits 0 ||| got0 % 2 ^ 128
        let ok0 := new0 == want0
        let new1 := if ok0 then s.counterBits 1 ||| got1 % 2 ^ 128 else s.counterBits 1
        (t.rolled new0 new1, ok0 && new1 == want1)
      | none =>
        let e := if b.isSeal then 128 + b.word else b.word
        let c0 := s.fuseCell e 0 ||| got0 % 2 ^ 72
        let ok0 := c0 == b.data
        let c1 := if ok0 then s.fuseCell e 1 ||| got1 % 2 ^ 72 else s.fuseCell e 1
        (t.burned b c0 c1 (ok0 && c1 == b.data), ok0 && c1 == b.data)
    let t := if r.2 && b.isSeal then
        let o := setBit (r.1.rd R.FUSE_STATUS_OPEN) b.word false
        (r.1.wr R.FUSE_STATUS_OPEN o).wrB R.FUSE_STATUS_MANUFACTURING (o.testBit 1)
      else r.1
    let t := t.burnEnd b.word (if !r.2 then 11 else if b.left then 5 else 1)
    let t := t.logFuse region b.word
    if r.2 then t else t.detect [102]

/-- BURN_DONE. -/
def execBurnDone (got0 got1 : Nat) (s : State) : Host.Outcome State Fault Refusal := .next (s.burnDone got0 got1)

/-- R282: the programming window as a burn sees it at a tick; the word under way completes. -/
def State.burnTick (s : State) : State :=
  match s.fuse.burn with
  | some b =>
    if s.is R.THERMAL_STATUS_PROG_OK || b.left then s
    else ({ s with fuse := { s.fuse with burn := some { b with left := true } } } : State).progRefused
  | none => s

end Sys2Proof.Machine
end

