-- ==== Sys2Proof/Machine/Shaft.lean ====
section
/-! DEFINITION. Shaft links: frames received, replay, recovery, the lane map, training and the stack reference (Shaft
links). -/
namespace Sys2Proof.Machine

/-! ### Link state -/

/-- A link's STATE set, with BENCH.STATUS.LINK_UP. As it leaves service, the fetches that wait for it are MISSING (R159). -/
def State.setLink (s : State) (b st : Nat) : State :=
  let t := (s.wr R.SHAFT_LINK_STATUS_STATE st [b]).wrB R.BENCH_STATUS_LINK_UP (st == linkActive) [b]
  if st = linkActive then t else t.dropReads b

/-- What waited for a link in service, sent: frames first, then records and patrol reports (R122, R159); a bench that drains goes
on. -/
def State.linkReady (s : State) (b : Nat) : State :=
  (((s.sendWaits b true).sendWaits b false).shaftPump.retryFences.patrolSend b).drainGo b

/-- R160: the bench goes offline, and a row repair on it is cut off. -/
def State.goOffline (s : State) (b : Nat) : State := (s.offline1 b).repairSettle

/-- R157: a recovery starts, or takes the bench offline when AUTO_RECOVER is 0. -/
def State.recover (s : State) (b : Nat) : State :=
  if s.linkState b ≠ linkActive then s
  else if !s.is R.SHAFT_TRAIN_CFG_AUTO_RECOVER [b] then s.goOffline b
  else
    let t := s.modShaft b fun l =>
      { l with
        recStart := s.time.now
        down := { l.down with viol := [], crcRun := 0, nakRun := 0 }
        up := { l.up with viol := [], crcRun := 0, nakRun := 0 } }
    (t.setLink b linkRecovery).repairSettle

/-- R161: frame lock is lost at the bench: accepted commands complete, banks precharge, and without a recovery the layers
enter self-refresh. -/
def State.lockLost (s : State) (b : Nat) : State :=
  if s.nBench ≤ b then s else
  let on := s.benchOn b
  let act := s.linkState b == linkActive
  let s := if act then (s.raise E.SHAFT_LOCK_LOSS [b]).detect [64 + b] else s
  let s := if on && s.benchOn b then s.completeAccepted b else s
  let s := s.recover b
  if s.benchOn b && s.linkState b != linkRecovery then
    (s.modBench b fun x => { x with selfRefresh := true }).publishBench b
  else s

/-- LOCK_LOSS. -/
def execLockLoss (b : Nat) (s : State) : Host.Outcome State Fault Refusal := .next (s.lockLost b)

/-! ### Receiving frames (R140 to R146) -/

/-- R146: a frame of a direction fails its CRC; the NAK travels at once in an IDLE frame (DESIGN CHOICE in part: log entry 55). -/
def State.crcFail (s : State) (b : Nat) (down : Bool) : State :=
  if s.linkState b ≠ linkActive then s else
  let s := s.incSat R.SHAFT_CRC_ERRORS_COUNT [b]
  let d := s.dir b down
  let again := d.nakSeq == d.rxSeq && decide (0 < d.nakRun)
  let run := if d.nak then d.nakRun else if again then d.nakRun + 1 else 1
  let s := s.modDir b down fun d => { d with nak := true, nakRun := run, nakSeq := d.rxSeq, crcRun := d.crcRun + 1 }
  let s := if d.nak then s else s.sendIdle b (!down)
  let limit := !d.nak && decide (8 ≤ run)
  let s := if limit then (s.raise E.SHAFT_REPLAY_LIMIT [b]).detect [64 + b] else s
  if 16 ≤ d.crcRun + 1 then
    if down then s.lockLost b else ((s.raise E.SHAFT_LOCK_LOSS [b]).detect [64 + b]).recover b
  else if limit then s.recover b
  else s

/-- SHAFT_CRC_FAIL. -/
def execShaftCrcFail (b : Nat) (down : Bool) (s : State) : Host.Outcome State Fault Refusal := .next (s.crcFail b down)

/-- R325: an injection of checker 1 inverts the CRC of this frame. -/
def State.injFrame (s : State) (b : Nat) (down : Bool) : Bool :=
  match s.fault.inj with
  | some j => j.checker == 1 && j.target == b && (j.dir == 0) == down
  | none => false

/-- Link information taken, and what it gives room to: records with the credits of an up frame, patrol reports with the
acknowledgements of a down frame. -/
def State.tookInfo (s : State) (b : Nat) (down : Bool) (aux : Nat) : State :=
  let t := s.takeInfo b down aux
  if down then (t.patrolSend b).drainGo b else t.shaftPump.retryFences

/-- A CRC-good frame on the lanes of a direction: no run of CRC failures, and the bits deleted from it join the debt
(R149, R157). -/
def State.goodFrame (s : State) (b : Nat) (down : Bool) (f : Frame) : State :=
  s.modDir b down fun d => { d with crcRun := 0, debt := addDebt d.debt (frameDeletions f) }

/-- A frame that takes a sequence number is received; whether it is accepted. -/
def State.recv (s : State) (b : Nat) (down : Bool) (type : Nat) (f : Frame) : State × Bool :=
  if s.nBench ≤ b ∨ s.linkState b ≠ linkActive then (s, false)
  else if s.injFrame b down then (s.injStep.crcFail b down, false)
  else
    let s := s.goodFrame b down f
    let d := s.dir b down
    if d.nak then (s, false)
    else if 0 < d.dup then (s.modDir b down fun d => { d with dup := d.dup - 1 }, false)
    else
      let t := s.modDir b down fun d => { d with rxSeq := (d.rxSeq + 1) % 64, seen := true, nakRun := 0 }
      (if hasInfo type then t.tookInfo b down f.aux else t, true)

/-- A frame accepted and acted on. -/
def State.onFrame (s : State) (b : Nat) (down : Bool) (type : Nat) (f : Frame) (act : State → State) : State :=
  match s.recv b down type f with
  | (t, true) => act t
  | (t, false) => t

/-- R149, R150: an IDLE frame: its lanes' debts fall, as at their transmitters, before the bits deleted from it count. -/
def State.idleFrame (s : State) (b : Nat) (down : Bool) (f : Frame) : State :=
  if s.nBench ≤ b ∨ s.linkState b ≠ linkActive then s else
  let t := (s.modDir b down fun d => { d with debt := recoverDebt d.debt }).goodFrame b down f
  if (t.dir b down).nak then t else t.tookInfo b down f.aux

/-- IDLE_FRAME. -/
def execIdleFrame (b : Nat) (down : Bool) (f : Frame) (s : State) : Host.Outcome State Fault Refusal :=
  .next (s.idleFrame b down f)

/-- R146: a REPLAY frame. While the receiver has set NAK it must name the frame awaited; after a recovery the frames that
were accepted already are discarded. -/
def State.replayFrame (s : State) (b : Nat) (down : Bool) (f : Frame) : State :=
  if s.nBench ≤ b ∨ s.linkState b ≠ linkActive then s else
  let s := s.goodFrame b down f
  let d := s.dir b down
  let q := f.aux % 64
  if d.nak then
    if q = d.rxSeq then s.modDir b down fun d => { d with nak := false, dup := 0 } else s
  else s.modDir b down fun d => { d with dup := (d.rxSeq + 64 - q) % 64 }

/-- REPLAY_FRAME. -/
def execReplayFrame (b : Nat) (down : Bool) (f : Frame) (s : State) : Host.Outcome State Fault Refusal :=
  .next (s.replayFrame b down f)

/-- Table 06.4: a request record. -/
def recordOf (n : Nat) (now : Nat) : BReq :=
  ⟨n % 2 ^ 27, n.testBit 27, field n 28 2, field n 30 2, field n 32 16, now, 0, [], []⟩

/-- R143: one request record at the bench: a read enters its queue, a write waits for its data. -/
def State.takeRecord (s : State) (b : Nat) (r : BReq) : State :=
  if r.write then s.modShaft b fun l => { l with records := l.records ++ [r] }
  else s.modCtl b (field r.loc 3 1) fun c =>
    { c with reads := c.reads ++ [{ r with ord := c.nextOrd }], nextOrd := c.nextOrd + 1 }

/-- REQ frames. -/
def State.reqFrame (s : State) (b : Nat) (f : Frame) : State :=
  s.onFrame b true 0x10 f fun s =>
    (List.range (f.aux % 16 + 1)).foldl (fun s i => s.takeRecord b (recordOf (leNat (slice f.payload (8 * i) 8)) s.time.now)) s

/-- REQ_FRAME. -/
def execReqFrame (b : Nat) (f : Frame) (s : State) : Host.Outcome State Fault Refusal := .next (s.reqFrame b f)

/-- R144: a data frame is held until its SIDE frame. -/
def State.holdData (s : State) (b : Nat) (down : Bool) (type : Nat) (f : Frame) : State :=
  s.onFrame b down type f fun s => s.modDir b down fun d => { d with held := d.held ++ [(type, f)] }

/-- WDATA_L. -/
def execWdataL (b : Nat) (f : Frame) (s : State) : Host.Outcome State Fault Refusal := .next (s.holdData b true 0x11 f)

/-- WDATA_U. -/
def execWdataU (b : Nat) (f : Frame) (s : State) : Host.Outcome State Fault Refusal := .next (s.holdData b true 0x12 f)

/-- RDATA_L. -/
def execRdataL (b : Nat) (f : Frame) (s : State) : Host.Outcome State Fault Refusal := .next (s.holdData b false 0x13 f)

/-- RDATA_U. -/
def execRdataU (b : Nat) (f : Frame) (s : State) : Host.Outcome State Fault Refusal := .next (s.holdData b false 0x14 f)

/-- A write record with every portion that its LAYERS name. -/
def BReq.complete (r : BReq) : Bool :=
  (!r.layers.testBit 0 || r.lower.length == portionBytes) && (!r.layers.testBit 1 || r.upper.length == portionBytes)

/-- A portion given to the oldest record of its tag that awaits one for its layer. -/
def fillRecord (l : List BReq) (tag : Nat) (up : Bool) (p : List Byte) : List BReq :=
  modFirst (fun r => r.tag == tag && r.layers.testBit (b2n up) && (if up then r.upper else r.lower).isEmpty)
    (fun r => if up then { r with upper := p } else { r with lower := p }) l

/-- R144: writes whose records and data are complete accepted, in order. -/
def State.acceptWrites (s : State) (b : Nat) : State :=
  let rs := (s.link b).records
  let s := s.modShaft b fun l => { l with records := rs.filter fun r => !r.complete }
  (rs.filter BReq.complete).foldl (fun s r =>
    s.modCtl b (field r.loc 3 1) fun c =>
      { c with writes := c.writes ++ [{ r with ord := c.nextOrd }], nextOrd := c.nextOrd + 1 }) s

/-- A portion that RDATA and SIDE frames have brought to the base die; for a tag no longer outstanding it is discarded. Its request
has left the bench's queue (DESIGN CHOICE in part: log entry 18). -/
def State.takePortion (s : State) (b tag : Nat) (up : Bool) (p : List Byte) : State :=
  let mine : SentRec → Bool := fun e => !e.write && e.tag == tag && e.layers.testBit (b2n up)
  match (s.link b).flight.find? mine with
  | none => s
  | some e =>
    let fresh := !e.left && !s.heldAt b tag
    let s := if fresh then s.freeEntries b (e.port / 2) false 1 else s
    let s := s.modShaft b fun l =>
      { l with flight := (modFirst mine (fun e =>
          { e with layers := setBit e.layers (b2n up) false, left := e.left || fresh }) l.flight).filter fun e =>
            e.write || e.layers != 0 }
    { s with cache := { s.cache with ops := s.cache.ops.map fun o =>
        if o.tag = tag then { o with arrived := o.arrived ++ [⟨2 * b + b2n up, some p⟩] } else o } }

/-- R144: a SIDE frame releases the held data frames of its group. -/
def State.sideFrame (s : State) (b : Nat) (down : Bool) (f : Frame) : State :=
  s.onFrame b down 0x18 f fun s =>
    let held := (s.dir b down).held.zipIdx
    let s := s.modDir b down fun d => { d with held := [] }
    let ps := held.filterMap fun (h, i) =>
      if f.aux.testBit i then some (h.1, h.2.tag, h.2.payload ++ slice f.payload (16 * i) 16) else none
    if down then
      let s := ps.foldl (fun s p => s.modShaft b fun l => { l with records := fillRecord l.records p.2.1 (p.1 == 0x12) p.2.2 }) s
      s.acceptWrites b
    else ps.foldl (fun s p => s.takePortion b p.2.1 (p.1 == 0x14) p.2.2) s

/-- SIDE_FRAME. -/
def execSideFrame (b : Nat) (down : Bool) (f : Frame) (s : State) : Host.Outcome State Fault Refusal :=
  .next (s.sideFrame b down f)

/-! ### Register accesses (R141, R133) -/

/-- A bench register as the bench holds it. -/
def State.benchReg (s : State) (b word : Nat) : Nat :=
  let off := 0x201000 + 0x10000 * b + 4 * word
  if off % 0x10000 = 0x1204 then
    let e := s.remapSel b
    match (s.bn b).remaps.find? fun r => r.layer == e.1 && r.pos == e.2.1 && r.spare == e.2.2 with
    | some r => r.row + 2 ^ 31
    | none => ((s.bn b).idleRows.find? fun r => r.layer == e.1 && r.pos == e.2.1 && r.spare == e.2.2).elim 0 (·.row)
  else if off % 0x10000 = 0x1208 then (s.bn b).remaps.length
  else s.readRaw off

/-- A write of a bench register at the bench: a shadow timing parameter is firmware's alone (R108). -/
def State.benchWrite (s : State) (b word data : Nat) : State :=
  let off := 0x201000 + 0x10000 * b + 4 * word
  let o := off % 0x10000
  if o = 0x1204 then s.remapSet b data
  else if 0x1180 ≤ o ∧ o < 0x1180 + 96 then
    let p := (o - 0x1180) / 4
    let t := s.wr R.BENCH_TSET_SHADOW_VALUE data [b, p]
    if p = 0 then t.wr R.BENCH_TSET_STATUS_SHADOW_LEVEL data [b] else t
  else if o = 0x1004 then (((s.writeRaw off data).1).fillTasks b 0).fillTasks b 1
  else (s.writeRaw off data).1

/-- A REG_RSP frame. -/
def State.answerReg (s : State) (b word data : Nat) : State :=
  s.sendUp b 0x22 ⟨data % 65536, word * 65536 + data / 65536 % 65536, [], []⟩

/-- REG_RD. -/
def execRegRd (b : Nat) (f : Frame) (s : State) : Host.Outcome State Fault Refusal :=
  .next (s.onFrame b true 0x20 f fun s =>
    let w := field f.aux 16 8
    s.answerReg b w (s.benchReg b w))

/-- R331 step 2: the frame that starts the march engine is at bench `b`: the requests for the bank that it holds come first. -/
def State.marchOrder (s : State) (b word : Nat) : State :=
  match (s.link b).reg, s.test.mem with
  | some a, some m =>
    if a.asker = .march ∧ a.word = word ∧ m.layer / 2 = b then
      { s with test := { s.test with mem := some { m with ord := some (s.ctl b (m.pos / 32)).nextOrd } } }
    else s
  | _, _ => s

/-- REG_WR. -/
def execRegWr (b : Nat) (f : Frame) (s : State) : Host.Outcome State Fault Refusal :=
  .next (s.onFrame b true 0x21 f fun s =>
    let w := field f.aux 16 8
    let v := f.tag % 65536 + field f.aux 0 16 * 65536
    ((s.benchWrite b w v).marchOrder b w).answerReg b w v)

/-- The outstanding register access of bench `b` is over, with what it gives its asker; the next one that waits follows. -/
def State.regOver (s : State) (b : Nat) (give : State → State) : State :=
  let t := give (s.modShaft b fun l => { l with reg := none })
  if (t.link b).reg.isSome then t else t.regNext b

/-- REG_RSP: the outstanding access of its register completes. -/
def State.regRsp (s : State) (b : Nat) (f : Frame) : State :=
  s.onFrame b false 0x22 f fun s =>
    let w := field f.aux 16 8
    match (s.link b).reg with
    | some a =>
      if a.word ≠ w then s
      else s.regOver b fun t => match a.asker with
        | .repair => t.repairAnswer b w
        | .read id i => t.regWordIn id i (f.tag % 65536 + field f.aux 0 16 * 65536)
        | .tset | .load | .march | .write => t
    | none => s

/-- REG_RSP. -/
def execRegRsp (b : Nat) (f : Frame) (s : State) : Host.Outcome State Fault Refusal := .next (s.regRsp b f)

/-- R141: an access not answered within 1 µs completes as a read of 0 or a discarded write. A march that has not been started so is
not run: the rebuild follows at once (DEDUCED in part: log entry 34). -/
def State.regTimeout (s : State) (b : Nat) : State :=
  match (s.link b).reg with
  | some a => (s.detect [64 + b]).regOver b fun t => match a.asker with
    | .repair => t.kickRepair
    | .read id i => t.regWordIn id i 0
    | .march => t.stopMarch.kickSweeps
    | .tset | .load | .write => t
  | none => s

/-- REG_ACCESS_TIMEOUT. -/
def execRegAccessTimeout (b : Nat) (s : State) : Host.Outcome State Fault Refusal := .next (s.regTimeout b)

/-! ### Control frames -/

/-- TEMP_FRAME. -/
def execTempFrame (b : Nat) (f : Frame) (s : State) : Host.Outcome State Fault Refusal :=
  .next (s.onFrame b true 0x30 f fun s =>
    (s.modBench b fun x => { x with est := some (field f.aux 0 12, field f.aux 12 12) }).refreshRate b)

/-- TOKENS_FRAME. -/
def execTokensFrame (b : Nat) (f : Frame) (s : State) : Host.Outcome State Fault Refusal :=
  .next (s.onFrame b true 0x31 f fun s => (s.modBench b fun x => { x with tokens := f.aux % 2 ^ 18 }).drainGo b)

/-- GRANT_FRAME: what is left of an earlier slice is not added (DESIGN CHOICE in part: log entry 57). -/
def execGrantFrame (b : Nat) (f : Frame) (s : State) : Host.Outcome State Fault Refusal :=
  .next (s.onFrame b true 0x32 f fun s => s.modBench b fun x => { x with patrolLeft := f.aux % 256 + 1 })

/-- R305: a patrol report at the base die. -/
def State.patrolRpt (s : State) (b : Nat) (f : Frame) : State :=
  s.onFrame b false 0x38 f fun s =>
    let slab := f.tag % 65536 + f.aux % 2048 * 65536
    let up := f.aux.testBit 11
    if s.live 8 then s.reportIn slab (2 * b + b2n up) (field f.aux 12 2) else s

/-- PATROL_RPT. -/
def execPatrolRpt (b : Nat) (f : Frame) (s : State) : Host.Outcome State Fault Refusal := .next (s.patrolRpt b f)

/-- CANARY_FRAME. -/
def execCanaryFrame (b : Nat) (f : Frame) (s : State) : Host.Outcome State Fault Refusal :=
  .next (s.onFrame b false 0x39 f fun s => s.canaryReport b (f.aux % 2) (leNat (f.payload.take 16)))

/-- R161: HOLD. -/
def State.holdFrame (s : State) (b : Nat) (f : Frame) : State :=
  s.onFrame b true 0x40 f fun s => if s.benchOn b then ((s.landAll b).dropPartial b).drainFor b .hold else s

/-- HOLD_FRAME. -/
def execHoldFrame (b : Nat) (f : Frame) (s : State) : Host.Outcome State Fault Refusal := .next (s.holdFrame b f)

/-- PAUSE_FRAME. -/
def execPauseFrame (b : Nat) (f : Frame) (s : State) : Host.Outcome State Fault Refusal :=
  .next (s.onFrame b true 0x41 f fun s => s.benchPause b (f.aux % 4))

/-- R126: RETAIN: accepted commands complete, banks precharge, and the canary writing starts. -/
def State.retainFrame (s : State) (b : Nat) (f : Frame) : State :=
  s.onFrame b true 0x42 f fun s =>
    if s.benchOn b then s.drainFor b .retain else s

/-- RETAIN_FRAME. -/
def execRetainFrame (b : Nat) (f : Frame) (s : State) : Host.Outcome State Fault Refusal := .next (s.retainFrame b f)

/-- R161, R256: READY. After HOLD the link's STATE becomes HOLD; the sequencer no longer awaits the bench. -/
def State.readyFrame (s : State) (b : Nat) (f : Frame) : State :=
  s.onFrame b false 0x43 f fun s =>
    let code := f.aux % 256
    let s := if code = 1 then s.setLink b linkHold else s
    let s := if code = 1 ∨ code = 2 then { s with power := { s.power with waitReady := s.power.waitReady.filter (· != b) } } else s
    s.repairSettle

/-- READY_FRAME. -/
def execReadyFrame (b : Nat) (f : Frame) (s : State) : Host.Outcome State Fault Refusal := .next (s.readyFrame b f)

/-- Table 06.3: the frame types of a direction. -/
def frameTypes (down : Bool) : List Nat :=
  if down then [0x00, 0x01, 0x10, 0x11, 0x12, 0x18, 0x20, 0x21, 0x30, 0x31, 0x32, 0x40, 0x41, 0x42]
  else [0x00, 0x01, 0x13, 0x14, 0x18, 0x22, 0x38, 0x39, 0x43]

/-- RESERVED_FRAME: a type that the direction does not have is a protocol error (R141). -/
def execReservedFrame (b : Nat) (down : Bool) (type : Nat) (s : State) : Host.Outcome State Fault Refusal :=
  .next (if (frameTypes down).contains (type % 256) then s else s.recover b)

/-- R157, R161: no REPLAY within 256 frames after a NAK (DESIGN CHOICE in part: log entry 10). -/
def State.replayTimeout (s : State) (b : Nat) (down : Bool) : State :=
  if s.linkState b ≠ linkActive ∨ !(s.dir b down).nak then s
  else if down then s.lockLost b
  else s.recover b

/-- REPLAY_TIMEOUT. -/
def execReplayTimeout (b : Nat) (down : Bool) (s : State) : Host.Outcome State Fault Refusal := .next (s.replayTimeout b down)

/-- A count of a lane raised in a sparse list. -/
def bump (l : List (Nat × Nat)) (k : Nat) : List (Nat × Nat) := kvPut k ((kvGet k l).getD 0 + 1) l

/-- R163: the bench's violation counts copied to the base die, once per tick in service and at the end of a training step. -/
def State.violExchange (s : State) (b : Nat) : State :=
  ((s.dir b true).violNew.foldl (fun s p =>
    s.wr R.SHAFT_VIOL_COUNT_COUNT (min (2 ^ 32 - 1) (s.rd R.SHAFT_VIOL_COUNT_COUNT [b, 0, p.1] + p.2)) [b, 0, p.1]) s).modDir b true
      fun d => { d with violNew := [] }

/-- R148, R157: a stuffing violation on a lane; the fourth within a tick starts a recovery. The deleted bit counts toward the
lane's debt (R149). The count of a down lane is the bench's until the next exchange (R163) (DEDUCED in part: log entry 24). -/
def State.stuffing (s : State) (b : Nat) (up : Bool) (lane : Nat) : State :=
  if s.nBench ≤ b ∨ 76 ≤ lane ∨ s.linkState b ≠ linkActive then s else
  let t := if up then s.incSat R.SHAFT_VIOL_COUNT_COUNT [b, 1, lane]
    else s.modDir b true fun d => { d with violNew := bump d.violNew lane }
  let t := t.modDir b (!up) fun d => { d with viol := bump d.viol lane, debt := bump d.debt lane }
  if 4 ≤ (kvGet lane (t.dir b (!up)).viol).getD 0 then t.recover b else t

/-- STUFFING_VIOLATION. -/
def execStuffingViolation (b : Nat) (up : Bool) (lane : Nat) (s : State) : Host.Outcome State Fault Refusal :=
  .next (s.stuffing b up lane)

/-! ### Lanes in service (R155, R156) -/

/-- R156: the WIDTH code for a number of good lanes. -/
def widthCode (n : Nat) : Nat := if 68 ≤ n then 0 else if 36 ≤ n then 1 else if 20 ≤ n then 2 else 3

/-- The logical lanes of a WIDTH code. -/
def logicalLanes (w : Nat) : Nat := [68, 36, 20, 0].getD w 0

/-- A direction's width, spares and lane map set from its good lanes; whether it lost width. -/
def State.mapDir (s : State) (b : Nat) (up : Bool) : State × Bool :=
  let good := s.goodLanes b up
  let w := widthCode good.length
  let fw := if up then R.SHAFT_LINK_STATUS_WIDTH_UP else R.SHAFT_LINK_STATUS_WIDTH_DN
  let fs := if up then R.SHAFT_LINK_STATUS_SPARES_UP else R.SHAFT_LINK_STATUS_SPARES_DN
  let old := s.rd fw [b]
  let s := (s.wr fw w [b]).wr fs (min 8 (good.length - 68)) [b]
  let s := (List.range 76).foldl (fun s l =>
    let k := good.idxOf l
    let used := decide (k < logicalLanes w)
    (s.wrB R.SHAFT_LANE_MAPPED used [b, b2n up, l]).wr R.SHAFT_LANE_LOGICAL (if used then k else 0) [b, b2n up, l]) s
  (s, old != 3 && decide (old < w))

/-- R155, R156: the lane map and widths of both directions applied. -/
def State.applyMap (s : State) (b : Nat) : State :=
  let r := s.mapDir b false
  let q := r.1.mapDir b true
  if r.2 || q.2 then ((q.1.raise E.SHAFT_WIDTH_STEP [b]).logShaft b 1).detect [75] else q.1

/-- Lanes failed at training or recovery: (up, lane). Each lane newly failed is recorded (R311). -/
def State.failLanes (s : State) (b : Nat) (ls : List (Bool × Nat)) : State :=
  let new := ls.filter fun p => decide (p.2 < 76) && !s.is (failedFam p.1) [b, p.2]
  if new.isEmpty then s else
  let s := new.foldl (fun s p =>
    if s.is (failedFam p.1) [b, p.2] then s else (s.set (failedFam p.1) [b, p.2]).recordDue 2 b (b2n p.1) p.2 0) s
  ((s.raise E.SHAFT_LANE_FAILED [b]).logShaft b 0).detect [74]

/-- R160: a direction has fewer than 20 good lanes. -/
def State.tooFew (s : State) (b : Nat) : Bool :=
  decide ((s.goodLanes b false).length < 20) || decide ((s.goodLanes b true).length < 20)

/-! ### Recovery (R157 to R160) -/

/-- R147, R153 step 6: both ends load a direction's seeds; no debt is left on its lanes (DESIGN CHOICE in part: log entry 24). -/
def State.loadSeeds (s : State) (b : Nat) (down : Bool) : State :=
  let seeds := laneSeeds (s.rd R.SHAFT_SEED_SEED_HI [b]) (!down)
  s.modDir b down fun d => { d with lanes := seeds, debt := [] }

/-- R146, R158 step 5: a direction replays from its last acknowledged frame; its receiver discards what it has. The scramblers have
been started anew (R158 step 4) (DEDUCED in part: log entry 24). -/
def State.restartDir (s : State) (b : Nat) (down : Bool) : State :=
  let t := s.modDir b down fun d =>
    let first := (d.replay.head?.map (·.1)).getD d.txSeq
    { d with nak := false, crcRun := 0, nakRun := 0, viol := [], dup := (d.rxSeq + 64 - first) % 64 }
  (t.loadSeeds b down).replayAll b down

/-- R158, R160: a recovery ends; `dn` and `up` list the lanes that failed its checks. A planned map change is not counted (R334)
(DEDUCED in part: log entry 24). -/
def State.recoveryDone (s : State) (b : Nat) (dn up : List Nat) : State :=
  if s.nBench ≤ b ∨ s.linkState b ≠ linkRecovery then s else
  let s := s.failLanes b (dn.map (false, ·) ++ up.map (true, ·))
  if s.linkState b ≠ linkRecovery then s
  else if s.tooFew b then s.goOffline b
  else
    let mapping := (s.link b).mapping
    let s := if mapping then s else (s.incSat R.SHAFT_RECOVERIES_COUNT [b]).raise E.SHAFT_RECOVERY [b]
    let rec' := (s.link b).recovered.filter (fun t => decide (tickSub s.time.now t < 1000)) ++ (if mapping then [] else [s.time.now])
    let s := s.modShaft b fun l => { l with recovered := rec', mapping := false }
    if !mapping ∧ 16 < rec'.length then s.goOffline b
    else
      let s := s.applyMap b
      if s.linkState b ≠ linkRecovery then s
      else
        let s := s.setLink b linkActive
        (((s.restartDir b true).restartDir b false).linkReady b).kickRepair

/-- RECOVERY_DONE. -/
def execRecoveryDone (b : Nat) (dn up : List Nat) (s : State) : Host.Outcome State Fault Refusal := .next (s.recoveryDone b dn up)

/-- R160: a recovery has not ended within RECOVERY_LIMIT. -/
def State.recoveryTimeout (s : State) (b : Nat) : State :=
  if s.linkState b = linkRecovery ∧ !(s.link b).mapping ∧ s.rd R.SHAFT_TRAIN_CFG_RECOVERY_LIMIT [b] ≤ tickSub s.time.now (s.link b).recStart then
    s.goOffline b
  else s

/-- RECOVERY_TIMEOUT. -/
def execRecoveryTimeout (b : Nat) (s : State) : Host.Outcome State Fault Refusal := .next (s.recoveryTimeout b)

/-! ### The stack reference (R151) -/

/-- DSPREAD_PENDING: the down-spread wanted differs from the one in force. -/
def State.spreadPending (s : State) : State :=
  let want := s.is R.SHAFT_REF_CTRL_DSPREAD_EN && !s.is R.SHAFT_REF_STATUS_REFCLK_SSC
  s.wrB R.SHAFT_REF_STATUS_DSPREAD_PENDING (want != s.is R.SHAFT_REF_STATUS_DSPREAD_ACTIVE)

/-- A pending change of the down-spread takes effect, at a pause or at training step 1. -/
def State.spreadApply (s : State) : State :=
  let want := s.is R.SHAFT_REF_CTRL_DSPREAD_EN && !s.is R.SHAFT_REF_STATUS_REFCLK_SSC
  let drop := s.is R.SHAFT_REF_STATUS_DSPREAD_ACTIVE && s.is R.SHAFT_REF_CTRL_DSPREAD_EN && s.is R.SHAFT_REF_STATUS_REFCLK_SSC
  let t := (s.wrB R.SHAFT_REF_STATUS_DSPREAD_ACTIVE want).clr R.SHAFT_REF_STATUS_DSPREAD_PENDING
  if drop then (t.set R.SHAFT_REF_EVENTS_DSPREAD_DROPPED).detect [73] else t

/-- R151: a write of DSPREAD_EN. -/
def State.dspreadWrite (s : State) (src : RegSrc) (v : Nat) : State :=
  if !s.live 3 then s
  else if v % 2 = 1 ∧ s.is R.SHAFT_REF_STATUS_REFCLK_SSC then
    (s.set R.SHAFT_REF_EVENTS_DSPREAD_REFUSED).refuse src R.SHAFT_REF_CTRL_DSPREAD_EN.off
  else (s.wr R.SHAFT_REF_CTRL_DSPREAD_EN v).spreadPending

/-- DSPREAD_EN_WRITE. -/
def execDspreadEnWrite (src : RegSrc) (v : Nat) (s : State) : Host.Outcome State Fault Refusal := .next ((s.inbound src).dspreadWrite src v)

/-- REFCLK_SSC_CHANGE. -/
def execRefclkSscChange (spread : Bool) (s : State) : Host.Outcome State Fault Refusal :=
  .next (if s.live 3 then (s.wrB R.SHAFT_REF_STATUS_REFCLK_SSC spread).spreadPending else s)

/-! ### Training (R152 to R154) -/

/-- Firmware drives training. -/
def State.fwDrives (s : State) : Bool := s.live 3 && s.live 11 && s.rd R.MGMT_STATUS_FW_STATE == 2

/-- R153: a training step starts at a level. Step 1 may start from DOWN, TRAINING, HOLD or OFFLINE, the others follow in
TRAINING; the bench's domains come up for a link that was OFFLINE (R160). Step 1 leaves the alignment in force as it is, also where it
goes back to P2 after the other levels (R154) (DESIGN CHOICE in part: log entry 25). -/
def State.stepStart (s : State) (b step level : Nat) : State :=
  let st := s.linkState b
  let from1 := st == linkDown || st == 1 || st == linkHold || st == linkOffline
  if s.nBench ≤ b ∨ !s.fwDrives ∨ s.is R.SHAFT_TRAIN_CTRL_GO [b] ∨ !(if step = 1 then from1 else st == 1) ∨
      !(s.live (13 + b) || (st == linkOffline && decide (s.rd R.POWER_STATUS_STATE < 2))) then s
  else
  let s := s.wr R.SHAFT_LINK_STATUS_STATE 1 [b]
  let s := if st = linkOffline then s.benchPowerUp b else s
  let s := ((s.wr R.SHAFT_TRAIN_CTRL_STEP step [b]).wr R.SHAFT_TRAIN_CTRL_LEVEL level [b]).set R.SHAFT_TRAIN_CTRL_GO [b]
  let s := (s.clr R.SHAFT_LINK_STATUS_STEP_DONE [b]).clr R.SHAFT_LINK_STATUS_STEP_FAIL [b]
  let s := (s.wr R.SHAFT_LINK_STATUS_FAIL_CODE 0 [b]).clr R.BENCH_STATUS_LINK_UP [b]
  let s := s.modShaft b fun l => { l with step := step, stepLevel := level % 4 }
  if step = 1 then
    let s := (s.clr R.SHAFT_LINK_STATUS_REF_LOCK_BASE [b]).clr R.SHAFT_LINK_STATUS_REF_LOCK_BENCH [b]
    let s := if s.is R.SHAFT_REF_STATUS_DSPREAD_PENDING then s.spreadApply else s
    -- R162: firmware has loaded the P2 timing set, and it is swapped in while the layers are in self-refresh
    if level % 4 = 2 ∧ s.benchOn b then (s.loadTset b 2).swapTset b else s
  else if step = 5 then s.applyMap b
  else if step = 6 then (s.loadSeeds b true).loadSeeds b false
  else s

/-- REF_LOCK. -/
def execRefLock (b level : Nat) (s : State) : Host.Outcome State Fault Refusal := .next (s.stepStart b 1 level)

/-- PRBS_TX. -/
def execPrbsTx (b : Nat) (s : State) : Host.Outcome State Fault Refusal := .next (s.stepStart b 2 (s.link b).stepLevel)

/-- PHASE_SWEEP. -/
def execPhaseSweep (b : Nat) (s : State) : Host.Outcome State Fault Refusal := .next (s.stepStart b 3 (s.link b).stepLevel)

/-- SLIP. -/
def execSlip (b : Nat) (s : State) : Host.Outcome State Fault Refusal := .next (s.stepStart b 4 (s.link b).stepLevel)

/-- FRAME_ALIGN. -/
def execFrameAlign (b : Nat) (s : State) : Host.Outcome State Fault Refusal := .next (s.stepStart b 5 (s.link b).stepLevel)

/-- SCR_SYNC. -/
def execScrSync (b : Nat) (s : State) : Host.Outcome State Fault Refusal := .next (s.stepStart b 6 (s.link b).stepLevel)

/-- PRBS_CHECK. -/
def execPrbsCheck (b : Nat) (s : State) : Host.Outcome State Fault Refusal := .next (s.stepStart b 7 (s.link b).stepLevel)

/-- R153 step 8: sequence numbers 0, credits 64, and the bench leaves self-refresh. At an exit from EMBER its canary check is
due and the warm-up starts (R118, R129) (DEDUCED in part: log entry 23). -/
def State.enterService (s : State) (b : Nat) : State :=
  let s := s.stepStart b 8 (s.link b).stepLevel
  if s.linkState b ≠ 1 ∨ (s.link b).step ≠ 8 ∨ !s.is R.SHAFT_TRAIN_CTRL_GO [b] then s else
  let ember := (s.bn b).canaryMode && s.rd R.POWER_STATUS_STATE == 3
  let s := (s.landAll b).modShaft b fun l =>
    { l with
      down := { ShaftDir.reset with lanes := l.down.lanes }
      up := { ShaftDir.reset with lanes := l.up.lanes }
      records := [], flight := [], upQueue := 0, freed := [0, 0, 0, 0], tset := none }
  let s := s.modBench b fun x =>
    { x with
      selfRefresh := false, canaryMode := false, retaining := false, paused := none, drain := none
      canaryDue := x.canaryDue || ember
      warm := x.warm || ember
      chA := if ember then { ChanCtl.reset with nextOrd := x.chA.nextOrd } else x.chA
      chB := if ember then { ChanCtl.reset with nextOrd := x.chB.nextOrd } else x.chB }
  let s := ((s.wr R.SHAFT_CREDITS_A_RD 64 [b]).wr R.SHAFT_CREDITS_A_WR 64 [b]).wr R.SHAFT_CREDITS_B_RD 64 [b]
  s.wr R.SHAFT_CREDITS_B_WR 64 [b]

/-- ENTER_SERVICE. -/
def execEnterService (b : Nat) (s : State) : Host.Outcome State Fault Refusal := .next (s.enterService b)

/-- The longest passing run of phase steps in a sweep, wrapping: its first step and its length. Of runs equally long it is the one
that starts lowest, and of a full map the one from step 0 (DESIGN CHOICE in part: log entry 25). -/
def longestRun (m : Nat) : Nat × Nat :=
  let len := fun i => ((List.range 32).takeWhile fun k => m.testBit ((i + k) % 32)).length
  (List.range 32).foldl (fun (best : Nat × Nat) i => if best.2 < len i then (i, len i) else best) (0, 0)

/-- R153 step 3: the phase at the centre of the run. -/
def phaseOf (m : Nat) : Nat := let r := longestRun m; (r.1 + (r.2 - 1) / 2) % 32

/-- R154: the alignment in force of a lane recorded for a level. -/
def State.recordAlign (s : State) (level : Nat) (i : List Nat) : State :=
  let p := s.rd R.SHAFT_LANE_PHASE i
  let q := s.rd R.SHAFT_LANE_SLIP i
  match level with
  | 0 => (s.wr R.SHAFT_ALIGN_A_P0_PHASE p i).wr R.SHAFT_ALIGN_A_P0_SLIP q i
  | 1 => (s.wr R.SHAFT_ALIGN_A_P1_PHASE p i).wr R.SHAFT_ALIGN_A_P1_SLIP q i
  | 2 => (s.wr R.SHAFT_ALIGN_B_P2_PHASE p i).wr R.SHAFT_ALIGN_B_P2_SLIP q i
  | _ => (s.wr R.SHAFT_ALIGN_B_P3_PHASE p i).wr R.SHAFT_ALIGN_B_P3_SLIP q i

/-- R154: a level's recorded alignment loaded into a lane. -/
def State.loadAlign (s : State) (level : Nat) (i : List Nat) : State :=
  let pq := match level with
    | 0 => (s.rd R.SHAFT_ALIGN_A_P0_PHASE i, s.rd R.SHAFT_ALIGN_A_P0_SLIP i)
    | 1 => (s.rd R.SHAFT_ALIGN_A_P1_PHASE i, s.rd R.SHAFT_ALIGN_A_P1_SLIP i)
    | 2 => (s.rd R.SHAFT_ALIGN_B_P2_PHASE i, s.rd R.SHAFT_ALIGN_B_P2_SLIP i)
    | _ => (s.rd R.SHAFT_ALIGN_B_P3_PHASE i, s.rd R.SHAFT_ALIGN_B_P3_SLIP i)
  (s.wr R.SHAFT_LANE_PHASE pq.1 i).wr R.SHAFT_LANE_SLIP pq.2 i

/-- Every lane of both directions as register indices: bench, direction, lane. -/
def laneIdx (b : Nat) : List (List Nat) := [0, 1].flatMap fun d => (List.range 76).map fun l => [b, d, l]

/-- What a lane showed at a step: `lanes` lists (down lane, or 76 + up lane; what it showed). A lane not listed passed. -/
def shown (lanes : List (Nat × Nat)) (d l : Nat) : Option Nat := (lanes.find? fun p => p.1 == 76 * d + l).map (·.2)

/-- R153: one lane's part of a finished step: what it recorded, and whether it fails. -/
def State.laneStep (s : State) (b step : Nat) (lanes : List (Nat × Nat)) (d l : Nat) : State × Bool :=
  let i := [b, d, l]
  let v := shown lanes d l
  match step with
  | 3 =>
    let m := v.getD 0xFFFFFFFF
    let short := decide ((longestRun m).2 < s.rd R.SHAFT_TRAIN_CFG_MIN_EYE [b])
    let s := s.wr R.SHAFT_PASS_MAP_STEPS m i
    if short then (s, true) else (s.wr R.SHAFT_LANE_PHASE (phaseOf m) i, false)
  | 4 =>
    let n := v.getD 0
    if 16 ≤ n then (s.clr R.SHAFT_LANE_WORD_MATCH i, true)
    else ((s.wr R.SHAFT_LANE_SLIP n i).set R.SHAFT_LANE_WORD_MATCH i, false)
  | 5 => (s, v.isSome)
  | 7 =>
    let s := s.wr R.SHAFT_PRBS_ERR_COUNT (min (v.getD 0) (2 ^ 32 - 1)) i
    let bad := decide (s.rd R.SHAFT_TRAIN_CFG_PRBS_LIMIT [b] < v.getD 0)
    (if bad then s else s.recordAlign (s.link b).stepLevel i, bad)
  | _ => (s, false)

/-- R153, R160: a step ends failed; a link that cannot train goes offline. -/
def State.stepFail (s : State) (b code : Nat) : State :=
  let s := (s.set R.SHAFT_LINK_STATUS_STEP_FAIL [b]).wr R.SHAFT_LINK_STATUS_FAIL_CODE code [b]
  let s := (s.clr R.SHAFT_TRAIN_CTRL_GO [b]).modShaft b fun l => { l with step := 0 }
  (s.goOffline b).wr R.SHAFT_LINK_STATUS_FAIL_CODE code [b]

/-- Table 14.3: a bench retrained to ACTIVE is no longer fenced. -/
def State.unfenceBench (s : State) (b : Nat) : State :=
  s.wr R.FAULT_FENCED_TARGETS (setBit (s.rd R.FAULT_FENCED_TARGETS) (5 + b) false)

/-- R338: the layers of a bench that a test or a calibration removed rejoin once its link is trained
(DEDUCED in part: log entry 25). -/
def State.rejoinBack (s : State) (b : Nat) : State :=
  if s.test.back.contains b then
    let t : State := { s with test := { s.test with back := s.test.back.filter (· != b) } }
    [2 * b, 2 * b + 1].foldl (fun t n => if t.layer n = 1 then t.startRejoin n else t) t
  else s

/-- R153: the running step of bench `b` ends. `lanes` lists what lanes showed: step 3 the pass map, step 4 the slip that
matched (16 for none), step 5 any lane outside the deskew FIFO, step 7 the errors counted; an entry (152, FAIL_CODE) says
that the step failed as a whole (DEDUCED in part: log entry 25). -/
def State.stepDone (s : State) (b : Nat) (lanes : List (Nat × Nat)) : State :=
  let step := (s.link b).step
  if s.nBench ≤ b ∨ s.linkState b ≠ 1 ∨ !s.is R.SHAFT_TRAIN_CTRL_GO [b] ∨ !s.fwDrives then s else
  match lanes.find? fun p => p.1 == 152 && (p.2 == 1 || p.2 == 2 || p.2 == 4 || p.2 == 5) with
  | some p => s.stepFail b p.2
  | none =>
    let good := [0, 1].flatMap fun d => (s.goodLanes b (d == 1)).map fun l => (d, l)
    let r := good.foldl (fun (a : State × List (Bool × Nat)) p =>
      let q := a.1.laneStep b step lanes p.1 p.2
      (q.1, if q.2 then a.2 ++ [(p.1 == 1, p.2)] else a.2)) (s, [])
    let s := r.1.failLanes b r.2
    if s.linkState b ≠ 1 then s
    else if s.tooFew b then s.stepFail b 2
    else
      let s := (s.set R.SHAFT_LINK_STATUS_STEP_DONE [b]).clr R.SHAFT_TRAIN_CTRL_GO [b]
      let s := (s.modShaft b fun l => { l with step := 0 }).violExchange b
      match step with
      | 1 => (s.set R.SHAFT_LINK_STATUS_REF_LOCK_BASE [b]).set R.SHAFT_LINK_STATUS_REF_LOCK_BENCH [b]
      | 5 => s.applyMap b
      | 8 => ((((((s.setLink b linkActive).linkReady b).loadBench b).unfenceBench b).publishBench b).rejoinBack b).kickRepair
      | _ => s

/-- R155: a write of a FAILED word. -/
def State.failedWrite (s : State) (src : RegSrc) (off data : Nat) : State :=
  let b := off / 0x10000 - 0x30
  let o := off % 0x10000
  if off < 0x300000 ∨ s.nBench ≤ b ∨ !s.live 3 ∨ !(o = 0x40 ∨ o = 0x44 ∨ o = 0x48 ∨ o = 0x50 ∨ o = 0x54 ∨ o = 0x58) then s
  else if s.linkState b = linkDown ∨ s.linkState b = linkOffline then (s.writeRaw off data).1
  else s.refuse src off

/-- FAILED_LANES_WRITE. -/
def execFailedLanesWrite (src : RegSrc) (off data : Nat) (s : State) : Host.Outcome State Fault Refusal :=
  .next ((s.inbound src).failedWrite src off data)

/-! ### Level-change pauses (R123, R124) -/

/-- The lanes of bench `b` that carry no logical lane or fail nothing load the level's alignment. -/
def State.alignAll (s : State) (b level : Nat) : State := (laneIdx b).foldl (fun s i => s.loadAlign level i) s

/-- Benches whose link is in service: those that take part in a level change. One in RECOVERY at its boundary takes no part
(DESIGN CHOICE in part: log entry 23). -/
def State.activeLinks (s : State) : List Nat := (List.range s.nBench).filter fun b => s.linkState b == linkActive

/-- R334: a planned map change of bench `b` starts: its link is in RECOVERY until RECOVERY_DONE. -/
def State.mapChange (s : State) (b : Nat) : State :=
  if s.linkState b ≠ linkActive then s else
  let t := s.modShaft b fun l => { l with recStart := s.time.now, mapping := true }
  (t.setLink b linkRecovery).repairSettle

/-- A lane sample is over: its lane is good again, unless it is FAILED. -/
def State.laneOver (s : State) : State :=
  let t : State := { s with test := { s.test with lane := none } }
  if t.rd R.TEST_STATUS_CS_KIND = 3 then t.wr R.TEST_STATUS_CS_KIND 0 else t

/-- A lane sample ends; a lane that carries a logical lane takes its place in the map again by a map change. -/
def State.laneEnd (s : State) : State :=
  match s.test.lane with
  | none => s
  | some c => if c.used then s.laneOver.mapChange c.bench else s.laneOver

/-- R334: a level-change pause ends a lane sample without a result; the link resumes from the pause on the map without it
(DESIGN CHOICE in part: log entry 34). -/
def State.lanePause (s : State) : State :=
  match s.test.lane with
  | none => s
  | some c =>
    let t := s.laneOver
    if c.used && t.linkState c.bench == linkActive then
      ((t.applyMap c.bench).restartDir c.bench true).restartDir c.bench false
    else t

/-- CAL_STATUS.SHADOW_DIRTY: the shadow differs from the values in force. -/
def State.dirtySettle (s : State) : State :=
  s.wrB R.TEST_CAL_STATUS_SHADOW_DIRTY (slice s.test.shadow 0x10 0xD0C != slice s.test.active 0x10 0xD0C)

/-- R345: bench `b`'s shadow trims and phases come into force (DESIGN CHOICE in part: log entry 7). -/
def State.benchTrims (s : State) (b : Nat) : State :=
  let put := fun (r : List Byte) (off n : Nat) => overlay r off (slice s.test.shadow off n)
  let r := put (put (put s.test.active (0x128 + 304 * b) 304) (0xBD8 + 4 * b) 4) (0xBFC + 32 * b) 32
  ({ s with test := { s.test with active := r } } : State).dirtySettle

/-- R108: firmware writes bench `b`'s shadow set for a level, one access after the other. -/
def State.loadSet (s : State) (b l : Nat) : State :=
  (s.tsetAccs b l).foldl (fun s a => s.regAccess b a) (s.modShaft b fun x => { x with tset := some l })

/-- R108: a level change has been decided: firmware writes the shadow set of every bench in service. -/
def State.loadSets (s : State) : State :=
  let l := s.rd R.THERMAL_GOV_CHOSEN
  if !s.live 3 ∨ l = s.rd R.POWER_STATUS_LEVEL ∨ s.power.pauseTo.isSome ∨ !s.fwDrives ∨ 2 ≤ s.rd R.POWER_STATUS_STATE then s
  else s.activeLinks.foldl (fun s b => if (s.link b).tset = some l then s else s.loadSet b l) s

/-- The writes of bench `b`'s shadow set that no frame has shown there have been made before the pause
(DESIGN CHOICE in part: log entry 18). -/
def State.landSet (s : State) (b : Nat) : State :=
  let x := s.link b
  let s := ((x.reg.toList ++ x.regq).filter (·.asker == .tset)).foldl (fun s a => s.benchWrite b a.word a.data) s
  let s := s.modShaft b fun l =>
    { l with reg := l.reg.filter (·.asker != .tset), regq := l.regq.filter (·.asker != .tset) }
  if (s.link b).reg.isSome then s else s.regNext b

/-- R123: the pause starts, for a level decided: firmware has loaded the shadow sets (R108), and every bench in service drains
and enters self-refresh (DEDUCED in part: log entry 23). -/
def State.pauseStart (s : State) : State :=
  let l := s.rd R.THERMAL_GOV_CHOSEN
  let late := match s.power.riseAt with
    | some t => decide (s.settleTicks ≤ tickSub s.time.now t)
    | none => true
  if !s.live 3 ∨ l = s.rd R.POWER_STATUS_LEVEL ∨ s.power.pauseTo.isSome ∨ !late ∨ !s.fwDrives ∨
      s.rd R.POWER_STATUS_STATE ≥ 2 then s
  else
    let s := s.lanePause.loadSets
    let s := s.activeLinks.foldl (fun s b =>
      (((s.benchTrims b).landSet b).sendDown b 0x41 ⟨0, l, [], []⟩).benchPause b l) s
    { s.spreadApply with power := { s.power with pauseTo := some l } }

/-- LEVEL_PAUSE_START. -/
def execLevelPauseStart (s : State) : Host.Outcome State Fault Refusal := .next s.pauseStart

/-- R123, R124: the pause ends; `locked` lists the benches whose links regained frame lock. The others meet a loss of frame
lock. A bench that still lacked tokens has performed its requests in the pause's time (DEDUCED in part: log entry 23). -/
def State.pauseEnd (s : State) (locked : List Nat) : State :=
  match s.power.pauseTo with
  | none => s
  | some l =>
    let was := s.rd R.POWER_STATUS_LEVEL
    let s := (List.range s.nBench).foldl (fun s b => match (s.bn b).drain with
      | some (.pause _) => s.completeAccepted b
      | _ => s) s
    let bs := (List.range s.nBench).filter fun b => (s.bn b).paused.isSome
    let s := (s.wr R.POWER_STATUS_LEVEL l).raise E.POWER_LEVEL_CHANGE
    let s : State := { s with power := { s.power with pauseTo := none, riseAt := none } }
    let s := if was < l then s.driveVid (s.vidCode l) else s
    let s := bs.foldl (fun s b =>
      let s := ((s.swapTset b).alignAll b l).modShaft b fun x => { x with tset := none }
      (s.modBench b fun x => { x with paused := none, selfRefresh := false }).publishBench b) s
    let lost := bs.filter fun b => !locked.contains b
    let s := (lost.foldl State.lockLost s).dSettle.shaftPump
    if s.cacheOn then s.cacheSettle.kickSweeps else s

/-- LEVEL_PAUSE_END. -/
def execLevelPauseEnd (locked : List Nat) (s : State) : Host.Outcome State Fault Refusal := .next (s.pauseEnd locked)

end Sys2Proof.Machine
end

