-- ==== Sys2Proof/Machine/Override.lean ====
section
/-! DEFINITION. Trial overrides of OTP words, and what follows from a change of a value in force (R360, R361). -/
namespace Sys2Proof.Machine

/-- A FIELD word in force applied by firmware: a row to the bench remap table, by register accesses (R134), a lane to the lane map, by
a planned map change where it carries a logical lane. What an override applied stays when it is cleared
(DEDUCED in part: log entry 36). -/
def State.applyField (s : State) (w : Nat) : State :=
  match fieldRecord (s.fuseWord w) with
  | some r =>
    if !s.fwDrives then s
    else if r.type = 1 then
      let b := r.unit / 2
      let t := if s.linkState b = linkActive ∨ s.linkState b = linkRecovery then
        (remapWrites r.remap).foldl (fun t p => t.regAccess b ⟨p.1, true, p.2, .load⟩) s else s
      t.loadSpares
    else if r.unit < s.nBench ∧ r.b < 76 then
      let up := r.a % 2 == 1
      let used := s.is R.SHAFT_LANE_MAPPED [r.unit, b2n up, r.b]
      let t := s.set (failedFam up) [r.unit, r.b]
      if used then t.mapChange r.unit else t
    else s
  | none => s

/-- What follows a change of the value in force of a word. -/
def State.fuseChanged (s : State) (w : Nat) : State :=
  if fuseRegion w = 3 then s.variantSettle (s.fuseWord 16) (s.fuseWord 19) true
  else if fuseRegion w = 6 then s.applyField w
  else s

/-- OVR_CTRL.SET (DEDUCED in part: log entry 36). -/
def State.overrideSet (s : State) (w : Nat) : State :=
  if !s.fuseOn then s else
  let w := w % 128
  let s := s.wr R.FUSE_OVR_CTRL_WORD w
  let r := fuseRegion w
  if !(s.rd R.FUSE_STATUS_OPEN).testBit r || privileged r || r == 8 then
    (s.set R.FUSE_OVR_STATUS_REFUSED).raise E.FUSE_OVR_REFUSED
  else
    let v := s.rd R.FUSE_OVR_LO + 2 ^ 32 * s.rd R.FUSE_OVR_HI
    ({ s with fuse := { s.fuse with overrides := s.fuse.overrides.filter (·.1 != w) ++ [(w, v)] } } : State).fuseChanged w

/-- OVERRIDE_SET. -/
def execOverrideSet (src : RegSrc) (w : Nat) (s : State) : Host.Outcome State Fault Refusal := .next ((s.inbound src).overrideSet w)

/-- OVR_CTRL.CLEAR. -/
def State.overrideClear (s : State) (w : Nat) : State :=
  if !s.fuseOn then s else
  let w := w % 128
  let s := s.wr R.FUSE_OVR_CTRL_WORD w
  if s.fuse.overrides.any (·.1 == w) then
    ({ s with fuse := { s.fuse with overrides := s.fuse.overrides.filter (·.1 != w) } } : State).fuseChanged w
  else s

/-- OVERRIDE_CLEAR. -/
def execOverrideClear (src : RegSrc) (w : Nat) (s : State) : Host.Outcome State Fault Refusal := .next ((s.inbound src).overrideClear w)

end Sys2Proof.Machine
end

