-- ==== Sys2Proof/Machine/Mgmt.lean ====
section
/-! DEFINITION. The management core: images, boot, updates, restarts and the event log's persistence (Management core, event
log and firmware update). -/
namespace Sys2Proof.Machine

/-! ### Images (R372, R373) -/

/-- Table 17.3: the fixed and the reserved fields. -/
def imgFormed (img : List Byte) : Bool :=
  let zero := fun (off n : Nat) => (imgBytes img off n).all (· == 0#8)
  imgField img 0 4 == 0x57464C54 && imgField img 4 2 == 1 && imgField img 6 2 == 0x200 &&
    zero 0xD 3 && zero 0x14 4 && zero 0x79 7 && zero 0xE0 0x120

/-- The digest that the KEYS region holds (R356). -/
def State.keysDigest (s : State) : List Byte := (List.range 6).flatMap fun i => leBytes 8 (s.fuseWord (120 + i))

/-- R372: the signed message of an image. -/
def imgMessage (img : List Byte) : List Byte :=
  imgBytes img 0 0x80 ++ List.replicate 0x60 0#8 ++ imgBytes img 0xE0 0x120 ++ imgBytes img 0x200 (imgField img 0x10 4)

/-- Table 17.4: the first code that refuses an image, 0 for none; `received` is how many bytes were received, when they
were (DESIGN CHOICE in part: log entry 6). -/
def State.imageCode (s : State) (img : List Byte) (received : Option Nat) : Nat :=
  let body := imgField img 0x10 4
  let key := imgBytes img 0x18 97
  if !imgFormed img then 1
  else if body = 0 ∨ 327680 < body ∨ received.any (· != 512 + body) then 2
  else if Config.sha384 key != s.keysDigest then 3
  else if !Config.ecdsaP384 key (Config.sha384 (imgMessage img)) (imgBytes img 0x80 0x60) then 4
  else if imgRollback img < s.rd R.FUSE_ROLLBACK_COUNTER then 5
  else 0

/-- A slot's contents replaced. -/
def State.setSlot (s : State) (k : Nat) (img : List Byte) : State :=
  if k = 0 then { s with mgmt := { s.mgmt with slotA := img } } else { s with mgmt := { s.mgmt with slotB := img } }

/-! ### Boot (R374, R375) -/

/-- A boot is under way. -/
def State.booting (s : State) : Bool :=
  s.live 3 && s.live 11 && (s.rd R.MGMT_STATUS_FW_STATE == 1 || s.rd R.MGMT_STATUS_FW_STATE == 5)

/-- An image reaches RUNNING from slot `k`, or from SRAM. -/
def State.imageRuns (s : State) (img : List Byte) : State :=
  let s := (s.wr R.MGMT_STATUS_FW_STATE 2).wr R.MGMT_FW_VERSION_VERSION (imgVersion img)
  let s := (s.wr R.MGMT_FW_ROLLBACK_VER (imgRollback img)).set R.MGMT_WDOG_CTRL_EN
  let s := (s.wr R.MGMT_WDOG_COUNT_TICKS (s.rd R.MGMT_WDOG_CTRL_PERIOD)).wr R.FAULT_FENCED_TARGETS
    (setBit (s.rd R.FAULT_FENCED_TARGETS) 2 false)
  let t : State := { s with mgmt := { s.mgmt with runAge := 0, bootAge := 0 } }
  t.raise E.MGMT_RUNNING

/-- R374 steps 3 and 4: the selected slot is verified and boots, or is refused and the other slot is tried. -/
def State.bootSlot (s : State) : State :=
  if !s.booting then s else
  let k := s.mgmt.loading
  let img := s.slot k
  let code := s.imageCode img none
  if code = 0 then
    let s := if s.mgmt.second then (s.writeHeader k false 0).clr R.MGMT_STATUS_TRIAL else s
    let s := (s.wr R.MGMT_STATUS_SLOT k).imageRuns img
    let s := s.logSlot k 0
    if s.mgmt.activating then
      ({ s with mgmt := { s.mgmt with activating := false } } : State).raise E.MGMT_ACTIVATED
    else s
  else
    let s := ((s.raise E.MGMT_IMAGE_REJECT).logSlot k code).detect [100]
    if !s.booting || s.mgmt.loading != k then s
    else if s.mgmt.second then s.wr R.MGMT_STATUS_FW_STATE 3
    else { s.clr R.MGMT_STATUS_TRIAL with mgmt := { s.mgmt with loading := 1 - k, second := true, activating := false } }

/-- R374: the boot limit of 10,000 tk: FS098, a restart, and the other slot (DEDUCED in part: log entry 39). -/
def State.bootTimeout (s : State) : State :=
  if !s.booting || decide (s.mgmt.bootAge < 10000) then s else
  let k := s.mgmt.loading
  let was := s.mgmt.second
  let t := s.detect [98]
  if !t.live 11 then t else
  let t := if t.mgmt.bootAge = 0 then t else t.mgmtRestart
  if t.rd R.MGMT_STATUS_FW_STATE = 4 then t
  else if was then t.wr R.MGMT_STATUS_FW_STATE 3
  else if t.mgmt.loading != k then t
  else { t.clr R.MGMT_STATUS_TRIAL with mgmt := { t.mgmt with loading := 1 - k, second := true, activating := false } }

/-- BOOT_TIMEOUT. -/
def execBootTimeout (s : State) : Host.Outcome State Fault Refusal := .next s.bootTimeout

/-- R375: an image on trial confirms itself. -/
def State.confirm (s : State) : State :=
  if s.fwRuns && s.is R.MGMT_STATUS_TRIAL then
    (s.writeHeader (s.rd R.MGMT_STATUS_SLOT) false 0).clr R.MGMT_STATUS_TRIAL
  else s

/-- CONFIRM_DELAY_EXPIRY. -/
def execConfirmDelayExpiry (s : State) : Host.Outcome State Fault Refusal :=
  .next (if s.mgmt.confirmDelay != 0 && decide (s.mgmt.confirmDelay ≤ s.mgmt.runAge) then s.confirm else s)

/-! ### Updates (R376 to R378) -/

/-- The slot that does not run. -/
def State.spareSlot (s : State) : Nat := 1 - s.rd R.MGMT_STATUS_SLOT

/-- An update is in state ERASING, RECEIVING or VERIFYING (DEDUCED in part: log entry 29). -/
def State.updating (s : State) : Bool :=
  let u := s.rd R.MGMT_STATUS_UPDATE_STATE
  decide (1 ≤ u) && decide (u ≤ 3)

/-- R376: an update fails with a code of Table 17.4. -/
def State.updateFail (s : State) (code : Nat) : State :=
  let k := s.spareSlot
  let s := (s.wr R.MGMT_STATUS_UPDATE_STATE 5).wr R.MGMT_UPDATE_INFO_ERROR code
  (((s.logSlot k code).setSlot k []).raise E.MGMT_UPDATE_FAILED)

/-- update_begin from a carrier. -/
def State.updateBegin (s : State) (carrier total : Nat) : State :=
  let s := if s.updating then s.updateFail 9 else s
  let s := ((s.wr R.MGMT_STATUS_UPDATE_STATE 1).wr R.MGMT_UPDATE_INFO_SOURCE carrier).wr R.MGMT_UPDATE_BYTES_BYTES 0
  let t := (s.wr R.MGMT_STAGED_VERSION_VERSION 0).setSlot s.spareSlot []
  { t with mgmt := { t.mgmt with updTotal := total } }

/-- update_data at `off`: programmed at UPDATE_BYTES, or the update ends with ORDER (DEDUCED in part: log entry 39). -/
def State.updateData (s : State) (off : Nat) (bs : List Byte) : State :=
  let n := s.rd R.MGMT_UPDATE_BYTES_BYTES
  if off != n || decide (s.mgmt.updTotal < n + bs.length) then s.updateFail 7
  else (s.setSlot s.spareSlot (s.slot s.spareSlot ++ bs)).wr R.MGMT_UPDATE_BYTES_BYTES (n + bs.length)

/-- update_commit (DEDUCED in part: log entry 39). -/
def State.updateCommit (s : State) (mode : Nat) : State :=
  (s.wr R.MGMT_UPDATE_INFO_ACT_MODE mode).wr R.MGMT_STATUS_UPDATE_STATE 3

/-- update_abort. -/
def State.updateAbort (s : State) : State := if s.updating then s.updateFail 9 else s

/-- R377: a change of the control token's holder ends an update. -/
def State.updateTokenLost (s : State) : State := if s.updating then s.updateFail 8 else s

/-- UPDATE_ERASE_DONE: `ok` says whether the flash erased the sectors (Table 17.4 code 6). -/
def execUpdateEraseDone (s : State) (ok : Bool := true) : Host.Outcome State Fault Refusal :=
  .next (if s.fwRuns && s.rd R.MGMT_STATUS_UPDATE_STATE == 1 then
    (if ok then s.wr R.MGMT_STATUS_UPDATE_STATE 2 else s.updateFail 6) else s)

/-- R376 step 3, R378: the slot is read back and judged; ACT_MODE 2 activates at once. `ok`: the flash reads back what was programmed
(Table 17.4 code 6, which applies where no code before it does). -/
def State.updateVerified (s : State) (ok : Bool) : State :=
  if !s.fwRuns || s.rd R.MGMT_STATUS_UPDATE_STATE != 3 then s else
  let img := s.slot s.spareSlot
  let found := s.imageCode img (some (s.rd R.MGMT_UPDATE_BYTES_BYTES))
  let code := if found = 0 ∧ !ok then 6 else found
  if code != 0 then s.updateFail code
  else
    let s := (s.wr R.MGMT_STATUS_UPDATE_STATE 4).wr R.MGMT_STAGED_VERSION_VERSION (imgVersion img)
    let s := (s.raise E.MGMT_UPDATE_STAGED).logSlot s.spareSlot 0
    if s.rd R.MGMT_UPDATE_INFO_ACT_MODE = 2 then s.activate.mgmtRestart else s

/-- UPDATE_STAGED. -/
def execUpdateStaged (s : State) (ok : Bool := true) : Host.Outcome State Fault Refusal := .next (s.updateVerified ok)

/-- R378: the activation of ACT_MODE 1 after a shift start. -/
def State.shiftActivate (s : State) : State :=
  if s.fwRuns && s.rd R.MGMT_STATUS_UPDATE_STATE == 4 && s.rd R.MGMT_UPDATE_INFO_ACT_MODE == 1 then s.activate.mgmtRestart
  else s

/-! ### Restart and watchdog (R379) -/

/-- CORE_RESET. -/
def execCoreReset (src : RegSrc) (s : State) : Host.Outcome State Fault Refusal := .next (s.inbound src).mgmtRestart

/-- R379: one tick of the watchdog, which has not expired: a kick by firmware, whose instants the spec does not give, reloads PERIOD;
without one it counts down (DESIGN CHOICE in part: log entry 39). -/
def State.wdogTick (s : State) : State :=
  if !s.fwRuns || !s.is R.MGMT_WDOG_CTRL_EN || s.rd R.MGMT_WDOG_COUNT_TICKS == 0 then s
  else
    let d := s.draw
    d.2.wr R.MGMT_WDOG_COUNT_TICKS
      (if Config.freeNat d.1 % 2 = 0 then s.rd R.MGMT_WDOG_CTRL_PERIOD else s.rd R.MGMT_WDOG_COUNT_TICKS - 1)

/-- R379: the watchdog expires: it has counted down to 0. -/
def State.watchdog (s : State) : State :=
  if !s.fwRuns || !s.is R.MGMT_WDOG_CTRL_EN || s.rd R.MGMT_WDOG_COUNT_TICKS != 0 then s else
  let t := s.detect [98]
  if t.is R.MGMT_WDOG_CTRL_EN then t.wr R.MGMT_WDOG_COUNT_TICKS (t.rd R.MGMT_WDOG_CTRL_PERIOD) else t

/-- WATCHDOG_EXPIRY. -/
def execWatchdogExpiry (s : State) : Host.Outcome State Fault Refusal := .next s.watchdog

/-! ### The event log in flash (R381) -/

/-- A persistence starts, up to the SEQ in force now. One that runs goes on, and one that cannot start yet falls due
(DEDUCED in part: log entry 38). -/
def State.persistStart (s : State) : State :=
  if !s.fwRuns || s.mgmt.persistTo.isSome then { s with mgmt := { s.mgmt with persistDue := true } }
  else
    { s.set R.MGMT_CTRL_LOG_PERSIST with
      mgmt := { s.mgmt with persistTo := some (s.rd R.MGMT_LOG_SEQ_SEQ), persistDue := false } }

/-- Entries not yet persisted. -/
def State.unpersisted (s : State) : Nat :=
  (ringBetween s.mgmt.ring (s.rd R.MGMT_LOG_PERSISTED_SEQ_SEQ) (s.rd R.MGMT_LOG_SEQ_SEQ)).length

/-- R381: 2,048 entries are unpersisted, or a persistence is due. -/
def State.persistCheck (s : State) : State :=
  if s.mgmt.persistTo.isNone && (s.mgmt.persistDue || decide (2048 ≤ s.unpersisted)) then s.persistStart else s

/-- LOG_PERSIST. -/
def execLogPersist (src : RegSrc) (s : State) : Host.Outcome State Fault Refusal := .next (s.inbound src).persistStart

/-- A persistence ends (DEDUCED in part: log entry 38). -/
def State.persistDone (s : State) : State :=
  match s.mgmt.persistTo with
  | none => s
  | some b =>
    let t := (s.persistBefore b).clr R.MGMT_CTRL_LOG_PERSIST
    (({ t with mgmt := { t.mgmt with persistTo := none } } : State).raise E.MGMT_LOG_PERSISTED).persistCheck

/-- LOG_PERSIST_DONE. -/
def execLogPersistDone (s : State) : Host.Outcome State Fault Refusal := .next s.persistDone

/-- Entries renumbered from SEQ `q` on. -/
def reseq : Nat → List LogEntry → List LogEntry
  | _, [] => []
  | q, e :: es => { e with seq := q } :: reseq (seqNext q) es

/-- R381: firmware continues from the highest SEQ in the flash area (DEDUCED in part: log entry 38). -/
def State.resumeLog (s : State) : State :=
  match (s.mgmt.flashLog.filterMap id).getLast? with
  | none => s
  | some e =>
    let q := seqNext e.seq
    let r := reseq q s.mgmt.ring
    let s := (s.wr R.MGMT_LOG_PERSISTED_SEQ_SEQ q).wr R.MGMT_LOG_SEQ_SEQ ((q + r.length) % 0xFFFFFFFF)
    { s with mgmt := { s.mgmt with ring := r } }

end Sys2Proof.Machine
end

