-- ==== Sys2Proof/Machine/SelfTest.lean ====
section
/-! DEFINITION. Core samples, service mode and the tests of Table 15.1 (Self-test and calibration). -/
namespace Sys2Proof.Machine

/-! ### Grants (R329) -/

/-- CS_KIND follows the samples in progress (DEDUCED in part: log entry 34). -/
def State.csKind (s : State) : State :=
  s.wr R.TEST_STATUS_CS_KIND
    (if s.test.mem.isSome then 1 else if s.test.way.isSome then 2 else if s.test.lane.isSome then 3 else 0)

/-- A sample of any kind is in progress. -/
def State.sampling (s : State) : Bool := s.test.mem.isSome || s.test.way.isSome || s.test.lane.isSome

/-- A slice of a kind falls due: the tick is a multiple of the kind's interval and it has had none yet. -/
def State.csDue (s : State) (k : Nat) (interval : Fam) : Bool :=
  s.live 3 && !s.sliced k && s.time.now % max 1 (s.rd interval) == 0

/-- R329: a granted slice may start a sample of its kind (DEDUCED in part: log entry 34). -/
def State.csMay (s : State) (en : Fam) (busy : Bool) : Bool :=
  s.rd R.POWER_STATUS_STATE == 0 && s.rd R.TIME_SHIFT_STATUS_STATE != 3 && !s.is R.TEST_CTRL_SERVICE && s.is en && !busy &&
    s.is R.HOST_STATUS_STACK_READY && !s.power.granted.contains 3

/-- A skipped grant (DEDUCED in part: log entry 34). -/
def State.csSkip (s : State) : State := s.incSat R.TEST_CS_SKIPS_COUNT

/-! ### Admission (Table 03.8) -/

/-- FULL, no retention-suspect mark, no planned erasure: the bench-recalibration row. -/
def State.recalAdmits (s : State) : Bool := s.protection == 0 && !s.suspectAny && !s.is R.CODE_PLANNED_ACTIVE

/-- R330: a memory sample on a layer is admitted. -/
def State.csMemAdmits (s : State) (layer : Nat) : Bool :=
  s.recalAdmits && s.ras.rejoinNext.isNone && s.ras.sweeps.isEmpty && s.layer layer == 0 &&
    !(s.fault.inj.any fun j => j.checker == 2 || j.checker == 3) && s.ras.repair.isNone

/-! ### Memory samples (R330 to R332) -/

/-- The sample after (layer, position, row-group), and whether a pass ends. -/
def State.csMemNext (s : State) (layer pos group : Nat) : (Nat × Nat × Nat) × Bool :=
  if layer + 1 < s.nLayer then ((layer + 1, pos, group), false)
  else if pos < 63 then ((0, pos + 1, group), false)
  else if group < 4095 then ((0, 0, group + 1), false)
  else ((0, 0, 0), true)

/-- CS_MEM_PTR moved on by one sample. -/
def State.csMemStep (s : State) : State :=
  let n := s.csMemNext (s.rd R.TEST_CS_MEM_PTR_LAYER) (s.rd R.TEST_CS_MEM_PTR_POSITION) (s.rd R.TEST_CS_MEM_PTR_ROW_GROUP)
  let t := (s.wr R.TEST_CS_MEM_PTR_LAYER n.1.1).wr R.TEST_CS_MEM_PTR_POSITION n.1.2.1
  let t := t.wr R.TEST_CS_MEM_PTR_ROW_GROUP n.1.2.2
  if n.2 then t.inc R.TEST_CS_MEM_PASSES_COUNT else t

/-- Up to `n` samples passed over, whose layers are not ONLINE. -/
def State.csMemSkip : Nat → State → State
  | 0, s => s
  | n + 1, s => if s.layer (s.rd R.TEST_CS_MEM_PTR_LAYER) = 0 then s else State.csMemSkip n s.csMemStep

/-- MEMRAS.PLANNED written for a row-group (DEDUCED in part: log entry 34). -/
def State.plan (s : State) (layer pos group : Nat) : State :=
  let t := (s.wr R.CODE_PLANNED_LAYER layer).wr R.CODE_PLANNED_CHANNEL (pos / 32)
  let t := (t.wr R.CODE_PLANNED_BANK_GROUP (pos % 32 / 4)).wr R.CODE_PLANNED_BANK (pos % 4)
  ((t.wr R.CODE_PLANNED_ROW_GROUP group).set R.CODE_PLANNED_ACTIVE).wr R.TEST_CS_PROGRESS_REBUILD_PTR 0

/-- CS_RECORD written (R340). -/
def State.csRecord (s : State) (kind layer pos row rows : Nat) : State :=
  let t := (s.set R.TEST_CS_RECORD_VALID).wr R.TEST_CS_RECORD_KIND kind
  let t := (t.wr R.TEST_CS_RECORD_LAYER layer).wr R.TEST_CS_RECORD_POSITION pos
  (t.wr R.TEST_CS_RECORD_FIRST_ROW row).wr R.TEST_CS_RECORD_ROWS_ROWS rows

/-- CS_MEM_SLICE. A grant that is skipped leaves the pointer as it is (R329). The REG_WR frame that starts the bench's march engine carries free values, since the spec gives that engine
no register (DESIGN CHOICE in part: log entry 34). -/
def State.csMemSlice (s : State) : State :=
  if !s.csDue 2 R.TEST_CS_MEM_INTERVAL_TICKS then s else
  let s := s.grantSlice 2
  if !s.csMay R.TEST_CTRL_CS_MEM_EN s.test.mem.isSome || (s.test.lane.any fun c => c.used) then s.csSkip else
  let u := State.csMemSkip 32 s
  let layer := u.rd R.TEST_CS_MEM_PTR_LAYER
  let pos := u.rd R.TEST_CS_MEM_PTR_POSITION
  let group := u.rd R.TEST_CS_MEM_PTR_ROW_GROUP
  if !u.csMemAdmits layer then s.csSkip.raise E.TEST_CS_SKIPPED
  else
    let r := ((u.plan layer pos group).csRecord 0 layer pos (64 * group) 64).draw
    let free := fun k => Config.freeNat (2 * r.1 + k)
    let t := r.2.regAccess (layer / 2) ⟨free 0 % 256, true, free 1 % 2 ^ 32, .march⟩
    ({ t with test := { t.test with mem := some ⟨layer, pos, group, false, [], false, none⟩ } } : State).csKind

/-- CS_MEM_SLICE. -/
def execCsMemSlice (s : State) : Host.Outcome State Fault Refusal := .next s.csMemSlice

/-- R331 step 3: what a march that runs to its end leaves in a row-group: its last background, on every lane
(DEDUCED in part: log entry 34). -/
def State.marched (s : State) (layer : Nat) : State :=
  (List.range 512).foldl (fun s i => s.poke (s.place layer (s.plannedSlab i)) (List.replicate portionBytes 0x0F#8)) s

/-- R117: the activates of March C− over a row-group: 6 elements of 64 rows with each of 4 backgrounds
(DEDUCED in part: log entry 34). -/
def marchActs : Nat := 64 * 6 * 4

/-- R113: the commands of a march at bench `b` take what is left of the tick's tokens (DEDUCED in part: log entry 34). -/
def State.marchTokens (s : State) (b : Nat) : State := s.modBench b fun x => { x with tokens := x.tokens - marchActs }

/-- R331 step 2: the bench has performed the requests for the bank that it held when it was told to march. -/
def State.marchBegun (s : State) (m : CsMem) : Bool :=
  let c := s.ctl (m.layer / 2) (m.pos / 32)
  m.ord.any fun n => (c.reads ++ c.writes).all fun r => r.bank != m.pos % 32 || decide (n ≤ r.ord)

/-- R331: the march ends, with the rows that failed it; the rebuild starts. -/
def State.csMarchDone (s : State) (fails : List Nat) : State :=
  match s.test.mem with
  | none => s
  | some m =>
    if m.rebuilding || !s.marchBegun m then s else
    let s := (s.landAll (m.layer / 2)).marchTokens (m.layer / 2)
    let rows := (List.range 64).map (64 * m.group + ·)
    let m' := { m with rebuilding := true, fails := rows.filter fails.contains }
    let t := (s.marched m.layer).countActs (m.layer / 2) (m.pos / 32) (m.pos % 32) m.group marchActs
    ({ t with test := { t.test with mem := some m' } } : State).kickSweeps

/-- CS_MEM_MARCH_DONE. -/
def execCsMemMarchDone (fails : List Nat) (s : State) : Host.Outcome State Fault Refusal := .next (s.csMarchDone fails)

/-- R332: a row entered in the row watch with its count at ROW_THRESH. -/
def State.watchRow (s : State) (layer pos row : Nat) : State :=
  let n := s.rd R.RAS_THRESH_ROW_THRESH
  let l := watchCharge s.ras.watch layer pos row
  { s with ras := { s.ras with watch := l.map fun e =>
      if e.layer == layer && e.pos == pos && e.row == row then { e with count := max e.count n } else e } }

/-- A failing sample or test recorded. -/
def State.csFailInfo (s : State) (row layer pos : Nat) : State :=
  ((s.wr R.TEST_TEST_FAIL_INFO_ROW row).wr R.TEST_TEST_FAIL_INFO_LAYER layer).wr R.TEST_TEST_FAIL_INFO_POSITION pos

/-- A failing core sample. -/
def State.csFailed (s : State) : State :=
  let t := (s.incSat R.TEST_CS_FAILS_COUNT).raise E.TEST_CS_FAIL
  ((t.wr R.TEST_TEST_STATUS_TEST 0).wr R.TEST_TEST_STATUS_RESULT 2).wr R.TEST_TEST_TICK_TICK t.tick32

/-- R336: service mode comes into force once no sample is in progress and everything dirty has been written back. -/
def State.serviceSettle (s : State) : State :=
  if !s.test.entering || s.sampling || s.cache.flush.isSome then s else
  let t := s.flushAll
  if t.anyDirty || !t.cache.ops.isEmpty then t
  else
    let u : State := { t with cache := { t.cache with lines := [] }, test := { t.test with entering := false } }
    (u.set R.TEST_STATUS_SERVICE_MODE).clr R.HOST_STATUS_STACK_READY

/-- R340: the next row-group of CS_RECORD restored, as a planned erasure; none left clears it. -/
def State.restoreNext (s : State) : State :=
  if !s.is R.TEST_CS_RECORD_VALID then s
  else if s.rd R.TEST_CS_RECORD_ROWS_ROWS = 0 then s.clr R.TEST_CS_RECORD_VALID
  else
    let layer := s.rd R.TEST_CS_RECORD_LAYER
    let pos := s.rd R.TEST_CS_RECORD_POSITION
    let group := s.rd R.TEST_CS_RECORD_FIRST_ROW / 64
    let t := s.plan layer pos group
    (({ t with test := { t.test with mem := some ⟨layer, pos, group, true, [], true, none⟩ } } : State).csKind).kickSweeps

/-- R331 step 5, R332, R340: the 512 portions are rebuilt. -/
def State.csRebuilt (s : State) : State :=
  match s.test.mem with
  | none => s
  | some m =>
    if !m.rebuilding || s.rd R.TEST_CS_PROGRESS_REBUILD_PTR != 512 then s else
    let t : State := { s.clr R.CODE_PLANNED_ACTIVE with test := { s.test with mem := none } }
    if m.restoring then
      let t := (t.wr R.TEST_CS_RECORD_FIRST_ROW (64 * (m.group + 1))).wr R.TEST_CS_RECORD_ROWS_ROWS
        (t.rd R.TEST_CS_RECORD_ROWS_ROWS - 64)
      t.csKind.restoreNext
    else
      let t := t.clr R.TEST_CS_RECORD_VALID
      let t := m.fails.foldl (fun t row => t.watchRow m.layer m.pos row) t
      let t := match m.fails with
        | [] => t
        | row :: _ => (t.csFailInfo row m.layer m.pos).csFailed
      (t.csMemStep.csKind).serviceSettle

/-- CS_MEM_REBUILD_DONE. -/
def execCsMemRebuildDone (s : State) : Host.Outcome State Fault Refusal := .next s.csRebuilt

/-! ### Slab-cache ways (R333) -/

/-- R333 steps 2 and 3: the lines of the way under test are written back and invalidated; with none left its WAY_DISABLE bit is
set. -/
def State.wayEmpty (s : State) : State :=
  match s.test.way with
  | none => s
  | some w =>
    let mine := (s.cache.lines.filter (·.way == w)).map (·.slab)
    let t := mine.foldl (fun t slab => (t.writeBack slab).dropClean slab) s
    if t.cache.lines.any (·.way == w) then t
    else t.wr R.CACHE_WAY_DISABLE_WAYS (setBit (t.rd R.CACHE_WAY_DISABLE_WAYS) w true)

/-- CS_WAY_SLICE. -/
def State.csWaySlice (s : State) : State :=
  if !s.csDue 3 R.TEST_CS_WAY_INTERVAL_TICKS then s else
  let s := s.grantSlice 3
  if !s.csMay R.TEST_CTRL_CS_WAY_EN s.test.way.isSome || !s.cacheOn || s.protection == 3 || s.cache.flush.isSome || s.wt ||
      s.rd R.CACHE_WAY_DISABLE_WAYS != 0 then s.csSkip
  else
    (({ s with test := { s.test with way := some (s.rd R.TEST_CS_WAY_PTR_WAY) } } : State).wayEmpty).csKind

/-- CS_WAY_SLICE. -/
def execCsWaySlice (s : State) : Host.Outcome State Fault Refusal := .next s.csWaySlice

/-- A way held out of service. -/
def State.wayFailed (s : State) (w : Nat) : State :=
  let t := s.wr R.CACHE_WAY_DISABLE_WAYS (setBit (s.rd R.CACHE_WAY_DISABLE_WAYS) w true)
  t.wr R.TEST_CS_WAY_PTR_WAY_FAILED (setBit (t.rd R.TEST_CS_WAY_PTR_WAY_FAILED) w true)

/-- R333 steps 4 and 5: the march of the way ends. -/
def State.csWayDone (s : State) (pass : Bool) : State :=
  match s.test.way with
  | none => s
  | some w =>
    let t := s.wayEmpty
    if !(t.rd R.CACHE_WAY_DISABLE_WAYS).testBit w then t else
    let t : State := { t with test := { t.test with way := none } }
    let t := if pass then t.wr R.CACHE_WAY_DISABLE_WAYS (setBit (t.rd R.CACHE_WAY_DISABLE_WAYS) w false)
      else (t.wayFailed w).csFailed
    ((t.wr R.TEST_CS_WAY_PTR_WAY ((w + 1) % 16)).csKind).serviceSettle

/-- CS_WAY_DONE. -/
def execCsWayDone (pass : Bool) (s : State) : Host.Outcome State Fault Refusal := .next (s.csWayDone pass)

/-! ### Shaft lanes (R334) -/

/-- Every lane in pointer order: bench, direction, lane. -/
def lanesAll : List (Nat × Bool × Nat) :=
  (List.range 9).flatMap fun b => [false, true].flatMap fun up => (List.range 76).map fun l => (b, up, l)

/-- CS_LANE_PTR. -/
def State.lanePtr (s : State) : Nat × Bool × Nat :=
  (s.rd R.TEST_CS_LANE_PTR_BENCH, s.is R.TEST_CS_LANE_PTR_DIR, s.rd R.TEST_CS_LANE_PTR_LANE)

/-- CS_LANE_PTR written. -/
def State.setLanePtr (s : State) (p : Nat × Bool × Nat) : State :=
  ((s.wr R.TEST_CS_LANE_PTR_BENCH p.1).wrB R.TEST_CS_LANE_PTR_DIR p.2.1).wr R.TEST_CS_LANE_PTR_LANE p.2.2

/-- A lane's index in the order of the pointer. -/
def laneOrd (p : Nat × Bool × Nat) : Nat := (2 * p.1 + b2n p.2.1) * 76 + p.2.2

/-- The first lane from the pointer on, wrapping, that is good and whose bench is ACTIVE. -/
def State.laneNext (s : State) : Option (Nat × Bool × Nat) :=
  let ok : Nat × Bool × Nat → Bool := fun p =>
    decide (p.1 < s.nBench) && s.linkState p.1 == linkActive && !s.is (failedFam p.2.1) [p.1, p.2.2]
  let n := laneOrd s.lanePtr
  ((lanesAll.filter fun p => decide (n ≤ laneOrd p)) ++ lanesAll.filter fun p => decide (laneOrd p < n)).find? ok

/-- CS_LANE_SLICE. -/
def State.csLaneSlice (s : State) : State :=
  if !s.csDue 4 R.TEST_CS_LANE_INTERVAL_TICKS then s else
  let s := s.grantSlice 4
  if !s.csMay R.TEST_CTRL_CS_LANE_EN s.test.lane.isSome || s.protection == 3 then s.csSkip else
  match s.laneNext with
  | none => s.csSkip
  | some (b, up, l) =>
    let used := s.is R.SHAFT_LANE_MAPPED [b, b2n up, l]
    let good := s.goodLanes b up
    let spare := good.any fun k => !s.is R.SHAFT_LANE_MAPPED [b, b2n up, k]
    if used && (s.test.mem.isSome || !s.recalAdmits || !spare) then s.csSkip
    else
      let s := s.setLanePtr (b, up, l)
      let t : State := { s with test := { s.test with lane := some ⟨b, up, l, used⟩ } }
      (if used then t.mapChange b else t).csKind

/-- CS_LANE_SLICE. -/
def execCsLaneSlice (s : State) : Host.Outcome State Fault Refusal := .next s.csLaneSlice

/-- The map after an unused lane has failed: its width stands, its spares are fewer. -/
def State.mapDirs (s : State) (b : Nat) : State := ((s.mapDir b false).1.mapDir b true).1

/-- R334: the PRBS run ends with the errors counted; a run that was cut off gives none. -/
def State.csLaneDone (s : State) (errors : Option Nat) : State :=
  match s.test.lane, errors with
  | none, _ => s
  | some _, none => (s.laneEnd.csKind).serviceSettle
  | some c, some n =>
    let s := s.wr R.SHAFT_PRBS_ERR_COUNT (min n (2 ^ 32 - 1)) [c.bench, b2n c.up, c.lane]
    let bad := decide (s.rd R.SHAFT_TRAIN_CFG_PRBS_LIMIT [c.bench] < n)
    let s := if bad then ((s.failLanes c.bench [(c.up, c.lane)]).csFailInfo c.lane c.bench 0).csFailed else s
    let s := if bad && !c.used then s.laneEnd.mapDirs c.bench else s.laneEnd
    let k := (laneOrd (c.bench, c.up, c.lane) + 1) % (18 * 76)
    ((s.setLanePtr (lanesAll.getD k (0, false, 0))).csKind).serviceSettle

/-- CS_LANE_DONE. -/
def execCsLaneDone (errors : Option Nat) (s : State) : Host.Outcome State Fault Refusal := .next (s.csLaneDone errors)

/-! ### Service mode (R336) -/

/-- CTRL.SERVICE written 1 (DEDUCED in part: log entry 35). -/
def State.serviceEnter (s : State) (src : RegSrc) : State :=
  if !s.live 3 || s.is R.TEST_CTRL_SERVICE then s else
  let sh := s.rd R.TIME_SHIFT_STATUS_STATE
  if s.rd R.POWER_STATUS_STATE != 0 || !(sh == 0 || sh == 4) || s.haulBusy || s.is R.CODE_CODE_STATUS_CLEAR_BUSY ||
      s.ras.rejoinNext.isSome || !s.ras.sweeps.isEmpty || s.ras.repair.isSome then s.refuse src R.TEST_CTRL_SERVICE.off
  else ({ s.set R.TEST_CTRL_SERVICE with test := { s.test with entering := true } } : State).serviceSettle

/-- SERVICE_ENTER. -/
def execServiceEnter (src : RegSrc) (s : State) : Host.Outcome State Fault Refusal := .next ((s.inbound src).serviceEnter src)

/-- Service mode ends; the stack is ready again. -/
def State.serviceLeave (s : State) : State :=
  let was := s.is R.TEST_STATUS_SERVICE_MODE
  let t : State := { (s.clr R.TEST_CTRL_SERVICE).clr R.TEST_STATUS_SERVICE_MODE with test := { s.test with entering := false } }
  if was then (((t.set R.HOST_STATUS_STACK_READY).raise E.HOST_STACK_READY_SET).kickSweeps).advanceAll else t

/-- CTRL.SERVICE written 0. -/
def State.serviceExit (s : State) (src : RegSrc) : State :=
  if !s.live 3 || !s.is R.TEST_CTRL_SERVICE then s
  else if s.test.test.isSome then s.refuse src R.TEST_CTRL_SERVICE.off
  else s.serviceLeave

/-- SERVICE_EXIT. -/
def execServiceExit (src : RegSrc) (s : State) : Host.Outcome State Fault Refusal := .next ((s.inbound src).serviceExit src)

/-! ### Tests (R335 to R340) -/

/-- Start-up, or the exit from EMBER, has not reached STACK_READY. -/
def State.startingUp (s : State) : Bool :=
  !s.is R.HOST_STATUS_STACK_READY && !s.is R.TEST_CTRL_SERVICE &&
    (s.rd R.POWER_STATUS_STATE == 0 || (s.rd R.POWER_STATUS_STATE == 3 && s.power.seq == .exiting))

/-- A test that ran, or a request that was not run, recorded. -/
def State.testResult (s : State) (code result : Nat) : State :=
  ((s.wr R.TEST_TEST_STATUS_TEST code).wr R.TEST_TEST_STATUS_RESULT result).wr R.TEST_TEST_TICK_TICK s.tick32

/-- R338 step 1: a bench removed: HOLD is sent, and both its layers become LOST with cause 4
(DEDUCED in part: log entry 25). -/
def State.removeBench (s : State) (b : Nat) : State :=
  let t := s.sendDown b 0x40 ⟨0, 0, [], []⟩
  ((((t.loseLayer (2 * b) 4).loseLayer (2 * b + 1) 4).protSettle).kickSweeps).repairSettle

/-- A test runs on one bench. -/
def perBench (code : Nat) : Bool := code == 3 || code == 6

/-- R337: the result with which a request ends at once; none when the test runs. At start-up LBIST_BENCH runs on every bench beside
the others (R440) (DEDUCED in part: log entry 35). -/
def State.testRefusal (s : State) (code target : Nat) : Option Nat :=
  let free := s.is R.TEST_STATUS_SERVICE_MODE || s.startingUp
  let sh := s.rd R.TIME_SHIFT_STATUS_STATE
  if (!free && !perBench code) || (code == 5 && !s.is R.TEST_STATUS_SERVICE_MODE) then some 3
  else if (if code == 3 && s.startingUp then s.test.lbist.contains target else s.test.test.isSome) then some 3
  else if code = 0 ∨ 6 < code ∨ (perBench code ∧ s.nBench ≤ target) ∨ (code = 5 ∧ s.nLayer ≤ target) then some 5
  else if code = 5 ∧ s.protection ≠ 0 then some 4
  else if code = 4 ∧ sh ≠ 0 ∧ sh ≠ 4 then some 5
  else if !free && !s.recalAdmits then some 4
  else none

/-- R337, R338: TEST_CTRL.GO (DEDUCED in part: log entry 13). -/
def State.testGo (s : State) (code target pos : Nat) : State :=
  if !s.live 3 then s else
  let s := if R.TEST_TEST_CTRL_TEST.legal code then s.wr R.TEST_TEST_CTRL_TEST code else s
  let s := (s.wr R.TEST_TEST_CTRL_TARGET target).wr R.TEST_TEST_CTRL_POSITION pos
  match s.testRefusal code target with
  | some r => s.testResult code r
  | none =>
    let removed := perBench code && !(s.is R.TEST_STATUS_SERVICE_MODE || s.startingUp)
    let t := (((s.set R.TEST_TEST_CTRL_GO).set R.TEST_STATUS_TEST_BUSY).wr R.TEST_TEST_STATUS_TEST code).wr
      R.TEST_TEST_STATUS_RESULT 8
    if code = 3 ∧ s.startingUp then { t with test := { t.test with lbist := target :: t.test.lbist } } else
    let t : State := { t with test := { t.test with test := some ⟨code, target, pos % 64, removed⟩ } }
    if removed then t.removeBench target
    else if perBench code ∧ s.is R.TEST_STATUS_SERVICE_MODE then t.sendDown target 0x40 ⟨0, 0, [], []⟩
    else if code = 5 then t.csRecord 1 target (pos % 64) 0 65536
    else t

/-- LBIST_BASE. -/
def execLbistBase (src : RegSrc) (s : State) : Host.Outcome State Fault Refusal := .next ((s.inbound src).testGo 1 0 0)

/-- SRAM_BASE. -/
def execSramBase (src : RegSrc) (s : State) : Host.Outcome State Fault Refusal := .next ((s.inbound src).testGo 2 0 0)

/-- LBIST_BENCH. -/
def execLbistBench (src : RegSrc) (b : Nat) (s : State) : Host.Outcome State Fault Refusal := .next ((s.inbound src).testGo 3 b 0)

/-- MARCH_FULL. -/
def execMarchFull (src : RegSrc) (s : State) : Host.Outcome State Fault Refusal := .next ((s.inbound src).testGo 4 0 0)

/-- MARCH_BANK. -/
def execMarchBank (src : RegSrc) (layer pos : Nat) (s : State) : Host.Outcome State Fault Refusal :=
  .next ((s.inbound src).testGo 5 layer pos)

/-- SHAFT_PRBS. -/
def execShaftPrbs (src : RegSrc) (b : Nat) (s : State) : Host.Outcome State Fault Refusal := .next ((s.inbound src).testGo 6 b 0)

/-- R339: a row that MARCH_FULL found failing, remapped to a free spare; a bank without one loses its layer. -/
def State.remapRow (s : State) (row layer pos : Nat) : State :=
  if s.nLayer ≤ layer ∨ s.layer layer = 1 ∨ s.remaps.any fun r => r.layer == layer && r.pos == pos && r.row == row then s
  else match s.freeSpare layer pos with
    | none => s.loseLayer layer 3
    | some k =>
      let t := s.setRemaps (layer / 2) (putRemap ⟨layer, pos, k, row⟩)
      let t := t.addSat R.RAS_SPARES_USED_COUNT 1 [layer, pos]
      t.recordDue 1 layer (pos / 32 + 2 * (pos % 32 / 4) + 16 * (pos % 4)) row k

/-- R442: arrays that SRAM_BASE found failing: (array of Table 14.5, way, 0); a failing cache way is held out. -/
def State.sramFailed (s : State) (fails : List (Nat × Nat × Nat)) : State :=
  let t := fails.foldl (fun t f => if f.1 < 2 ∧ f.2.1 < 16 then t.wayFailed f.2.1 else t) s
  t.detect (fails.flatMap fun f => arraySource f.1 true false)

/-- What the failures of a test lead to (DEDUCED in part: log entry 32). -/
def State.testFailed (s : State) (r : TestRun) (fails : List (Nat × Nat × Nat)) : State :=
  match r.code with
  | 1 => s.detect [41]
  | 2 => s.sramFailed fails
  | 4 => (fails.foldl (fun s f => s.remapRow (f.1 % 2 ^ 18) f.2.1 (f.2.2 % 64)) s).protSettle
  | 5 => fails.foldl (fun s f => s.watchRow r.target r.pos (f.1 % 2 ^ 18)) s
  | _ => if s.linkState r.target = linkOffline then s else s.goOffline r.target

/-- MARCH_FULL has marched every bank of the active layers, and a stack clear follows, which only protection
state FAILED refuses (R14, R74, R442, Table 15.1)
(DEDUCED in part: log entry 34). -/
def State.marchedAll (s : State) : State :=
  let s : State := { s with test := { s.test with fullDone := s.test.fullDone || s.startingUp } }
  let t := s.addSeg ⟨true, s.nBench, mapOf s.nLayer fun n => s.layer n == 0 || s.layer n == 2, 0, 0, 0, s.hash, []⟩
  if t.cacheOn && t.protection != 3 then t.clearStart else t

/-- TEST_CTRL.GO and TEST_BUSY follow the tests that run. -/
def State.testBusy (s : State) : State :=
  let on := s.test.test.isSome || !s.test.lbist.isEmpty
  (s.wrB R.TEST_TEST_CTRL_GO on).wrB R.TEST_STATUS_TEST_BUSY on

/-- R335: a test that start-up has run. -/
def State.noteRan (s : State) (code target : Nat) : State :=
  if s.startingUp then { s with test := { s.test with ran := (code, target) :: s.test.ran } } else s

/-- R440, R442: the LBIST_BENCH of start-up ends on bench `b`; one that fails takes the bench offline. -/
def State.lbistDone (s : State) (b : Nat) (pass : Bool) : State :=
  if !s.test.lbist.contains b then s else
  let t := ({ s with test := { s.test with lbist := s.test.lbist.filter (· != b) } } : State).testBusy
  let t := ((t.noteRan 3 b).testResult 3 (if pass then 1 else 2)).csFailInfo 0 0 0
  (if pass || t.linkState b == linkOffline then t else t.goOffline b).raise E.TEST_TEST_DONE

/-- R338: the layers of a bench that has passed its test rejoin once its link is trained. -/
def State.testBack (s : State) (b : Nat) : State :=
  let t : State := { s with test := { s.test with back := b :: s.test.back } }
  if t.linkState b = linkActive ∧ t.is R.BENCH_STATUS_LINK_UP [b] then t.rejoinBack b else t

/-- R113, R117, R340: MARCH_BANK has ended; of its activates those of the last row-group are still counted
(DEDUCED in part: log entry 34). -/
def State.bankMarched (s : State) (r : TestRun) : State :=
  let b := r.target / 2
  ((s.clr R.TEST_CS_RECORD_VALID).countActs b (r.pos / 32) (r.pos % 32) 4095 marchActs).marchTokens b

/-- TEST_DONE: the test ends, with what failed: (row, layer, position), or (array, way, 0) for SRAM_BASE, or (lane, bench, 0)
(DEDUCED in part: log entry 35). -/
def State.testDone (s : State) (fails : List (Nat × Nat × Nat)) : State :=
  match s.test.test with
  | none => s
  | some r =>
    let t := ({ s with test := { s.test with test := none } } : State).testBusy.noteRan r.code r.target
    let t := t.testResult r.code (if fails.isEmpty then 1 else 2)
    let t := match fails with
      | [] => t.csFailInfo 0 0 0
      | f :: _ => t.csFailInfo f.1 f.2.1 f.2.2
    let t := if r.code = 5 then t.bankMarched r else t
    let t := if fails.isEmpty then t else t.testFailed r fails
    let t := if fails.isEmpty && r.removed then t.testBack r.target else t
    (if r.code = 4 then t.marchedAll else t).raise E.TEST_TEST_DONE

/-- TEST_DONE. -/
def execTestDone (fails : List (Nat × Nat × Nat)) (s : State) (bench : Option Nat := none) : Host.Outcome State Fault Refusal :=
  .next (match bench with
    | some b => s.lbistDone b fails.isEmpty
    | none => s.testDone fails)

/-- R340: the segment of MARCH_BANK under test; how far the march has come at a tick is a free value
(DESIGN CHOICE in part: log entry 34). -/
def State.marchSegment (s : State) : State :=
  match s.test.test with
  | some r =>
    if r.code ≠ 5 then s else
    let d := s.draw
    let seg := s.rd R.TEST_CS_RECORD_FIRST_ROW / 65536 + Config.freeNat d.1 % 2
    d.2.wr R.TEST_CS_RECORD_FIRST_ROW (65536 * min 3 seg)
  | none => s

/-- R336: a shift start reached in service mode: a running test is ABORTED and service mode is left. -/
def State.serviceAbort (s : State) : State :=
  let t := match s.test.test with
    | none => s
    | some r =>
      let t := ({ s with test := { s.test with test := none } } : State).testBusy
      let t := if r.code = 5 then t.clr R.TEST_CS_RECORD_VALID else t
      let t := if r.code = 4 then t.marchedAll else t
      (t.testResult r.code 6).raise E.TEST_TEST_DONE
  t.serviceLeave

end Sys2Proof.Machine
end

