-- ==== Sys2Proof/Machine/Calib.lean ====
section
/-! DEFINITION. Calibration: the record and its copies, shadow values, runs, APPLY and SAVE (Self-test and calibration). -/
namespace Sys2Proof.Machine

/-! ### The record (R342, R343) -/

/-- MAGIC, VERSION and CHECK hold. -/
def recordValid (r : List Byte) : Bool :=
  r.length == 4096 && leNat (slice r 0 4) == 0x5443414C && leNat (slice r 4 2) == 1 &&
    leNat (slice r 0xFFC 4) == crc32c (r.take 0xFFC)

/-- SEQ of a record. -/
def recordSeq (r : List Byte) : Nat := leNat (slice r 8 4)

/-- R343: the neutral values, SHAFT_TRIM and DRV_TRIM from the TRIM words. -/
def State.neutral (s : State) : List Byte :=
  neutralWith ((List.range 2772).map fun i => Config.trimByte (0x128 + i) s.trimWords)

/-- GOV_COEF follows the values in force. -/
def State.coefSettle (s : State) : State :=
  (List.range 4).foldl (fun s l =>
    (s.wr R.THERMAL_GOV_COEF_K (s.calField (0x118 + 4 * l) 2) [l]).wr R.THERMAL_GOV_COEF_BASE (s.calField (0x11A + 4 * l) 2) [l]) s

/-- R343: firmware loads the valid copy with the higher SEQ, or neutral values; each invalid copy sets FS101. -/
def State.calLoad (s : State) : State :=
  let a := recordValid s.test.copyA
  let b := recordValid s.test.copyB
  let r :=
    if a && (!b || decide (recordSeq s.test.copyB < recordSeq s.test.copyA)) then s.test.copyA
    else if b then s.test.copyB else s.neutral
  let t : State := { s with test := { s.test with active := r, shadow := r } }
  let t := ((t.wrB R.TEST_CAL_STATUS_VALID_A a).wrB R.TEST_CAL_STATUS_VALID_B b).clr R.TEST_CAL_STATUS_SHADOW_DIRTY
  let t := (t.wr R.TEST_CAL_SEQ_SEQ (if a || b then recordSeq r else 0)).coefSettle
  if a && b then t else t.detect [101]

/-! ### Runs (R344) -/

/-- Bytes that a run of `kind` on `bench` measures: kinds 3 and 4 of a removed bench measure its trims and record new phases. -/
def calBytes (kind bench : Nat) (off : Nat) : Bool :=
  let within := fun (lo n : Nat) => decide (lo ≤ off) && decide (off < lo + n)
  match kind with
  | 1 => within 0x10 88
  | 2 => within 0x68 138
  | _ => within (0x128 + 304 * bench) 304 || within (0xBD8 + 4 * bench) 4 || within (0xBFC + 32 * bench) 32

/-- Measured bytes put into the shadow values. -/
def State.measure (s : State) (ok : Nat → Bool) (measured : List (Nat × Byte)) : State :=
  let r := measured.foldl (fun r p => if ok p.1 then setAt r p.1 p.2 else r) s.test.shadow
  ({ s with test := { s.test with shadow := r } } : State).set R.TEST_CAL_STATUS_SHADOW_DIRTY

/-- The calibration block, in PD23, answers to the registers of SELFTEST. -/
def State.calOn (s : State) : Bool := s.live 3 && s.live 23

/-- R344: a run of kind 3 or 4 on a bench that cannot be removed waits for the next level-change pause. -/
def State.calDefer (s : State) (bench : Nat) : State :=
  s.wr R.TEST_CAL_STATUS_PENDING_BENCHES (setBit (s.rd R.TEST_CAL_STATUS_PENDING_BENCHES) bench true)

/-- R344: CAL_CTRL.GO. The bench of a run of kind 3 or 4 is removed at the next tick boundary (DEDUCED in part: log entry 35). -/
def State.calGo (s : State) (kind bench : Nat) : State :=
  if !s.calOn then s else
  let s := if R.TEST_CAL_CTRL_KIND.legal kind then s.wr R.TEST_CAL_CTRL_KIND kind else s
  let s := s.wr R.TEST_CAL_CTRL_BENCH bench
  if s.test.run.isSome then s.wr R.TEST_CAL_STATUS_RESULT 3
  else if kind = 0 ∨ 4 < kind ∨ (3 ≤ kind ∧ s.nBench ≤ bench) then s.wr R.TEST_CAL_STATUS_RESULT 5
  else
    let t := s.wr R.TEST_CAL_STATUS_RESULT 8
    if kind < 3 ∨ t.recalAdmits then
      { t.set R.TEST_CAL_CTRL_GO with test := { t.test with run := some ⟨kind, bench, false, 0⟩ } }
    else t.calDefer bench

/-- R32, R344, R345: a run over one tick boundary: one of kind 3 or 4 starts with the shadow trims of its bench in force and the
bench removed, or is deferred where that is no longer admitted; for the others one more tick has passed. -/
def State.calTick (s : State) : State :=
  let s : State := if s.test.apply.isSome then { s with test := { s.test with atTick := s.test.shadow } } else s
  match s.test.run with
  | none => s
  | some r =>
    if r.kind < 3 ∨ r.removed then { s with test := { s.test with run := some { r with age := r.age + 1 } } }
    else if s.recalAdmits then
      let t := s.benchTrims r.bench
      ({ t with test := { t.test with run := some { r with removed := true } } } : State).removeBench r.bench
    else ({ s.clr R.TEST_CAL_CTRL_GO with test := { s.test with run := none } } : State).calDefer r.bench

/-- CAL_SENSORS. -/
def execCalSensors (src : RegSrc) (s : State) : Host.Outcome State Fault Refusal := .next ((s.inbound src).calGo 1 0)

/-- CAL_MONITORS. -/
def execCalMonitors (src : RegSrc) (s : State) : Host.Outcome State Fault Refusal := .next ((s.inbound src).calGo 2 0)

/-- CAL_SHAFT. -/
def execCalShaft (src : RegSrc) (b : Nat) (s : State) : Host.Outcome State Fault Refusal := .next ((s.inbound src).calGo 3 b)

/-- CAL_DRIVER. -/
def execCalDriver (src : RegSrc) (b : Nat) (s : State) : Host.Outcome State Fault Refusal := .next ((s.inbound src).calGo 4 b)

/-- R344: a run that has started ends with what it measured; a deferred one is made within a level-change pause
(DEDUCED in part: log entry 35). -/
def State.calDone (s : State) (measured : List (Nat × Byte)) : State :=
  match s.test.run with
  | some r =>
    if 3 ≤ r.kind ∧ !r.removed then s else
    let t := (s.measure (calBytes r.kind r.bench) measured).clr R.TEST_CAL_CTRL_GO
    let t : State := { t with test := { t.test with run := none } }
    let t := if r.removed then
        (if t.linkState r.bench = linkActive then
          ({ t with test := { t.test with back := r.bench :: t.test.back } } : State).rejoinBack r.bench
        else { t with test := { t.test with back := r.bench :: t.test.back } })
      else t
    (t.wr R.TEST_CAL_STATUS_RESULT 1).raise E.TEST_CAL_DONE
  | none =>
    let p := s.rd R.TEST_CAL_STATUS_PENDING_BENCHES
    if p = 0 || s.power.pauseTo.isNone then s
    else
      let t := s.measure (fun off => decide (off < 0xBFC) && (bitsOf 9 p).any fun b => calBytes 3 b off) measured
      ((t.wr R.TEST_CAL_STATUS_PENDING_BENCHES 0).wr R.TEST_CAL_STATUS_RESULT 1).raise E.TEST_CAL_DONE

/-- CAL_RUN_DONE. -/
def execCalRunDone (measured : List (Nat × Byte)) (s : State) : Host.Outcome State Fault Refusal := .next (s.calDone measured)

/-! ### APPLY and RELOAD (R345) -/

/-- CAL_CTRL.APPLY. -/
def State.calApply (s : State) : State :=
  if s.calOn then { s with test := { s.test with apply := some s.time.now } } else s

/-- CAL_APPLY. -/
def execCalApply (src : RegSrc) (s : State) : Host.Outcome State Fault Refusal := .next (s.inbound src).calApply

/-- R345: the shadow values, as they stood at the end of the previous tick, come into force at the tick boundary after APPLY; trims and phases wait for their bench's next pause
or recalibration. -/
def State.calInForce (s : State) : State :=
  match s.test.apply with
  | none => s
  | some t =>
    if t = s.time.now then s else
    let r := overlay s.test.active 0x10 (slice s.test.atTick 0x10 0x118)
    let s : State := { s with
      test := { s.test with active := r, apply := none, atTick := [] }
      thermal := { s.thermal with away := List.replicate 44 0, near := List.replicate 44 0 } }
    ((s.coefSettle.dirtySettle).wr R.TEST_CAL_APPLY_TICK_TICK s.tick32).raise E.TEST_CAL_APPLIED

/-- CAL_VALUES_IN_FORCE. -/
def execCalValuesInForce (s : State) : Host.Outcome State Fault Refusal := .next s.calInForce

/-- CAL_CTRL.RELOAD. -/
def State.calReload (s : State) : State :=
  if s.calOn then ({ s with test := { s.test with shadow := s.test.active } } : State).dirtySettle else s

/-- CAL_RELOAD. -/
def execCalReload (src : RegSrc) (s : State) : Host.Outcome State Fault Refusal := .next (s.inbound src).calReload

/-- R348: a write of the shadow values in the layout of Table 15.3. -/
def State.shadowWrite (s : State) (bs : List Byte) : State :=
  let r := overlay s.test.shadow 0x10 (slice bs 0x10 0xFEC)
  ({ s with test := { s.test with shadow := r } } : State).dirtySettle

/-! ### SAVE (R346) -/

/-- A copy of the record: 0 A, 1 B. -/
def State.setCopy (s : State) (k : Nat) (r : List Byte) : State :=
  if k = 0 then { s.wrB R.TEST_CAL_STATUS_VALID_A (recordValid r) with test := { s.test with copyA := r } }
  else { s.wrB R.TEST_CAL_STATUS_VALID_B (recordValid r) with test := { s.test with copyB := r } }

/-- The copy that a save replaces: an invalid one, else the older (DEDUCED in part: log entry 35). -/
def State.oldCopy (s : State) : Nat :=
  let a := recordValid s.test.copyA
  let b := recordValid s.test.copyB
  if !a then 0 else if !b then 1 else if recordSeq s.test.copyA < recordSeq s.test.copyB then 0 else 1

/-- CAL_CTRL.SAVE. -/
def State.calSave (s : State) : State :=
  if !s.calOn then s
  else if s.test.save.isSome || s.updating then s.wr R.TEST_CAL_STATUS_RESULT 3
  else if !s.is R.THERMAL_STATUS_PROG_OK then (s.wr R.TEST_CAL_STATUS_RESULT 7).progRefused
  else
    let t := (s.set R.TEST_CAL_CTRL_SAVE).wr R.TEST_CAL_STATUS_RESULT 8
    { t with test := { t.test with save := some (s.oldCopy, false) } }

/-- CAL_SAVE. -/
def execCalSave (src : RegSrc) (s : State) : Host.Outcome State Fault Refusal := .next (s.inbound src).calSave

/-- The record that a save writes. -/
def State.newRecord (s : State) : List Byte :=
  let seqs := ([s.test.copyA, s.test.copyB].filter recordValid).map recordSeq
  let head := leBytes 4 0x5443414C ++ leBytes 2 1 ++ leBytes 2 0x0D1C ++ leBytes 4 (seqs.foldl max 0 + 1) ++ leBytes 4 s.tick32
  let r := head ++ slice s.test.active 0x10 0xFEC
  r ++ leBytes 4 (crc32c r)

/-- R346: the save ends: `done` when the copy has been erased, programmed and verified. Cut off under R282 or not verified, the
copy that was being written is invalid (DEDUCED in part: log entry 35). -/
def State.calSaved (s : State) (done : Bool) : State :=
  match s.test.save with
  | none => s
  | some (k, left) =>
    let t : State := { s.clr R.TEST_CAL_CTRL_SAVE with test := { s.test with save := none } }
    let t := if done && !left then
        let r := s.newRecord
        ((t.setCopy k r).wr R.TEST_CAL_SEQ_SEQ (recordSeq r)).wr R.TEST_CAL_STATUS_RESULT 1
      else (t.setCopy k []).wr R.TEST_CAL_STATUS_RESULT (if left then 7 else 2)
    t.raise E.TEST_CAL_SAVED

/-- CAL_SAVE_DONE. -/
def execCalSaveDone (done : Bool) (s : State) : Host.Outcome State Fault Refusal := .next (s.calSaved done)

/-- R282: the programming window as a save sees it at a tick. -/
def State.saveTick (s : State) : State :=
  match s.test.save with
  | some (k, false) =>
    if s.is R.THERMAL_STATUS_PROG_OK then s
    else ({ s with test := { s.test with save := some (k, true) } } : State).progRefused
  | _ => s

end Sys2Proof.Machine
end

