-- ==== Sys2Proof/Machine/Fault.lean ====
section
/-! DEFINITION. Commands of the fault collector: sticky bits, releases, reactions, shadows and injections (Fault collection and
reaction). -/
namespace Sys2Proof.Machine

/-- R318: FIRST.VALID clears when every STICKY bit is 0. -/
def State.firstSettle (s : State) : State :=
  if (List.range 128).any fun n => s.is R.FAULT_STICKY_SOURCES [n] then s
  else (s.clr R.FAULT_FIRST_VALID).drivePins

/-- A write of 1s to STICKY word `w`. -/
def State.stickyClear (s : State) (w data : Nat) : State :=
  if 4 ≤ w ∨ !s.live 3 then s else
  ((bitsOf 32 data).foldl (fun s i => s.clr R.FAULT_STICKY_SOURCES [32 * w + i]) s).firstSettle

/-- STICKY_CLEAR. -/
def execStickyClear (src : RegSrc) (w data : Nat) (s : State) : Host.Outcome State Fault Refusal := .next ((s.inbound src).stickyClear w data)

/-- R322: a write of FENCE_RELEASE: CODING and RACKLINK are released. -/
def State.fenceRelease (s : State) (data : Nat) : State :=
  if !s.live 3 then s else
  let f := s.rd R.FAULT_FENCED_TARGETS
  let f := if data.testBit 1 then setBit f 1 false else f
  s.wr R.FAULT_FENCED_TARGETS (if data.testBit 3 then setBit f 3 false else f)

/-- FENCE_RELEASE. -/
def execFenceRelease (src : RegSrc) (data : Nat) (s : State) : Host.Outcome State Fault Refusal := .next ((s.inbound src).fenceRelease data)

/-- The reactions that a source allows (Table 14.1) (DEDUCED in part: log entry 32). -/
def allowedReactions (n : Nat) : List Nat :=
  if !srcNamed n then [0]
  else if n = 18 then [4]
  else if n = 8 ∨ n = 12 ∨ n = 13 ∨ n = 14 ∨ n = 43 ∨ n = 85 ∨ n = 103 ∨ n = 104 then [3]
  else if n = 7 ∨ n = 10 ∨ n = 106 then [0, 1, 3]
  else if n = 86 ∨ n = 99 then [0, 1, 2, 3]
  else if (fenceTarget n).isSome then [0, 1, 2]
  else [0, 1]

/-- R323: one field of a REACT word; whether it was refused. -/
def State.reactField (s : State) (n v : Nat) : State × Bool :=
  if !s.is R.FAULT_CTRL_LOCK && (allowedReactions n).contains v then (s.wr R.FAULT_REACT_REACTION v [n], false) else (s, true)

/-- R323: a write of REACT word `w`. -/
def State.reactWrite (s : State) (src : RegSrc) (w data : Nat) : State :=
  if 16 ≤ w ∨ !s.live 3 then s else
  let s := s.checkArray 7
  let r := (List.range 8).foldl (fun (a : State × Bool) j =>
    let q := a.1.reactField (8 * w + j) (field data (4 * j) 4)
    (q.1, a.2 || q.2)) (s, false)
  if r.2 then r.1.refuse src (R.FAULT_REACT_REACTION.off + 4 * w) else r.1

/-- REACT_WRITE. -/
def execReactWrite (src : RegSrc) (w data : Nat) (s : State) : Host.Outcome State Fault Refusal := .next ((s.inbound src).reactWrite src w data)

/-- CTRL.LOCK set until the base die leaves reset; it cannot be set before firmware has applied the saved reactions (R328, R405)
(DEDUCED in part: log entry 32). -/
def State.setLock (s : State) : State := if s.live 3 && s.mgmt.loaded then s.set R.FAULT_CTRL_LOCK else s

/-- FAULT_LOCK. -/
def execFaultLock (src : RegSrc) (s : State) : Host.Outcome State Fault Refusal := .next (s.inbound src).setLock

/-- R324: the ticks of the open shadows counted. -/
def State.shadowTick (s : State) : State :=
  { s with fault := { s.fault with shadows := s.fault.shadows.map fun p => (p.1, p.2 - 1) } }

/-- R324: a shadow whose last tick boundary has come ends. -/
def State.shadowEnd (s : State) (t : Nat) : State :=
  if s.fault.shadows.contains (t, 0) then
    let l := s.fault.shadows.filter (·.1 != t)
    { s.wrB R.FAULT_STATUS_SHADOW_OPEN (!l.isEmpty) with fault := { s.fault with shadows := l } }
  else s

/-- SHADOW_END. -/
def execShadowEnd (t : Nat) (s : State) : Host.Outcome State Fault Refusal := .next (s.shadowEnd t)

/-! ### Injections (R325, R326) -/

/-- An injection runs, or is held for the next sensing. -/
def State.injRunning (s : State) : Bool := s.fault.inj.isSome || decide (0 < s.fault.fuseInj)

/-- R326: the checker and target exist on this part. -/
def State.injTarget (s : State) (checker target : Nat) : Bool :=
  match checker with
  | 1 => decide (target < s.nBench)
  | 2 => decide (target < s.nLayer)
  | 4 => decide (target < 8 + s.nBench)
  | 3 | 5 | 6 => true
  | _ => false

/-- R326: an injection is refused. -/
def State.injRefused (s : State) (checker target : Nat) (double : Bool) (count : Nat) : Bool :=
  s.injRunning || s.is R.FAULT_CTRL_LOCK || count == 0 || !s.injTarget checker target || (double && checker != 4) ||
    ((checker == 2 || checker == 3) && !(s.recalAdmits && s.ras.rejoinNext.isNone && s.ras.sweeps.isEmpty))

/-- R325: INJ_CTRL.GO. -/
def State.inject (s : State) (src : RegSrc) (checker target dir : Nat) (double : Bool) (count : Nat) : State :=
  if !s.live 3 then s else
  let count := count % 256
  let t := if checker = 0 ∨ 6 < checker then s else s.wr R.FAULT_INJ_CTRL_CHECKER checker
  let t := ((t.wr R.FAULT_INJ_CTRL_TARGET target).wr R.FAULT_INJ_CTRL_DIR dir).wrB R.FAULT_INJ_CTRL_DOUBLE double
  let t := t.wr R.FAULT_INJ_CTRL_COUNT count
  if s.injRefused checker target double count then
    (t.set R.FAULT_INJ_STATUS_REFUSED).refuse src R.FAULT_INJ_CTRL_CHECKER.off
  else
    let t := (t.set R.FAULT_INJ_CTRL_GO).wr R.FAULT_INJ_STATUS_REMAINING count
    if checker = 5 then { t with fault := { t.fault with fuseInj := count } }
    else { t with fault := { t.fault with inj := some ⟨checker, target, dir % 2, double, count⟩ } }

/-- INJECT_SHAFT_CRC. -/
def execInjectShaftCrc (src : RegSrc) (b dir count : Nat) (s : State) : Host.Outcome State Fault Refusal :=
  .next ((s.inbound src).inject src 1 b dir false count)

/-- INJECT_INNER_CRC. -/
def execInjectInnerCrc (src : RegSrc) (layer count : Nat) (s : State) : Host.Outcome State Fault Refusal :=
  .next ((s.inbound src).inject src 2 layer 0 false count)

/-- INJECT_SLAB_SYNDROME. -/
def execInjectSlabSyndrome (src : RegSrc) (count : Nat) (s : State) : Host.Outcome State Fault Refusal :=
  .next ((s.inbound src).inject src 3 0 0 false count)

/-- INJECT_SRAM_ECC. -/
def execInjectSramEcc (src : RegSrc) (array : Nat) (double : Bool) (count : Nat) (s : State) :
    Host.Outcome State Fault Refusal := .next ((s.inbound src).inject src 4 array 0 double count)

/-- INJECT_FUSE_ECC (DEDUCED in part: log entry 33). -/
def execInjectFuseEcc (src : RegSrc) (s : State) : Host.Outcome State Fault Refusal := .next ((s.inbound src).inject src 5 0 0 false 1)

/-- INJECT_RL_CRC. -/
def execInjectRlCrc (src : RegSrc) (count : Nat) (s : State) : Host.Outcome State Fault Refusal :=
  .next ((s.inbound src).inject src 6 0 0 false count)

end Sys2Proof.Machine
end

