-- ==== Sys2Proof/Machine/Views.lean ====
section
/-! DEFINITION. Fields that a read forms from the state, register words as read, and the summaries of R473 to R476. -/
namespace Sys2Proof.Machine

/-! ### Identity (R356, R358, R473) -/

/-- R356: the silicon step, as the Revision ID. -/
def State.revision (s : State) : Nat := field (s.fuseWord 1) 16 8

/-- R167: the Subsystem ID. -/
def State.subsystem (s : State) : Nat :=
  let v := s.fuseWord 1 % 65536
  if v = 0 then s.fuse.deviceId else v

/-! ### Summaries -/

/-- Any STICKY bit set. -/
def State.anySticky (s : State) : Bool := (List.range 128).any fun n => s.is R.FAULT_STICKY_SOURCES [n]

/-- Object 0x1100:01, GLOBAL.SUMMARY (Table 18.9). -/
def State.summary (s : State) : Nat :=
  let base := fun (d v : Nat) => if s.live d then v else 0
  s.rd R.POWER_STATUS_STATE + 8 * base 2 (s.rd R.HOST_STATUS_STACK_READY) + 16 * base 8 s.protection +
    64 * s.rd R.TIME_SHIFT_STATUS_STATE + 512 * s.rd R.MGMT_STATUS_FW_STATE + 4096 * s.rd R.FAULT_STATUS_SAFE +
    8192 * s.rd R.TIME_STATUS_FREE_RUNNING + 16384 * s.rd R.REG_STATUS_OVERSUBSCRIBED +
    32768 * s.rd R.THERMAL_STATUS_WARNING + 65536 * s.rd R.THERMAL_STATUS_THROTTLE + 131072 * b2n s.anySticky +
    262144 * s.dict.holder

/-- The EVENTS words of the map with their enables: offset of EVENTS, of EVENT_EN (none without enables), the vector and
the bit of BLOCK_PENDING (R475, Table 22.2). -/
def eventWords : List (Nat × Option Nat × Nat × Nat) :=
  [(0x10004, some 0x10008, 68, 0), (0x20018, some 0x2001C, 70, 1), (0x140008, none, 0, 2), (0x160008, some 0x16000C, 64, 3),
    (0x180008, some 0x18000C, 65, 4), (0x1A0008, some 0x1A000C, 65, 5), (0x1A0224, some 0x1A0228, 65, 5)] ++
  ((List.range 9).map fun b => (0x200004 + b * 0x10000, some (0x200008 + b * 0x10000), 65, 6)) ++
  ((List.range 9).map fun b => (0x300008 + b * 0x10000, some (0x30000C + b * 0x10000), 65, 7)) ++
  [(0x30F008, none, 65, 7), (0x400008, some 0x40000C, 68, 8), (0x41001C, some 0x410020, 69, 9),
    (0x42000C, some 0x420010, 68, 10), (0x430008, some 0x43000C, 67, 11), (0x440008, some 0x44000C, 66, 12),
    (0x450008, some 0x45000C, 72, 13), (0x460004, some 0x460008, 72, 14), (0x470008, some 0x47000C, 71, 15),
    (0x480008, some 0x48000C, 72, 16)]

/-- R476: VEC_SUMMARY. -/
def State.vecSummary (s : State) : Nat :=
  mapOf 9 fun v => eventWords.any fun e =>
    e.2.2.1 == 64 + v && (match e.2.1 with
      | some en => (s.readRaw e.1 &&& s.readRaw en) != 0
      | none => false)

/-- BLOCK_PENDING (Table 22.2). -/
def State.blockPending (s : State) : Nat := mapOf 17 fun k => eventWords.any fun e => e.2.2.2 == k && s.readRaw e.1 != 0

/-! ### Fields formed at a read -/

/-- The field families whose value is formed from the state at a read. -/
def views : List (Fam × (State → List Nat → Nat)) :=
  [ (R.GLOBAL_ID_DEVICE_ID, fun s _ => s.fuse.deviceId),
    (R.GLOBAL_REVISION_REVISION_ID, fun s _ => s.revision),
    (R.GLOBAL_CONFIG_BENCH_MASK, fun s _ => s.benchMask),
    (R.GLOBAL_CONFIG_CODING_PRESENT, fun s _ => b2n s.codingOn),
    (R.GLOBAL_CONFIG_LAYERS, fun s _ => s.nLayer),
    (R.GLOBAL_CONFIG_CAPACITY_GIB, fun s _ => s.capacity / 2 ^ 30),
    (R.GLOBAL_SERIAL_LO_DSN, fun s _ => s.fuseWord 0 % 2 ^ 32),
    (R.GLOBAL_SERIAL_HI_DSN, fun s _ => s.fuseWord 0 / 2 ^ 32),
    (R.GLOBAL_SUMMARY, fun s _ => s.summary),
    (R.GLOBAL_SINCE_RESET_LO_TICKS, fun s _ => s.time.sinceReset % 2 ^ 32),
    (R.GLOBAL_VEC_SUMMARY_VECTORS, fun s _ => s.vecSummary),
    (R.GLOBAL_BLOCK_PENDING_BLOCKS, fun s _ => s.blockPending),
    (R.GLOBAL_BENCH_PENDING_BENCH, fun s _ => mapOf 9 fun b => s.readRaw (0x200004 + b * 0x10000) != 0),
    (R.GLOBAL_BENCH_PENDING_SHAFT, fun s _ => mapOf 9 fun b =>
      s.readRaw (0x300008 + b * 0x10000) != 0 || (b == 0 && s.readRaw 0x30F008 != 0)) ] ++
  [ (R.HOST_STATUS_FLR_BUSY, fun s _ => b2n s.host.flr.isSome),
    (R.HOST_STATUS_DSTATE, fun s _ => s.host.powerState),
    (R.TIME_NOW_LO, fun s _ => s.time.now % 2 ^ 32),
    (R.CACHE_STATUS_WT_ACTIVE, fun s _ => b2n s.wt),
    (R.CACHE_STATUS_MERGE_OPEN, fun s _ => s.cache.merge.length),
    (R.CACHE_DIRTY_LINES_COUNT, fun s _ => (s.cache.lines.filter (·.dirty != 0)).length),
    (R.CACHE_TXN_USED_COUNT, fun s _ => s.cache.wait.length),
    (R.CACHE_SRMAP_STATUS_SET_COUNT, fun s _ => ((List.range 4096).filter fun k => s.is R.CACHE_SRMAP_BITS [k]).length),
    (R.CACHE_HITS_LO, fun s _ => s.cache.hits % 2 ^ 32),
    (R.CACHE_MISSES_LO, fun s _ => s.cache.misses % 2 ^ 32),
    (R.CODE_CODE_STATUS_SUSPECT_ANY, fun s _ => b2n s.suspectAny),
    (R.CODE_CODE_STATUS_PLANNED_ANY, fun s _ => s.rd R.CODE_PLANNED_ACTIVE),
    (R.CODE_CODE_STATUS_BUDGET_IN_USE, fun s _ => s.budget),
    (R.CODE_LAYER_STATE_STATE, fun s i => s.layer (i.headD 0)),
    (R.CODE_LAYER_STATE_CAUSE, fun s i => if s.nLayer ≤ i.headD 0 then 5 else s.rd R.CODE_LAYER_STATE_CAUSE i),
    (R.RAS_SCRUB_STATUS_RUNNING, fun s _ => b2n s.scrubRuns),
    (R.RAS_SCRUB_STATUS_SWEEPING, fun s _ => b2n (s.ras.rejoinNext.isSome || !s.ras.sweeps.isEmpty)),
    (R.RAS_CE_TOTAL_LO, fun s _ => s.ras.ceTotal % 2 ^ 32),
    (R.HG_STATUS_TAG_MODE, fun s _ => s.tagMode),
    (R.HG_OUTSTANDING_COUNT, fun s _ => s.haul.np.length + s.haul.abandoned.length),
    (R.HG_QUARANTINED_COUNT, fun s _ => s.haul.quarantined.length),
    (R.HG_CHAN_BUSY_CHANNELS, fun s i => b2n (s.rd R.HAUL_STATUS_STATE [i.headD 0] == 2)) ] ++
  [ (R.CODING_STATUS_ACTIVE, fun s _ => s.coding.active.length),
    (R.CODING_LEDGER_LAST_ENTRY, fun s _ => s.ledgerLast),
    (R.CODING_BYTES_IN_LO, fun s _ => s.coding.bytesIn % 2 ^ 32),
    (R.POWER_STATUS_LEVEL_LIMIT, fun s _ => s.levelLimit),
    (R.POWER_DOMAIN_ON_ON, fun s i => b2n (s.power.domOn.testBit (i.headD 0))),
    (R.FUSE_OVR_MAP_WORDS, fun s i => b2n (s.fuse.overrides.any (·.1 == i.headD 0))),
    (R.DICT_STATUS_SERVING, fun s _ => let f := s.rd R.MGMT_STATUS_FW_STATE; b2n (f == 2 || f == 3 || f == 4)),
    (R.RL_STATUS_LISTEN_ONLY, fun s _ => b2n (s.rd R.POWER_STATUS_STATE == 3)),
    (R.DICT_STATUS_SEG_OPEN, fun s _ => b2n s.dict.port.open_.isSome),
    (R.DICT_STATUS_HOLDER, fun s _ => s.dict.holder) ]

/-- What a read of a field returns. -/
def State.shown (s : State) (f : Fam) (i : List Nat := []) : Nat :=
  match views.find? (·.1 = f) with
  | some v => v.2 s i % 2 ^ f.width
  | none => s.rd f i

/-- A register word as read; write-only fields read 0 (R8, R470). -/
def State.readWord (s : State) (off : Nat) : Nat :=
  (fieldsAt off).foldl (fun n p =>
    if p.1.acc == .wo || !s.readable p.1 off then n else n + (s.shown p.1 p.2 <<< bitOf p.1 p.2)) 0

/-- `n` consecutive words as bytes. -/
def State.readBytes (s : State) (off n : Nat) : List Byte := (List.range n).flatMap fun k => leBytes 4 (s.readWord (off + 4 * k))

/-! ### LO_READ_LATCH (R472) -/

/-- The pairs of R472: the LO word, its HI field and the value. -/
def pairs : List (Nat × Fam × (State → Nat)) :=
  [ (0x24, R.GLOBAL_SINCE_RESET_HI_TICKS, fun s => s.time.sinceReset), (0x410008, R.TIME_NOW_HI, fun s => s.time.now),
    (0x180040, R.CACHE_HITS_HI, fun s => s.cache.hits), (0x180048, R.CACHE_MISSES_HI, fun s => s.cache.misses),
    (0x1A0230, R.RAS_CE_TOTAL_HI, fun s => s.ras.ceTotal), (0x160050, R.CODING_BYTES_IN_HI, fun s => s.coding.bytesIn) ]

/-- R472: a read of a _LO word latches the upper half into _HI. -/
def State.loRead (s : State) (off : Nat) : State :=
  match pairs.find? (·.1 = off) with
  | some p => if s.readable p.2.1 off then s.wr p.2.1 (p.2.2 s / 2 ^ 32) else s
  | none => s

end Sys2Proof.Machine
end

