-- ==== Sys2Proof/Machine/ConfigSpace.lean ====
section
/-! DEFINITION. Configuration space and BAR4 as they are read: the header, the capability list, the base address registers, and
the MSI-X table and PBA (R165 to R169, R181 to R184). The places of the standard's fields within each structure are the
standard's (PRESUMED in part: log entry 14). -/
namespace Sys2Proof.Machine

/-! ### What software may write and the device holds (R165, R168, R169) -/

/-- Table 07.4: the address bits of a BAR register. -/
def barMask (off : Nat) : Nat :=
  match off with
  | 0x10 => 2 ^ 32 - 2 ^ 26
  | 0x1C => 2 ^ 32 - 2 ^ 6
  | 0x20 => 2 ^ 32 - 2 ^ 14
  | 0x14 | 0x24 => 2 ^ 32 - 1
  | _ => 0

/-- The bits of a configuration word that software writes and that no other field of the state holds: Command, cache line size,
the BARs, interrupt line, PME_En, Device, Link, Device 2 and Link 2 Control, the AER masks, severities and ECRC enables, margining
lane control, L1 PM Substates control, the LTR latencies, and the L0p enable with its target width. -/
def cfgMask (off : Nat) : Nat :=
  match off with
  | 0x04 => 0x540
  | 0x0C | 0x3C => 0xFF
  | 0x44 => 0x100
  | 0x68 => 0x91F
  | 0x70 => 0xCB
  | 0x88 => 0x41F
  | 0x90 => 0xF
  | 0x108 | 0x10C => 0x5FF030
  | 0x114 => 0xF1C1
  | 0x118 => 0x140
  | 0x268 => 0xE3FFFF0F
  | 0x26C => 0xFB
  | 0x274 => 0x1FFF1FFF
  | 0x288 => 0x78
  | _ => if 0x218 ≤ off ∧ off < 0x258 then 0xFFFF else barMask off

/-- The bits of a configuration word that a 1 clears. -/
def cfgW1c (off : Nat) : Nat :=
  match off with
  | 0x44 => 0x8000
  | 0x104 => 0x5FF030
  | _ => 0

/-! ### What a read returns -/

/-- Table 07.3: the capability list in its order: offset, whether it is an extended capability, and ID. -/
def capabilities : List (Nat × Bool × Nat) :=
  [ (0x40, false, 0x01), (0x50, false, 0x11), (0x60, false, 0x10), (0x100, true, 0x0001), (0x148, true, 0x0003),
    (0x158, true, 0x0019), (0x184, true, 0x0025), (0x190, true, 0x0026), (0x1C0, true, 0x002A), (0x1F0, true, 0x0031),
    (0x210, true, 0x0027), (0x260, true, 0x001E), (0x270, true, 0x0018), (0x280, true, 0x002F), (0x290, true, 0x0032) ]

/-- The capability after a place of the list, of the same kind. -/
def capNext (k : Nat) (ext : Bool) : Nat :=
  match capabilities[k + 1]? with
  | some c => if c.2.1 == ext then c.1 else 0
  | none => 0

/-- The header of the capability at an offset: its ID, the next capability, and the version of an extended one. -/
def capHeader (off : Nat) : Nat :=
  match capabilities.zipIdx.find? fun p => p.1.1 == off with
  | some (c, k) =>
    if c.2.1 then c.2.2 + (if c.1 = 0x100 then 2 else 1) * 2 ^ 16 + capNext k true * 2 ^ 20 else c.2.2 + capNext k false * 2 ^ 8
  | none => 0

/-- The status bit of an error in AER. -/
def aerBit : Aer → Nat
  | .poisoned => 12
  | .completionTimeout => 14
  | .completerAbort => 15
  | .unexpected => 16
  | .malformed => 18
  | .ecrc => 19
  | .unsupported => 20
  | .uncorrectableInternal => 22

/-- The errors recorded, as the uncorrectable-error status word. -/
def State.aerStatus (s : State) : Nat := mapOf 32 fun k => s.host.aer.any fun e => aerBit e == k

/-- The code of a Max_Payload_Size or Max_Read_Request_Size. -/
def sizeCode (n : Nat) : Nat := Nat.log2 (n / 128)

/-- The read-only bits of a configuration word, and those that other fields of the state hold. -/
def State.cfgRest (s : State) (off : Nat) : Nat :=
  let ceil := s.rd R.HOST_STATUS_SPEED_CEIL
  match off with
  | 0x00 => 0x1F3C + s.fuse.deviceId * 2 ^ 16
  | 0x04 => 2 * b2n s.host.memEnable + 4 * b2n s.host.busMaster + 2 ^ 20
  | 0x08 => s.revision + 0x058000 * 2 ^ 8
  | 0x10 | 0x20 => 0x4
  | 0x18 => 0xC
  | 0x2C => 0x1F3C + s.subsystem * 2 ^ 16
  | 0x34 => 0x40
  | 0x40 => 3 * 2 ^ 16 + 3 * 2 ^ 30
  | 0x44 => s.host.powerState + 2 ^ 3
  | 0x50 => 255 * 2 ^ 16 + b2n s.host.funcMask * 2 ^ 30 + b2n s.host.msixEnable * 2 ^ 31
  | 0x54 => 4
  | 0x58 => 0x2004
  | 0x60 => 2 * 2 ^ 16
  | 0x64 => 2 + 2 ^ 5 + 2 ^ 15 + 2 ^ 28
  | 0x68 => sizeCode s.host.maxPayload * 2 ^ 5 + sizeCode s.host.maxRead * 2 ^ 12 + b2n (!s.haul.np.isEmpty) * 2 ^ 21
  | 0x6C => ceil + 16 * 2 ^ 4 + 2 * 2 ^ 10 + 2 ^ 22
  | 0x70 => (s.rd R.HOST_STATUS_SPEED + s.rd R.HOST_STATUS_WIDTH * 2 ^ 4) * 2 ^ 16
  | 0x84 => 0xF + 2 ^ 4 + 2 ^ 11 + 3 * 2 ^ 12 + 2 ^ 16 + 2 ^ 17
  | 0x88 => b2n s.host.tag10 * 2 ^ 12
  | 0x8C => (2 ^ ceil - 1) * 2
  | 0x104 => s.aerStatus
  | 0x118 => (s.host.aer.head?.map aerBit).getD 0 + 2 ^ 5 + 2 ^ 7
  | 0x11C => s.host.hdrLog.getD 0 0
  | 0x120 => s.host.hdrLog.getD 1 0
  | 0x124 => s.host.hdrLog.getD 2 0
  | 0x128 => s.host.hdrLog.getD 3 0
  | 0x14C => s.fuseWord 0 % 2 ^ 32
  | 0x150 => s.fuseWord 0 / 2 ^ 32
  | 0x188 => 1
  | 0x264 => 0x1F
  | 0x284 => 6 + 2 ^ 3
  | 0x288 => b2n s.host.tag14 * 2 ^ 2
  | _ => 0

/-- A configuration word as read. -/
def State.cfgRead (s : State) (off : Nat) : Nat := (s.cfgRest off ||| capHeader off ||| s.cfgWord off) % 2 ^ 32

/-! ### BAR4 (R169, R183) -/

/-- BAR4 offsets that hold the table or the PBA (R169). -/
def bar4Defined (off : Nat) : Bool := decide (off < 0x1000) || (decide (0x2000 ≤ off) && decide (off < 0x2020))

/-- A word of the MSI-X table or of the PBA. -/
def State.bar4Read (s : State) (off : Nat) : Nat :=
  if off < 0x1000 then
    (if off % 16 / 4 = 3 then b2n (s.host.masked.contains (off / 16)) else (kvGet (off / 4) s.host.msixTab).getD 0)
  else if 0x2000 ≤ off ∧ off < 0x2020 then mapOf 32 fun k => s.host.pba.contains (32 * ((off - 0x2000) / 4) + k)
  else 0

end Sys2Proof.Machine
end

