-- ==== Sys2Proof/Machine/HostCmds.lean ====
section
/-! DEFINITION. The register writes of the haul engine, the coding engine and regulation as commands, after what every write
does first (R95, R255). -/
namespace Sys2Proof.Machine

/-- DOORBELL. -/
def execDoorbell (src : RegSrc) (c data : Nat) (s : State) : Host.Outcome State Fault Refusal :=
  .next ((s.inbound src).notIdle.doorbell src c data)

/-- COMMIT. -/
def execCommit (src : RegSrc) (c : Nat) (s : State) : Host.Outcome State Fault Refusal :=
  .next ((s.inbound src).commitWrite src c)

/-- CHANNEL_ENABLE. -/
def execChannelEnable (src : RegSrc) (c : Nat) (s : State) : Host.Outcome State Fault Refusal :=
  .next ((s.inbound src).channelEnable src c)

/-- CHANNEL_DISABLE. -/
def execChannelDisable (src : RegSrc) (c : Nat) (s : State) : Host.Outcome State Fault Refusal :=
  .next ((s.inbound src).channelDisable c)

/-- HAUL_RESET. -/
def execHaulReset (src : RegSrc) (s : State) : Host.Outcome State Fault Refusal :=
  .next (s.inbound src).haulReset

/-- LEDGER_EN_WRITE. -/
def execLedgerEnWrite (src : RegSrc) (v : Nat) (s : State) : Host.Outcome State Fault Refusal :=
  .next ((s.inbound src).ledgerEnWrite src v)

/-- LEDGER_REGION_WRITE. -/
def execLedgerRegionWrite (src : RegSrc) (off data : Nat) (s : State) : Host.Outcome State Fault Refusal :=
  .next ((s.inbound src).ledgerRegionWrite src off data)

/-- LABEL_CFG_WRITE. -/
def execLabelCfgWrite (src : RegSrc) (l data : Nat) (s : State) : Host.Outcome State Fault Refusal :=
  .next ((s.inbound src).labelCfgWrite src l data)

/-- CEILING_WRITE. -/
def execCeilingWrite (src : RegSrc) (v : Nat) (s : State) : Host.Outcome State Fault Refusal :=
  .next ((s.inbound src).ceilingWrite src v)

/-- WINDOW_WRITE. -/
def execWindowWrite (src : RegSrc) (v : Nat) (s : State) : Host.Outcome State Fault Refusal :=
  .next ((s.inbound src).windowWrite src v)

end Sys2Proof.Machine
end

