-- ==== Sys2Proof/Machine/Objects.lean ====
section
/-! DEFINITION. The objects of the dictionary: their addresses, types, access and ranges (Tables 02.4 to 19.9), and the
values a read returns (R384 to R386, R407, R408). -/
namespace Sys2Proof.Machine

/-- Object types (Table 18.1). -/
inductive OType where
  | bool | u8 | u16 | u32 | u64 | i16 | i32 | tick48 | string | domain
deriving DecidableEq, Repr

/-- The type code of Table 18.1. -/
def OType.code : OType → Nat
  | .bool => 1
  | .u8 => 2
  | .u16 => 3
  | .u32 => 4
  | .u64 => 5
  | .i16 => 6
  | .i32 => 7
  | .tick48 => 8
  | .string => 9
  | .domain => 10

/-- The size in bytes of a type of fixed size. -/
def OType.size : OType → Nat
  | .bool | .u8 => 1
  | .u16 | .i16 => 2
  | .u32 | .i32 => 4
  | .tick48 => 6
  | _ => 8

/-- Access attributes (R386). -/
inductive OAcc where
  | ro | rw | wo | rws | rc
deriving DecidableEq, Repr

/-- Write classes (R387). -/
inductive OWr where
  | none | host | rack | token | each | claim
deriving DecidableEq, Repr

/-- A row of an object table: an index, the sub-indices `lo` to `hi`, and what the row states. For a STRING or a DOMAIN, `min`
and `max` are the lengths in bytes; for the others, the values of the Range column. -/
structure Obj where
  index : Nat
  lo : Nat
  hi : Nat
  type : OType
  acc : OAcc
  wr : OWr
  min : Nat := 0
  max : Nat := 2 ^ 64 - 1
deriving DecidableEq, Repr

/-- Identity, state, token and saved values (Table 18.9). -/
def objIdent : List Obj :=
  [ ⟨0x1000, 1, 1, .u16, .ro, .none, 0, 0⟩, ⟨0x1000, 2, 2, .u16, .ro, .none, 0, 0⟩, ⟨0x1000, 3, 3, .u8, .ro, .none, 0, 0⟩,
    ⟨0x1000, 4, 4, .u16, .ro, .none, 0, 0⟩, ⟨0x1000, 5, 5, .u64, .ro, .none, 0, 0⟩, ⟨0x1000, 6, 6, .string, .ro, .none, 10, 10⟩,
    ⟨0x1000, 7, 7, .u32, .ro, .none, 0, 0⟩, ⟨0x1000, 8, 8, .u16, .ro, .none, 0, 0⟩, ⟨0x1000, 9, 9, .u64, .ro, .none, 0, 0⟩,
    ⟨0x1000, 10, 10, .bool, .ro, .none, 0, 0⟩, ⟨0x1001, 1, 1, .u16, .ro, .none, 0, 0⟩, ⟨0x1001, 2, 2, .u32, .ro, .none, 0, 0⟩,
    ⟨0x1002, 1, 1, .string, .rws, .rack, 0, 32⟩, ⟨0x1100, 1, 1, .u32, .ro, .none, 0, 0⟩, ⟨0x1100, 2, 2, .bool, .ro, .none, 0, 0⟩,
    ⟨0x1100, 3, 3, .tick48, .ro, .none, 0, 0⟩, ⟨0x1101, 0, 0, .u8, .rw, .claim, 0, 2⟩,
    ⟨0x1102, 0, 0, .u32, .wo, .token, 0, 2 ^ 32⟩, ⟨0x1103, 1, 1, .u32, .ro, .none, 0, 0⟩, ⟨0x1103, 2, 2, .u32, .ro, .none, 0, 0⟩,
    ⟨0x1103, 3, 3, .tick48, .ro, .none, 0, 0⟩, ⟨0x1110, 1, 1, .u8, .ro, .none, 0, 0⟩, ⟨0x1110, 2, 2, .bool, .wo, .token, 1, 1⟩,
    ⟨0x1110, 3, 3, .bool, .wo, .rack, 1, 1⟩ ]

/-- Time and shifts, regulation, power, heat (Tables 02.4, 10.3, 11.9, 12.6). -/
def objTime : List Obj :=
  [ ⟨0x1200, 1, 1, .tick48, .ro, .none, 0, 0⟩, ⟨0x1200, 2, 2, .tick48, .wo, .token, 0, 2 ^ 48⟩,
    ⟨0x1200, 3, 3, .u8, .ro, .none, 0, 0⟩, ⟨0x1200, 4, 4, .u8, .rws, .rack, 0, 7⟩, ⟨0x1201, 1, 1, .tick48, .rw, .token, 0, 2 ^ 48⟩,
    ⟨0x1201, 2, 2, .tick48, .rw, .token, 0, 2 ^ 48⟩, ⟨0x1201, 3, 3, .u16, .rws, .token, 10, 10000⟩,
    ⟨0x1201, 4, 4, .bool, .rw, .token, 0, 1⟩, ⟨0x1201, 5, 5, .bool, .rws, .token, 0, 1⟩, ⟨0x1201, 6, 6, .u8, .ro, .none, 0, 0⟩,
    ⟨0x1201, 7, 7, .u32, .rc, .none, 0, 0⟩, ⟨0x1210, 1, 0x40, .domain, .rw, .rack, 16, 16⟩,
    ⟨0x1300, 1, 1, .u8, .rws, .token, 1, 64⟩, ⟨0x1300, 2, 2, .u16, .rws, .rack, 1, 65535⟩, ⟨0x1300, 3, 3, .u8, .ro, .none, 0, 0⟩,
    ⟨0x1300, 4, 4, .u32, .ro, .none, 0, 0⟩, ⟨0x1300, 5, 5, .u32, .ro, .none, 0, 0⟩,
    ⟨0x1301, 1, 0x40, .u32, .rws, .token, 0, 1048575⟩, ⟨0x1302, 1, 0x40, .bool, .rws, .token, 0, 1⟩,
    ⟨0x1303, 1, 0x40, .u32, .ro, .none, 0, 0⟩, ⟨0x1304, 1, 0x40, .u32, .ro, .none, 0, 0⟩ ] ++
  [ ⟨0x1400, 1, 1, .u8, .ro, .none, 0, 0⟩, ⟨0x1400, 2, 2, .u8, .wo, .rack, 1, 3⟩, ⟨0x1400, 3, 3, .u32, .ro, .none, 0, 0⟩,
    ⟨0x1400, 4, 4, .u8, .ro, .none, 0, 0⟩, ⟨0x1401, 1, 1, .u8, .rws, .rack, 0, 3⟩, ⟨0x1401, 2, 2, .u8, .rws, .rack, 5, 250⟩,
    ⟨0x1402, 1, 1, .u16, .rws, .token, 0, 65535⟩, ⟨0x1402, 2, 2, .bool, .rws, .rack, 0, 1⟩, ⟨0x1402, 3, 3, .bool, .rws, .rack, 0, 1⟩,
    ⟨0x1402, 4, 4, .u8, .rws, .rack, 0, 15⟩, ⟨0x1403, 1, 1, .u8, .rc, .none, 0, 0⟩, ⟨0x1403, 2, 2, .domain, .ro, .none, 10, 10⟩,
    ⟨0x1500, 1, 1, .u16, .rws, .rack, 120, 300⟩, ⟨0x1500, 2, 2, .u16, .ro, .none, 0, 0⟩, ⟨0x1500, 3, 3, .u16, .ro, .none, 0, 0⟩,
    ⟨0x1500, 4, 4, .u16, .ro, .none, 0, 0⟩, ⟨0x1501, 1, 1, .u16, .rws, .rack, 0, 65535⟩, ⟨0x1501, 2, 2, .u16, .rws, .rack, 0, 256⟩,
    ⟨0x1502, 1, 1, .domain, .ro, .none, 56, 56⟩, ⟨0x1502, 2, 2, .domain, .ro, .none, 62, 62⟩,
    ⟨0x1502, 3, 3, .domain, .ro, .none, 88, 88⟩, ⟨0x1502, 4, 4, .u64, .ro, .none, 0, 0⟩, ⟨0x1503, 1, 1, .u16, .ro, .none, 0, 0⟩,
    ⟨0x1503, 2, 2, .bool, .rws, .rack, 0, 1⟩, ⟨0x1503, 3, 3, .i16, .rws, .rack, 0, 1600⟩ ]

/-- Memory and RAS (Tables 03.10, 04.9, 05.4, 13.5). -/
def objMem : List Obj :=
  [ ⟨0x1600, 1, 1, .u8, .ro, .none, 0, 0⟩, ⟨0x1600, 2, 2, .u8, .ro, .none, 0, 0⟩, ⟨0x1600, 3, 3, .bool, .rw, .token, 0, 1⟩,
    ⟨0x1600, 4, 4, .bool, .wo, .token, 1, 1⟩, ⟨0x1600, 5, 5, .u16, .ro, .none, 0, 0⟩, ⟨0x1601, 1, 0x12, .u8, .rw, .token, 1, 2⟩,
    ⟨0x1602, 1, 0x12, .u64, .ro, .none, 0, 0⟩, ⟨0x1603, 1, 1, .u32, .ro, .none, 0, 0⟩, ⟨0x1603, 2, 2, .u32, .ro, .none, 0, 0⟩,
    ⟨0x1604, 1, 0x3E, .u8, .rws, .token, 0, 1⟩, ⟨0x1604, 0x3F, 0x40, .u8, .ro, .none, 0, 1⟩,
    ⟨0x1604, 0x41, 0x41, .u8, .rws, .token, 1, 255⟩, ⟨0x1604, 0x42, 0x42, .u8, .rws, .token, 8, 63⟩,
    ⟨0x1605, 1, 1, .u32, .wo, .token, 2 ^ 31, 2 ^ 32⟩, ⟨0x1605, 2, 2, .domain, .rw, .token, 8, 8⟩,
    ⟨0x1605, 3, 3, .u32, .ro, .none, 0, 0⟩, ⟨0x1606, 1, 1, .u32, .ro, .none, 0, 0⟩, ⟨0x1606, 2, 2, .domain, .ro, .none, 512, 512⟩,
    ⟨0x1606, 3, 3, .bool, .wo, .token, 1, 1⟩, ⟨0x1610, 1, 9, .u32, .ro, .none, 0, 0⟩, ⟨0x1611, 1, 1, .u16, .rws, .token, 0, 4095⟩,
    ⟨0x1611, 2, 2, .u8, .rws, .token, 0, 31⟩, ⟨0x1611, 3, 3, .u16, .rws, .token, 64, 4095⟩, ⟨0x1611, 4, 4, .bool, .rws, .token, 0, 1⟩,
    ⟨0x1611, 5, 5, .u16, .rws, .token, 1, 65535⟩, ⟨0x1611, 6, 6, .u16, .rws, .token, 1, 256⟩,
    ⟨0x1611, 7, 7, .u8, .rws, .token, 0, 15⟩, ⟨0x1612, 1, 9, .domain, .ro, .none, 16, 16⟩, ⟨0x1613, 1, 9, .u32, .ro, .none, 0, 0⟩,
    ⟨0x1614, 1, 4, .domain, .ro, .none, 48, 48⟩, ⟨0x1615, 1, 9, .domain, .ro, .none, 8192, 8192⟩ ] ++
  [ ⟨0x1620, 1, 1, .u64, .ro, .none, 0, 0⟩, ⟨0x1620, 2, 2, .u32, .ro, .none, 0, 0⟩, ⟨0x1620, 3, 3, .u8, .rws, .token, 0, 7⟩,
    ⟨0x1620, 4, 4, .bool, .rw, .token, 0, 1⟩, ⟨0x1621, 1, 1, .u16, .rws, .token, 1, 65535⟩,
    ⟨0x1621, 2, 2, .u16, .rws, .token, 1, 256⟩, ⟨0x1621, 3, 3, .u32, .ro, .none, 0, 0⟩, ⟨0x1621, 4, 4, .u32, .ro, .none, 0, 0⟩,
    ⟨0x1622, 1, 1, .u8, .rws, .token, 2, 255⟩, ⟨0x1622, 2, 2, .u16, .rws, .token, 16, 65535⟩,
    ⟨0x1623, 1, 1, .domain, .ro, .none, 1024, 1024⟩, ⟨0x1623, 2, 2, .domain, .ro, .none, 512, 512⟩,
    ⟨0x1623, 3, 3, .u8, .wo, .token, 1, 3⟩, ⟨0x1624, 1, 0x12, .u32, .ro, .none, 0, 0⟩,
    ⟨0x1625, 1, 0x12, .domain, .ro, .none, 128, 128⟩, ⟨0x1626, 1, 0x12, .domain, .ro, .none, 32, 32⟩ ]

/-- Shafts, haul, coding, faults, self-test, calibration (Tables 06.7, 08.10, 09.7, 14.7, 15.5). -/
def objUnits : List Obj :=
  [ ⟨0x1700, 1, 9, .u8, .ro, .none, 0, 0⟩, ⟨0x1701, 1, 9, .u8, .ro, .none, 0, 0⟩, ⟨0x1702, 1, 9, .domain, .ro, .none, 24, 24⟩,
    ⟨0x1703, 1, 9, .domain, .ro, .none, 16, 16⟩, ⟨0x1704, 1, 1, .u8, .rws, .token, 0, 3⟩, ⟨0x1704, 2, 2, .u8, .rws, .token, 0, 255⟩,
    ⟨0x1704, 3, 3, .u8, .rws, .token, 4, 24⟩, ⟨0x1704, 4, 4, .u8, .rws, .token, 1, 100⟩, ⟨0x1704, 5, 5, .bool, .rws, .token, 0, 1⟩,
    ⟨0x1704, 6, 6, .bool, .rws, .token, 0, 1⟩, ⟨0x1800, 1, 1, .u32, .ro, .none, 0, 0⟩, ⟨0x1800, 2, 2, .bool, .wo, .token, 1, 1⟩,
    ⟨0x1800, 3, 3, .domain, .ro, .none, 16, 16⟩, ⟨0x1800, 4, 4, .u16, .ro, .none, 0, 0⟩, ⟨0x1801, 1, 0x40, .u32, .ro, .none, 0, 0⟩,
    ⟨0x1802, 1, 0x40, .domain, .ro, .none, 12, 12⟩, ⟨0x1810, 1, 1, .bool, .rws, .token, 0, 1⟩,
    ⟨0x1810, 2, 2, .u8, .rws, .token, 0, 255⟩, ⟨0x1810, 3, 3, .u8, .rws, .token, 1, 64⟩, ⟨0x1810, 4, 4, .u32, .ro, .none, 0, 0⟩,
    ⟨0x1811, 1, 1, .u32, .ro, .none, 0, 0⟩, ⟨0x1811, 2, 2, .u64, .ro, .none, 0, 0⟩, ⟨0x1812, 1, 1, .domain, .ro, .none, 16, 16⟩,
    ⟨0x1812, 2, 2, .domain, .ro, .none, 28, 28⟩ ] ++
  [ ⟨0x1900, 1, 1, .domain, .ro, .none, 16, 16⟩, ⟨0x1900, 2, 2, .domain, .ro, .none, 16, 16⟩,
    ⟨0x1900, 3, 3, .domain, .wo, .token, 16, 16⟩, ⟨0x1900, 4, 4, .domain, .wo, .token, 16, 16⟩, ⟨0x1900, 5, 5, .u8, .ro, .none, 0, 0⟩,
    ⟨0x1900, 6, 6, .u32, .ro, .none, 0, 0⟩, ⟨0x1900, 7, 7, .u16, .ro, .none, 0, 0⟩, ⟨0x1900, 8, 8, .u16, .wo, .token, 2, 8⟩,
    ⟨0x1901, 1, 0x80, .u8, .rws, .token, 0, 4⟩, ⟨0x1902, 1, 1, .u8, .rws, .token, 1, 255⟩, ⟨0x1902, 2, 2, .bool, .wo, .token, 1, 1⟩,
    ⟨0x1903, 1, 1, .u32, .wo, .token, 2 ^ 31, 2 ^ 32⟩, ⟨0x1A00, 1, 1, .u32, .ro, .none, 0, 0⟩, ⟨0x1A00, 2, 2, .bool, .rw, .token, 0, 1⟩,
    ⟨0x1A00, 3, 3, .u8, .rws, .token, 0, 7⟩, ⟨0x1A00, 4, 4, .bool, .rws, .token, 0, 1⟩,
    ⟨0x1A01, 1, 3, .u32, .rws, .token, 1, 1048575⟩, ⟨0x1A02, 1, 1, .u32, .wo, .token, 2 ^ 31, 2 ^ 32⟩,
    ⟨0x1A02, 2, 2, .domain, .ro, .none, 12, 12⟩, ⟨0x1A03, 1, 1, .domain, .ro, .none, 12, 12⟩, ⟨0x1A03, 2, 2, .domain, .ro, .none, 12, 12⟩,
    ⟨0x1B00, 1, 1, .u32, .wo, .token, 0, 2 ^ 32⟩, ⟨0x1B00, 2, 2, .u32, .ro, .none, 0, 0⟩, ⟨0x1B00, 3, 3, .u32, .ro, .none, 0, 0⟩,
    ⟨0x1B01, 1, 1, .domain, .rw, .token, 4096, 4096⟩, ⟨0x1B01, 2, 2, .domain, .ro, .none, 4096, 4096⟩ ]

/-- Fuses, firmware, the event log and Rack Link (Tables 16.8, 17.9, 18.8, 19.9). -/
def objMgmt : List Obj :=
  [ ⟨0x1C00, 1, 1, .u32, .ro, .none, 0, 0⟩, ⟨0x1C00, 2, 2, .u8, .ro, .none, 0, 0⟩, ⟨0x1C01, 1, 1, .u64, .ro, .none, 0, 0⟩,
    ⟨0x1C01, 2, 2, .u16, .ro, .none, 0, 0⟩, ⟨0x1C01, 3, 3, .u8, .ro, .none, 0, 0⟩, ⟨0x1C02, 1, 0x80, .u64, .ro, .none, 0, 0⟩,
    ⟨0x1C03, 1, 1, .domain, .wo, .token, 16, 16⟩, ⟨0x1C03, 2, 2, .u32, .ro, .none, 0, 0⟩, ⟨0x1C03, 3, 3, .u8, .wo, .token, 0, 8⟩,
    ⟨0x1C04, 1, 1, .domain, .wo, .token, 12, 12⟩, ⟨0x1C04, 2, 2, .domain, .ro, .none, 16, 16⟩, ⟨0x1D00, 1, 1, .u32, .ro, .none, 0, 0⟩,
    ⟨0x1D00, 2, 2, .u32, .ro, .none, 0, 0⟩, ⟨0x1D00, 3, 3, .bool, .wo, .token, 1, 1⟩, ⟨0x1D01, 1, 1, .u32, .rws, .token, 0, 2 ^ 32⟩,
    ⟨0x1D01, 2, 2, .u16, .rws, .token, 10, 65535⟩, ⟨0x1D01, 3, 3, .bool, .wo, .token, 1, 1⟩,
    ⟨0x1D10, 1, 1, .u32, .wo, .token, 513, 328192⟩, ⟨0x1D10, 2, 2, .domain, .wo, .token, 1, 65536⟩,
    ⟨0x1D10, 3, 3, .u8, .wo, .token, 0, 2⟩, ⟨0x1D10, 4, 4, .bool, .wo, .token, 1, 1⟩, ⟨0x1D10, 5, 5, .u32, .ro, .none, 0, 0⟩,
    ⟨0x1D20, 1, 1, .u32, .wo, .host, 513, 328192⟩, ⟨0x1D20, 2, 2, .domain, .wo, .host, 1, 65536⟩,
    ⟨0x1D20, 3, 3, .bool, .wo, .host, 1, 1⟩ ] ++
  [ ⟨0x1E00, 1, 1, .u32, .ro, .none, 0, 0⟩, ⟨0x1E00, 2, 2, .bool, .wo, .token, 1, 1⟩, ⟨0x1E00, 3, 3, .u32, .ro, .none, 0, 0⟩,
    ⟨0x1E01, 1, 1, .u32, .rw, .each, 0, 2 ^ 32⟩, ⟨0x1E01, 2, 2, .domain, .ro, .none, 0, 65536⟩,
    ⟨0x1F00, 1, 1, .u8, .rws, .rack, 0, 31⟩, ⟨0x1F00, 2, 2, .u8, .rws, .rack, 0, 7⟩, ⟨0x1F00, 3, 3, .u32, .ro, .none, 0, 0⟩,
    ⟨0x1F00, 4, 4, .tick48, .ro, .none, 0, 0⟩, ⟨0x1F01, 1, 1, .domain, .ro, .none, 52, 52⟩, ⟨0x1F01, 2, 2, .domain, .ro, .none, 12, 12⟩ ]

/-- Every object row (DEDUCED in part: log entry 40). -/
def objects : List Obj := objIdent ++ objTime ++ objMem ++ objUnits ++ objMgmt

/-- The highest sub-index of an index. -/
def lastSub (index : Nat) : Nat := (objects.filter (·.index == index)).foldl (fun m o => max m o.hi) 0

/-- R384: the index is defined. -/
def indexDefined (index : Nat) : Bool := objects.any (·.index == index)

/-- R384, R407: the object at an address; sub-index 0 of an index whose sub-indices begin at 1 is its count. -/
def objOf (index sub : Nat) : Option Obj :=
  match objects.find? fun o => o.index == index && decide (o.lo ≤ sub) && decide (sub ≤ o.hi) with
  | some o => some o
  | none => if sub = 0 ∧ indexDefined index then some ⟨index, 0, 0, .u8, .ro, .none, 0, 0⟩ else none

/-! ### Values -/

/-- The part number for a Device ID (Table 00.1). -/
def partNumber (id : Nat) : List Byte :=
  let name : List Nat := [0x48, 0x53, 0x2D, 0x32, 0x38, 0x31]
  let last : List Nat := match id with
    | 0x2816 => [0x36, 0x2D, 0x41, 0x58]
    | 0x2817 => [0x36, 0x2D, 0x4D, 0x58]
    | 0x2812 => [0x32, 0x2D, 0x41, 0x58]
    | _ => [0x32, 0x2D, 0x4D, 0x58]
  (name ++ last).map (BitVec.ofNat 8)

/-- An event-log entry as its 32 bytes (Table 17.5). -/
def LogEntry.bytes (e : LogEntry) : List Byte :=
  leBytes 6 e.tick ++ leBytes 1 e.unit ++ leBytes 1 e.source ++ leBytes 4 e.seq ++ leBytes 2 e.code ++ leBytes 1 e.flags ++
    leBytes 1 0 ++ e.data

/-- R382: the ring entries from a SEQ onward, at most 2,048 of them. -/
def State.logEntries (s : State) (q : Nat) : List LogEntry := (s.mgmt.ring.filter fun e => seqFrom e.seq q).take 2048

/-- 0x1615: the remap entries of a bench in REMAP_ADDR order, in the REMAP_DATA layout. -/
def State.remapTable (s : State) (b : Nat) : List Byte :=
  (List.range 2048).flatMap fun k =>
    let pos := k % 32 + 32 * (k / 32 % 2)
    let layer := 2 * b + k / 64 % 2
    let mine : Remap → Bool := fun r => r.layer == layer && r.pos == pos && r.spare == k / 128
    let x := s.bench.getD b BenchSt.reset
    leBytes 4 (match x.remaps.find? mine with
      | some r => r.row + 2 ^ 31
      | none => (x.idleRows.find? mine).elim 0 (·.row))

/-- The carrier's record: 0 the dictionary port, 1 Rack Link. -/
def State.carrier (s : State) (c : Nat) : CarrierSt := if c = 0 then s.dict.port else s.dict.rack

/-- A carrier's record changed. -/
def State.modCarrier (s : State) (c : Nat) (f : CarrierSt → CarrierSt) : State :=
  if c = 0 then { s with dict := { s.dict with port := f s.dict.port } }
  else { s with dict := { s.dict with rack := f s.dict.rack } }

/-- 16-bit two's complement values of DIE_TEMP, NODE_TEMP and SENSOR: stored in 1/16 °C above −64 °C. -/
def tempI16 (v : Nat) : List Byte := leBytes 2 (v + 65536 - 1024)

/-- R295: an array of temperatures; zeros before the first tick has read any. -/
def State.temps (s : State) (l : List Nat) : List Byte :=
  if s.thermal.guardAge = 0 then List.replicate (2 * l.length) 0#8 else l.flatMap tempI16

/-- Table 18.7: an entry of a saved-values copy. -/
def SavedVal.bytes (e : SavedVal) : List Byte :=
  leBytes 2 e.index ++ leBytes 1 e.sub ++ leBytes 1 e.type ++ leBytes 2 e.value.length ++ leBytes 2 0 ++ e.value ++
    List.replicate ((8 - e.value.length % 8) % 8) 0#8

/-- Table 18.7: the bytes of a saved-values copy before its CHECK. -/
def savedHead (seq count : Nat) : List Byte := leBytes 4 0x56444C54 ++ leBytes 4 seq ++ leBytes 2 count ++ leBytes 2 1

/-- Table 18.7: a saved-values copy as it lies in the flash. -/
def SavedCopy.bytes (c : SavedCopy) : List Byte :=
  let h := savedHead c.seq c.entries.length
  let es := c.entries.flatMap SavedVal.bytes
  h ++ leBytes 4 (crc32c (h ++ es)) ++ es

/-- `n` entries read from bytes, and how many bytes they take. -/
def savedEntries : Nat → List Byte → List SavedVal × Nat
  | 0, _ => ([], 0)
  | n + 1, l =>
    let len := leNat (slice l 4 2)
    let size := 8 + (len + 7) / 8 * 8
    let r := savedEntries n (l.drop size)
    (⟨leNat (slice l 0 2), leNat (slice l 2 1), leNat (slice l 3 1), slice l 8 len⟩ :: r.1, size + r.2)

/-- R404: the copy that the bytes hold: none unless MAGIC, FORMAT and CHECK hold. -/
def savedCopyOf (l : List Byte) : Option SavedCopy :=
  if leNat (slice l 0 4) = 0x56444C54 ∧ leNat (slice l 10 2) = 1 then
    let r := savedEntries (leNat (slice l 8 2)) (l.drop 16)
    if leNat (slice l 12 4) = crc32c (l.take 12 ++ slice l 16 r.2) then some ⟨leNat (slice l 4 4), r.1⟩ else none
  else none

/-- Whether copy 0 and copy 1 are valid. -/
def State.copyGood (s : State) : Bool × Bool := ((savedCopyOf s.dict.copy0).isSome, (savedCopyOf s.dict.copy1).isSome)

/-- The value of a numeric object. -/
def State.objNat (s : State) (_c index sub : Nat) : Nat :=
  let n := sub - 1
  let w := fun (f : Fam) => s.readWord f.off
  match index, sub with
  | 0x1000, 1 => 0x1F3C
  | 0x1000, 2 => s.fuse.deviceId
  | 0x1000, 3 => s.revision
  | 0x1000, 4 => s.subsystem
  | 0x1000, 5 => s.fuseWord 0
  | 0x1000, 7 => 0x12816A9D
  | 0x1000, 8 => s.benchMask
  | 0x1000, 9 => s.capacity
  | 0x1000, 10 => b2n s.codingOn
  | 0x1001, 1 => 0x0100
  | 0x1001, 2 => Config.romVersion.toNat
  | 0x1100, 1 => s.summary
  | 0x1100, 2 => s.rd R.HOST_STATUS_STACK_READY
  | 0x1100, 3 => s.time.sinceReset
  | 0x1101, 0 => s.dict.holder
  | 0x1103, 1 => s.rd R.DICT_TOKEN_AGE_TICKS
  | 0x1103, 2 => s.dict.seizures
  | 0x1103, 3 => s.dict.changed
  | 0x1110, 1 => b2n s.dict.unsaved.isSome + 2 * b2n s.dict.saveFailed + 4 * b2n s.copyGood.1 + 8 * b2n s.copyGood.2
  | 0x1200, 1 => s.time.now
  | 0x1200, 3 => w R.TIME_STATUS_SOURCE
  | 0x1200, 4 => w R.TIME_CTRL_PIN_EN
  | 0x1201, 1 => s.rd R.TIME_SHIFT_START_LO + 2 ^ 32 * s.rd R.TIME_SHIFT_START_HI
  | 0x1201, 2 => s.rd R.TIME_SHIFT_END_LO + 2 ^ 32 * s.rd R.TIME_SHIFT_END_HI
  | 0x1201, 3 => s.rd R.TIME_DRAIN_LEAD_LEAD
  | 0x1201, 4 => s.rd R.TIME_SHIFT_CTRL_ARM
  | 0x1201, 5 => s.rd R.TIME_SHIFT_CTRL_INV_AT_END
  | 0x1201, 6 => s.rd R.TIME_SHIFT_STATUS_STATE
  | 0x1201, 7 => s.time.overruns
  | 0x1300, 1 => s.rd R.REG_CTRL_WINDOW
  | 0x1300, 2 => s.rd R.REG_CEILING_UNITS
  | 0x1300, 3 => s.readWord 0x400004
  | 0x1300, 4 => w R.REG_D_NOW_UNITS
  | 0x1300, 5 => w R.REG_G_SUM_UNITS
  | 0x1301, _ => s.rd R.REG_LABEL_CFG_BUDGET [n]
  | 0x1302, _ => s.rd R.REG_LABEL_CFG_FIXED [n]
  | 0x1303, _ => s.readWord (R.REG_LABEL_USED_UNITS.off + 4 * n)
  | 0x1304, _ => s.readWord (R.REG_LABEL_SPILLS_COUNT.off + 4 * n)
  | 0x1400, 1 => s.rd R.POWER_STATUS_STATE
  | 0x1400, 3 => s.lastEntryWord
  | 0x1400, 4 => s.rd R.POWER_STATUS_LEVEL
  | 0x1401, 1 => s.rd R.POWER_PERF_LIMIT
  | 0x1401, 2 => s.rd R.POWER_CTRL_VID_SETTLE
  | 0x1402, 1 => s.rd R.POWER_CTRL_DOZE_IDLE
  | 0x1402, 2 => s.rd R.POWER_CTRL_PERST_EMBER
  | 0x1402, 3 => s.rd R.POWER_CTRL_RL_LISTEN
  | 0x1402, 4 => s.rd R.POWER_WAKE_EN_EN
  | 0x1403, 1 => s.rd R.POWER_WAKE_SRC_SRC
  | 0x1500, 1 => s.rd R.THERMAL_CAP_SETPOINT
  | 0x1500, 2 => s.rd R.THERMAL_CAP_IN_FORCE
  | 0x1500, 3 => s.rd R.THERMAL_TARGET
  | 0x1500, 4 => s.rd R.THERMAL_PKG_POWER_POWER
  | 0x1501, 1 => s.rd R.THERMAL_GOV_CTRL_MIN_D
  | 0x1501, 2 => s.rd R.THERMAL_GOV_CTRL_CODE_FLOOR
  | 0x1502, 4 => s.bits R.THERMAL_SUSPECT_SENSORS 44
  | 0x1503, 1 => w R.THERMAL_STATUS_WARNING
  | 0x1503, 2 => s.rd R.THERMAL_CTRL_LID_SRC
  | 0x1503, 3 => s.rd R.THERMAL_LID_TEMP_TEMP + 65536 - 1024
  | _, _ => 0

/-- The value of a numeric object, from 0x1600 on. -/
def State.objNat2 (s : State) (c index sub : Nat) : Nat :=
  let n := sub - 1
  let w := fun (f : Fam) => s.readWord f.off
  match index, sub with
  | 0x1600, 1 => s.shown R.CODE_CODE_STATUS_PROTECTION
  | 0x1600, 2 => s.shown R.CODE_CODE_STATUS_OFFLINE_COUNT
  | 0x1600, 3 => s.rd R.CODE_CODE_CTRL_BANK_HASH
  | 0x1600, 5 => w R.CODE_CODE_STATUS_PROTECTION
  | 0x1601, _ => s.readWord (R.CODE_LAYER_STATE_STATE.off + 4 * n) % 256
  | 0x1602, _ => s.bits R.CODE_SUSPECT_MARKS 64 [n]
  | 0x1603, 1 => w R.CODE_PLANNED_ACTIVE
  | 0x1603, 2 => w R.CODE_REJOIN_PTR_SLAB
  | 0x1604, 0x41 => s.rd R.CACHE_CTRL_MERGE_AGE
  | 0x1604, 0x42 => s.rd R.CACHE_CTRL_MERGE_HIGH
  | 0x1604, _ => if 62 ≤ n then 1 else s.rd R.CACHE_LABEL_POLICY_POLICY [n]
  | 0x1605, 3 => w R.CACHE_STATUS_WT_ACTIVE
  | 0x1606, 1 => w R.CACHE_SRMAP_STATUS_UNFLUSHED
  | 0x1610, _ => s.readWord (0x200000 + 0x10000 * n)
  | 0x1611, _ => s.dict.benchCfg.getD n 0
  | 0x1613, _ => s.readWord (R.BENCH_PATROL_PTR_SLAB.off + 0x10000 * n)
  | 0x1620, 1 => s.ras.ceTotal
  | 0x1620, 2 => w R.RAS_UE_TOTAL_COUNT
  | 0x1620, 3 => s.readWord R.RAS_RAS_CTRL_SCRUB_EN.off % 8
  | 0x1620, 4 => s.rd R.RAS_RAS_CTRL_PAUSED
  | 0x1621, 1 => s.rd R.RAS_SCRUB_CTRL_INTERVAL
  | 0x1621, 2 => s.rd R.RAS_SCRUB_CTRL_COUNT_M1 + 1
  | 0x1621, 3 => w R.RAS_SCRUB_PTR_SLAB
  | 0x1621, 4 => w R.RAS_SCRUB_PASSES_COUNT
  | 0x1622, 1 => s.rd R.RAS_THRESH_ROW_THRESH
  | 0x1622, 2 => s.rd R.RAS_THRESH_LOSS_THRESH
  | 0x1624, _ => s.readWord (R.RAS_LAYER_CE_COUNT.off + 4 * n)
  | 0x1700, _ => if s.nBench ≤ n then 0 else s.rd R.SHAFT_LINK_STATUS_STATE [n]
  | 0x1701, _ => if s.nBench ≤ n then 0 else s.rd R.SHAFT_LINK_STATUS_WIDTH_DN [n] + 4 * s.rd R.SHAFT_LINK_STATUS_WIDTH_UP [n]
  | 0x1704, 1 => s.rd R.SHAFT_TRAIN_CFG_CHECK_LEN [0]
  | 0x1704, 2 => s.rd R.SHAFT_TRAIN_CFG_PRBS_LIMIT [0]
  | 0x1704, 3 => s.rd R.SHAFT_TRAIN_CFG_MIN_EYE [0]
  | 0x1704, 4 => s.rd R.SHAFT_TRAIN_CFG_RECOVERY_LIMIT [0]
  | 0x1704, 5 => s.rd R.SHAFT_TRAIN_CFG_AUTO_RECOVER [0]
  | 0x1704, 6 => s.rd R.SHAFT_REF_CTRL_DSPREAD_EN
  | 0x1800, 1 => w R.HG_STATUS_HALTED
  | 0x1800, 4 => s.shown R.HG_OUTSTANDING_COUNT
  | 0x1801, _ => s.readWord (R.HAUL_STATUS_STATE.off + 0x1000 * n)
  | 0x1810, 1 => if s.codingOn then s.shown R.CODING_CTRL_LEDGER_EN else 0
  | 0x1810, 2 => if s.codingOn then s.shown R.CODING_LEDGER_BASE_GIB else 0
  | 0x1810, 3 => if s.codingOn then s.shown R.CODING_LEDGER_SIZE_GIB else 0
  | 0x1810, 4 => w R.CODING_LEDGER_LAST_ENTRY
  | 0x1811, 1 => w R.CODING_STATUS_ACTIVE
  | 0x1811, 2 => s.coding.bytesIn
  | 0x1900, 5 => w R.FAULT_STATUS_SAFE
  | 0x1900, 6 => s.firstWord
  | 0x1900, 7 => w R.FAULT_FENCED_TARGETS
  | 0x1901, _ => s.rd R.FAULT_REACT_REACTION [n]
  | 0x1902, 1 => s.rd R.FAULT_CTRL_SHADOW
  | 0x1A00, 1 => w R.TEST_STATUS_SERVICE_MODE
  | 0x1A00, 2 => s.rd R.TEST_CTRL_SERVICE
  | 0x1A00, 3 => s.readWord R.TEST_CTRL_CS_MEM_EN.off % 8
  | 0x1A00, 4 => s.dict.startupMarch
  | 0x1A01, 1 => s.rd R.TEST_CS_MEM_INTERVAL_TICKS
  | 0x1A01, 2 => s.rd R.TEST_CS_WAY_INTERVAL_TICKS
  | 0x1A01, 3 => s.rd R.TEST_CS_LANE_INTERVAL_TICKS
  | 0x1B00, 2 => w R.TEST_CAL_STATUS_RESULT
  | 0x1B00, 3 => w R.TEST_CAL_SEQ_SEQ
  | 0x1C00, 1 => w R.FUSE_STATUS_SENSED
  | 0x1C00, 2 => w R.FUSE_MARGINAL_COUNT_COUNT
  | 0x1C01, 1 => s.fuse.variant
  | 0x1C01, 2 => s.fuse.deviceId
  | 0x1C01, 3 => w R.FUSE_ROLLBACK_COUNTER
  | 0x1C02, _ => s.fuseWord n
  | 0x1C03, 2 => w R.FUSE_BURN_STATUS_RESULT
  | 0x1D00, 1 => w R.MGMT_STATUS_FW_STATE
  | 0x1D00, 2 => w R.MGMT_FW_VERSION_VERSION
  | 0x1D01, 1 => s.mgmt.confirmDelay
  | 0x1D01, 2 => s.rd R.MGMT_WDOG_CTRL_PERIOD
  | 0x1D10, 5 => w R.MGMT_UPDATE_INFO_ERROR
  | 0x1E00, 1 => w R.MGMT_LOG_SEQ_SEQ
  | 0x1E00, 3 => w R.MGMT_LOG_LOST_COUNT
  | 0x1E01, 1 => (s.carrier c).logFrom
  | 0x1F00, 1 => s.rack.pendingAddr.getD (s.rd R.RL_STATUS_ADDRESS)
  | 0x1F00, 2 => w R.RL_CTRL_TX_EN
  | 0x1F00, 3 => w R.RL_STATUS_ADDRESS
  | 0x1F00, 4 => s.rack.lastBeacon
  | _, _ => 0

/-- The value of a STRING or DOMAIN object. -/
def State.objBlock (s : State) (c index sub : Nat) : List Byte :=
  let n := sub - 1
  match index, sub with
  | 0x1000, 6 => partNumber s.fuse.deviceId
  | 0x1002, 1 => s.dict.assetTag
  | 0x1210, _ => s.readBytes (0x410100 + 16 * n) 4
  | 0x1403, 2 => (s.readBytes 0x420030 3).take 10
  | 0x1502, 1 => s.temps ((List.range 28).map fun d => s.rd R.THERMAL_DIE_TEMP_TEMP [d])
  | 0x1502, 2 => s.temps ((List.range 31).map fun d => s.rd R.THERMAL_NODE_TEMP_ESTIMATE [d])
  | 0x1502, 3 => s.temps ((List.range 44).map fun d => s.rd R.THERMAL_SENSOR_READING [d])
  | 0x1605, 2 => s.readBytes R.CACHE_RANGE_BASE_SLAB.off 2
  | 0x1606, 2 => s.readBytes R.CACHE_SRMAP_BITS.off 128
  | 0x1612, _ => s.readBytes (R.BENCH_CANARY_RESULT_PENDING.off + 0x10000 * n) 4
  | 0x1614, _ => (List.range 24).flatMap fun p => leBytes 2 (s.timing 0 n p)
  | 0x1615, _ => s.remapTable n
  | 0x1623, 1 => s.readBytes R.RAS_CELOG_SLAB_SLAB.off 256
  | 0x1623, 2 => s.readBytes R.RAS_UELOG_SLAB_SLAB.off 128
  | 0x1625, _ => s.readBytes (R.RAS_BANK_CE_COUNT.off + 128 * n) 32
  | 0x1626, _ => s.readBytes (R.RAS_SPARES_USED_COUNT.off + 32 * n) 8
  | 0x1702, _ => s.readBytes (R.SHAFT_FAILED_DN_LANES.off + 0x10000 * n) 3 ++ s.readBytes (R.SHAFT_FAILED_UP_LANES.off + 0x10000 * n) 3
  | 0x1703, _ => s.readBytes (R.SHAFT_CRC_ERRORS_COUNT.off + 0x10000 * n) 4
  | 0x1800, 3 => s.readBytes R.HG_HALT_ADDR_LO_ADDR.off 4
  | 0x1802, _ => s.readBytes (R.HAUL_DONE_COUNT_COUNT.off + 0x1000 * n) 3
  | 0x1812, 1 => s.readBytes R.CODING_DIGESTS_COUNT.off 4
  | 0x1812, 2 => s.readBytes R.CODING_MISMATCHES_COUNT.off 7
  | 0x1900, 1 => s.readBytes R.FAULT_STICKY_SOURCES.off 4
  | 0x1900, 2 => s.readBytes R.FAULT_SHADOW_STICKY_SOURCES.off 4
  | 0x1A02, 2 => s.readBytes R.TEST_TEST_STATUS_TEST.off 3
  | 0x1A03, 1 => s.readBytes R.TEST_CS_MEM_PTR_LAYER.off 1 ++ s.readBytes R.TEST_CS_WAY_PTR_WAY.off 2
  | 0x1A03, 2 => s.readBytes R.TEST_CS_MEM_PASSES_COUNT.off 1 ++ s.readBytes R.TEST_CS_SKIPS_COUNT.off 2
  | 0x1B01, 1 => s.test.shadow
  | 0x1B01, 2 => s.test.active
  | 0x1C04, 2 => s.readBytes R.FUSE_OVR_MAP_WORDS.off 4
  | 0x1E01, 2 => (s.logEntries (s.carrier c).logFrom).flatMap LogEntry.bytes
  | 0x1F01, 1 => s.readBytes R.RL_FRAMES_RX_COUNT.off 13
  | 0x1F01, 2 => s.readBytes R.RL_LT_RESULT_PEER.off 3
  | _, _ => []

/-- A signed or unsigned object whose register counts from −64 °C is given in two's complement. -/
def State.objValue (s : State) (c index sub : Nat) : Nat :=
  if index < 0x1600 then s.objNat c index sub else s.objNat2 c index sub

/-- R386, R397: the bytes of an object. -/
def State.objRead (s : State) (c : Nat) (o : Obj) (sub : Nat) : List Byte :=
  if sub = 0 ∧ o.acc = .ro ∧ o.type = .u8 ∧ o.hi = 0 then leBytes 1 (lastSub o.index)
  else match o.type with
    | .string | .domain => s.objBlock c o.index sub
    | t => leBytes t.size (s.objValue c o.index sub)

/-! ### Saved values (R403, R404) -/

/-- The default of an RWS object. -/
def rwsDefault (o : Obj) (sub : Nat) : List Byte :=
  match o.index, sub with
  | 0x1002, _ => []
  | i, k =>
    let v : Nat := match i, k with
      | 0x1200, 4 => 7
      | 0x1201, 3 => 100
      | 0x1300, 1 => 1
      | 0x1300, 2 => 35156
      | 0x1301, 0x3F => 8
      | 0x1302, 0x02 => 1
      | 0x1401, 2 => 20
      | 0x1402, 2 => 1
      | 0x1402, 4 => 15
      | 0x1500, 1 => 300
      | 0x1501, 1 => 4096
      | 0x1501, 2 => 115
      | 0x1503, 3 => 720
      | 0x1604, 0x41 => 2
      | 0x1604, 0x42 => 48
      | 0x1611, k => benchCfgReset.getD (k - 1) 0
      | 0x1620, 3 => 7
      | 0x1621, 1 => 64
      | 0x1621, 2 => 1
      | 0x1622, 1 => 4
      | 0x1622, 2 => 256
      | 0x1704, 1 => 2
      | 0x1704, 3 => 8
      | 0x1704, 4 => 5
      | 0x1704, 5 => 1
      | 0x1810, 3 => 1
      | 0x1901, k => R.FAULT_REACT_REACTION.resetAt [k - 1]
      | 0x1902, 1 => 8
      | 0x1A00, 3 => 7
      | 0x1A01, 1 => 1000
      | 0x1A01, 2 => 100000
      | 0x1A01, 3 => 100000
      | 0x1D01, 1 => 6000000
      | 0x1D01, 2 => 1000
      | 0x1F00, 1 => 31
      | 0x1F00, 2 => 7
      | _, _ => 0
    leBytes o.type.size v

/-- Every RWS object with its sub-index, in ascending order. -/
def rwsObjects : List (Obj × Nat) :=
  (objects.filter (·.acc == .rws)).flatMap fun o => (List.range (o.hi + 1 - o.lo)).map fun k => (o, o.lo + k)

/-- R403: the values of RWS objects that differ from their defaults (DESIGN CHOICE in part: log entry 42). -/
def State.savedNow (s : State) : List SavedVal :=
  rwsObjects.filterMap fun p =>
    let v := s.objRead 0 p.1 p.2
    if v = rwsDefault p.1 p.2 then none else some ⟨p.1.index, p.2, p.1.type.code, v⟩

/-- R404: the governing copy, and whether it is copy 1. -/
def State.savedCopy (s : State) : Option (SavedCopy × Bool) :=
  match savedCopyOf s.dict.copy0, savedCopyOf s.dict.copy1 with
  | some a, some b => if a.seq < b.seq then some (b, true) else some (a, false)
  | some a, none => some (a, false)
  | none, some b => some (b, true)
  | none, none => none

/-- R403, R404: a save replaces the copy that does not govern, with SEQ one higher; the copy that governed until then is erased for
the next save. -/
def State.writeCopy (s : State) (es : List SavedVal) : State :=
  match s.savedCopy with
  | some (h, true) => { s with dict := { s.dict with copy0 := (⟨h.seq + 1, es⟩ : SavedCopy).bytes, copy1 := [] } }
  | some (h, false) => { s with dict := { s.dict with copy0 := [], copy1 := (⟨h.seq + 1, es⟩ : SavedCopy).bytes } }
  | none => { s with dict := { s.dict with copy0 := (⟨1, es⟩ : SavedCopy).bytes, copy1 := [] } }

/-- R403: a save that ends; a failed one is retried at the next occasion (DESIGN CHOICE in part: log entry 42). -/
def State.saveEnd (s : State) (es : List SavedVal) (ok : Bool) : State :=
  if ok then
    let s := s.writeCopy es
    { s with dict := { s.dict with unsaved := none, saveFailed := false } }
  else
    let s : State := { s with dict := { s.dict with saveFailed := true } }
    (s.raise E.DICT_SAVE_FAILED).detect [105]

/-- SAVE_VALUES: firmware writes a copy for the RWS writes not yet saved. -/
def execSaveValues (ok : Bool) (s : State) : Host.Outcome State Fault Refusal :=
  .next (if s.fwRuns && (s.dict.unsaved.isSome || s.dict.saveFailed) then s.saveEnd s.savedNow ok else s)

end Sys2Proof.Machine
end

