-- ==== Sys2Proof/Machine/Power.lean ====
section
/-! DEFINITION. Power states: requests, the entry sequencer, wakes and the exit from REST (Power states and domains). -/
namespace Sys2Proof.Machine

/-- POWER.STATUS.STATE: 0 ACTIVE, 1 DOZE, 2 REST, 3 EMBER. -/
def State.pstate (s : State) : Nat := s.rd R.POWER_STATUS_STATE

/-! ### Requests (R253, R256, R258) -/

/-- R258: a refusal recorded. -/
def State.refuseEntry (s : State) (target block reason source tick : Nat) : State :=
  (((s.lastEntry target 1 block reason source tick).incSat R.POWER_REFUSALS_COUNT).raise E.POWER_ENTRY_REFUSED).logPower

/-- An entry completed. -/
def State.entryDone (s : State) (target source tick : Nat) : State :=
  ((s.lastEntry target 0 0 0 source tick).raise E.POWER_ENTRY_DONE).logPower

/-- Table 11.5: why a block that is asked refuses entry to the target. -/
def State.blockRefuses (s : State) (b target : Nat) : Option Nat :=
  let shift := s.rd R.TIME_SHIFT_STATUS_STATE
  match b with
  | 1 => if shift = 2 ∨ shift = 3 then some 1 else none
  | 2 => if s.haulBusy then some 2 else if s.halted then some 3 else none
  | 3 => if s.test.test.isSome then some 4 else none
  | 4 =>
    if s.is R.CODE_CODE_STATUS_CLEAR_BUSY then some 5
    else if s.is R.CODE_CODE_STATUS_REJOIN_BUSY || (List.range s.nLayer).any (fun n => s.layer n == 2) then some 6
    else if target = 3 ∧ (s.suspectAny ∨ (s.ras.savedSuspect ∧ !s.live 8)) then some 7 else none
  | 6 => if s.is R.HOST_STATUS_LINK_UP && s.host.powerState == 0 then some 8 else none
  | 7 => if s.updating || s.fuse.burn.isSome then some 9 else none
  | _ => none

/-- The block asked after block `b`: from ACTIVE in order; from REST 4, 7, then 8 after the preparation of R257. -/
def nextBlock (rest : Bool) (b : Nat) : Nat := if rest && b == 4 then 7 else b + 1

/-- R126, R161: block 8 sends HOLD or RETAIN. -/
def State.askBenches (s : State) (target : Nat) : State :=
  let bs := s.askedBenches.filter fun b => target == 3 || s.linkState b != linkHold
  let s := bs.foldl (fun s b => s.sendDown b (if target = 3 then 0x42 else 0x40) ⟨0, 0, [], []⟩) s
  { s with power := { s.power with waitReady := bs } }

/-- What a block that does not refuse does at once. -/
def State.quiesce (s : State) (b target : Nat) : State :=
  match b with
  | 4 =>
    if s.live 8 then
      { s with ras := { s.ras with
          savedLayers := (List.range 18).map fun n => (s.layer n, s.rd R.CODE_LAYER_STATE_CAUSE [n])
          savedSuspect := s.suspectAny } }
    else s
  | 5 => s.flushAll
  | 8 => s.askBenches target
  | _ => s

/-- The sequencer becomes idle and the blocks that have granted restart, in the prior state. -/
def State.restartBlocks (s : State) : State :=
  if s.pstate = 0 then (s.seqIdle.kickSweeps).advanceAll else s.seqIdle

/-- Block `b` is asked. -/
def State.askBlock (s : State) (b : Nat) : State :=
  let p := s.power
  match s.blockRefuses b p.target with
  | some r => (s.refuseEntry p.target b r p.source p.reqTick).restartBlocks
  | none =>
    ({ s with power := { p with seq := .asking b, granted := p.granted ++ [b] } } : State).quiesce b p.target

/-- R253, R255, R256: a request for a state, with its source code of LAST_ENTRY (DEDUCED in part: log entry 30). -/
def State.requestState (s : State) (target source : Nat) : State :=
  let tick := s.tick32
  let st := s.pstate
  if s.power.seq ≠ .idle then s.refuseEntry target 0 0x0B source tick
  else if target = 0 ∨ 3 < target ∨ (target = 1 ∧ st ≠ 0) ∨ (st = 2 ∧ target ≠ 3) ∨ st = 3 then
    s.refuseEntry target 0 0x0A source tick
  else if target = 1 then
    if s.rd R.TIME_SHIFT_STATUS_STATE = 3 then s.refuseEntry 1 1 0x01 source tick
    else if s.haulBusy then s.refuseEntry 1 2 0x02 source tick
    else (s.wr R.POWER_STATUS_STATE 1).entryDone 1 source tick
  else
    let s := s.dozeExit
    let s := (s.set R.POWER_STATUS_SEQ_BUSY).wrB R.POWER_REQ_GO (source == 1)
    ({ s with power := { s.power with target := target, source := source, reqTick := tick, granted := [] } } : State).askBlock
      (if st = 2 then 4 else 1)

/-- POWER.REQ, or object 0x1400:02: who asks, as LAST_ENTRY records it. -/
def reqSource : RegSrc → Nat
  | .dict _ => 2
  | _ => 1

/-- POWER.REQ with GO. -/
def State.powerReq (s : State) (src : RegSrc) (target : Nat) : State :=
  if !s.live 3 then s else
  (s.wr R.POWER_REQ_STATE target).requestState target (reqSource src)

/-- REQ_DOZE. -/
def execReqDoze (src : RegSrc) (s : State) : Host.Outcome State Fault Refusal := .next ((s.inbound src).powerReq src 1)

/-- REQ_REST. -/
def execReqRest (src : RegSrc) (s : State) : Host.Outcome State Fault Refusal := .next ((s.inbound src).powerReq src 2)

/-- REQ_EMBER. -/
def execReqEmber (src : RegSrc) (s : State) : Host.Outcome State Fault Refusal := .next ((s.inbound src).powerReq src 3)

/-- R255: DOZE_IDLE ticks have passed without work. A refused automatic entry waits for another idle period
(DEDUCED in part: log entry 30). -/
def State.autoDoze (s : State) : State :=
  let n := s.rd R.POWER_CTRL_DOZE_IDLE
  if s.live 3 && s.pstate == 0 && s.power.seq == .idle && n != 0 && decide (n ≤ s.power.idleTicks) then
    let s := s.requestState 1 5
    { s with power := { s.power with idleTicks := 0 } }
  else s

/-- AUTO_DOZE. -/
def execAutoDoze (s : State) : Host.Outcome State Fault Refusal := .next s.autoDoze

/-! ### Wakes (R261 to R264) -/

/-- The wake latch and WAKE_SRC (DEDUCED in part: log entry 30). -/
def State.latchWake (s : State) (k : Nat) : State :=
  let old := if s.is R.POWER_WAKE_LATCH_PENDING then s.rd R.POWER_WAKE_SRC_SRC else 0
  (s.wr R.POWER_WAKE_SRC_SRC (old ||| 2 ^ k)).set R.POWER_WAKE_LATCH_PENDING

/-- R263: WAKE# for a wake from EMBER. -/
def State.wakePin (s : State) (k : Nat) : State :=
  if k = 1 then s else { s with pins := { s.pins with wake := true } }

/-- R184: a wake from D3hot is signalled as PME: PME_Status is set, and the message goes out while PME_En is 1
(PRESUMED in part: log entry 14). -/
def State.signalPme (s : State) (k : Nat) : State :=
  if k == 4 || s.host.powerState != 3 then s else
  let t := s.cfgPut 0x44 (s.cfgWord 0x44 % 2 ^ 15 + 2 ^ 15)
  if (s.cfgWord 0x44).testBit 8 then t.tlp .pme else t

/-- R253, R445: the exit from REST starts: the domains of ACTIVE come up, the layers are loaded from the save, and the links
wait to be trained; level P2. -/
def State.exitRest (s : State) : State :=
  let s := s.seqIdle.set R.POWER_STATUS_SEQ_BUSY
  let was := s.rd R.POWER_STATUS_LEVEL
  let s := ((s.wr R.POWER_STATUS_LEVEL 2).wr R.THERMAL_GOV_CHOSEN 2).driveVid (s.vidCode 2)
  let s := if was = 2 then s else s.raise E.POWER_LEVEL_CHANGE
  let cold := !s.live 8
  let s := s.powerUp (s.stateDoms 0)
  let s : State := { s with bench := s.bench.map fun x => { x with tabled := false } }
  let s := if cold then s.loadLayers.srResetExit else s
  let s : State := { s with power := { s.power with seq := .exiting } }
  s.holdLinks.logPower

/-- A wake by a source of Table 11.6: 0 wake port, 1 PERST#, 2 schedule, 3 Rack Link, 4 host D0 write. The latch is held until
the exit has reached ACTIVE; a tripped device ignores wakes (R280). -/
def State.wakeBy (s : State) (k : Nat) : State :=
  if s.thermal.trip.isSome then s
  else if k ≠ 4 ∧ !(s.rd R.POWER_WAKE_EN_EN).testBit k then (if k = 0 ∧ s.pstate = 1 then s.dozeExit else s)
  else match s.power.seq with
    | .idle =>
      match s.pstate with
      | 1 => if k = 0 then s.dozeExit else s
      | 2 => if k = 1 then s else ((s.latchWake k).signalPme k).exitRest
      | 3 =>
        if k = 4 ∨ (k = 3 ∧ !s.is R.POWER_CTRL_RL_LISTEN) then s
        else ((s.latchWake k).wakePin k).logPower
      | _ => s
    | .exiting => s.wr R.POWER_WAKE_SRC_SRC (s.rd R.POWER_WAKE_SRC_SRC ||| 2 ^ k)
    | _ => s.latchWake k

/-! ### The entry sequence (R256 to R258, R264) -/

/-- The exit from REST for a held wake, with its PME (R263, R264). -/
def State.wakeRest (s : State) : State :=
  (s.signalPme (if (s.rd R.POWER_WAKE_SRC_SRC).testBit 4 then 4 else 0)).exitRest

/-- A held wake reverses the entry (Table 11.7). From block 8 on, the links retrain and canary mode clears with no check
(DEDUCED in part: log entry 30). -/
def State.reverseEntry (s : State) (benches : Bool) : State :=
  let s := s.lastEntry s.power.target 2 0 0 s.power.source s.power.reqTick
  let s := ((s.incSat R.POWER_WAKE_ABORTS_COUNT).raise E.POWER_WAKE_ABORT).logPower
  let s := if benches then s.restartBenches else s
  if s.pstate = 2 then s.restartBlocks.wakeRest else (s.restartBlocks).clr R.POWER_WAKE_LATCH_PENDING

/-- Every write that has been accepted has reached the stack, or stack writes are refused. -/
def State.allWritten (s : State) : Bool :=
  s.noWrites || (!s.anyDirty && s.cache.wait.all (!·.write) && s.queuesEmpty)

/-- A flush has written everything: nothing dirty, no read-modify-write in flight, and no write in a shaft request queue, unless
stack writes are refused (R97, R186). -/
def State.flushedOut (s : State) : Bool :=
  s.noWrites || (!s.anyDirty && s.queuesEmpty &&
    !(s.cache.ops ++ s.cache.opq).any fun o => o.kind == .rmwLine || o.kind == .rmwMerge)

/-- The cache has nothing left to write and no operation in flight. -/
def State.cacheQuiet (s : State) : Bool :=
  s.cache.flush.isNone && s.cache.ops.isEmpty && s.cache.opq.isEmpty && s.allWritten

/-- Block `b`'s quiesce action has ended. -/
def State.blockQuiet (s : State) (b : Nat) : Bool :=
  match b with
  | 3 => !s.sampling
  | 4 => match s.ras.repair with
    | some r => r.failed
    | none => true
  | 5 => s.cacheQuiet
  | 8 => s.power.waitReady.isEmpty
  | _ => true

/-- Block 7 stops at its next page boundary (Table 11.7): the page that is being programmed is finished, and how many of the
pages before it had been is not stated (DESIGN CHOICE in part: log entry 30). -/
def State.persistPages (s : State) : State :=
  if s.power.target ≠ 3 ∨ !s.fwRuns then s else
  let es := ringBetween s.mgmt.ring (s.rd R.MGMT_LOG_PERSISTED_SEQ_SEQ) (s.rd R.MGMT_LOG_SEQ_SEQ)
  let r := s.draw
  let pages := 1 + Config.freeNat r.1 % ((es.length + 7) / 8)
  if es.isEmpty then s
  else match es[8 * pages]? with
    | some e => r.2.persistBefore e.seq
    | none => r.2.persistBefore (s.rd R.MGMT_LOG_SEQ_SEQ)

/-- What block `b` does as it grants: service mode ends, the cache is invalidated, EMBER persists the records that are
due, the log and the saved values (R311, Table 11.7). -/
def State.blockGrants (s : State) (b : Nat) : State :=
  match b with
  | 3 => if s.is R.TEST_CTRL_SERVICE then s.serviceLeave else s
  | 5 => if s.noWrites then s else { s with cache := { s.cache with lines := [], plru := [] } }
  | 7 =>
    if s.power.target = 3 ∧ s.fwRuns then
      let s := (s.recordFlush s.ras.recDue.length).persistAll
      if s.dict.unsaved.isSome || s.dict.saveFailed then
        let f := s.flashOp
        f.2.saveEnd s.savedNow f.1
      else s
    else s
  | _ => s

/-- R257 steps 1 and 2: P2's code, and the bench domains. -/
def State.prepareEmber (s : State) : State :=
  let s := s.driveVid (s.vidCode 2)
  let ds := (List.range 9).flatMap fun b => [13 + b, benchDom b 1, benchDom b 2, benchDom b 3]
  let s := s.powerUp (ds.filter s.mayBeOn)
  { s with power := { s.power with seq := .preparing } }

/-- Every bench that is not offline has its link ACTIVE. -/
def State.allTrained (s : State) : Bool :=
  (List.range s.nBench).all fun b => s.linkState b == linkOffline || s.linkState b == linkActive

/-- BLOCK_GRANT: the block asked grants, once its quiesce action has ended, and the next is asked; a wake held meanwhile
reverses the entry (DEDUCED in part: log entry 30). -/
def State.blockGrant (s : State) : State :=
  let woken := s.is R.POWER_WAKE_LATCH_PENDING
  let rest := s.pstate == 2
  match s.power.seq with
  | .asking b =>
    if !s.blockQuiet b then s
    else if woken then (if b = 7 then s.persistPages else if b = 5 then s.blockGrants 5 else s).reverseEntry (b == 8)
    else
      let s := s.blockGrants b
      if b = 8 then { s with power := { s.power with seq := .switching } }
      else if rest && b == 7 then s.prepareEmber
      else s.askBlock (nextBlock rest b)
  | .preparing => if woken then s.reverseEntry true else if s.allTrained then s.askBlock 8 else s
  | _ => s

/-- BLOCK_GRANT. -/
def execBlockGrant (s : State) : Host.Outcome State Fault Refusal := .next s.blockGrant

/-- DOMAIN_SWITCH_DONE: the domains of the new state stay on and the state is reported; a wake held meanwhile starts the
exit from REST at once, and calls for the exit from EMBER with WAKE#. -/
def State.switchDone (s : State) : State :=
  if s.power.seq ≠ .switching then s else
  let t := s.power.target
  let s := (s.clr R.HOST_STATUS_STACK_READY).wr R.POWER_STATUS_STATE t
  let s := s.entryDone t s.power.source s.power.reqTick
  let s := s.offBut (s.stateDoms t)
  let s := (s.seqIdle.driveVid (s.vidCode 3)).drivePins
  if !s.is R.POWER_WAKE_LATCH_PENDING then s
  else if t = 2 then s.wakeRest
  else if s.rd R.POWER_WAKE_SRC_SRC = 2 then s else s.wakePin 0

/-- DOMAIN_SWITCH_DONE. -/
def execDomainSwitchDone (s : State) : Host.Outcome State Fault Refusal := .next s.switchDone

/-- BENCH_READY_TIMEOUT: a bench that has not reported READY within 50 µs goes offline, and entry continues. -/
def State.readyTimeout (s : State) (b : Nat) : State :=
  if !s.power.waitReady.contains b then s else
  let s : State := { s with power := { s.power with waitReady := s.power.waitReady.filter (· != b) } }
  s.goOffline b

/-- BENCH_READY_TIMEOUT. -/
def execBenchReadyTimeout (b : Nat) (s : State) : Host.Outcome State Fault Refusal := .next (s.readyTimeout b)

/-- PERF.LIMIT written; the governor steps down at the next tick boundary where the level in use is faster (R249). -/
def State.perfLimit (s : State) (v : Nat) : State :=
  if !s.live 3 then s else
  let s := s.wr R.POWER_PERF_LIMIT v
  s.wr R.POWER_STATUS_LEVEL_LIMIT s.levelLimit

/-- PERF_LIMIT_WRITE. -/
def execPerfLimitWrite (src : RegSrc) (v : Nat) (s : State) : Host.Outcome State Fault Refusal := .next ((s.inbound src).perfLimit v)

end Sys2Proof.Machine
end

