-- ==== Sys2Proof/Machine/TimeBase.lean ====
section
/-! DEFINITION. Rack time beyond its ticks: loads, the tick source, the schedule table and the shift (Rack time, ticks and
shifts). -/
namespace Sys2Proof.Machine

/-! ### The tick number and its source (R26 to R31) -/

/-- The flywheel's period in nanoseconds. -/
def State.period (s : State) : Nat := s.rd R.TIME_PERIOD * 40

/-- R29: a load of the next counted tick's number. -/
def State.loadNumber (s : State) (n : Nat) : State :=
  { s.set R.TIME_STATUS_NUMBER_VALID with time := { s.time with load := some (n % tickMod) } }

/-- R29: a write of LOAD_HI. -/
def State.tickLoad (s : State) (hi : Nat) : State :=
  if s.live 3 then s.loadNumber (s.rd R.TIME_LOAD_LO + hi % 65536 * 2 ^ 32) else s

/-- TICK_LOAD. -/
def execTickLoad (src : RegSrc) (hi : Nat) (s : State) : Host.Outcome State Fault Refusal := .next ((s.inbound src).tickLoad hi)

/-- R25, R27: the source leaves PIN. -/
def State.freeRun (s : State) (source : Nat) : State :=
  if s.rd R.TIME_STATUS_SOURCE = 0 then
    let s := (s.wr R.TIME_STATUS_SOURCE source).set R.TIME_STATUS_FREE_RUNNING
    let s : State := { s with time := { s.time with train := 0 } }
    (s.raise E.TIME_FREE_RUN_SET).detect [116]
  else s

/-- R27: a write of TIME.CTRL. Without PIN_EN the flywheel takes over from the last counted tick. -/
def State.timeCtrl (s : State) (v : Nat) : State :=
  let s := ((s.wrB R.TIME_CTRL_PIN_EN (v.testBit 0)).wrB R.TIME_CTRL_BEACON_EN (v.testBit 1)).wrB
    R.TIME_CTRL_BEACON_LOAD (v.testBit 2)
  let s := if v.testBit 0 then s
    else
      let s : State := { s with time := { s.time with
        train := 0, nextFly := if s.rd R.TIME_STATUS_SOURCE = 0 then s.time.lastTick + s.period else s.time.nextFly } }
      s.freeRun 2
  if !v.testBit 1 && s.rd R.TIME_STATUS_SOURCE == 1 then s.wr R.TIME_STATUS_SOURCE 2 else s

/-- R27: the flywheel is disciplined from beacons, when they are enabled and arrive, and runs alone otherwise. -/
def State.pinSilent (s : State) : State :=
  if s.power.lanternUp && s.rd R.TIME_STATUS_SOURCE != 0 &&
      (!s.is R.TIME_CTRL_PIN_EN || decide (1000 ≤ s.time.pinSilent)) then
    s.wr R.TIME_STATUS_SOURCE (if s.is R.TIME_CTRL_BEACON_EN && decide (s.time.beaconSilent < 3000) then 1 else 2)
  else s

/-- PIN_SILENCE_TIMEOUT. -/
def execPinSilenceTimeout (s : State) : Host.Outcome State Fault Refusal := .next s.pinSilent

/-- R27: without beacons the source becomes LOCAL. -/
def State.beaconLost (s : State) : State :=
  if s.power.lanternUp && s.rd R.TIME_STATUS_SOURCE == 1 && decide (3000 ≤ s.time.beaconSilent) then
    s.wr R.TIME_STATUS_SOURCE 2
  else s

/-- BEACON_SILENCE_TIMEOUT. -/
def execBeaconSilenceTimeout (s : State) : Host.Outcome State Fault Refusal := .next s.beaconLost

/-! ### The schedule table (R34 to R36) -/

/-- R36: the ARG lies in its action's range, and the action is not reserved. -/
def schedLegal (action arg : Nat) : Bool :=
  if action = 2 then decide (1 ≤ arg) && decide (arg ≤ 3)
  else if action = 3 then decide (120 ≤ arg) && decide (arg ≤ 300) else decide (action < 7)

/-- BAR0 offset of word `w` of entry `i`. -/
def schedOff (i w : Nat) : Nat := 0x410100 + 16 * i + 4 * w

/-- The arm bit and the flags of the word at +0x4 written; an entry armed now acts at the next tick at the earliest. -/
def State.schedFlags (s : State) (i data : Nat) : State :=
  let arm := data.testBit 16
  let s := if arm && !s.is R.TIME_SCHED_ARM [i] then
      { s with time := { s.time with freshSched := s.time.freshSched ++ [i] } } else s
  let s := s.wrB R.TIME_SCHED_ARM arm [i]
  let s := if data.testBit 17 then s.clr R.TIME_SCHED_FIRED [i] else s
  let s := if data.testBit 18 then s.clr R.TIME_SCHED_LATE [i] else s
  if data.testBit 19 then s.clr R.TIME_SCHED_SKIPPED [i] else s

/-- R36: a write of word `w` of entry `i`. Under ARM the guarded fields are kept, and a change to them is logged; ARG, which
stands in the word of the action, is one of them (DESIGN CHOICE in part: log entry 12). -/
def State.schedWrite (s : State) (src : RegSrc) (i w data : Nat) : State :=
  if 64 ≤ i ∨ !s.live 3 then s else
  let armed := s.is R.TIME_SCHED_ARM [i]
  let guarded : Fam → Nat → State := fun f v =>
    if !armed then s.wr f v [i] else if v = s.rd f [i] then s else s.refuse src (schedOff i w)
  match w with
  | 0 => guarded R.TIME_SCHED_TARGET_LO (field data 0 32)
  | 1 => (guarded R.TIME_SCHED_TARGET_HI (field data 0 16)).schedFlags i data
  | 2 => guarded R.TIME_SCHED_PERIOD (field data 0 32)
  | 3 =>
    let act := field data 0 4
    let arg := field data 16 16
    let same := act == s.rd R.TIME_SCHED_ACTION [i] && arg == s.rd R.TIME_SCHED_ARG [i]
    if armed then (if same then s else s.refuse src (schedOff i 3))
    else if schedLegal act arg then (s.wr R.TIME_SCHED_ACTION act [i]).wr R.TIME_SCHED_ARG arg [i]
    else s.refuse src (schedOff i 3)
  | _ => s

/-- SCHED_ENTRY_WRITE. -/
def execSchedEntryWrite (src : RegSrc) (i word data : Nat) (s : State) : Host.Outcome State Fault Refusal :=
  .next ((s.inbound src).schedWrite src i word data)

/-- R34, R35, Table 11.5: entry `i` acts with action `act`, or is skipped in REST, in EMBER and once TIME has granted an
entry, after every lower entry that is due. `run` is the action. A repeating entry that a step has carried past several of its
periods acts once for each, before any higher entry (DESIGN CHOICE in part: log entry 12). -/
def State.schedAct (s : State) (i act : Nat) (run : State → Nat → State) : State :=
  if 64 ≤ i ∨ !s.power.lanternUp ∨ s.rd R.TIME_SCHED_ACTION [i] ≠ act ∨ !s.schedDue i ∨ (List.range i).any s.schedDue then s
  else
    let skip := s.schedSkips && act != 1 && act != 4
    let late := s.time.now != s.schedTarget i
    let per := s.rd R.TIME_SCHED_PERIOD [i]
    let target := (s.schedTarget i + per) % tickMod
    let arg := s.rd R.TIME_SCHED_ARG [i]
    let s := if skip then s.set R.TIME_SCHED_SKIPPED [i] else s.set R.TIME_SCHED_FIRED [i]
    let s := if late then s.set R.TIME_SCHED_LATE [i] else s
    let s := if per = 0 then s.clr R.TIME_SCHED_ARM [i]
      else (s.wr R.TIME_SCHED_TARGET_LO target [i]).wr R.TIME_SCHED_TARGET_HI (target / 2 ^ 32) [i]
    let s := if late || skip then s.raise E.TIME_SCHED_LATE else s
    if skip then s else run s.dozeExit arg

/-- SCHED_NONE. -/
def execSchedNone (i : Nat) (s : State) : Host.Outcome State Fault Refusal := .next (s.schedAct i 0 fun s _ => s)

/-- SCHED_WAKE. -/
def execSchedWake (i : Nat) (s : State) : Host.Outcome State Fault Refusal := .next (s.schedAct i 1 fun s _ => s.wakeBy 2)

/-- SCHED_ENTER_STATE. -/
def execSchedEnterState (i : Nat) (s : State) : Host.Outcome State Fault Refusal :=
  .next (s.schedAct i 2 fun s arg => s.requestState arg 3)

/-- R285: a cap set at a tick counts in the governor's step of that tick, which has worked with it ahead; where it has not, since an
entry that asks for a state stood before it, the step is taken again and the tokens that it changes are sent again
(DEDUCED in part: log entry 29). -/
def State.setCap (s : State) (v : Nat) : State :=
  let t := s.wr R.THERMAL_CAP_SETPOINT v
  if t.capUnder t.capAhead = t.rd R.THERMAL_CAP_IN_FORCE then t
  else
    let t := t.govSettle false
    if t.rd R.THERMAL_TOKENS = s.rd R.THERMAL_TOKENS then t else t.tokenFrames

/-- SCHED_SET_CAP. -/
def execSchedSetCap (i : Nat) (s : State) : Host.Outcome State Fault Refusal :=
  .next (s.schedAct i 3 State.setCap)

/-- SCHED_EVENT: the tag goes to the event log. -/
def execSchedEvent (i : Nat) (s : State) : Host.Outcome State Fault Refusal :=
  .next (s.schedAct i 4 fun s arg => (s.raise E.TIME_SCHED_FIRED).log 5 i 0 (leBytes 2 arg))

/-- SCHED_SCRUB_PAUSE. -/
def execSchedScrubPause (i : Nat) (s : State) : Host.Outcome State Fault Refusal :=
  .next (s.schedAct i 5 fun s _ => s.set R.RAS_RAS_CTRL_PAUSED)

/-- SCHED_SCRUB_RESUME. -/
def execSchedScrubResume (i : Nat) (s : State) : Host.Outcome State Fault Refusal :=
  .next (s.schedAct i 6 fun s _ => s.clr R.RAS_RAS_CTRL_PAUSED)

/-! ### Shifts (R37 to R43) -/

/-- SHIFT_STATUS.STATE: 0 IDLE, 1 ARMED, 2 IN_SHIFT, 3 DRAINING, 4 DRAINED. -/
def State.shiftState (s : State) : Nat := s.rd R.TIME_SHIFT_STATUS_STATE

/-- The announced start and end ticks, and the drain lead. -/
def State.shiftStart? (s : State) : Nat := s.rd R.TIME_SHIFT_START_LO + s.rd R.TIME_SHIFT_START_HI * 2 ^ 32
def State.shiftEnd? (s : State) : Nat := s.rd R.TIME_SHIFT_END_LO + s.rd R.TIME_SHIFT_END_HI * 2 ^ 32
def State.lead (s : State) : Nat := s.rd R.TIME_DRAIN_LEAD_LEAD

/-- The announcement changed: its boundaries act at the next tick at the earliest (DEDUCED in part: log entry 12). -/
def State.shiftFresh (s : State) : State := { s with time := { s.time with freshShift := true } }

/-- R38: a start tick that has been moved to one not reached yet is no longer late. -/
def State.startMoved (s : State) : State :=
  { s with time := { s.time with startDeferred := s.time.startDeferred && reached s.time.now s.shiftStart? } }

/-- R37, R42: a write of the start tick, the end tick or the drain lead. -/
def State.shiftTicks (s : State) (src : RegSrc) (off data : Nat) : State :=
  let fam := if off = 0x410024 then some R.TIME_SHIFT_START_LO else if off = 0x410028 then some R.TIME_SHIFT_START_HI
    else if off = 0x41002C then some R.TIME_SHIFT_END_LO else if off = 0x410030 then some R.TIME_SHIFT_END_HI
    else if off = 0x410034 then some R.TIME_DRAIN_LEAD_LEAD else none
  match fam with
  | none => s
  | some f =>
    if !s.live 3 then s else
    let v := field data 0 f.width
    if v = s.rd f then s
    else if 3 ≤ s.shiftState then s.refuse src off
    else if off = 0x410034 ∧ (v < 10 ∨ 10000 < v) then s.refuse src off
    else (s.wr f v).shiftFresh.startMoved

/-- SHIFT_TICKS_WRITE. -/
def execShiftTicksWrite (src : RegSrc) (off data : Nat) (s : State) : Host.Outcome State Fault Refusal :=
  .next ((s.inbound src).shiftTicks src off data)

/-- R37: ARM written 1. -/
def State.shiftArm (s : State) (src : RegSrc) : State :=
  if !s.live 3 ∨ s.shiftState ≠ 0 then s else
  let span := tickSub s.shiftEnd? s.shiftStart?
  if s.lead + 10 ≤ span ∧ span < 2 ^ 47 then
    (((s.set R.TIME_SHIFT_CTRL_ARM).wr R.TIME_SHIFT_STATUS_STATE 1).shiftFresh).advanceAll
  else (s.set R.TIME_SHIFT_CTRL_BAD_ARM).refuse src R.TIME_SHIFT_CTRL_ARM.off

/-- SHIFT_ARM. -/
def execShiftArm (src : RegSrc) (s : State) : Host.Outcome State Fault Refusal := .next ((s.inbound src).shiftArm src)

/-- R37, R42: ARM written 0 in ARMED withdraws the announcement; in DRAINING and DRAINED it is ignored and logged. -/
def State.shiftWithdraw (s : State) (src : RegSrc) : State :=
  if !s.live 3 then s
  else if s.shiftState = 1 then
    let s : State := { s with time := { s.time with startDeferred := false } }
    ((s.clr R.TIME_SHIFT_CTRL_ARM).wr R.TIME_SHIFT_STATUS_STATE 0).advanceAll
  else if 3 ≤ s.shiftState then s.refuse src R.TIME_SHIFT_CTRL_ARM.off
  else s

/-- SHIFT_WITHDRAW. -/
def execShiftWithdraw (src : RegSrc) (s : State) : Host.Outcome State Fault Refusal := .next ((s.inbound src).shiftWithdraw src)

/-- R37: ARM written 0 in IN_SHIFT: the end is the next tick, which a committed load may number (R29), plus the lead. -/
def State.shiftEndEarly (s : State) : State :=
  if !s.live 3 ∨ s.shiftState ≠ 2 then s else
  let e := (s.time.load.getD (s.time.now + 1) + s.lead) % tickMod
  ((s.wr R.TIME_SHIFT_END_LO e).wr R.TIME_SHIFT_END_HI (e / 2 ^ 32)).shiftFresh

/-- SHIFT_END_EARLY. -/
def execShiftEndEarly (src : RegSrc) (s : State) : Host.Outcome State Fault Refusal := .next (s.inbound src).shiftEndEarly

/-- SHIFT_CTRL written: ARM by its three steps, INV_AT_END plainly, BAD_ARM cleared by 1. -/
def State.shiftCtrl (s : State) (src : RegSrc) (data : Nat) : State :=
  let s := s.wrB R.TIME_SHIFT_CTRL_INV_AT_END (data.testBit 1)
  let s := if data.testBit 2 then s.clr R.TIME_SHIFT_CTRL_BAD_ARM else s
  if data.testBit 0 then s.shiftArm src
  else if s.shiftState = 2 then s.shiftEndEarly else s.shiftWithdraw src

/-- R43, R209: the haul, merge, shaft request and PCIe egress queues are empty, and no descriptor from before the arming is in
execution. Held dirty entries stay (R69). -/
def State.startReady (s : State) : Bool :=
  (List.range 64).all (fun c => (s.chan c).run.isNone && s.cplOut c == 0 && !(s.is R.HAUL_CTRL_EN [c] && s.chanPosted c && !s.halted && !(s.chan c).needTail)) &&
    s.cache.reqs.isEmpty && s.shaft.all (·.queue.isEmpty) && s.host.egress.isEmpty && (s.noWrites || s.cache.merge.isEmpty)

/-- R43: the rings start anew. -/
def State.clearQueues (s : State) : State :=
  (List.range 64).foldl (fun s c =>
    (((s.dropFetches c).wr R.HAUL_HEAD_INDEX 0 [c]).wr R.HAUL_TAIL_INDEX 0 [c]).wr R.HAUL_COMP_INDEX 0 [c]) s

/-- R38, R43: the shift starts, with a regulation window, which may have started at this tick already (R236). -/
def State.shiftBegin (s : State) : State :=
  let late := s.time.startDeferred
  let s := s.clearQueues
  let s := (if s.windowFresh then s.newWindow else s).wr R.TIME_SHIFT_STATUS_STATE 2
  let s := if late then s.set R.TIME_SHIFT_STATUS_START_LATE else s
  let s : State := { s with time := { s.time with startDeferred := false } }
  s.advanceAll.shiftActivate

/-- R38: a start that must wait for ACTIVE (DEDUCED in part: log entry 12). -/
def State.deferStart (s : State) : State := { s with time := { s.time with startDeferred := true } }

/-- R38: a start tick that is reached while the device is in REST or EMBER, or on its way there or back, is deferred, whether or
not the start was asked for. -/
def State.shiftPassed (s : State) : State :=
  if s.shiftState = 1 ∧ reached s.time.now s.shiftStart? ∧ (2 ≤ s.pstate ∨ s.power.seq ≠ .idle) then s.deferStart else s

/-- R38, R43, R336: the start tick has been reached. Where a queue of R43 is not empty yet, the start is deferred to the next tick
at which it is (DEDUCED in part: log entry 12). -/
def State.shiftStartTick (s : State) : State :=
  if s.shiftState ≠ 1 ∨ s.time.freshShift ∨ !reached s.time.now s.shiftStart? ∨ !s.power.lanternUp then s
  else if 2 ≤ s.pstate ∨ s.power.seq ≠ .idle ∨ !s.live 3 then s.deferStart
  else
    let s := s.dozeExit
    if s.is R.TEST_CTRL_SERVICE then s.serviceAbort.deferStart.shiftFresh
    else
      let s := if s.cacheOn then s.closeAll.cacheSettle else s
      if s.startReady then s.shiftBegin else s.deferStart.shiftFresh

/-- SHIFT_START. -/
def execShiftStart (s : State) : Host.Outcome State Fault Refusal := .next s.shiftStartTick

/-- R39 step 1 has ended on every channel: at a halt at once (R209), in a reset of the function with the work that it ends (R185), and
for a channel after a RESET with that. -/
def State.channelsQuiet (s : State) : Bool :=
  s.halted || (List.range 64).all fun c =>
    (s.chan c).run.isNone && (s.host.flr.isSome || (s.chan c).needTail || !(s.is R.HAUL_CTRL_EN [c] && s.chanPosted c))

/-- R39: steps 2 to 4 begin once step 1 has ended: no descriptor runs and no core sample is in progress. -/
def State.drainSettle (s : State) : State :=
  if s.shiftState ≠ 3 ∨ s.time.flushing ∨ !s.live 3 ∨ !s.channelsQuiet ∨ s.test.mem.isSome then s
  else ({ s with time := { s.time with flushing := true } } : State).flushAll

/-- R39: step 1 begins, and where it has nothing to wait for, steps 2 to 4 at once. -/
def State.drainStart (s : State) : State :=
  if s.shiftState ≠ 2 ∨ s.time.freshShift ∨ !s.live 3 ∨
      !reached s.time.now (tickSub s.shiftEnd? s.lead) then s
  else
    let s := s.wr R.TIME_SHIFT_STATUS_STATE 3
    let s : State := { s with time := { s.time with overran := false, flushing := false } }
    (s.raise E.TIME_DRAIN_START).advanceAll.drainSettle

/-- DRAIN_START. -/
def execDrainStart (s : State) : Host.Outcome State Fault Refusal := .next s.drainStart

/-- R39 step 6: everything has reached the stack. With INV_AT_END the cache is invalidated first. The shift can end at the next
tick boundary (R42). -/
def State.drainComplete (s : State) : State :=
  let s := s.drainSettle
  if s.shiftState ≠ 3 ∨ !s.live 3 ∨ !s.time.flushing ∨ !s.cacheQuiet then s
  else
    let s := if s.is R.TIME_SHIFT_CTRL_INV_AT_END then (s.cache.lines.map (·.slab)).foldl State.dropClean s else s
    ((s.wr R.TIME_SHIFT_STATUS_STATE 4).raise E.TIME_DRAINED).persistStart.shiftFresh

/-- DRAIN_COMPLETE. -/
def execDrainComplete (s : State) : Host.Outcome State Fault Refusal := .next s.drainComplete

/-- R41: the end tick is reached while the drain runs (DEDUCED in part: log entry 12). -/
def State.drainOverrun (s : State) : State :=
  if s.shiftState ≠ 3 ∨ s.time.overran ∨ s.time.freshShift ∨ !s.live 3 ∨ !reached s.time.now s.shiftEnd? then s
  else
    let s : State := { s with time := { s.time with overran := true, overruns := s.time.overruns + 1 } }
    ((s.set R.TIME_SHIFT_STATUS_DRAIN_OVERRUN).raise E.TIME_DRAIN_OVERRUN).detect [118]

/-- DRAIN_OVERRUN. -/
def execDrainOverrun (s : State) : Host.Outcome State Fault Refusal := .next s.drainOverrun

/-- R42: the shift ends. -/
def State.shiftFinish (s : State) : State :=
  if s.shiftState ≠ 4 ∨ s.time.freshShift ∨ !s.power.lanternUp ∨ !reached s.time.now s.shiftEnd? then s
  else
    let s := (s.clr R.TIME_SHIFT_CTRL_ARM).wr R.TIME_SHIFT_STATUS_STATE 0
    s.advanceAll.raise E.TIME_SHIFT_ENDED

/-- SHIFT_END. -/
def execShiftEnd (s : State) : Host.Outcome State Fault Refusal := .next s.shiftFinish

end Sys2Proof.Machine
end

