-- ==== Sys2Proof/Machine/Token.lean ====
section
/-! DEFINITION. The control token (Object dictionary, R388 to R390). -/
namespace Sys2Proof.Machine

/-- R389: what every change of the holder does (DEDUCED in part: log entry 41). -/
def State.setHolder (s : State) (h : Nat) : State :=
  if s.dict.holder = h then s else
  let s : State := { s with dict := { s.dict with holder := h, changed := s.time.now } }
  ((s.wr R.DICT_TOKEN_AGE_TICKS 0).raise E.DICT_TOKEN_CHANGE).updateTokenLost

/-- R390: a host-held token is released. -/
def State.hostTokenLost (s : State) : State := if s.dict.holder = 1 then s.setHolder 0 else s

end Sys2Proof.Machine
end

