-- ==== Sys2Proof/Machine/Host.lean ====
section
/-! DEFINITION. The host link: BAR2 requests and their refusal, configuration space, power states of the link, and the resets
of the function (Host link). -/
namespace Sys2Proof.Machine

/-! ### Requests (R174, R176) -/

/-- The link carries requests: the port is on, the data link is up and no reset of the function or of the base die discards
them (R185, R447). -/
def State.linkOn (s : State) : Bool := s.live 2 && s.is R.HOST_STATUS_LINK_UP && s.host.flr.isNone && s.power.resetReq.isNone

/-- R181: the ECRC of what is received is checked. A request whose ECRC is wrong is then discarded and reported
(PRESUMED in part: log entry 14). -/
def State.ecrcOn (s : State) : Bool := (s.cfgWord 0x118).testBit 8

/-- Memory requests reach Table 07.6. -/
def State.memOn (s : State) : Bool := s.host.memEnable && s.host.powerState == 0

/-- R173, Table 07.5: a request of that flow, with that many bytes of data, has its credits: 128 headers each, and data in units
of 16 bytes. A request without credits is not sent, and nothing is received (DESIGN CHOICE in part: log entry 15). -/
def State.rxRoom (s : State) (posted : Bool) (bytes : Nat) : Bool :=
  let held := s.host.rx.filter (·.posted == posted)
  decide (held.length < 128) &&
    decide ((held.map (·.data)).sum + (bytes + 15) / 16 ≤ if posted then 2048 else 16)

/-- Requests presented to the PCIe port hold the credits of the host request that they are the parts of (R173). -/
def State.rxHold (s : State) (posted : Bool) (bytes : Nat) (ids : List Nat) : State :=
  if ids.isEmpty then s
  else { s with host := { s.host with rx := s.host.rx ++ [⟨posted, (bytes + 15) / 16, ids⟩] } }

/-- A posted write refused: counted for UR and CA, reported through AER. -/
def State.dropWrite (s : State) (ca : Bool) : State :=
  if ca then (s.incSat R.HOST_CA_COUNT_COUNT).aer .completerAbort else (s.incSat R.HOST_UR_COUNT_COUNT).aer .unsupported

/-- A request refused under a row of Table 07.6 with UR or CA: logged, and its read completed or its write discarded. -/
def State.refuseHost (s : State) (v : Viol) (ca : Bool) (bar addr rid : Nat) (read : Option HostRd) : State :=
  let s := s.violate v bar addr read.isNone (.host rid)
  match read with
  | some q =>
    (s.incSat (if ca then R.HOST_CA_COUNT_COUNT else R.HOST_UR_COUNT_COUNT)).refuseRead
      (if bar = 1 then some (s.hostLabel q.addr q.st) else none) q (if ca then 4 else 1)
  | none => s.dropWrite ca

/-- Row 5: a write with EP set, discarded whole (R180). -/
def State.epDropped (s : State) (bar addr rid : Nat) : State :=
  (((s.violate .poisonedRx bar addr true (.host rid)).incSat R.HOST_EP_RECEIVED_COUNT).aer .poisoned).detect [89]

/-- Row 8: the slabs `a` to `b` touch an enabled window that denies the direction. -/
def State.denied (s : State) (write : Bool) (a b : Nat) : Bool :=
  (List.range 4).any fun w =>
    s.is R.HOST_PROT_CTRL_EN [w] && s.is (if write then R.HOST_PROT_CTRL_DENY_WR else R.HOST_PROT_CTRL_DENY_RD) [w] &&
      decide (s.rd R.HOST_PROT_BASE_SLAB [w] ≤ b) && decide (a ≤ s.rd R.HOST_PROT_LIMIT_SLAB [w]) &&
      decide (s.rd R.HOST_PROT_BASE_SLAB [w] ≤ s.rd R.HOST_PROT_LIMIT_SLAB [w])

/-- Rows 4 and 6 to 9 of Table 07.6 for `len` bytes of BAR2 from `addr`, in order: the log type, and CA or UR. Row 5 stands
between the first and the second for a write with EP set (DEDUCED in part: log entry 15). -/
def State.bar2Refusal (s : State) (write ep : Bool) (addr len : Nat) : Option (Viol × Bool) :=
  let last := addr + max len 1 - 1
  if s.capacity ≤ last then some (.bar2Range, false)
  else if write && ep then some (.poisonedRx, true)
  else if !s.is R.HOST_STATUS_STACK_READY then some (.notReady, true)
  else if s.is R.CODE_CODE_STATUS_CLEAR_BUSY then some (.clear, true)
  else if s.denied write (addr / s.slabBytes) (last / s.slabBytes) then some (.prot, true)
  else if write && s.protection == 3 then some (.failed, true)
  else none

/-- R171, R176: a BAR2 read (DEDUCED in part: log entry 15). -/
def State.bar2Read (s : State) (q : HostRd) : State :=
  if !s.linkOn || !s.rxRoom false 0 then s
  else if 4096 < q.len then s.aer .malformed
  else if q.ecrcBad && s.ecrcOn then s.aer .ecrc
  else
  let s := s.notIdle.dozeExit
  if !s.memOn then s.refuseRead (some (s.hostLabel q.addr q.st)) q 1
  else
    let s := s.checkArray 5
    match s.bar2Refusal false false q.addr q.len with
    | some (v, ca) => s.refuseHost v ca 1 q.addr q.rid (some q)
    | none =>
      let label := s.hostLabel q.addr q.st
      let parts := if q.len = 0 then [(q.addr / s.slabBytes, q.addr % s.slabBytes, 0)] else s.stackParts q.addr q.len
      let r := parts.foldl (fun (a : State × List Nat) p =>
        let t := a.1.present .pcie label false p.1 p.2.1 p.2.2 [] false
        (t.1, a.2 ++ [t.2])) (s, [])
      ({ r.1 with cache := { r.1.cache with reads := r.1.cache.reads ++ [⟨q, label, r.2.map fun i => (i, none)⟩] } } : State).rxHold
        false 0 r.2

/-- BAR2_READ. -/
def execBar2Read (r : HostRd) (s : State) : Host.Outcome State Fault Refusal := .next (s.bar2Read r)

/-- R172, R176, R180, R321: a BAR2 write (DEDUCED in part: log entry 15). -/
def State.bar2Write (s : State) (w : HostWr) : State :=
  if !s.linkOn || !s.rxRoom true w.data.length then s
  else if s.host.maxPayload < w.data.length then s.aer .malformed
  else if w.ecrcBad && s.ecrcOn then s.aer .ecrc
  else
  let s := s.notIdle.dozeExit
  if !s.memOn then s.aer .unsupported
  else
    let s := s.checkArray 5
    if s.is R.FAULT_STATUS_SAFE then s.incSat R.FAULT_SAFE_WRITES_COUNT
    else
    match s.bar2Refusal true w.ep w.addr w.data.length with
    | some (.poisonedRx, _) =>
      s.epDropped 1 w.addr w.rid
    | some (v, ca) => s.refuseHost v ca 1 w.addr w.rid none
    | none =>
      let label := s.hostLabel w.addr w.st
      let r := (s.stackParts w.addr w.data.length).foldl (fun (a : State × List Nat) p =>
        let bs := slice w.data (p.1 * s.slabBytes + p.2.1 - w.addr) p.2.2
        if bs.all Option.isNone then a
        else
          let t := a.1.present .pcie label true p.1 p.2.1 p.2.2 bs false
          (t.1, a.2 ++ [t.2])) (s, [])
      r.1.rxHold true w.data.length r.2

/-- BAR2_WRITE. -/
def execBar2Write (w : HostWr) (s : State) : Host.Outcome State Fault Refusal := .next (s.bar2Write w)

/-- Row 1 of Table 07.6: a request of a type that the function does not implement; all of them are non-posted
(DEDUCED in part: log entry 15). -/
def State.unsupportedReq (s : State) (bar addr rid tag : Nat) (write : Bool) : State :=
  if !s.linkOn || !s.rxRoom false 0 then s
  else
    let cpl : Cpl := ⟨rid, tag, 1, 0, addr, [], false⟩
    let label := if bar = 1 then some (s.hostLabel addr none) else none
    let s := s.notIdle.dozeExit
    let s := if !s.memOn then s
      else (s.violate .unsupported bar addr write (.host rid)).incSat R.HOST_UR_COUNT_COUNT
    (s.sendCpl label cpl).egDrain

/-- UNSUPPORTED_REQUEST. -/
def execUnsupportedRequest (bar addr rid tag : Nat) (write : Bool) (s : State) : Host.Outcome State Fault Refusal :=
  .next (s.unsupportedReq bar addr rid tag write)

/-- MALFORMED_TLP. -/
def execMalformedTlp (s : State) : Host.Outcome State Fault Refusal := .next (if s.linkOn then s.aer .malformed else s)

/-- R177: the violation log emptied. -/
def State.viologClear (s : State) : State :=
  if s.live 2 then (s.wr R.HOST_VIOLOG_STATUS_COUNT 0).wr R.HOST_VIOLOG_STATUS_NEXT 0 else s

/-- VIOLOG_CLEAR. -/
def execViologClear (src : RegSrc) (s : State) : Host.Outcome State Fault Refusal := .next (s.inbound src).viologClear

/-! ### Bus mastering and MSI-X (R182, R183) -/

/-- Pending messages that can now be sent, sent. -/
def State.deliverPending (s : State) : State :=
  let vs := s.host.pba
  vs.foldl State.msix { s with host := { s.host with pba := [] } }

/-- R182: Bus Master Enable set. -/
def State.masterOn (s : State) : State :=
  if !s.linkOn then s else
  let s := s.notIdle.dozeExit
  (({ s with host := { s.host with busMaster := true } } : State).deliverPending).advanceAll

/-- BUS_MASTER_ENABLE. -/
def execBusMasterEnable (s : State) : Host.Outcome State Fault Refusal := .next s.masterOn

/-! ### Link power states (R184, R261) -/

/-- R184, R256: PowerState written D3hot, also where it reads D3hot already. -/
def State.toD3 (s : State) : State :=
  if !s.linkOn then s else
  let s := s.notIdle.dozeExit
  ({ s with host := { s.host with powerState := 3 } } : State).requestState 2 0

/-- D3HOT_WRITE. -/
def execD3hotWrite (s : State) : Host.Outcome State Fault Refusal := .next s.toD3

/-- R184, R261: PowerState written D0. -/
def State.toD0 (s : State) : State :=
  if !s.linkOn then s else
  ((({ s with host := { s.host with powerState := 0 } } : State).notIdle.dozeExit).wakeBy 4).deliverPending

/-- D0_WRITE. -/
def execD0Write (s : State) : Host.Outcome State Fault Refusal := .next s.toD0

/-! ### Resets of the function (R185, R186) -/

/-- R185 step 4, R186: the DEVICE FLUSH started where it may be, once the requests received before have been performed
(DEDUCED in part: log entry 16). -/
def State.flrFlush (s : State) : State :=
  match s.host.flr with
  | some f =>
    if f.flushed || !s.hostServed || s.cache.flush.isSome || s.shiftState == 3 then s
    else
      let s : State := { s with host := { s.host with flr := some { f with flushed := true } } }
      if s.is R.CODE_CODE_STATUS_CLEAR_BUSY || !s.cacheOn then s else s.flushAll
  | none => s

/-- The data link goes down (DEDUCED in part: log entry 16). -/
def State.linkDownNow (s : State) : State :=
  if !s.is R.HOST_STATUS_LINK_UP then s else
  let s := ((s.wr R.HOST_STATUS_SPEED 0).wr R.HOST_STATUS_WIDTH 0).clr R.HOST_STATUS_FLIT_MODE
  let s := (s.clr R.HOST_STATUS_LINK_UP).raise E.HOST_LINK_CHANGE
  { s with
    cache := { s.cache with reads := [], port := s.cache.port.filter fun r => !(r.src == .pcie && !r.write) }
    host := { s.host with
      rx := [], egress := [], regReads := s.host.regReads.filter fun r => match r.src with
        | .host _ => false
        | _ => true } }

/-- R185 steps 1 to 4. A hot reset or DL_Down during an FLR takes the link down too (DEDUCED in part: log entry 16). -/
def State.flrStart (s : State) (kind : Nat) : State :=
  if !s.live 2 then s
  else
    let t := if kind = 0 then s else s.linkDownNow
    match s.host.flr with
    | some f => { t with host := { t.host with flr := some { f with kind := max f.kind kind } } }
    | none =>
      let t : State := { t with host := { t.host with flr := some ⟨kind, false⟩ } }
      let t := if t.live 9 then t.haulStop else t
      (if t.cache.port.isEmpty then t else t.acceptHost).flrFlush

/-- FLR. -/
def execFlr (s : State) : Host.Outcome State Fault Refusal := .next (if s.linkOn then s.notIdle.dozeExit.flrStart 0 else s)

/-- HOT_RESET. -/
def execHotReset (s : State) : Host.Outcome State Fault Refusal := .next (s.flrStart 1)

/-- DL_DOWN: FS082 unless an entry of Table 11.5 or PERST# is the cause (DEDUCED in part: log entry 32). -/
def State.dlDown (s : State) : State :=
  let own := s.power.seq == .idle && decide (s.pstate < 2) && !s.pins.perst
  let t := s.flrStart 2
  if own && s.live 2 && s.is R.HOST_STATUS_LINK_UP then t.detect [82] else t

/-- DL_DOWN. -/
def execDlDown (s : State) : Host.Outcome State Fault Refusal := .next s.dlDown

/-- The configuration words whose writable bits are sticky in the standard: PMCSR and AER (PRESUMED in part: log entry 14). -/
def stickyWords : List Nat := [0x44, 0x108, 0x10C, 0x110, 0x114, 0x118]

/-- R185 step 5: the function's state. The violation log with its counters and the link's status stay
(DEDUCED in part: log entry 16). -/
def State.resetFunction (s : State) : State :=
  let s : State := { s with host := { HostSt.reset with
    aer := s.host.aer, hdrLog := s.host.hdrLog, flr := s.host.flr, regReads := s.host.regReads
    cfg := s.host.cfg.filter fun p => stickyWords.contains p.1 } }
  let s := (s.resetBlock 0x10004 0x10010).resetBlock 0x10200 0x10800
  let s := if s.live 9 then s.resetBlock 0x100000 0x150000 else s
  let s : State := { s with haul := { s.haul with chans := s.haul.chans.map fun h =>
    { HChan.reset with st := h.st.map fun p => (p.1, Use.drop) } } }
  let s := s.wr R.FAULT_FENCED_TARGETS (setBit (s.rd R.FAULT_FENCED_TARGETS) 0 false)
  let s := ((s.resetBlock 0x20000 0x20018).resetBlock 0x20020 0x20030).resetBlock 0x21000 0x23000
  let s := s.modCarrier 0 fun c => { c with open_ := none }
  s.hostTokenLost

/-- R185 steps 4 to 6: the flush has ended, or there is nothing to flush (DEDUCED in part: log entry 16). -/
def State.flrDone (s : State) : State :=
  let s := s.flrFlush
  match s.host.flr with
  | none => s
  | some f =>
    let quiet := s.is R.CODE_CODE_STATUS_CLEAR_BUSY || s.flushedOut
    if !s.live 2 || !f.flushed || !quiet then s
    else
      let s := s.resetFunction
      ({ s with host := { s.host with flr := none } } : State).raise E.HOST_FLR_DONE

/-- FLR_COMPLETE. -/
def execFlrComplete (s : State) : Host.Outcome State Fault Refusal := .next s.flrDone

/-! ### The link trains (R166) -/

/-- DL_UP, once the fuses are sensed, when the LTSSM is enabled (Tables 20.1 and 20.2): the rate, 1 to 6 and not above the ceiling, the width and the mode that the link came up in. -/
def State.dlUp (s : State) (speed width : Nat) (flit : Bool) : State :=
  if !s.live 2 ∨ !s.is R.FUSE_STATUS_SENSED ∨ s.pins.perst ∨ speed = 0 ∨ s.rd R.HOST_STATUS_SPEED_CEIL < speed ∨ !(width = 1 ∨ width = 4 ∨ width = 8 ∨ width = 16)
  then s
  else
    let same := speed == s.rd R.HOST_STATUS_SPEED && width == s.rd R.HOST_STATUS_WIDTH && b2n flit == s.rd R.HOST_STATUS_FLIT_MODE
    let s := ((s.wr R.HOST_STATUS_SPEED speed).wr R.HOST_STATUS_WIDTH width).wrB R.HOST_STATUS_FLIT_MODE flit
    let s := s.set R.HOST_STATUS_LINK_UP
    if same then s else s.raise E.HOST_LINK_CHANGE

/-- DL_UP. -/
def execDlUp (speed width : Nat) (flit : Bool) (s : State) : Host.Outcome State Fault Refusal := .next (s.dlUp speed width flit)

/-! ### Configuration space and the MSI-X table, as the standards define them -/

/-- The Max_Payload_Size and Max_Read_Request_Size codes (PRESUMED in part: log entry 14). -/
def payloadCode (v : Nat) : Nat := 128 * 2 ^ min v 5

/-- The writable bits of a configuration word that no other field holds, written; a bit that a 1 clears is kept elsewhere. -/
def State.cfgPlain (s : State) (off data : Nat) : State :=
  s.cfgPut off ((data &&& cfgMask off) ||| minus (s.cfgWord off &&& cfgW1c off) data)

/-- Margining lane status: what the control word asks for is reported back, with a payload that the spec leaves to the receiver
(PRESUMED in part: log entry 14). -/
def State.margin (s : State) (off data : Nat) : State :=
  let c := data % 2 ^ 16
  let r := s.draw
  let payload := if field c 3 3 = 7 then c / 256 else Config.freeNat r.1 % 256
  (if field c 3 3 = 7 then s else r.2).cfgPut off (c + (c % 256 + payload * 256) * 2 ^ 16)

/-- What a configuration word written does beyond the bits it holds: Command, PMCSR, MSI-X Message Control, Device Control, Device
Control 2, Device Control 3, margining and the AER status (R168). `be` are the bytes enabled (PRESUMED in part: log entry 14). -/
def State.configAct (s : State) (off data be : Nat) : State :=
  match off with
  | 0x04 =>
    let s : State := { s with host := { s.host with memEnable := data.testBit 1 } }
    if data.testBit 2 then (if s.host.busMaster then s else s.masterOn)
    else { s with host := { s.host with busMaster := false } }
  | 0x44 =>
    let v := data % 4
    if !be.testBit 0 then s else if v = 3 then s.toD3 else if v = 0 && s.host.powerState == 3 then s.toD0 else s
  | 0x50 =>
    ({ s with host := { s.host with msixEnable := data.testBit 31, funcMask := data.testBit 30 } } : State).deliverPending
  | 0x68 =>
    let s : State := { s with host := { s.host with
      maxPayload := min 512 (payloadCode (field data 5 3)), maxRead := payloadCode (field data 12 3) } }
    if data.testBit 15 then s.flrStart 0 else s
  | 0x88 => { s with host := { s.host with tag10 := data.testBit 12 } }
  | 0x104 => { s with host := { s.host with aer := s.host.aer.filter fun e => !data.testBit (aerBit e) } }
  | 0x288 => { s with host := { s.host with tag14 := data.testBit 2 } }
  | _ => if 0x218 ≤ off ∧ off < 0x258 then s.margin off data else s

/-- A configuration word written, with its byte enables: a byte that is not enabled keeps what it holds. -/
def State.configWrite (s : State) (off data be : Nat) : State :=
  let off := off / 4 * 4
  let held := minus (s.cfgRead off) (cfgW1c off)
  let v := leNat ((List.range 4).map fun k =>
    BitVec.ofNat 8 (if be.testBit k then field data (8 * k) 8 else field held (8 * k) 8))
  if be % 16 = 0 then s else (s.cfgPlain off v).configAct off v be

/-- A write to BAR4: the MSI-X table; the PBA is read-only (PRESUMED in part: log entry 14). -/
def State.bar4Write (s : State) (off data : Nat) : State :=
  if off < 0x1000 then
    let v := off / 16
    if off % 16 = 12 then
      let masked := s.host.masked.filter (· != v)
      ({ s with host := { s.host with masked := if data.testBit 0 then masked ++ [v] else masked } } : State).deliverPending
    else
      let k := off / 4
      let l := kvDel k s.host.msixTab
      { s with host := { s.host with msixTab := if data % 2 ^ 32 = 0 then l else kvPut k (data % 2 ^ 32) l } }
  else s

end Sys2Proof.Machine
end

