-- ==== Sys2Proof/Machine/RegFile.lean ====
section
/-! DEFINITION. What a write of a BAR0 register word does, whoever makes it: the words whose fields act, and the plain ones
(R8, R9, and the register table of each chapter). The dictionary port's and the reset request's words are in
RegWrite.lean. -/
namespace Sys2Proof.Machine

/-- A plain write of a word: a field written with a reserved value keeps its own, and the write is logged (R9). -/
def State.plainWrite (s : State) (src : RegSrc) (off data : Nat) : State :=
  let r := s.writeRaw off data
  if r.2 then r.1.refuse src off else r.1

/-- R475: a write of an EVENT_EN word: an enable written with 1 while its EVENTS bit is 1 sends the block's message. -/
def State.enableWrite (s : State) (src : RegSrc) (off data : Nat) : State :=
  let t := s.plainWrite src off data
  match eventWords.find? fun e => e.2.1 == some off with
  | some e => if (t.readRaw e.1 &&& t.readRaw off &&& data) != 0 then t.msix e.2.2.1 else t
  | none => t

/-- The write comes over the host link. -/
def fromHost : RegSrc → Bool
  | .host _ => true
  | _ => false

/-- The RW fields of a word as they are held, with one of them replaced. -/
def State.wordWith (s : State) (f : Fam) (i : List Nat) (v : Nat) : Nat :=
  (fieldsAt (f.off + Fam.rel f.dims i / 32 * 4)).foldl (fun n p =>
    if p.1 = f ∧ p.2 = i then n + (v % 2 ^ f.width <<< bitOf f i)
    else if p.1.acc = .rw then n + (s.rd p.1 p.2 <<< bitOf p.1 p.2) else n) 0

/-! ### Blocks whose words act -/

/-- TIME (Table 02.3). -/
def State.timeWord (s : State) (src : RegSrc) (o data : Nat) : State :=
  let off := 0x410000 + o
  match o with
  | 0x00 => s.timeCtrl data
  | 0x14 => s.tickLoad data
  | 0x24 | 0x28 | 0x2C | 0x30 | 0x34 => s.shiftTicks src off data
  | 0x38 => s.shiftCtrl src data
  | _ => if 0x100 ≤ o ∧ o < 0x500 then s.schedWrite src ((o - 0x100) / 16) (o % 16 / 4) data else s.plainWrite src off data

/-- MEMRAS (Tables 03.9 and 13.4). -/
def State.rasWord (s : State) (src : RegSrc) (o data : Nat) : State :=
  if o = 0 then
    let s := s.bankHashWrite src (b2n (data.testBit 0))
    if data.testBit (bitOf R.CODE_CODE_CTRL_CLEAR []) then s.stackClear src else s
  else if 0x10 ≤ o ∧ o < 0x10 + 4 * 18 then
    let n := (o - 0x10) / 4
    let s := if data.testBit (bitOf R.CODE_LAYER_STATE_REQ_LOST [n]) then s.reqLost src n else s
    if data.testBit (bitOf R.CODE_LAYER_STATE_REQ_REJOIN [n]) then s.reqRejoin src n else s
  else
    let s := if o = 0x240 ∧ data.testBit (bitOf R.RAS_CELOG_STATUS_CLEAR []) then s.celogClear else s
    let s := if o = 0x248 ∧ data.testBit (bitOf R.RAS_UELOG_STATUS_CLEAR []) then s.uelogClear else s
    s.plainWrite src (0x1A0000 + o) data

/-- SLABCACHE (Table 04.8). Labels 62 and 63 read STREAM and ignore writes. -/
def State.cacheWord (s : State) (src : RegSrc) (o data : Nat) : State :=
  let off := 0x180000 + o
  match o with
  | 0x10 =>
    if data.testBit (bitOf R.CACHE_FLUSH_CTRL_GO []) then
      s.flushGo src (field data 0 2) (field data 2 2) (field data (bitOf R.CACHE_FLUSH_CTRL_LABEL []) 6)
    else s.plainWrite src off data
  | 0x00 =>
    let t := s.plainWrite src off data
    if !s.cacheOn then t else (if t.wt then t.closeAll else t).mergeHigh.cacheSettle
  | 0x2C => let t := s.plainWrite src off data
    if t.rd R.CACHE_TXN_PEAK_COUNT < s.cache.wait.length then t.wr R.CACHE_TXN_PEAK_COUNT s.cache.wait.length else t
  | 0x30 => if data.testBit (bitOf R.CACHE_SRMAP_STATUS_RELEASE []) then s.srRelease else s
  | 0x10C => s.plainWrite src off (data % 2 ^ 28 + 5 * 2 ^ 28)
  | _ => s.plainWrite src off data

/-- The word lies in the bench part of a BENCH block, held in the bench logic layer (R133). -/
def overShaft (off : Nat) : Bool :=
  decide (0x20 ≤ off / 0x10000) && decide (off / 0x10000 < 0x29) && decide (0x1000 ≤ off % 0x10000)

/-- A field that a write of the word by `src` may change: the shadow timing set is firmware's (R108). -/
def writableBy (src : RegSrc) (f : Fam) : Bool :=
  f.acc == .rw || f.acc == .w1c || f.acc == .w1s || f.acc == .wo || (f == R.BENCH_TSET_SHADOW_VALUE && !fromHost src)

/-- Some RW field of the word would take a reserved value (R9). -/
def reservedIn (off data : Nat) : Bool :=
  (fieldsAt off).any fun p => p.1.acc == .rw && !p.1.legal (field data (bitOf p.1 p.2) p.1.width)

/-- BENCH (Table 05.3): the bench part is reached over the shaft while the link is up (R133, R141); a reserved value is logged
here and kept out there (R9). The remap words are firmware's (R134). -/
def State.benchWord (s : State) (src : RegSrc) (b o data : Nat) : State :=
  let off := 0x200000 + 0x10000 * b + o
  if o < 0x1000 then s.plainWrite src off data
  else if (o = 0x1200 || o = 0x1204) && fromHost src then s.refuse src off
  else if s.blockOn off && (fieldsAt off).any fun p => writableBy src p.1 then
    (if reservedIn off data then s.refuse src off else s).regAccess b ⟨(o - 0x1000) / 4, true, data % 2 ^ 32, .write⟩
  else s

/-- SHAFT (Table 06.6). -/
def State.shaftWord (s : State) (src : RegSrc) (b o data : Nat) : State :=
  let off := 0x300000 + 0x10000 * b + o
  if o = 0 then
    let t := s.plainWrite src off data
    if data.testBit (bitOf R.SHAFT_TRAIN_CTRL_GO [b]) then
      let step := t.rd R.SHAFT_TRAIN_CTRL_STEP [b]
      if step = 8 then t.enterService b else t.stepStart b step (t.rd R.SHAFT_TRAIN_CTRL_LEVEL [b])
    else t
  else if 0x40 ≤ o ∧ o < 0x60 then s.failedWrite src off data
  else if o = 0xF000 then s.dspreadWrite src data
  else s.plainWrite src off data

/-- HOSTLINK (Table 07.8). A label entry with a label of an internal master keeps all of itself (R175). -/
def State.hostWord (s : State) (src : RegSrc) (o data : Nat) : State :=
  if o = 0x10 then (if data.testBit (bitOf R.HOST_VIOLOG_STATUS_CLEAR []) then s.viologClear else s)
  else if 0x300 ≤ o ∧ o < 0x800 ∧ reservedIn (0x10000 + o) data then
    (if s.live 2 then s.refuse src (0x10000 + o) else s)
  else s.plainWrite src (0x10000 + o) data

/-- HAUL channel `c` (Table 08.8); a ring base with a bit below 4 KiB is refused, and a shadow written while COMMIT is pending
can change whether the hand-over waits (R204). -/
def State.haulWord (s : State) (src : RegSrc) (c o data : Nat) : State :=
  let off := 0x100000 + 0x1000 * c + o
  match o with
  | 0x00 =>
    let t := (s.wrB R.HAUL_CTRL_IRQ_EN (data.testBit (bitOf R.HAUL_CTRL_IRQ_EN [c])) [c]).wrB R.HAUL_CTRL_IRQ_ERR
      (data.testBit (bitOf R.HAUL_CTRL_IRQ_ERR [c])) [c]
    let t := if s.live 9 then t else s
    if data.testBit 0 then t.channelEnable src c else t.channelDisable c
  | 0x08 => s.doorbell src c data
  | 0x18 => if data.testBit (bitOf R.HAUL_COMMIT [c]) then s.commitWrite src c else s
  | 0x20 | 0x28 => if s.live 9 && data % 4096 != 0 then s.refuse src off else (s.plainWrite src off data).chanSettle c
  | _ => (s.plainWrite src off data).chanSettle c

/-- The words common to the channels: OUT_PEAK restarts from what is outstanding (R212). -/
def State.hgWord (s : State) (src : RegSrc) (o data : Nat) : State :=
  if o = 0 then (if data.testBit (bitOf R.HG_CTRL_RESET []) then s.haulReset else s)
  else (s.plainWrite src (0x140000 + o) data).outPeak

/-- CODING (Table 09.6). -/
def State.codingWord (s : State) (src : RegSrc) (o data : Nat) : State :=
  match o with
  | 0x00 => s.ledgerEnWrite src data
  | 0x10 | 0x14 => s.ledgerRegionWrite src (0x160000 + o) data
  | _ => s.plainWrite src (0x160000 + o) data

/-- REGULATION (Table 10.2). -/
def State.regulWord (s : State) (src : RegSrc) (o data : Nat) : State :=
  if o = 0 then s.windowWrite src data
  else if o = 0x10 then s.ceilingWrite src data
  else if 0x100 ≤ o ∧ o < 0x200 then s.labelCfgWrite src ((o - 0x100) / 4) data
  else s.plainWrite src (0x400000 + o) data

/-- POWER (Table 11.8): a reserved STATE leaves the held one, by which GO is judged. -/
def State.powerWord (s : State) (src : RegSrc) (o data : Nat) : State :=
  let off := 0x420000 + o
  match o with
  | 0x00 =>
    let t := s.plainWrite src off data
    if data.testBit (bitOf R.POWER_REQ_GO []) then t.powerReq src (t.rd R.POWER_REQ_STATE) else t
  | 0x14 => s.perfLimit data
  | _ => s.plainWrite src off data

/-- FAULT (Table 14.6): under LOCK, SHADOW is kept. -/
def State.faultWord (s : State) (src : RegSrc) (o data : Nat) : State :=
  let off := 0x440000 + o
  if o = 0 then
    let v := field data (bitOf R.FAULT_CTRL_SHADOW []) 8
    let t := if !s.live 3 then s
      else if s.is R.FAULT_CTRL_LOCK && v != s.rd R.FAULT_CTRL_SHADOW then s.refuse src off
      else s.plainWrite src off data
    if data.testBit 0 then t.setLock else t
  else if o = 0x14 then s.fenceRelease data
  else if o = 0x30 then
    if data.testBit (bitOf R.FAULT_INJ_CTRL_GO []) then
      s.inject src (field data (bitOf R.FAULT_INJ_CTRL_CHECKER []) 3) (field data (bitOf R.FAULT_INJ_CTRL_TARGET []) 5)
        (field data (bitOf R.FAULT_INJ_CTRL_DIR []) 1) (data.testBit (bitOf R.FAULT_INJ_CTRL_DOUBLE []))
        (field data (bitOf R.FAULT_INJ_CTRL_COUNT []) 8)
    else s.plainWrite src off data
  else if 0x100 ≤ o ∧ o < 0x110 then s.stickyClear ((o - 0x100) / 4) data
  else if 0x200 ≤ o ∧ o < 0x240 then s.reactWrite src ((o - 0x200) / 4) data
  else s.plainWrite src off data

/-- SELFTEST (Table 15.4). -/
def State.testWord (s : State) (src : RegSrc) (o data : Nat) : State :=
  let off := 0x450000 + o
  match o with
  | 0x00 =>
    let on := data.testBit (bitOf R.TEST_CTRL_SERVICE [])
    let keep := data - (field data (bitOf R.TEST_CTRL_SERVICE []) 1 <<< bitOf R.TEST_CTRL_SERVICE [])
    let t := s.plainWrite src off (keep + (s.rd R.TEST_CTRL_SERVICE <<< bitOf R.TEST_CTRL_SERVICE []))
    if on then t.serviceEnter src else t.serviceExit src
  | 0x50 =>
    let t := s.plainWrite src off data
    if data.testBit (bitOf R.TEST_TEST_CTRL_GO []) then
      t.testGo (field data (bitOf R.TEST_TEST_CTRL_TEST []) 4) (t.rd R.TEST_TEST_CTRL_TARGET) (t.rd R.TEST_TEST_CTRL_POSITION)
    else t
  | 0x100 =>
    let t := s.plainWrite src off data
    let t := if data.testBit (bitOf R.TEST_CAL_CTRL_APPLY []) then t.calApply else t
    let t := if data.testBit (bitOf R.TEST_CAL_CTRL_RELOAD []) then t.calReload else t
    let t := if data.testBit (bitOf R.TEST_CAL_CTRL_SAVE []) then t.calSave else t
    if data.testBit (bitOf R.TEST_CAL_CTRL_GO []) then
      t.calGo (field data (bitOf R.TEST_CAL_CTRL_KIND []) 3) (t.rd R.TEST_CAL_CTRL_BENCH)
    else t
  | _ => s.plainWrite src off data

/-- FUSE (Table 16.7). -/
def State.fuseReg (s : State) (src : RegSrc) (o data : Nat) : State :=
  let off := 0x460000 + o
  match o with
  | 0x10 => s.fuseReadWrite src data []
  | 0x20 => s.burnUnlock data
  | 0x24 =>
    if data.testBit (bitOf R.FUSE_BURN_CTRL_GO []) then
      s.burnGo (field data 0 7) (data.testBit (bitOf R.FUSE_BURN_CTRL_SEAL [])) (data.testBit (bitOf R.FUSE_BURN_CTRL_FORCE []))
    else s.plainWrite src off data
  | 0x34 => s.forceArm data
  | 0x40 =>
    let t := s.plainWrite src off data
    let t := if data.testBit (bitOf R.FUSE_OVR_CTRL_CLEAR []) then t.overrideClear (field data 0 7) else t
    if data.testBit (bitOf R.FUSE_OVR_CTRL_SET []) then t.overrideSet (field data 0 7) else t
  | _ => s.plainWrite src off data

/-- MGMT (Table 17.8). -/
def State.mgmtWord (s : State) (src : RegSrc) (o data : Nat) : State :=
  if o = 0 then
    let t := if data.testBit (bitOf R.MGMT_CTRL_LOG_PERSIST []) then s.persistStart else s
    if data.testBit (bitOf R.MGMT_CTRL_CORE_RESET []) then t.mgmtRestart else t
  else s.plainWrite src (0x480000 + o) data

/-- A write of a register word of BAR0 but for DICTPORT and RESET_CTRL. A word of an absent part, or that no table defines,
takes nothing (R470) (DEDUCED in part: log entry 13). -/
def State.writeWord (s : State) (src : RegSrc) (off data : Nat) : State :=
  let data := data % 2 ^ 32
  if s.absentBlock off || !definedWord off || refCopy off then s
  else if eventWords.any fun e => e.2.1 == some off then s.enableWrite src off data
  else
    let o := off % 0x10000
    match off / 0x10000 with
    | 0x01 => s.hostWord src o data
    | 0x10 | 0x11 | 0x12 | 0x13 => s.haulWord src ((off - 0x100000) / 0x1000) (off % 0x1000) data
    | 0x14 => s.hgWord src o data
    | 0x16 => s.codingWord src o data
    | 0x18 => s.cacheWord src o data
    | 0x1A => s.rasWord src o data
    | 0x40 => s.regulWord src o data
    | 0x41 => s.timeWord src o data
    | 0x42 => s.powerWord src o data
    | 0x44 => s.faultWord src o data
    | 0x45 => s.testWord src o data
    | 0x46 => s.fuseReg src o data
    | 0x48 => s.mgmtWord src o data
    | k =>
      if 0x20 ≤ k ∧ k < 0x29 then s.benchWord src (k - 0x20) o data
      else if 0x30 ≤ k ∧ k < 0x39 then s.shaftWord src (k - 0x30) o data
      else s.plainWrite src off data

/-- Row 3 of Table 07.6: the offsets that a request covers are defined registers, or lie in a block that reads as zero. -/
def State.wordsDefined (s : State) (space : Space) (off n : Nat) : Bool :=
  (List.range n).all fun k =>
    let o := off + 4 * k
    match space with
    | .bar4 => bar4Defined o
    | _ => definedWord o || s.absentBlock o

/-- One field of a register written through its word. -/
def State.writeOne (s : State) (src : RegSrc) (f : Fam) (i : List Nat) (v : Nat) : State :=
  s.writeWord src (f.off + Fam.rel f.dims i / 32 * 4) (s.wordWith f i v)

end Sys2Proof.Machine
end

