-- ==== Sys2Proof/Machine/ObjWrite.lean ====
section
/-! DEFINITION. What a write of an object does once the dictionary has admitted it: the register writes of the chapters'
object tables, and the abort code when a rule of the owning chapter refuses it (R45, R77, R104, R135, R164, R212, R233, R246,
R269, R294, R316, R328, R348, R367, R383, R393). -/
namespace Sys2Proof.Machine

/-- How a write ended: the state, the abort code (0 none) and the detail (R391). -/
structure ObjRes where
  state : State
  code : Nat
  detail : Nat

/-- A write that was performed. -/
def ObjRes.ok (s : State) : ObjRes := ⟨s, 0, 0⟩

/-- The abort codes that object writes themselves lead to (Table 18.4). -/
def abRange : Nat := 0x06
def abRefused : Nat := 0x08
def abFlash : Nat := 0x0E

/-- A register write judged: refused, with `code`, when it was entered in the violation log (R178)
(DEDUCED in part: log entry 40). -/
def objJudge (s t : State) (code : Nat) : ObjRes :=
  if t.rd R.HOST_VIOLOG_STATUS_NEXT = s.rd R.HOST_VIOLOG_STATUS_NEXT then .ok t else ⟨t, code, 0⟩

/-- A 48-bit value written to a pair of words; a refusal of the first ends it. -/
def State.objPair (s : State) (src : RegSrc) (off v : Nat) : ObjRes :=
  let r := objJudge s (s.writeWord src off (v % 2 ^ 32)) abRefused
  if r.code = 0 then objJudge r.state (r.state.writeWord src (off + 4) (v / 2 ^ 32)) abRefused else r

/-- 0x1210: a schedule entry. An illegal ACTION and ARG pair is out of range; under ARM a changed guarded field is refused;
an entry is armed last (DEDUCED in part: log entry 13). -/
def State.objSched (s : State) (src : RegSrc) (i : Nat) (bs : List Byte) : ObjRes :=
  let w := fun k => leNat (slice bs (4 * k) 4)
  let act := field (w 3) 0 4
  let arg := field (w 3) 16 16
  let same := w 0 == s.rd R.TIME_SCHED_TARGET_LO [i] && field (w 1) 0 16 == s.rd R.TIME_SCHED_TARGET_HI [i] &&
    w 2 == s.rd R.TIME_SCHED_PERIOD [i] && act == s.rd R.TIME_SCHED_ACTION [i] && arg == s.rd R.TIME_SCHED_ARG [i]
  if !schedLegal act arg then ⟨s.refuse src (schedOff i 3), abRange, 0⟩
  else if s.is R.TIME_SCHED_ARM [i] && !same then ⟨s.refuse src (schedOff i 0), abRefused, 0⟩
  else .ok ([0, 2, 3, 1].foldl (fun s k => s.schedWrite src i k (w k)) s)

/-- Objects of the time, regulation, power and heat chapters. -/
def State.objWrite1 (s : State) (src : RegSrc) (index sub v : Nat) (bs : List Byte) : ObjRes :=
  let n := sub - 1
  let one := fun (f : Fam) (i : List Nat) (x : Nat) => objJudge s (s.writeOne src f i x) abRefused
  match index, sub with
  | 0x1002, _ => .ok { s with dict := { s.dict with assetTag := bs } }
  | 0x1200, 2 => .ok ((s.writeWord src 0x410010 (v % 2 ^ 32)).writeWord src 0x410014 (v / 2 ^ 32))
  | 0x1200, _ => .ok (s.writeWord src 0x410000 v)
  | 0x1201, 1 => s.objPair src 0x410024 v
  | 0x1201, 2 => s.objPair src 0x41002C v
  | 0x1201, 3 => one R.TIME_DRAIN_LEAD_LEAD [] v
  | 0x1201, 4 => one R.TIME_SHIFT_CTRL_ARM [] v
  | 0x1201, _ => one R.TIME_SHIFT_CTRL_INV_AT_END [] v
  | 0x1210, _ => s.objSched src n bs
  | 0x1300, 1 => objJudge s (s.writeWord src 0x400000 v) abRange
  | 0x1300, _ => objJudge s (s.writeWord src 0x400010 v) abRange
  | 0x1301, _ => objJudge s (s.writeOne src R.REG_LABEL_CFG_BUDGET [n] v) abRange
  | 0x1302, _ => objJudge s (s.writeOne src R.REG_LABEL_CFG_FIXED [n] v) abRange
  | 0x1400, _ =>
    let t := s.powerReq src v
    if t.rd R.POWER_LAST_ENTRY_RESULT = 1 ∧ (s.power.seq ≠ .idle ∨ t.power.seq = .idle) then
      ⟨t, abRefused, t.rd R.POWER_LAST_ENTRY_REASON⟩
    else .ok t
  | 0x1401, 1 => .ok (s.perfLimit v)
  | 0x1401, _ => one R.POWER_CTRL_VID_SETTLE [] v
  | 0x1402, 1 => one R.POWER_CTRL_DOZE_IDLE [] v
  | 0x1402, 2 => one R.POWER_CTRL_PERST_EMBER [] v
  | 0x1402, 3 => one R.POWER_CTRL_RL_LISTEN [] v
  | 0x1402, _ => one R.POWER_WAKE_EN_EN [] v
  | 0x1500, _ => .ok (s.wr R.THERMAL_CAP_SETPOINT v)
  | 0x1501, 1 => one R.THERMAL_GOV_CTRL_MIN_D [] v
  | 0x1501, _ => one R.THERMAL_GOV_CTRL_CODE_FLOOR [] v
  | 0x1503, 2 => one R.THERMAL_CTRL_LID_SRC [] v
  | _, _ => one R.THERMAL_LID_TEMP_TEMP [] (v + 1024)

/-- Objects of the memory, shaft, haul and coding chapters. -/
def State.objWrite2 (s : State) (src : RegSrc) (index sub v : Nat) (bs : List Byte) : ObjRes :=
  let n := sub - 1
  let one := fun (f : Fam) (i : List Nat) (x : Nat) => objJudge s (s.writeOne src f i x) abRefused
  let word := fun (off x : Nat) => objJudge s (s.writeWord src off x) abRefused
  let shafts := fun (f : Fam) =>
    let t : State := { s with dict := { s.dict with shaftCfg := setAt s.dict.shaftCfg n v } }
    ObjRes.ok ((List.range s.nBench).foldl (fun t b => t.writeOne src f [b] v) t)
  match index, sub with
  | 0x1600, 3 => one R.CODE_CODE_CTRL_BANK_HASH [] v
  | 0x1600, _ => objJudge s (s.stackClear src) abRefused
  | 0x1601, _ => objJudge s (if v = 1 then s.reqLost src n else s.reqRejoin src n) abRefused
  | 0x1604, 0x41 => one R.CACHE_CTRL_MERGE_AGE [] v
  | 0x1604, 0x42 => one R.CACHE_CTRL_MERGE_HIGH [] v
  | 0x1604, _ => one R.CACHE_LABEL_POLICY_POLICY [n] v
  | 0x1605, 1 => word 0x180010 v
  | 0x1605, _ => .ok ((s.writeWord src 0x180014 (leNat (bs.take 4))).writeWord src 0x180018 (leNat (slice bs 4 4)))
  | 0x1606, _ => .ok s.srRelease
  | 0x1611, _ =>
    let t : State := { s with dict := { s.dict with benchCfg := setAt s.dict.benchCfg n v } }
    .ok ((List.range s.nBench).foldl (fun t b => if t.benchOn b then t.putBenchObj b n v else t) t)
  | 0x1620, 3 => word 0x1A0200 (v % 8 + 8 * s.rd R.RAS_RAS_CTRL_PAUSED)
  | 0x1620, _ => one R.RAS_RAS_CTRL_PAUSED [] v
  | 0x1621, 1 => one R.RAS_SCRUB_CTRL_INTERVAL [] v
  | 0x1621, _ => one R.RAS_SCRUB_CTRL_COUNT_M1 [] (v - 1)
  | 0x1622, 1 => one R.RAS_THRESH_ROW_THRESH [] v
  | 0x1622, _ => one R.RAS_THRESH_LOSS_THRESH [] v
  | 0x1623, _ =>
    let t := if v.testBit 0 then s.celogClear else s
    .ok (if v.testBit 1 then t.uelogClear else t)
  | 0x1704, 1 => shafts R.SHAFT_TRAIN_CFG_CHECK_LEN
  | 0x1704, 2 => shafts R.SHAFT_TRAIN_CFG_PRBS_LIMIT
  | 0x1704, 3 => shafts R.SHAFT_TRAIN_CFG_MIN_EYE
  | 0x1704, 4 => shafts R.SHAFT_TRAIN_CFG_RECOVERY_LIMIT
  | 0x1704, 5 => shafts R.SHAFT_TRAIN_CFG_AUTO_RECOVER
  | 0x1704, _ => objJudge s (s.dspreadWrite src v) abRefused
  | 0x1800, _ => .ok s.haulReset
  | 0x1810, 1 => word 0x160000 v
  | 0x1810, 2 => word 0x160010 v
  | _, _ => word 0x160014 v

/-- 0x1C03:01: the unlock key, BURN_CTRL and the data; a GO that is not taken ends with its RESULT as detail. -/
def State.objBurn (s : State) (src : RegSrc) (bs : List Byte) : ObjRes :=
  let w := fun k => leNat (slice bs (4 * k) 4)
  let t := (s.writeWord src 0x460028 (w 2)).writeWord src 0x46002C (w 3)
  let t := (t.burnUnlock (w 0)).writeWord src 0x460024 (w 1)
  if (w 1).testBit 31 && !(s.fuse.burn.isNone && t.fuse.burn.isSome) then
    ⟨t, abRefused, t.rd R.FUSE_BURN_STATUS_RESULT⟩
  else .ok t

/-- 0x1C04:01: OVR_CTRL, OVR_LO and OVR_HI; a refused override is shown by OVR_STATUS. -/
def State.objOverride (s : State) (src : RegSrc) (bs : List Byte) : ObjRes :=
  let w := fun k => leNat (slice bs (4 * k) 4)
  let was := s.rd R.FUSE_OVR_STATUS_REFUSED
  let t := (s.writeWord src 0x460044 (w 1)).writeWord src 0x460048 (w 2)
  let t := (t.clr R.FUSE_OVR_STATUS_REFUSED).writeWord src 0x460040 (w 0)
  if t.is R.FUSE_OVR_STATUS_REFUSED then ⟨t, abRefused, 0⟩ else .ok (t.wr R.FUSE_OVR_STATUS_REFUSED was)

/-- 0x1D10: an update (R376, R377). Data and commit are accepted in RECEIVING and from the source that began it; a value
written is the next segment, at UPDATE_BYTES. -/
def State.objUpdate (s : State) (c sub v : Nat) (bs : List Byte) : ObjRes :=
  let mine := s.rd R.MGMT_STATUS_UPDATE_STATE == 2 && s.rd R.MGMT_UPDATE_INFO_SOURCE == c
  match sub with
  | 1 => .ok (s.updateBegin c v)
  | 2 =>
    let f := s.flashOp
    let t := f.2.updateData (s.rd R.MGMT_UPDATE_BYTES_BYTES) bs
    if !mine then ⟨s, abRefused, 0⟩
    else if t.rd R.MGMT_STATUS_UPDATE_STATE = 5 then ⟨t, abRefused, t.rd R.MGMT_UPDATE_INFO_ERROR⟩
    else if !f.1 then ⟨t.updateFail 6, abFlash, 6⟩
    else .ok t
  | 3 => if mine then .ok (s.updateCommit v) else ⟨s, abRefused, 0⟩
  | _ => .ok s.updateAbort

/-- Objects of the fault, self-test, calibration, fuse and management chapters. -/
def State.objWrite3 (s : State) (src : RegSrc) (c index sub v : Nat) (bs : List Byte) : ObjRes :=
  let n := sub - 1
  let one := fun (f : Fam) (i : List Nat) (x : Nat) => objJudge s (s.writeOne src f i x) abRefused
  let word := fun (off x : Nat) => objJudge s (s.writeWord src off x) abRefused
  let words := fun (off : Nat) => ObjRes.ok ((List.range 4).foldl (fun t k =>
    t.writeWord src (off + 4 * k) (leNat (slice bs (4 * k) 4))) s)
  match index, sub with
  | 0x1900, 3 => words 0x440100
  | 0x1900, 4 => words 0x440120
  | 0x1900, _ => .ok (s.fenceRelease v)
  | 0x1901, _ => objJudge s (s.writeOne src R.FAULT_REACT_REACTION [n] v) abRange
  | 0x1902, 1 => one R.FAULT_CTRL_SHADOW [] v
  | 0x1902, _ => .ok s.setLock
  | 0x1903, _ => word 0x440030 v
  | 0x1A00, 2 => objJudge s (if v = 1 then s.serviceEnter src else s.serviceExit src) abRefused
  | 0x1A00, 3 => word 0x450000 (v % 8 + (s.rd R.TEST_CTRL_SERVICE <<< bitOf R.TEST_CTRL_SERVICE []))
  | 0x1A00, _ => .ok { s with dict := { s.dict with startupMarch := v } }
  | 0x1A01, 1 => one R.TEST_CS_MEM_INTERVAL_TICKS [] v
  | 0x1A01, 2 => one R.TEST_CS_WAY_INTERVAL_TICKS [] v
  | 0x1A01, _ => one R.TEST_CS_LANE_INTERVAL_TICKS [] v
  | 0x1A02, _ =>
    match s.testRefusal (field v 0 4) (field v (bitOf R.TEST_TEST_CTRL_TARGET []) 5) with
    | some r => ⟨s.writeWord src 0x450050 v, abRefused, r⟩
    | none => .ok (s.writeWord src 0x450050 v)
  | 0x1B00, _ =>
    let t := (s.wr R.TEST_CAL_STATUS_RESULT 0).writeWord src 0x450100 v
    let r := t.rd R.TEST_CAL_STATUS_RESULT
    if r = 0 then .ok (t.wr R.TEST_CAL_STATUS_RESULT (s.rd R.TEST_CAL_STATUS_RESULT))
    else if r = 8 then .ok t else ⟨t, abRefused, r⟩
  | 0x1B01, _ => .ok (s.shadowWrite bs)
  | 0x1C03, 1 => s.objBurn src bs
  | 0x1C03, _ => .ok (s.forceArm v)
  | 0x1C04, _ => s.objOverride src bs
  | 0x1D00, _ => .ok s.mgmtRestart
  | 0x1D01, 1 => .ok { s with mgmt := { s.mgmt with confirmDelay := v } }
  | 0x1D01, 2 => one R.MGMT_WDOG_CTRL_PERIOD [] v
  | 0x1D01, _ =>
    let f := s.flashOp
    if !s.is R.MGMT_STATUS_TRIAL then .ok s else if f.1 then .ok f.2.confirm else ⟨f.2, abFlash, 0⟩
  | 0x1D10, k => s.objUpdate c k v bs
  | 0x1E00, _ => .ok s.persistStart
  | 0x1E01, _ => .ok (s.modCarrier c fun x => { x with logFrom := v })
  | 0x1F00, 1 => .ok { s with rack := { s.rack with pendingAddr := some v } }
  | _, _ => .ok (s.writeWord src 0x470000 v)

/-- R403: an RWS write that is not saved yet. -/
def State.markUnsaved (s : State) : State :=
  match s.dict.unsaved with
  | some _ => s
  | none => { s with dict := { s.dict with unsaved := some 0 } }

/-- An admitted write of an object. The token, heartbeat and stage objects are in Dict.lean (DEDUCED in part: log entry 40). -/
def State.objWrite (s : State) (src : RegSrc) (c : Nat) (o : Obj) (sub : Nat) (bs : List Byte) : ObjRes :=
  let v := leNat bs
  if o.index < 0x1600 then s.objWrite1 src o.index sub v bs
  else if o.index < 0x1900 then s.objWrite2 src o.index sub v bs
  else s.objWrite3 src c o.index sub v bs

/-! ### Checks on a value (R393) -/

/-- TYPE_LENGTH: a length that does not fit the type. -/
def Obj.lengthOk (o : Obj) (n : Nat) : Bool :=
  match o.type with
  | .string | .domain => decide (o.min ≤ n) && decide (n ≤ o.max)
  | t => n == t.size

/-- RANGE: a value inside the Range column, and a STRING's bytes. -/
def Obj.rangeOk (o : Obj) (bs : List Byte) : Bool :=
  let v := leNat bs
  match o.type with
  | .string => bs.all fun b => decide (0x20 ≤ b.toNat) && decide (b.toNat ≤ 0x7E)
  | .domain => true
  | _ =>
    if o.index = 0x1900 ∧ o.lo = 8 then v == 2 || v == 8
    else decide (o.min ≤ v) && decide (v ≤ o.max)

/-- R397: an object of a function that the variant lacks. -/
def State.absentObj (s : State) (index sub : Nat) : Bool :=
  if index = 0x1810 ∨ index = 0x1811 ∨ index = 0x1812 then !s.codingOn
  else if [0x1610, 0x1612, 0x1613, 0x1615, 0x1700, 0x1701, 0x1702, 0x1703].contains index then
    decide (s.nBench < sub) && decide (sub ≤ 9)
  else if [0x1601, 0x1602, 0x1624, 0x1625, 0x1626].contains index then decide (s.nLayer < sub) && decide (sub ≤ 18)
  else false

/-- Table 18.4: the sub-indices of an RWS range that are not writable. -/
def notWritable (index sub : Nat) : Bool :=
  (index == 0x1302 && (sub == 2 || sub == 0x3F || sub == 0x40)) || (index == 0x1604 && (sub == 0x3F || sub == 0x40))

/-! ### Saved values applied (R405) -/

/-- The order of R405: ascending, but with the fixed-high marks after 0x1300 and before 0x1301. -/
def savedOrder (e : SavedVal) : Nat :=
  256 * (if e.index = 0x1302 then 0x1301 else if e.index = 0x1301 then 0x1302 else e.index) + e.sub

/-- A saved entry put into its place. -/
def savedInsert (e : SavedVal) : List SavedVal → List SavedVal
  | [] => [e]
  | x :: xs => if savedOrder e ≤ savedOrder x then e :: x :: xs else x :: savedInsert e xs

/-- An event-log entry whose SOURCE, UNIT, CODE and DATA the spec does not give: free values
(DESIGN CHOICE in part: log entry 42). -/
def State.logFree (s : State) : State :=
  let d := s.draw
  let v := fun k => Config.freeNat (8 * d.1 + k)
  d.2.log (v 0 % 256) (v 1 % 256) (v 2 % 65536) (leBytes 16 (v 3))

/-- R405: one saved entry applied by the device itself, with the checks from NO_OBJECT onwards; a refused one is skipped and
logged (DESIGN CHOICE in part: log entry 42). -/
def State.applySaved (s : State) (e : SavedVal) : State :=
  match objOf e.index e.sub with
  | none => s.logFree
  | some o =>
    if s.absentObj e.index e.sub || o.acc != .rws || notWritable e.index e.sub || !o.lengthOk e.value.length ||
        !o.rangeOk e.value then s.logFree
    else
      let r := s.objWrite .firmware 0 o e.sub e.value
      if r.code = 0 then r.state else r.state.logFree

/-- R405: the governing copy applied; with no valid copy every object keeps its default. A copy with COUNT 0 gives every RWS
object its default. -/
def State.applyCopy (s : State) : State :=
  match s.savedCopy with
  | none => s
  | some (c, _) =>
    let es := if c.entries.isEmpty then
        (rwsObjects.filter fun p => !notWritable p.1.index p.2 && !s.absentObj p.1.index p.2).map fun p =>
          ⟨p.1.index, p.2, p.1.type.code, rwsDefault p.1 p.2⟩
      else c.entries
    (es.foldl (fun l e => savedInsert e l) []).foldl State.applySaved s

end Sys2Proof.Machine
end

