-- ==== Sys2Proof/Machine/Boot.lean ====
section
/-! DEFINITION. What firmware loads and applies once it runs after the base die has left reset (R154, R301, R343, R381, R405). -/
namespace Sys2Proof.Machine

/-- The loads that firmware makes once after PD11 leaves reset: the event log's SEQ, the calibration record, the lane repairs,
SPARES_USED and the saved values. -/
def State.firmwareUp (s : State) : State :=
  if !s.fwRuns || s.mgmt.loaded then s else
  let s := s.resumeLog.calLoad
  let s := ((List.range s.nBench).foldl State.loadLanes s).loadSpares.applyCopy
  { s with mgmt := { s.mgmt with loaded := true } }

/-- R340: before the stack is reported ready, the row-groups of a valid CS_RECORD are restored, once every link that is not
offline is ACTIVE. -/
def State.restoreSettle (s : State) : State :=
  if s.fwRuns && s.mgmt.loaded && !s.is R.HOST_STATUS_STACK_READY && s.is R.TEST_CS_RECORD_VALID && s.test.mem.isNone &&
      s.live 8 && s.allTrained && !s.fetchHeld then s.restoreNext
  else s

end Sys2Proof.Machine
end

