-- ==== Sys2Proof/Machine/RackLine.lean ====
section
/-! DEFINITION. What travels on the Rack Link line: the convolutional code, the symbols of coded bits, a frame's symbols
and their decoding (R411, R415 to R418). -/
namespace Sys2Proof.Machine

/-! ### The code (R415, R416) -/

/-- Whether an odd number of the lowest seven bits are 1. -/
def odd7 (n : Nat) : Bool := popCount 7 n % 2 == 1

/-- R415: the two coded bits of input bit `u`, after the six bits of register `r`, the latest on top. -/
def convBits (r : Nat) (u : Bool) : List Bool :=
  let w := b2n u * 64 + r % 64
  [odd7 (w &&& 0b1111001), odd7 (w &&& 0b1011011)]

/-- R415: the coded bits of a block's bits, from register `r`. -/
def conv : Nat → List Bool → List Bool
  | _, [] => []
  | r, u :: us => convBits r u ++ conv ((b2n u * 64 + r % 64) / 2) us

/-- A block's bits, bit 0 of each byte first, and the six zeros of the tail (R416). -/
def blockBits (bs : List Byte) : List Bool := (bs.flatMap fun b => (List.range 8).map b.getLsbD) ++ List.replicate 6 false

/-- R416: a block's coded bits, padded to a multiple of 3. -/
def codedBits (bs : List Byte) : List Bool :=
  let c := conv 0 (blockBits bs)
  c ++ List.replicate ((3 - c.length % 3) % 3) false

/-! ### Symbols (R411) -/

/-- Table 19.1: the two symbols of each value. -/
def pairTable : List (Int × Int) := [(0, 1), (1, 0), (1, 1), (1, -1), (-1, 1), (-1, -1), (-1, 0), (0, -1)]

/-- R411: coded bits as symbols, three bits to two of them. -/
def symbolsOf : List Bool → List Int
  | c0 :: c1 :: c2 :: cs =>
    let p := pairTable.getD (4 * b2n c0 + 2 * b2n c1 + b2n c2) (0, 0)
    p.1 :: p.2 :: symbolsOf cs
  | _ => []

/-- R411: what two received symbols say of three coded bits; the pair (0, 0) says nothing of any. -/
def bitsOfPair (a b : Int) : List (Option Bool) :=
  match pairTable.findIdx? (· == (a, b)) with
  | some v => [some (v.testBit 2), some (v.testBit 1), some (v.testBit 0)]
  | none => [none, none, none]

/-- R411: received symbols as coded bits, erased ones absent. -/
def bitsOfSymbols : List Int → List (Option Bool)
  | a :: b :: l => bitsOfPair a b ++ bitsOfSymbols l
  | _ => []

/-! ### The decoder (R411, R416) -/

/-- How far a coded bit lies from a received one; an erased bit lies at no distance from either. -/
def bitMiss (c : Bool) : Option Bool → Nat
  | some d => b2n (c != d)
  | none => 0

/-- A path through the code's states: its distance from what was received, and its bits, the latest first. -/
structure CodePath where
  dist : Nat
  bits : List Bool
deriving DecidableEq, Repr

/-- A path that ends with register `r`, gone on with bit `u` against two received coded bits. -/
def CodePath.ext (p : CodePath) (r : Nat) (u : Bool) (a b : Option Bool) : CodePath :=
  match convBits r u with
  | [x, y] => ⟨p.dist + bitMiss x a + bitMiss y b, u :: p.bits⟩
  | _ => p

/-- The nearer path into each register that ends in bit `u`, from the paths into registers `r`, `r` + 1, … in turn. Of two at the
same distance the first is kept (DESIGN CHOICE in part: log entry 47). -/
def nearer (u : Bool) (a b : Option Bool) : Nat → List CodePath → List CodePath
  | r, p :: q :: l =>
    let x := p.ext r u a b
    let y := q.ext (r + 1) u a b
    (if y.dist < x.dist then y else x) :: nearer u a b (r + 2) l
  | _, _ => []

/-- R416: the Viterbi decoder, two coded bits at a time, with the nearest path into each of the 64 registers; at the end of the tail it
decides for the path that ends in register zero. -/
def viterbi : List (Option Bool) → List CodePath → List Bool
  | a :: b :: l, m => viterbi l (nearer false a b 0 m ++ nearer true a b 0 m)
  | _, m => ((m.head?.map (·.bits)).getD []).reverse

/-- The decoder's start: register zero, every other out of reach. -/
def pathStart : List CodePath := ⟨0, []⟩ :: List.replicate 63 ⟨2 ^ 20, []⟩

/-- R416: a block of `n` bytes decoded from its symbols. -/
def decodeBlock (n : Nat) (syms : List Int) : List Byte :=
  let bits := viterbi ((bitsOfSymbols syms).take (16 * n + 12)) pathStart
  (List.range n).map fun k => BitVec.ofNat 8 (mapOf 8 fun i => bits.getD (8 * k + i) false)

/-! ### Frames (R417, R418) -/

/-- The sync word. -/
def syncWord : Nat := 0x9F1AC4B62D73

/-- A bit sent uncoded. -/
def polar (b : Bool) : Int := if b then 1 else -1

/-- The preamble. -/
def preamble : List Int := (List.range 32).map fun i => polar (i % 2 == 0)

/-- The sync. -/
def syncSymbols : List Int := (List.range 48).map fun i => polar (syncWord.testBit (47 - i))

/-- R418: the errors of 48 sliced symbols against the sync word; a symbol sliced as 0 is one. -/
def syncErrors (l : List Int) : Nat := ((l.zip syncSymbols).filter fun p => p.1 != p.2).length

/-- R418: an accepted sync: at most 4 errors. -/
def syncGood (x : RxSync) : Bool := x.syms.length == 48 && decide (syncErrors x.syms ≤ 4)

/-- R418: the strength of a sync, 48 times its mean absolute amplitude. -/
def strength (x : RxSync) : Nat := x.amps.sum

/-- R417: the symbols of a frame whose header and payload blocks are `bytes`. -/
def frameLine (bytes : List Byte) : List Int :=
  let block := fun (bs : List Byte) => if bs.isEmpty then [] else symbolsOf (codedBits bs)
  preamble ++ syncSymbols ++ block (bytes.take 9) ++ block (bytes.drop 9)

end Sys2Proof.Machine
end

