-- ==== Sys2Proof/Machine/RackTx.lean ====
section
/-! DEFINITION. Rack Link transmission: frame lengths in symbols, headers, the transmit queue (R416 to R420, R425, R426). -/
namespace Sys2Proof.Machine

/-- R416, R417: the symbols of a frame with `len` payload bytes. -/
def frameSymbols (len : Nat) : Nat := 184 + (if len = 0 then 0 else 2 * ((16 * len + 76 + 2) / 3))

/-- R353, R420: the payload CRC-32. -/
def rackCrc (bs : List Byte) : List Byte := if bs.isEmpty then [] else leBytes 4 (crcRefl 0xEDB88320 0xFFFFFFFF 0xFFFFFFFF bs)

/-- R419, R420: a frame's header and payload blocks, as sent. -/
def frameBytes (dest src type tick : Nat) (payload : List Byte) : List Byte :=
  let h := leBytes 1 dest ++ leBytes 1 src ++ leBytes 1 type ++ leBytes 2 payload.length ++ leBytes 2 tick
  h ++ leBytes 2 (crc16 h) ++ payload ++ rackCrc payload

/-- STATUS.ADDRESS. -/
def State.rackAddr (s : State) : Nat := s.rd R.RL_STATUS_ADDRESS

/-- R425: the transmitter may drive the bus: TX_ALLOWED, TX_EN, no RACKLINK fence and no SAFE. -/
def State.rackMay (s : State) : Bool :=
  s.live 22 && s.is R.RL_STATUS_TX_ALLOWED && s.is R.RL_CTRL_TX_EN && !(s.rd R.FAULT_FENCED_TARGETS).testBit 3 &&
    !s.is R.FAULT_STATUS_SAFE

/-- R426: the queue has room. Frames of the slot under way, and those that met a collision in it, keep their places; a STATUS or
ASSIGN_REQ frame has none. -/
def State.rackRoom (s : State) : Bool :=
  decide (s.rack.tx.length + s.rack.back.length +
    (s.rack.slot.filter fun f => f.frame.type != 5 && f.frame.type != 6).length < 8)

/-- R426: a frame joins the queue; one that finds it full is dropped and counted. -/
def State.rackQueue (s : State) (f : TxFrame) : State :=
  if !s.live 22 then s
  else if s.rackRoom then { s with rack := { s.rack with tx := s.rack.tx ++ [f] } }
  else s.incSat R.RL_TX_DROPPED_COUNT

/-- R426: a frame that met a collision waits for the next granted slot, up to three times. -/
def State.rackRetry (s : State) (f : TxFrame) : State :=
  if 3 ≤ f.retries then s.incSat R.RL_TX_DROPPED_COUNT
  else { s with rack := { s.rack with back := s.rack.back ++ [{ f with retries := f.retries + 1 }] } }

/-- R426: the slot's frames that have not been sent are at the head of the queue again, oldest first. -/
def State.rackReturn (s : State) : State :=
  { s with rack := { s.rack with back := [], tx := s.rack.back ++ s.rack.tx } }

/-- R400: a dictionary response over Rack Link. Carrier 1 is the rack manager; carrier `2 + n` is node `n`. -/
def State.rackRespond (s : State) (c : Nat) (bytes : List Byte) : State :=
  s.rackQueue ⟨true, 3, if c = 1 then 0x20 else c - 2, bytes, 0, 0⟩

end Sys2Proof.Machine
end

