-- ==== Sys2Proof/Machine/Dict.lean ====
section
/-! DEFINITION. The object dictionary's service: messages, checks, transfers, the control token's claims and the boot ROM's
subset (Object dictionary). -/
namespace Sys2Proof.Machine

/-! ### Messages (R391, R392) -/

/-- A request of Table 18.2. -/
structure DReq where
  cmd : Nat
  txn : Nat
  index : Nat
  sub : Nat
  len : Nat
  pos : Nat
  data : List Byte
deriving DecidableEq, Repr

/-- A message read as a request; a byte that is missing reads as 0. -/
def dreqOf (m : List Byte) : DReq where
  cmd := leNat (slice m 0 1)
  txn := leNat (slice m 1 1)
  index := leNat (slice m 2 2)
  sub := leNat (slice m 4 1)
  len := leNat (slice m 6 2)
  pos := leNat (slice m 8 4)
  data := m.drop 16

/-- Whether the command reads, and whether it writes, an object. -/
def DReq.reads (r : DReq) : Bool := r.cmd == 1 || r.cmd == 3 || r.cmd == 4
def DReq.writes (r : DReq) : Bool := r.cmd == 2 || r.cmd == 5 || r.cmd == 6

/-- A response of Table 18.2. -/
def drsp (cmd : Nat) (r : DReq) (type pos abort : Nat) (data : List Byte) : List Byte :=
  leBytes 1 cmd ++ leBytes 1 r.txn ++ leBytes 2 r.index ++ leBytes 1 r.sub ++ leBytes 1 type ++ leBytes 2 data.length ++
    leBytes 4 pos ++ leBytes 4 abort ++ data

/-- A response without an abort. -/
def drspOk (r : DReq) (type pos : Nat) (data : List Byte) : List Byte := drsp (r.cmd + 0x80) r type pos 0 data

/-- An abort: its code and the detail. -/
def drspAbort (r : DReq) (type code detail : Nat) : List Byte := drsp 0xFF r type r.pos (code + 256 * detail) []

/-- R391: the largest LEN of a carrier. -/
def carrierMax (c : Nat) : Nat := if c = 0 then 4096 else 240

/-! ### Write classes and the token (R387, R388) -/

/-- A carrier's own value of 0x1101:00: 1 host, 2 rack manager. -/
def tokenValue (c : Nat) : Nat := if c = 0 then 1 else 2

/-- NOT_HOLDER does not apply: the write class is met. `v` is the value written, where it is known. -/
def State.mayWrite (s : State) (c : Nat) (w : OWr) (v : Option Nat) : Bool :=
  let h := s.dict.holder
  if 2 ≤ c then false
  else match w with
    | .none => true
    | .host => c == 0 || h == 2
    | .rack => c == 1 || h == 1
    | .token => h == tokenValue c
    | .each => true
    | .claim => v != some 0 || h == tokenValue c

/-- RANGE of 0x1101:00: the other party's value, or none of the three. -/
def claimRange (c v : Nat) : Bool := v == 0 || v == tokenValue c

/-! ### Checks (R393, R394, R406) -/

/-- R406: what the boot ROM admits, in NO_IMAGE and RECOVERY, from the port: what reads the objects it names, and what addresses the
stage objects (DEDUCED in part: log entry 40). -/
def State.romAdmits (s : State) (c : Nat) (r : DReq) : Bool :=
  let f := s.rd R.MGMT_STATUS_FW_STATE
  s.live 11 && (f == 3 || f == 4) && c == 0 &&
    (r.index == 0x1D20 ||
     ((r.reads || r.cmd == 7) && (r.index == 0x1000 || r.index == 0x1001 || (r.index == 0x1100 && r.sub == 1) ||
       (r.index == 0x1D00 && r.sub == 1))))

/-- The open transfer continues with this segment. -/
def DReq.continues (r : DReq) (t : Option Transfer) : Bool :=
  match t with
  | none => false
  | some t =>
    t.index == r.index && t.sub == r.sub && t.write == (r.cmd == 6) &&
      (r.pos == t.next || (r.cmd == 4 && t.prev == some r.pos))

/-- The whole value that a request writes, once it is known: of a WRITE, and of the segment that completes a transfer. -/
def DReq.value (r : DReq) (t : Option Transfer) : Option (List Byte) :=
  if r.cmd = 2 then some (r.data.take r.len)
  else if r.cmd = 6 then
    match t with
    | some t => if r.pos + r.len = t.total then some (t.bytes ++ r.data.take r.len) else none
    | none => none
  else none

/-- TYPE_LENGTH: LEN or TOTAL does not fit the type, or an expedited transfer for a value longer than 8 bytes. -/
def State.dictLength (s : State) (c : Nat) (o : Obj) (r : DReq) (t : Option Transfer) : Bool :=
  match r.cmd with
  | 1 => decide ((s.objRead c o r.sub).length ≤ 8)
  | 2 => decide (r.len ≤ 8) && decide (r.len ≤ r.data.length) && o.lengthOk r.len
  | 5 => o.lengthOk r.pos
  | 6 => decide (r.len ≤ r.data.length) && (match t with
      | some t => decide (r.pos + r.len ≤ t.total)
      | none => false)
  | _ => true

/-- R241: the write would mark label 62 or 63 as fixed-high, which the owning chapter refuses with RANGE
(DEDUCED in part: log entry 40). -/
def marksFixed (r : DReq) (v : Option (List Byte)) : Bool :=
  r.index == 0x1302 && decide (0x3F ≤ r.sub) && v.map leNat == some 1

/-- The checks of Table 18.4 down to RANGE: the abort code, 0 for none, and the object where one was found. -/
def State.dictCheck (s : State) (c : Nat) (r : DReq) : Nat × Option Obj :=
  let t := (s.carrier c).open_
  if !s.fwRuns && !s.romAdmits c r then (0x0C, none)
  else if (r.cmd == 3 || r.cmd == 5) && t.isSome then (0x09, none)
  else if r.cmd == 0 || decide (7 < r.cmd) || ((r.cmd == 4 || r.cmd == 6) && !r.continues t) then (0x0A, none)
  else if r.cmd == 7 then (0, none)
  else match objOf r.index r.sub with
    | none => (if indexDefined r.index then 0x02 else 0x01, none)
    | some o =>
      let v := r.value t
      let rom := !s.fwRuns
      let code :=
        if r.writes && s.absentObj r.index r.sub then 0x0D
        else if r.writes && (o.acc == .ro || o.acc == .rc || (notWritable r.index r.sub && !marksFixed r v)) then 0x03
        else if r.reads && o.acc == .wo then 0x04
        else if r.writes && !rom && !s.mayWrite c o.wr (v.map leNat) then 0x07
        else if !s.dictLength c o r t then 0x05
        else match v with
          | some bs => if o.rangeOk bs && (o.wr != .claim || claimRange c (leNat bs)) then 0 else abRange
          | none => 0
      (code, some o)

/-! ### Performing a write -/

/-- Table 17.6 source 0x06, for the image in SRAM, which lies in no slot (DESIGN CHOICE in part: log entry 39). -/
def State.logStaged (s : State) (code : Nat) : State :=
  let d := s.draw
  d.2.logImage (Config.freeNat d.1 % 256) code (imgVersion s.mgmt.staged) (imgRollback s.mgmt.staged)

/-- R406: the stage objects, which only the boot ROM serves (DEDUCED in part: log entry 39). -/
def State.stageWrite (s : State) (sub : Nat) (bs : List Byte) : ObjRes :=
  if s.fwRuns then ⟨s, abRefused, 0⟩
  else match sub with
    | 1 => .ok { s with mgmt := { s.mgmt with staged := [], stageTotal := leNat bs } }
    | 2 =>
      if s.mgmt.stageTotal < s.mgmt.staged.length + bs.length then ⟨s, abRefused, 7⟩
      else .ok { s with mgmt := { s.mgmt with staged := s.mgmt.staged ++ bs } }
    | _ =>
      let img := s.mgmt.staged
      let code := s.imageCode img (some (if img.length = s.mgmt.stageTotal then img.length else 0))
      if code = 0 then .ok ((s.imageRuns img).logStaged 0).firmwareUp
      else ⟨(s.wr R.MGMT_UPDATE_INFO_ERROR code).logStaged code, abRefused, code⟩

/-- R393, R403, R405: a save that a write itself performs. -/
def State.dictSave (s : State) (es : List SavedVal) : ObjRes :=
  let f := s.flashOp
  ⟨f.2.saveEnd es f.1, if f.1 then 0 else abFlash, 0⟩

/-- A write that has passed the checks; none when it is a claim that waits for its decision (R388). -/
def State.dictWrite (s : State) (c : Nat) (o : Obj) (sub : Nat) (bs : List Byte) : Option ObjRes :=
  match o.index, sub with
  | 0x1101, _ =>
    if leNat bs = 0 then some (.ok (s.setHolder 0))
    else if s.dict.holder = tokenValue c then some (.ok s)
    else none
  | 0x1102, _ => some (.ok (s.wr R.DICT_TOKEN_AGE_TICKS 0))
  | 0x1110, 2 => some (s.dictSave s.savedNow)
  | 0x1110, _ => some (s.dictSave [])
  | 0x1D20, _ => some (s.stageWrite sub bs)
  | _, _ =>
    let r := s.objWrite (.dict c) c o sub bs
    some (if r.code = 0 && o.acc == .rws then .ok r.state.markUnsaved else r)

/-- R386, R382: what reading an object does once its response is returned without an abort: an RC object is set to zero, and
log_from passes the last entry returned. -/
def State.objTaken (s : State) (c index sub : Nat) : State :=
  match index, sub with
  | 0x1201, 7 => { s with time := { s.time with overruns := 0 } }
  | 0x1403, 1 => s.wr R.POWER_WAKE_SRC_SRC 0
  | 0x1E01, 2 =>
    match (s.logEntries (s.carrier c).logFrom).getLast? with
    | some e => s.modCarrier c fun x => { x with logFrom := seqNext e.seq }
    | none => s
  | _, _ => s

/-! ### Service (R394 to R396) -/

/-- The carrier's open transfer set. -/
def State.setOpen (s : State) (c : Nat) (t : Option Transfer) : State := s.modCarrier c fun x => { x with open_ := t }

/-- A response that closes a transfer when it aborts a segment (R394). -/
def State.dictAborted (s : State) (c : Nat) (r : DReq) (o : Option Obj) (code detail : Nat) : State × Option (List Byte) :=
  (if r.cmd == 4 || r.cmd == 6 then s.setOpen c none else s, some (drspAbort r ((o.map (·.type.code)).getD 0) code detail))

/-- A whole value written: its response, or none when a claim waits (DEDUCED in part: log entry 40). -/
def State.dictPerform (s : State) (c : Nat) (r : DReq) (o : Obj) (bs : List Byte) : State × Option (List Byte) :=
  match s.dictWrite c o r.sub bs with
  | none => (s, none)
  | some w =>
    (w.state, some (if w.code = 0 then drspOk r o.type.code r.pos [] else drspAbort r o.type.code w.code w.detail))

/-- A segment of a read (R394). -/
def State.dictSegment (s : State) (c : Nat) (r : DReq) (o : Obj) (t : Transfer) : State × Option (List Byte) :=
  let n := min r.len (min (carrierMax c) (t.total - r.pos))
  let t' : Transfer := { t with next := max t.next (r.pos + n), prev := some r.pos, idle := 0 }
  (s.setOpen c (if t'.next = t.total then none else some t'),
    some (drspOk r o.type.code r.pos (slice t.bytes r.pos n)))

/-- A request that has passed the checks, or failed one. -/
def State.dictDo (s : State) (c : Nat) (r : DReq) : State × Option (List Byte) :=
  let k := s.dictCheck c r
  let t := (s.carrier c).open_
  if k.1 ≠ 0 then s.dictAborted c r k.2 k.1 0
  else match k.2 with
    | none =>
      if t.isSome then (s.setOpen c none, some (drspAbort r 0 0x0F 0)) else (s, some (drspOk r 0 r.pos []))
    | some o =>
      match r.cmd with
      | 1 => (s.objTaken c r.index r.sub, some (drspOk r o.type.code r.pos (s.objRead c o r.sub)))
      | 2 => s.dictPerform c r o (r.data.take r.len)
      | 3 =>
        let v := s.objRead c o r.sub
        ((s.objTaken c r.index r.sub).setOpen c (some ⟨false, r.index, r.sub, v.length, v, 0, none, 0⟩),
          some (drspOk r o.type.code v.length []))
      | 5 => (s.setOpen c (some ⟨true, r.index, r.sub, r.pos, [], 0, none, 0⟩), some (drspOk r o.type.code r.pos []))
      | _ =>
        match t with
        | none => (s, some (drspOk r o.type.code r.pos []))
        | some t =>
          if r.cmd = 4 then s.dictSegment c r o t
          else match r.value (some t) with
            | some bs => (s.setOpen c none).dictPerform c r o bs
            | none =>
              (s.setOpen c (some { t with bytes := t.bytes ++ r.data.take r.len, next := r.pos + r.len, idle := 0 }),
                some (drspOk r o.type.code r.pos []))

/-- Words from the first one on written with bytes. -/
def State.wordsOf (s : State) (f : Fam) (bs : List Byte) : State :=
  (List.range ((bs.length + 3) / 4)).foldl (fun s k => s.wr f (leNat (slice bs (4 * k) 4)) [k]) s

/-- A response returned on its carrier (R398, R400). -/
def State.dictReply (s : State) (c : Nat) (rsp : List Byte) : State :=
  let s := s.emit (.dict c rsp)
  if c = 0 then
    let s := (s.wordsOf R.DICT_RSP_HDR_HDR (rsp.take 16)).wordsOf R.DICT_RSP_DATA_DATA (rsp.drop 16)
    let s := (s.wr R.DICT_STATUS_LAST_ABORT (leNat (slice rsp 12 1))).clr R.DICT_STATUS_BUSY
    (s.clr R.DICT_CTRL_GO).raise E.DICT_DONE
  else s.rackRespond c rsp

/-- R395: a carrier's last request, told apart by its sender (DEDUCED in part: log entry 40). -/
def reqKey (c : Nat) (m : List Byte) : List Byte := BitVec.ofNat 8 c :: m

/-- A request answered and counted (DEDUCED in part: log entry 40). -/
def State.dictAnswer (s : State) (c : Nat) (rsp : List Byte) : State :=
  let s := if c = 0 then s.inc R.DICT_REQUESTS_COUNT else s
  let s := if c = 0 && leNat (slice rsp 0 1) == 0xFF then s.incSat R.DICT_ABORTS_COUNT else s
  s.dictReply c rsp

/-- R395: a request served: its response is kept too. -/
def State.dictFinish (s : State) (c : Nat) (m rsp : List Byte) : State :=
  (s.modCarrier c fun x => { x with lastReq := some (reqKey c m), lastRsp := rsp }).dictAnswer c rsp

/-- R398, R406: nobody serves the request. -/
def State.restarting (s : State) (c : Nat) (m : List Byte) : Bool := !s.fwRuns && !s.romAdmits c (dreqOf m)

/-- R396: a request arrives and is served; a claim waits for its decision, with the port busy
(DEDUCED in part: log entry 41). -/
def State.dictServe (s : State) (c : Nat) (m : List Byte) : State :=
  let s := (s.inbound (.dict c)).checkArray 6
  if s.restarting c m then
    let r := s.dictDo c (dreqOf m)
    r.1.dictAnswer c (r.2.getD [])
  else if (s.carrier c).lastReq = some (reqKey c m) then s.dictReply c (s.carrier c).lastRsp
  else if s.dict.claims.contains ⟨c, m⟩ then s
  else
    let r := s.dictDo c (dreqOf m)
    match r.2 with
    | some rsp => r.1.dictFinish c m rsp
    | none =>
      let t : State := { r.1 with dict := { r.1.dict with claims := r.1.dict.claims ++ [⟨c, m⟩] } }
      if c = 0 then (t.set R.DICT_STATUS_BUSY).set R.DICT_CTRL_GO else t

/-- R400: in EMBER with listening, the Rack Link block answers ASLEEP. -/
def State.rackAsleep (s : State) (c : Nat) (m : List Byte) : State :=
  let rsp := drspAbort (dreqOf m) 0 0x10 0
  (s.emit (.dict c rsp)).rackRespond c rsp

/-- A message that arrives on a carrier: over Rack Link with the receiver on, or at the port with the base die up and not
busy. The port's request is the one in its mailbox; one given while the port is busy is ignored and logged (R398)
(DEDUCED in part: log entry 40). -/
def State.dictArrive (s : State) (c : Nat) (m : List Byte) : State :=
  if c = 0 then
    if !s.live 3 then s
    else if s.is R.DICT_STATUS_BUSY then (s.inbound (.host 0)).refuse (.host 0) R.DICT_CTRL_GO.off
    else ((s.wordsOf R.DICT_REQ_HDR_HDR (m.take 16)).wordsOf R.DICT_REQ_DATA_DATA (m.drop 16)).dictServe 0 m
  else if !s.live 22 then s
  else if s.pstate = 3 then s.rackAsleep c m
  else if s.live 3 then s.dictServe c m else s

/-- A command of Table 18.3 with its own code. -/
def State.dictCmd (s : State) (cmd c : Nat) (m : List Byte) : State := if (dreqOf m).cmd = cmd then s.dictArrive c m else s

/-- READ. -/
def execRead (c : Nat) (req : List Byte) (s : State) : Host.Outcome State Fault Refusal := .next (s.dictCmd 1 c req)

/-- WRITE. -/
def execWrite (c : Nat) (req : List Byte) (s : State) : Host.Outcome State Fault Refusal := .next (s.dictCmd 2 c req)

/-- READ_SEG_INIT. -/
def execReadSegInit (c : Nat) (req : List Byte) (s : State) : Host.Outcome State Fault Refusal := .next (s.dictCmd 3 c req)

/-- READ_SEG. -/
def execReadSeg (c : Nat) (req : List Byte) (s : State) : Host.Outcome State Fault Refusal := .next (s.dictCmd 4 c req)

/-- WRITE_SEG_INIT. -/
def execWriteSegInit (c : Nat) (req : List Byte) (s : State) : Host.Outcome State Fault Refusal := .next (s.dictCmd 5 c req)

/-- WRITE_SEG. -/
def execWriteSeg (c : Nat) (req : List Byte) (s : State) : Host.Outcome State Fault Refusal := .next (s.dictCmd 6 c req)

/-- ABORT. -/
def execAbort (c : Nat) (req : List Byte) (s : State) : Host.Outcome State Fault Refusal := .next (s.dictCmd 7 c req)

/-- CTRL.ABORT: the port's open transfer ends with ABORTED (DEDUCED in part: log entry 40). -/
def State.portAbort (s : State) : State :=
  if s.live 3 && s.dict.port.open_.isSome then (s.setOpen 0 none).wr R.DICT_STATUS_LAST_ABORT 0x0F else s

/-- DICTPORT_ABORT. -/
def execDictportAbort (src : RegSrc) (s : State) : Host.Outcome State Fault Refusal := .next (s.inbound src).portAbort

/-- R394: a transfer without a segment for 100,000 tk ends with TIMEOUT (DEDUCED in part: log entry 40). -/
def State.transferTimeout (s : State) (c : Nat) : State :=
  match (s.carrier c).open_ with
  | none => s
  | some t =>
    if t.idle < 100000 then s
    else
      let s := s.setOpen c none
      if c = 0 then s.wr R.DICT_STATUS_LAST_ABORT 0x0B else s

/-- TRANSFER_TIMEOUT. -/
def execTransferTimeout (c : Nat) (s : State) : Host.Outcome State Fault Refusal := .next (s.transferTimeout c)

/-! ### The decision on claims (R389) -/

/-- A claim answered: with success when its party now holds the token, else with the code. -/
def State.claimAnswer (s : State) (k : Claim) (code : Nat) : State :=
  let r := dreqOf k.req
  let ok := code == 0 && s.dict.holder == tokenValue k.carrier
  s.dictFinish k.carrier k.req (if ok then drspOk r 2 r.pos [] else drspAbort r 2 (if code = 0 then 0x07 else code) 0)

/-- R389: a seizure counted, raised, and recorded in the event log: by the detection of FS120, or by itself where that adds no entry
(DEDUCED in part: log entry 41). -/
def State.seized (s : State) : State :=
  let q := s.rd R.MGMT_LOG_SEQ_SEQ
  let t := (({ s with dict := { s.dict with seizures := min (s.dict.seizures + 1) (2 ^ 32 - 1) } } : State).raise
    E.DICT_SEIZED).detect [120]
  if t.mgmt.ring.any fun e => e.source == 1 && e.unit == 120 && seqFrom e.seq q then t
  else t.log 1 120 (t.rd R.FAULT_REACT_REACTION [120]) (leBytes 4 t.firstWord)

/-- R389: the claims of the tick just ended are decided (DEDUCED in part: log entry 41). -/
def State.claimDecision (s : State) : State :=
  let ks := s.dict.claims
  if ks.isEmpty || !s.live 3 then s else
  let s : State := { s with dict := { s.dict with claims := [] } }
  if !s.fwRuns then ks.foldl (fun s k => s.claimAnswer k 0x0C) s
  else if s.dict.holder ≠ 0 ∧ s.rd R.DICT_TOKEN_AGE_TICKS < 20000 then ks.foldl (fun s k => s.claimAnswer k 0x07) s
  else
    let winner := if ks.any (·.carrier == 1) then 2 else 1
    let seized := s.dict.holder != 0 && s.dict.holder != winner
    let s := s.setHolder winner
    let s := if seized then s.seized else s
    ks.foldl (fun s k => s.claimAnswer k 0) s

/-- TOKEN_CLAIM_DECISION. -/
def execTokenClaimDecision (s : State) : Host.Outcome State Fault Refusal := .next s.claimDecision

end Sys2Proof.Machine
end

