-- ==== Sys2Proof/Machine/Clock.lean ====
section
/-! DEFINITION. The tick number's count and steps, and what a beacon does to rack time (R27 to R30). -/
namespace Sys2Proof.Machine

/-- R30: the effects of a step. -/
def State.stepped (s : State) : State := ((s.raise E.TIME_STEP).detect [117]).newWindow

/-- The number of the tick that has begun replaced at once. -/
def State.renumberNow (s : State) (n : Nat) : State :=
  if n % tickMod = s.time.now then s else ({ s with time := { s.time with now := n % tickMod, load := none } } : State).stepped

/-- R27: by how much the flywheel is early at a beacon of tick `n` whose instant is `t`: negative where it is late. `expect` is
the number that the beacon's nearest tick has here. -/
def State.phaseError (s : State) (t n expect : Nat) (current : Bool) : Int :=
  let ahead := tickSub n expect
  let number : Int := if 2 * ahead < tickMod then ahead else (ahead : Int) - tickMod
  (t : Int) - (if current then s.time.lastTick else s.time.nextFly) - number * s.period

/-- R27, R29: a beacon whose instant is `t` and whose TICK is `n`. It marks the nearest counted tick: the one that has begun, or
the next. Up to 50 µs away from it the flywheel, when it follows beacons, is brought to coincide
(DEDUCED in part: log entry 11). -/
def State.beaconTime (s : State) (t n : Nat) : State :=
  let s : State := { s with time := { s.time with beaconSilent := 0 } }
  let s := s.pinSilent
  let p := s.period
  let since := t - s.time.lastTick
  let current := decide (2 * since < p)
  let expect := if current then s.time.now else (s.time.now + 1) % tickMod
  let far := (s.phaseError t n expect current).natAbs
  let follows := s.rd R.TIME_STATUS_SOURCE == 1
  let taken := if s.is R.TIME_CTRL_BEACON_LOAD || decide (50000 < far) then expect else n
  let err := if follows then s.phaseError t taken expect current else s.time.phase
  let s : State := { s with time := { s.time with phase := err } }
  let loads := s.is R.TIME_CTRL_BEACON_LOAD && n != expect
  let steps := follows && decide (50000 < far) && n != expect
  if !loads && !steps then s
  else
    let s := if loads then s.set R.TIME_STATUS_NUMBER_VALID else s
    if current then s.renumberNow n else { s with time := { s.time with load := some (n % tickMod) } }

end Sys2Proof.Machine
end

