-- ==== Sys2Proof/Machine/WakePort.lean ====
section
/-! DEFINITION. The wake port: its command bytes, the read subset and its timeout (R262, R401, R402, R459). -/
namespace Sys2Proof.Machine

/-- Table 18.6: the base-die bytes as their sources give them: 0x12, 0x14 to 0x16, 0x1A, 0x1B, 0x1E, 0x1F, 0x26 to 0x29. -/
def State.wakeBaseNow (s : State) : List Byte :=
  let h := s.hottest
  leBytes 1 (s.rd R.MGMT_STATUS_FW_STATE + 8 * s.shiftState + 64 * (if s.live 8 then s.protection else 0)) ++ tempI16 h.2 ++ leBytes 1 h.1 ++
    leBytes 2 (s.rd R.THERMAL_PKG_POWER_POWER) ++ leBytes 2 (s.rd R.FAULT_FENCED_TARGETS) ++ leBytes 2 s.fuse.deviceId ++
    leBytes 1 s.revision ++ leBytes 1 (if s.live 22 then s.rackAddr else 0xFF)

/-- The base-die bytes while they are not available. -/
def wakeBaseNone : List Byte :=
  [0xFF#8, 0x00#8, 0x80#8, 0xFF#8, 0xFF#8, 0xFF#8, 0x00#8, 0x00#8, 0xFF#8, 0xFF#8, 0xFF#8, 0xFF#8]

/-- R401: the base-die bytes refreshed at a tick, while PD03 is on and not in reset (DEDUCED in part: log entry 44). -/
def State.wakeRefresh (s : State) : State :=
  { s with wake := { s.wake with base := if s.live 3 then some s.wakeBaseNow else none } }

/-- The wake byte STATE. -/
def State.wakeState (s : State) : Nat :=
  s.pstate + 8 * s.rd R.POWER_STATUS_SEQ_BUSY + 16 * b2n s.thermal.trip.isSome + 32 * b2n s.fuse.hold +
    64 * s.rd R.FAULT_STATUS_SAFE + 128 * b2n s.power.inReset

/-- FAULT_GROUPS. -/
def State.faultGroups (s : State) : Nat :=
  mapOf 8 fun g => (List.range 16).any fun k => s.is R.FAULT_STICKY_SOURCES [16 * g + k]

/-- Table 18.6: bytes 0x10 to 0x2F. -/
def State.wakeBytes (s : State) : List Byte :=
  let b := if s.live 3 then s.wake.base.getD wakeBaseNone else wakeBaseNone
  let trip := match s.thermal.trip with
    | some t => leBytes 1 t.1 ++ tempI16 t.2
    | none => [0xFF#8, 0x00#8, 0x80#8]
  let time := s.rd R.TIME_STATUS_SOURCE + 4 * s.rd R.TIME_STATUS_NUMBER_VALID + 8 * s.rd R.POWER_WAKE_LATCH_PENDING
  let bs := leBytes 1 1 ++ leBytes 1 s.wakeState ++ slice b 0 1 ++ leBytes 1 time ++ slice b 1 3 ++ trip ++ slice b 4 2 ++
    leBytes 1 s.firstWord ++ leBytes 1 s.faultGroups ++ slice b 6 2 ++ leBytes 6 s.time.now ++ slice b 8 4 ++
    List.replicate 5 0#8
  bs ++ leBytes 1 (crc8 bs)

/-- R262: the WAKE command; the latch is set at the acknowledge. -/
def State.wakeCommand (s : State) : State :=
  if !s.power.lanternUp then s else
  ({ s with wake := { s.wake with sda := true, snap := [] } } : State).wakeBy 0

/-- WAKE_PORT_WAKE. -/
def execWakePortWake (s : State) : Host.Outcome State Fault Refusal := .next s.wakeCommand

/-- R401: a command byte other than WAKE: 0x10 to 0x2F sets the pointer and is acknowledged (DEDUCED in part: log entry 44). -/
def State.wakePointer (s : State) (p : Nat) : State :=
  if !s.power.lanternUp then s
  else if 0x10 ≤ p ∧ p ≤ 0x2F then { s with wake := { s.wake with ptr := p, snap := [], sda := true } }
  else { s with wake := { s.wake with snap := [], sda := false } }

/-- WAKE_PORT_POINTER. -/
def execWakePortPointer (p : Nat) (s : State) : Host.Outcome State Fault Refusal := .next (s.wakePointer p)

/-- R401: a read transaction of `n` bytes from a snapshot taken at its address; beyond 0x2F the bytes are 0xFF. The bus is
released after the last byte (DEDUCED in part: log entry 44). -/
def State.wakeRead (s : State) (n : Nat) : State :=
  if !s.power.lanternUp then s else
  let bytes := s.wakeBytes.drop (s.wake.ptr - 0x10)
  let out := (List.range n).map fun k => bytes.getD k 0xFF#8
  let s : State := { s with wake := { s.wake with ptr := min (s.wake.ptr + n) 0x30, snap := bytes.drop n, sda := false } }
  out.foldl (fun s b => s.emit (.wakeByte b.toNat)) s

/-- WAKE_PORT_READ. -/
def execWakePortRead (n : Nat) (s : State) : Host.Outcome State Fault Refusal := .next (s.wakeRead n)

/-- R459: SCL has stayed low for 25 ms: the device releases WSDA and waits for a START (DEDUCED in part: log entry 44). -/
def State.wakeTimeout (s : State) : State :=
  if s.power.lanternUp then { s with wake := { s.wake with snap := [], sda := false } } else s

/-- WAKE_PORT_TIMEOUT. -/
def execWakePortTimeout (s : State) : Host.Outcome State Fault Refusal := .next s.wakeTimeout

end Sys2Proof.Machine
end

