-- ==== Sys2Proof/Machine/RackLink.lean ====
section
/-! DEFINITION. Rack Link: reception, beacons, the cycle, slots, addresses, collisions and the link test (Rack Link). -/
namespace Sys2Proof.Machine

/-! ### Frames received (R418 to R422, R431) -/

/-- Header fields (Table 19.3). -/
def hdrDest (h : List Byte) : Nat := leNat (slice h 0 1)
def hdrSrc (h : List Byte) : Nat := leNat (slice h 1 1)
def hdrType (h : List Byte) : Nat := leNat (slice h 2 1)
def hdrLen (h : List Byte) : Nat := leNat (slice h 3 2)
def hdrTick (h : List Byte) : Nat := leNat (slice h 5 2)

/-- The CRC16 of a 9-byte header checks. -/
def hdrGood (h : List Byte) : Bool := h.length == 9 && crc16 (h.take 7) == leNat (slice h 7 2)

/-- What R422 makes of a header-valid frame. -/
inductive RxKind where
  | beacon
  | dictReq
  | wake
  | assign
  /-- a frame of the right form that is not for this node -/
  | other
  /-- counted in BAD_FRAMES -/
  | bad
deriving DecidableEq, Repr

/-- A node's own address range. -/
def isNode (a : Nat) : Bool := decide (a ≤ 0x1E)

/-- Table 19.4: the type goes from such a source to such a destination, with such a length (DEDUCED in part: log entry 45). -/
def frameForm (type dest src len : Nat) : Bool :=
  match type with
  | 1 => src == 0x20 && dest == 0xFF && len == 16
  | 2 => src == 0x20 && (decide (dest ≤ 0x1F) || dest == 0xFF) && decide (16 ≤ len)
  | 3 => isNode src && dest == 0x20 && decide (16 ≤ len)
  | 4 => src == 0x20 && (decide (dest ≤ 0x1F) || dest == 0xFF) && len == 0
  | 5 => isNode src && dest == 0x20 && len == 8
  | 6 => src == 0x1F && dest == 0x20 && len == 8
  | 7 => src == 0x20 && dest == 0xFF && len == 9
  | 8 => isNode src && isNode dest && len == 256
  | _ => false

/-- R424: a beacon's payload is valid. -/
def beaconGood (h p : List Byte) : Bool := leNat (p.take 6) % 1000 == 0 && hdrTick h == leNat (p.take 2)

/-- R422, R424, Table 19.6 (DEDUCED in part: log entry 45). -/
def State.rxKind (s : State) (h p : List Byte) : RxKind :=
  let mine := hdrDest h == s.rackAddr || hdrDest h == 0xFF
  if 256 < hdrLen h ∨ !frameForm (hdrType h) (hdrDest h) (hdrSrc h) (hdrLen h) then .bad
  else match hdrType h with
    | 1 => if beaconGood h p then .beacon else .bad
    | 2 => if mine then .dictReq else .other
    | 4 => if mine then .wake else .other
    | 7 => .assign
    | _ => .other

/-- The node transmits: the first frame left of the slot has begun. -/
def State.transmits (s : State) : Bool :=
  match s.rack.slot with
  | [] => false
  | f :: _ => decide (f.start < 125 * (s.rack.slotAge + 1))

/-- The receiver takes frames: PD22 is on and the node does not transmit (R431, R433). -/
def State.rackHears (s : State) : Bool := s.power.lanternUp && s.live 22 && !s.transmits

/-- R430: an address conflict (DEDUCED in part: log entry 45). -/
def State.addrConflict (s : State) : State :=
  ((s.incSat R.RL_ADDR_CONFLICTS_COUNT).raise E.RL_ADDR_CONFLICT).detect [115]

/-- A payload whose CRC-32 fails. -/
def State.payFail (s : State) : State := (s.incSat R.RL_PAY_CRC_ERRS_COUNT).detect [112]

/-- The block symbols of a payload of `n` bytes (R416). -/
def paySymbols (n : Nat) : Nat := 2 * ((16 * n + 78) / 3)

/-- The header that a line's header block decodes to. -/
def headerOf (syms : List Int) : List Byte := decodeBlock 9 syms

/-- R416, R420: the payload of `n` bytes that a block decodes to, and whether its CRC-32 checks. -/
def payloadOf (n : Nat) (syms : List Int) : List Byte × Bool :=
  let b := decodeBlock (n + 4) syms
  (b.take n, rackCrc (b.take n) == b.drop n)

/-- The frame that a line ends in, header and payload, where both check. A frame whose LEN is above 256 ends with its header. -/
def lineFrame (l : RxLine) : Option (List Byte × List Byte) :=
  let h := headerOf l.hdr
  let n := hdrLen h
  if l.hdr.length ≠ 104 ∨ !hdrGood h then none
  else if n = 0 ∨ 256 < n then some (h, [])
  else if l.pay.length ≠ paySymbols n then none
  else
    let p := payloadOf n l.pay
    if p.2 then some (h, p.1) else none

/-- R431: where the receiver stands: SEARCH, or HEADER or PAYLOAD of a frame with such a sync strength. -/
inductive RxLock where
  | search
  | header (strength : Nat)
  | payload (strength : Nat)
deriving DecidableEq, Repr

/-- STATUS.RX_STATE. -/
def RxLock.code : RxLock → Nat
  | .search => 0
  | .header _ => 1
  | .payload _ => 2

/-- R431: the receiver moves. -/
def State.rxMove (s : State) (l : RxLock) : State × RxLock := (s.wr R.RL_STATUS_RX_STATE l.code, l)

/-- The node is assigned (R428). -/
def State.isAssigned (s : State) : Bool := s.rackAddr != 31

/-- The first tick, counted from the cycle's start, of node slot `n` (Table 19.5) (DESIGN CHOICE in part: log entry 46). -/
def slotTick (n : Nat) : Nat := 20 + 28 * n

/-- The tick lies in the node's own slot (Table 19.5). -/
def State.inOwnSlot (s : State) : Bool :=
  let n := s.time.now % 1000
  s.isAssigned && decide (slotTick s.rackAddr ≤ n) && decide (n < slotTick (s.rackAddr + 1))

/-- R418, R430, R431: a frame begins with an accepted sync, which in the node's own slot shows a conflict. -/
def State.rxBegin (s : State) (x : RxSync) : State × RxLock :=
  let s := if syncErrors x.syms = 0 then s else s.incSat R.RL_SYNC_CORRECTED_COUNT
  (if s.inOwnSlot then s.addrConflict else s).rxMove (.header (strength x))

/-- Table 19.6: a sync reaches the receiver. -/
def State.rxSync (a : State × RxLock) (x : RxSync) : State × RxLock :=
  if !syncGood x then a
  else match a.2 with
    | .search => a.1.rxBegin x
    | .header _ => (a.1.incSat R.RL_FALSE_SYNCS_COUNT).rxBegin x
    | .payload p =>
      if 2 * p ≤ strength x then
        (((a.1.incSat R.RL_CAPTURES_COUNT).raise E.RL_CAPTURE).detect [113]).rxBegin x
      else a

/-- R430: a header-valid frame that names the node itself as its source. In its own slot the sync has shown the conflict. -/
def State.ownSource (s : State) (h : List Byte) : State :=
  if isNode s.rackAddr && hdrSrc h == s.rackAddr && !s.inOwnSlot then s.addrConflict else s

/-- Table 19.6: a header block that checks moves the receiver from HEADER to PAYLOAD. -/
def State.rxHeader (a : State × RxLock) (h : List Byte) : State × RxLock :=
  match a.2 with
  | .header p => (a.1.ownSource h).rxMove (.payload p)
  | _ => a

/-- A frame that a later sync cuts off: in HEADER, or in PAYLOAD once its header has been decoded and has checked. -/
def State.rxCut (a : State × RxLock) (c : RxCut) : State × RxLock :=
  let a := State.rxSync a c.sync
  let h := headerOf c.hdr
  if c.hdr.length = 104 ∧ hdrGood h ∧ 1 ≤ hdrLen h ∧ hdrLen h ≤ 256 then State.rxHeader a h else a

/-- The receiver up to the header block of a line's frame; whether it is this frame that it takes. -/
def State.rxLine (s : State) (l : RxLine) : State × Bool :=
  let a := State.rxSync (l.cuts.foldl State.rxCut (s, .search)) l.sync
  (a.1, syncGood l.sync && a.2 == .header (strength l.sync))

/-- R431: the frame is complete or dropped, and the receiver searches. -/
def State.rxClose (s : State) : State := (s.rxMove .search).1

/-- A frame whose blocks both check: the injected CRC error of R432, the count of R422, and `run` on a frame that is complete, where
its kind is one of `k` (DEDUCED in part: log entry 45). -/
def State.rxFrame (s : State) (l : RxLine) (k : RxKind → Bool) (run : List Byte → List Byte → State → State) : State :=
  match lineFrame l with
  | none => s
  | some (h, p) =>
    if !s.rackHears || !k (s.rxKind h p) then s
    else
      let kind := s.rxKind h p
      let a := s.rxLine l
      if !a.2 then a.1.rxClose
      else
        let block := decide (1 ≤ hdrLen h) && decide (hdrLen h ≤ 256)
        let s := if block then (a.1.ownSource h).wr R.RL_STATUS_RX_STATE 2 else a.1.ownSource h
        if block && s.injOn 6 0 then s.injStep.payFail.rxClose
        else
          let s := if kind = .bad then s.incSat R.RL_BAD_FRAMES_COUNT
            else if kind = .other then s else s.inc R.RL_FRAMES_RX_COUNT
          run h p s.rxClose

/-- RL_CRC_FAIL: CRC16 or CRC-32 fails. -/
def State.rackCrcFail (s : State) (l : RxLine) : State :=
  let h := headerOf l.hdr
  if !s.rackHears || (lineFrame l).isSome || l.hdr.length != 104 || (hdrGood h && l.pay.length != paySymbols (hdrLen h)) then s
  else
    let a := s.rxLine l
    if !a.2 then a.1.rxClose
    else if !hdrGood h then ((a.1.incSat R.RL_HDR_CRC_ERRS_COUNT).detect [112]).rxClose
    else
      let s := a.1.ownSource h
      (if s.injOn 6 0 then s.injStep else s).payFail.rxClose

/-- RL_CRC_FAIL. -/
def execRlCrcFail (note : RxNote) (hdr : List Int) (s : State) (pay : List Int := []) : Host.Outcome State Fault Refusal :=
  .next (s.rackCrcFail (note.line hdr pay))

/-- RL_DISCARDED_FRAME. -/
def execRlDiscardedFrame (note : RxNote) (hdr pay : List Int) (s : State) : Host.Outcome State Fault Refusal :=
  .next (s.rxFrame (note.line hdr pay) (fun k => k = .bad || k = .other) fun _ _ s => s)

/-! ### The receive buffers and what the management core takes (R400, R429, R432) -/

/-- The management core takes frames: it is not being restarted or loaded. -/
def State.rackTakes (s : State) : Bool :=
  let f := s.rd R.MGMT_STATUS_FW_STATE
  s.live 11 && (f == 2 || f == 3 || f == 4)

/-- R429 step 3: the address is written as by the device itself. -/
def State.assigned (s : State) (a : Nat) : State :=
  if isNode a then
    (({ s with rack := { s.rack with pendingAddr := some a, assign := .ready } } : State).raise E.RL_ADDR_CHANGED).markUnsaved
  else s

/-- R396, R429: a frame taken. An ASSIGN has an effect only with ASSIGN_EN and the node's own serial number; what a BEACON, a WAKE or a
LINK_TEST does it has done as it was received (DEDUCED in part: log entry 45). -/
def State.rackTake (s : State) (f : RxFrame) : State :=
  if f.type = 2 then s.dictArrive 1 f.payload
  else if f.type = 7 ∧ s.fwRuns ∧ s.is R.RL_CTRL_ASSIGN_EN ∧ leNat (f.payload.take 8) = s.fuseWord 0 then
    s.assigned (leNat (slice f.payload 8 1))
  else s

/-- R432: an accepted frame that the management core cannot take at once waits in a buffer. A dictionary request among them is
answered RESTARTING when it is taken, since it arrived while firmware was not running; it wakes the device from DOZE at once
(R396). -/
def State.rackBuffer (s : State) (f : RxFrame) : State :=
  let s := if f.type = 2 then s.inbound (.dict 1) else s
  if s.rack.rx.length < 4 then { s with rack := { s.rack with rx := s.rack.rx ++ [f] } } else s.incSat R.RL_RX_OVERRUNS_COUNT

/-- The buffered frames taken once the management core is ready (DEDUCED in part: log entry 45). -/
def State.rackDrain (s : State) : State :=
  if !s.rackTakes || s.rack.rx.isEmpty then s
  else
    let fs := s.rack.rx
    let s : State := { s with rack := { s.rack with rx := [] } }
    fs.foldl (fun s f =>
      if f.type = 2 then s.dictAnswer 1 (drspAbort (dreqOf f.payload) 0 0x0C 0) else s.rackTake f) s

/-- R432: every receive buffer holds a frame. -/
def State.rxFull (s : State) : Bool := decide (4 ≤ s.rack.rx.length)

/-- R432: an accepted frame. In EMBER the Rack Link block answers requests, and an ASSIGN has no effect
(DEDUCED in part: log entry 45). -/
def State.rackAccept (s : State) (f : RxFrame) : State :=
  if s.pstate = 3 then (if f.type = 2 then s.dictArrive 1 f.payload else s)
  else if s.rackTakes then s.rackTake f
  else s.rackBuffer f

/-- R432: an accepted frame whose effect `run` the receiver itself has, unless every buffer is full
(DEDUCED in part: log entry 45). -/
def State.rackHardware (s : State) (f : RxFrame) (run : State → State) : State :=
  if s.pstate ≠ 3 ∧ !s.rackTakes ∧ s.rxFull then s.rackBuffer f else run (s.rackAccept f)

/-- DICT_REQ. -/
def execDictReq (note : RxNote) (hdr pay : List Int) (s : State) : Host.Outcome State Fault Refusal :=
  .next (s.rxFrame (note.line hdr pay) (fun k => k = .dictReq) fun h p s => s.rackAccept ⟨2, hdrSrc h, p⟩)

/-- ASSIGN. -/
def execAssign (note : RxNote) (hdr pay : List Int) (s : State) : Host.Outcome State Fault Refusal :=
  .next (s.rxFrame (note.line hdr pay) (fun k => k = .assign) fun h p s => s.rackAccept ⟨7, hdrSrc h, p⟩)

/-- WAKE_FRAME: WAKE_RX, and the wake of Table 11.6. -/
def execWakeFrame (note : RxNote) (hdr : List Int) (s : State) (pay : List Int := []) : Host.Outcome State Fault Refusal :=
  .next (s.rxFrame (note.line hdr pay) (fun k => k = .wake) fun h _ s =>
    s.rackHardware ⟨4, hdrSrc h, []⟩ fun s => (s.raise E.RL_WAKE_RX).wakeBy 3)

/-! ### Beacons and the cycle (R412, R413, R423, R424) -/

/-- R412: the canceller adapts: what its taps become is not stated, free values (DESIGN CHOICE in part: log entry 46). -/
def State.adapt (s : State) : State :=
  let d := s.draw
  { d.2 with rack := { d.2.rack with taps := (List.range 64).map fun k => Config.freeNat (64 * d.1 + k) } }

/-- R412: an adaptation, and the residual measured after it. -/
def State.residual (s : State) (db : Nat) : State :=
  let s := s.adapt.wr R.RL_EC_RESIDUAL_DB (min db 255)
  if 20 ≤ db ∧ !s.is R.RL_STATUS_EC_CONVERGED then
    ((s.set R.RL_STATUS_EC_CONVERGED).raise E.RL_EC_CONVERGED).set R.RL_STATUS_TX_ALLOWED
  else s

/-- A valid beacon. -/
def State.beacon (s : State) (t db : Nat) (p : List Byte) : State :=
  let n := leNat (p.take 6)
  let flags := leNat (slice p 10 1)
  let s := (s.wr R.RL_GRANT_SLOTS (leNat (slice p 6 4))).wr R.RL_BEACON_TICK_TICK n
  let s := (s.set R.RL_STATUS_BEACON_THIS_CYCLE).incSat R.RL_STATUS_BEACONS_SEEN
  let s := s.residual db
  let s := if 5 ≤ s.rd R.RL_STATUS_BEACONS_SEEN then s.set R.RL_STATUS_TX_ALLOWED else s
  let s : State := { s with rack := { s.rack with
    assignOpen := flags.testBit 0, linkTest := flags.testBit 1, testA := leNat (slice p 11 1), testB := leNat (slice p 12 1),
    lastBeacon := n } }
  s.beaconTime t n

/-- BEACON: `t` is the instant taken for it, and `db` the residual measured on it. -/
def execBeacon (t : Nat) (note : RxNote) (db : Nat) (hdr pay : List Int) (s : State) : Host.Outcome State Fault Refusal :=
  .next (s.rxFrame (note.line hdr pay) (fun k => k = .beacon) fun h p s =>
    s.rackHardware ⟨1, hdrSrc h, p⟩ fun s => s.beacon t db p)

/-- R428: the address in force changed (DEDUCED in part: log entry 45). -/
def State.setAddress (s : State) (a : Nat) : State :=
  if a = s.rackAddr then s
  else ((s.wr R.RL_STATUS_ADDRESS a).wrB R.RL_STATUS_ASSIGNED (a != 31)).raise E.RL_ADDR_CHANGED

/-- R429: one cycle passes. -/
def AssignPhase.next : AssignPhase → AssignPhase
  | .ready => .ready
  | .sent n => .sent (n + 1)
  | .wait n => if n ≤ 1 then .ready else .wait (n - 1)

/-- R423, R428: a cycle starts at a tick that is a multiple of 1,000 (DESIGN CHOICE in part: log entry 46). -/
def State.rlCycle (s : State) : State :=
  if !s.power.lanternUp || !s.live 22 || s.time.now % 1000 != 0 then s
  else
    let s := s.clr R.RL_STATUS_BEACON_THIS_CYCLE
    let s := match s.rack.pendingAddr with
      | some a => s.setAddress (a % 32)
      | none => s
    { s with rack := { s.rack with
      pendingAddr := none, assignOpen := false, linkTest := false, testA := 0xFF, testB := 0xFF,
      assign := if s.rackAddr = 31 then s.rack.assign.next else .ready } }

/-- RL_CYCLE_START. -/
def execRlCycleStart (s : State) : Host.Outcome State Fault Refusal := .next s.rlCycle

/-- R424: the beacon slot has passed without a valid beacon (DESIGN CHOICE in part: log entry 46). -/
def State.noBeacon (s : State) : State :=
  if s.power.lanternUp && s.live 22 && s.time.now % 1000 == 20 && !s.is R.RL_STATUS_BEACON_THIS_CYCLE then
    (s.incSat R.RL_BEACONS_LOST_COUNT).raise E.RL_BEACON_LOST
  else s

/-- BEACON_LOST. -/
def execBeaconLost (s : State) : Host.Outcome State Fault Refusal := .next s.noBeacon

/-! ### Slots (R425, R426, R429) -/

/-- A frame placed in the slot under way, `start` symbols after the tick `now`. -/
def State.placed (s : State) (f : TxFrame) (start : Nat) : SlotTx :=
  ⟨f, frameBytes f.dest s.rackAddr f.type ((s.time.now + start / 125) % 65536) f.payload, start, start + frameSymbols f.payload.length⟩

/-- R425, R426: frames placed one after the other, 25 symbols apart, until the first that would not fit. -/
def State.slotPlace (s : State) : List TxFrame → Nat → List SlotTx
  | [], _ => []
  | f :: fs, start =>
    if start + frameSymbols f.payload.length ≤ 3450 then
      s.placed f start :: s.slotPlace fs (start + frameSymbols f.payload.length + 25)
    else []

/-- R421: the STATUS frame. -/
def State.statusFrame (s : State) : TxFrame :=
  ⟨false, 5, 0x20, leBytes 4 s.summary ++ tempI16 s.hottest.2 ++ leBytes 2 (s.rd R.THERMAL_PKG_POWER_POWER), 0, 0⟩

/-- The node's own slot starts (DESIGN CHOICE in part: log entry 46). -/
def State.ownSlot (s : State) : Bool :=
  s.power.lanternUp && s.live 22 && s.isAssigned && s.time.now % 1000 == slotTick s.rackAddr && s.rack.slot.isEmpty

/-- R425: the conditions for the slot, without its GRANT bit. -/
def State.slotMay (s : State) : Bool := s.isAssigned && s.is R.RL_STATUS_BEACON_THIS_CYCLE && s.rackMay

/-- R434: slot TEST_A of this cycle is taken by a link test. -/
def State.testSlot (s : State) : Bool := s.rack.linkTest && s.rack.testA == s.rackAddr

/-- R425, R426, R430: the node's slot: a foreign sync while it is silent, and its frames, which leave it as they end. A response
must have been complete 20 µs before the slot (DESIGN CHOICE in part: log entry 46). -/
def State.nodeSlot (s : State) (db : Nat) (foreign : Bool) : State :=
  if !s.ownSlot then s
  else
    let s := (if foreign then s.addrConflict else s).rackReturn
    let ready := s.rack.tx.filter fun f => f.rsp && decide (3 ≤ f.age)
    let other := s.rack.tx.filter fun f => !f.rsp
    let status := if s.is R.RL_CTRL_STATUS_EN && s.pstate != 3 then [s.statusFrame] else []
    let go := s.slotMay && (s.rd R.RL_GRANT_SLOTS).testBit s.rackAddr && !s.testSlot
    let frames := if !go then [] else s.slotPlace (ready ++ (if s.pstate = 3 then [] else other) ++ status) 50
    if frames.isEmpty then s
    else
      let left := frames.foldl (fun tx f => dropFirst (· == f.frame) tx) s.rack.tx
      ({ s with rack := { s.rack with tx := left, slot := frames, slotAge := 0 } } : State).residual db

/-- NODE_SLOT: `db` is the residual measured while it transmits; `foreign`, that a sync is accepted in the slot while it does
not. -/
def execNodeSlot (db : Nat) (foreign : Bool) (s : State) : Host.Outcome State Fault Refusal := .next (s.nodeSlot db foreign)

/-- A frame sent in full. -/
def State.frameSent (s : State) (f : SlotTx) : State :=
  (s.inc R.RL_FRAMES_TX_COUNT).emit (.rackLink (if s.isAssigned then s.rackAddr else 31) f.bytes (frameLine f.bytes))

/-- One tick of a slot: frames that have ended leave the device; under a fence or SAFE the transmitter is silent and the frames
go back (DESIGN CHOICE in part: log entry 46). -/
def State.slotStep (s : State) : State :=
  if s.rack.slot.isEmpty then s
  else if !s.rackMay then
    let fs := s.rack.slot.filter (·.frame.type != 6)
    ({ s with rack := { s.rack with slot := [], tx := fs.map (·.frame) ++ s.rack.tx } } : State).rackReturn
  else
    let age := s.rack.slotAge + 1
    let ended := s.rack.slot.filter fun f => decide (f.stop ≤ 125 * age)
    let s : State := { s with rack := { s.rack with slot := s.rack.slot.filter (fun f => !decide (f.stop ≤ 125 * age)), slotAge := age } }
    ended.foldl State.frameSent s

/-- R429 step 2: a wait of 1 to 8 cycles (DESIGN CHOICE in part: log entry 43). -/
def State.assignWait (s : State) : State :=
  let d := s.draw
  { d.2 with rack := { d.2.rack with assign := .wait (1 + Config.freeNat d.1 % 8) } }

/-- R414: a residual above the threshold, in mV, on 8 of some 16 consecutive symbols. -/
def foreignSymbols (limit : Nat) : List Nat → Bool
  | [] => false
  | x :: l => decide (8 ≤ (((x :: l).take 16).filter fun v => decide (limit < v)).length) || foreignSymbols limit l

/-- R414: the threshold, before and after EC_CONVERGED. -/
def State.collisionLimit (s : State) : Nat := if s.is R.RL_STATUS_EC_CONVERGED then 350 else 600

/-- R414, R426: foreign symbols while the node transmits: the frame under way has not been sent. `res` are the residuals of
consecutive symbols, in mV. -/
def State.collision (s : State) (res : List Nat) : State :=
  match s.rack.slot with
  | [] => s
  | f :: fs =>
    if !s.live 22 || !s.transmits || !foreignSymbols s.collisionLimit res then s else
    let s : State := { s with rack := { s.rack with slot := fs } }
    let s := if f.frame.type = 6 then s.assignWait else s.rackRetry f.frame
    ((s.incSat R.RL_COLLISIONS_COUNT).raise E.RL_COLLISION).detect [114]

/-- COLLISION. -/
def execCollision (s : State) (residual : List Nat := []) : Host.Outcome State Fault Refusal := .next (s.collision residual)

/-- R429 step 1: an ASSIGN_REQ in a random sub-slot, 50 symbols after its start, unless an address has been written that takes
effect with the next cycle (step 3). The contention window starts at tick 916 of the cycle, and a sub-slot lasts 1,312.5 symbols
(DESIGN CHOICE in part: log entry 43). -/
def State.assignReq (s : State) (db : Nat) : State :=
  if !(s.power.lanternUp && s.live 22) || s.isAssigned || !s.is R.RL_CTRL_ASSIGN_EN || !s.fwRuns || !s.rackMay ||
      !s.is R.RL_STATUS_BEACON_THIS_CYCLE || !s.rack.assignOpen || s.rack.assign != .ready || !s.rack.slot.isEmpty ||
      s.rack.pendingAddr.any isNode || s.time.now % 1000 != 916 then s
  else
    let d := s.draw
    let s := d.2
    let start := Config.freeNat d.1 % 8 * 2625 / 2 + 50
    let f : TxFrame := ⟨false, 6, 0x20, leBytes 8 (s.fuseWord 0), 0, 0⟩
    ({ s with rack := { s.rack with assign := .sent 0, slot := [s.placed f start], slotAge := 0 } } : State).residual db

/-- ASSIGN_REQ_SLOT. -/
def execAssignReqSlot (s : State) (db : Nat := 0) : Host.Outcome State Fault Refusal := .next (s.assignReq db)

/-- R429 step 2: no matching ASSIGN within the next 3 cycles. -/
def State.assignRetry (s : State) : State :=
  match s.rack.assign with
  | .sent n => if s.live 22 && decide (4 ≤ n) then s.assignWait else s
  | _ => s

/-- ASSIGN_RETRY. -/
def execAssignRetry (s : State) : Host.Outcome State Fault Refusal := .next s.assignRetry

/-! ### The link test (R434) -/

/-- `n` bits of PRBS31, x^31 + x^28 + 1: the register's oldest bit is the output (PRESUMED in part: log entry 47). -/
def prbs31 : Nat → Nat → List Bool
  | 0, _ => []
  | n + 1, r => r.testBit 30 :: prbs31 n ((2 * r + b2n (r.testBit 30 != r.testBit 27)) % 2 ^ 31)

/-- Bits to bytes, the first bit in bit 0 of the first byte. -/
def bitBytes (n : Nat) (bs : List Bool) : List Byte :=
  (List.range n).map fun k => BitVec.ofNat 8 (mapOf 8 fun i => bs.getD (8 * k + i) false)

/-- The LINK_TEST payload, from a seed of all ones (PRESUMED in part: log entry 47). -/
def linkTestBytes : List Byte := bitBytes 256 (prbs31 2048 (2 ^ 31 - 1))

/-- Bits in error; a frame that fails its checks counts all of them. -/
def linkTestErrors (got : Option (List Byte)) : Nat :=
  match got with
  | none => 2048
  | some p => ((List.range 256).map fun k => popCount 8 ((p.getD k 0).toNat ^^^ (linkTestBytes.getD k 0).toNat)).sum

/-- R434: the payload of a LINK_TEST frame from node `peer` to node `me`, where both of its blocks check. -/
def testPayload (me peer : Nat) (l : RxLine) : Option (List Byte) :=
  if !syncGood l.sync then none
  else match lineFrame l with
    | some (h, p) => if hdrType h = 8 ∧ hdrSrc h = peer ∧ hdrDest h = me ∧ hdrLen h = 256 then some p else none
    | none => none

/-- R422, R432, R434: what the node makes of its peer's frame: its payload, in a receive buffer. -/
def State.linkTestGot (s : State) (peer : Nat) (l : RxLine) : State × Option (List Byte) :=
  let h := headerOf l.hdr
  if !syncGood l.sync then (s, none) else
  let s := if syncErrors l.sync.syms = 0 then s else s.incSat R.RL_SYNC_CORRECTED_COUNT
  if !hdrGood h then ((s.incSat R.RL_HDR_CRC_ERRS_COUNT).detect [112], none)
  else match lineFrame l with
    | none => (s.payFail, none)
    | some (_, p) =>
      if s.injOn 6 0 && decide (1 ≤ hdrLen h) && decide (hdrLen h ≤ 256) then (s.injStep.payFail, none)
      else if (testPayload s.rackAddr peer l).isNone then
        (if s.rxKind h p = .bad then s.incSat R.RL_BAD_FRAMES_COUNT else s, none)
      else if !s.rackTakes && s.rxFull then (s.rackBuffer ⟨8, peer, p⟩, none)
      else ((s.inc R.RL_FRAMES_RX_COUNT).rackAccept ⟨8, peer, p⟩, some p)

/-- LINK_TEST_SLOT: `got` is what arrived of the peer's frame, and `db` the residual measured. -/
def State.linkTestRun (s : State) (db : Nat) (got : Option RxLine) : State :=
  let a := s.rack.testA
  let b := s.rack.testB
  let me := s.rackAddr
  if !(s.power.lanternUp && s.live 22) || s.pstate = 3 || !s.rack.linkTest || !(me == a || me == b) || a == b || !isNode a ||
      !isNode b || !s.slotMay || !s.is R.RL_STATUS_EC_CONVERGED || s.time.now % 1000 != slotTick a || !s.rack.slot.isEmpty then s
  else
    let peer := if me = a then b else a
    let s := (s.frameSent (s.placed ⟨false, 8, peer, linkTestBytes, 0, 0⟩ 50)).residual db
    let g := match got with
      | some l => s.linkTestGot peer l
      | none => (s, none)
    let s := (g.1.wr R.RL_LT_RESULT_PEER peer).set R.RL_LT_RESULT_VALID
    ((s.wr R.RL_LT_BITS_COUNT 2048).wr R.RL_LT_ERRORS_COUNT (linkTestErrors g.2)).raise E.RL_LT_DONE

/-- LINK_TEST_SLOT. -/
def execLinkTestSlot (got : Option RxLine) (s : State) (db : Nat := 0) : Host.Outcome State Fault Refusal :=
  .next (s.linkTestRun db got)

end Sys2Proof.Machine
end

