-- ==== Sys2Proof/Machine/RegRead.lean ====
section
/-! DEFINITION. Register reads: BAR0, BAR4 and configuration space, by the host or by firmware (R141, R167 to R170, R174, R176,
R470, R472). -/
namespace Sys2Proof.Machine

/-- R170: a read of 1 or 2 double words, aligned to its length. -/
def readForm (off n : Nat) : Bool := (n == 1 || n == 2) && off % (4 * n) == 0

/-- Word `i` of register read `id` of BAR0: a bench register over the shaft, any other one here. A _LO word latches its pair. -/
def State.readReg (s : State) (id i off : Nat) : State :=
  if overShaft off && s.blockOn off then
    s.regAccess (off / 0x10000 - 0x20) ⟨(off % 0x10000 - 0x1000) / 4, false, 0, .read id i⟩
  else (s.loRead off).regWordIn id i ((s.loRead off).readWord off)

/-- A register read performed as single words, the lower address first. -/
def State.readRegs (s : State) (src : RegSrc) (space : Space) (off n tag : Nat) : State :=
  let id := s.cache.nextId
  (List.range n).foldl (fun s k =>
    let o := off + 4 * k
    match space with
    | .bar0 => s.readReg id k o
    | .bar4 => s.regWordIn id k (s.bar4Read o)
    | .config => s.regWordIn id k (s.cfgRead o)) (s.regOpen src tag off n)

/-- A register read over the host link (Table 07.6). -/
def State.hostRegRead (s : State) (rid : Nat) (space : Space) (off n tag : Nat) : State :=
  let src := RegSrc.host rid
  let bar := if space = .bar4 then 2 else 0
  let q : HostRd := ⟨off, 4 * n, rid, tag, none, false⟩
  if !s.linkOn || !s.rxRoom false 0 then s
  else if space = .config then (if readForm off n && n == 1 then (s.inbound src).readRegs src space off n tag else s)
  else if !s.memOn then s.refuseRead none q 1
  else if !readForm off n then s.notIdle.dozeExit.refuseHost .form true bar off rid (some q)
  else if !s.wordsDefined space off n then s.notIdle.dozeExit.refuseHost .unimpl false bar off rid (some q)
  else (s.inbound src).readRegs src space off n tag

/-- A register read by the host or by firmware (DEDUCED in part: log entry 13). -/
def State.registerRead (s : State) (src : RegSrc) (space : Space) (off n tag : Nat) : State :=
  match src with
  | .host rid => s.hostRegRead rid space off n tag
  | _ => if space = .bar0 && readForm off n then s.readRegs src space off n tag else s

/-- LO_READ_LATCH: a register read, which latches the upper half where it covers the _LO word of a pair. -/
def execLoReadLatch (r : RegReadReq) (s : State) : Host.Outcome State Fault Refusal :=
  .next (s.registerRead r.src r.space r.off r.words r.tag)

end Sys2Proof.Machine
end

