-- ==== Sys2Proof/Machine/Startup.lean ====
section
/-! DEFINITION. Supplies, resets of the base die, start-up and the exit from EMBER (Start-up and reset). -/
namespace Sys2Proof.Machine

/-! ### Entering a base-die reset (R447 to R450) -/

/-- R161: what every powered bench does on HOLD, or as it loses frame lock for good: accepted commands complete and its layers
enter self-refresh. -/
def State.benchesHold (s : State) : State :=
  (List.range s.nBench).foldl (fun s b =>
    if s.live (benchDom b 0) then
      (s.completeAccepted b).modBench b fun x => { x with selfRefresh := true, paused := none, retaining := false }
    else s) s

/-- R161: HOLD sent to every bench whose link is active, as the last thing before a reset that was requested. -/
def State.sendHolds (s : State) : State :=
  (List.range s.nBench).foldl (fun s b => if s.linkState b = linkActive then s.sendDown b 0x40 ⟨0, 0, [], []⟩ else s) s

/-- R449, R473: the base die enters reset (DEDUCED in part: log entry 31). -/
def State.enterReset (s : State) (cause : Nat) (flushed : Bool) : State :=
  let s := ((s.wr R.GLOBAL_RESET_INFO_CAUSE cause).wrB R.GLOBAL_RESET_INFO_FLUSHED flushed).incSat R.GLOBAL_RESET_COUNT_COUNT
  let s := (s.benchesHold.wr R.POWER_STATUS_STATE 0).seqIdle
  let s : State := { s with
    power := { s.power with
      inReset := true, resetReq := none, perstHeld := false, pauseTo := none, riseAt := none, idleTicks := 0 }
    pins := { s.pins with vid := 2 } }
  s.loseBaseDie.drivePins

/-- R447 steps 1 to 5 of R185 as far as they can be taken now; the reset is entered once everything has been written back. A
request made while the sequencer is busy waits for it (DEDUCED in part: log entry 31). -/
def State.resetSettle (s : State) : State :=
  match s.power.resetReq with
  | none => s
  | some r =>
    if s.power.seq ≠ .idle then s
    else
      let s := if r.step ≠ 0 then s
        else
          let s := if s.live 9 then s.haulStop else s
          if s.cache.port.isEmpty then s else s.acceptHost
      let step := if r.step = 2 then 2
        else if !s.hostServed || s.cache.flush.isSome || s.shiftState == 3 then 1 else 2
      let clearing := s.is R.CODE_CODE_STATUS_CLEAR_BUSY
      let s := if step = 2 && r.step != 2 && !clearing && s.cacheOn then s.flushAll else s
      if step = 2 && (clearing || s.flushedOut) then
        (if r.persist && s.fwRuns then s.persistAll else s).sendHolds.enterReset r.cause true
      else { s with power := { s.power with resetReq := some { r with step := step } } }

/-- R447, R448, R474: a base-die reset requested by PERST# or by RESET_CTRL. PERST# merges with a request that runs, whose log
is then not persisted unless it has been. -/
def State.requestReset (s : State) (cause : Nat) (persist : Bool) : State :=
  match s.power.resetReq with
  | some r =>
    if cause = 1 then { s with power := { s.power with resetReq := some { r with persist := false } } } else s
  | none =>
    if s.is R.FAULT_STATUS_SAFE then
      (if persist && s.fwRuns then s.persistAll else s).enterReset cause false
    else ({ s with power := { s.power with resetReq := some ⟨cause, persist, 0⟩ } } : State).resetSettle

/-- R256, R447: PERST# acted on in the state the device is in. -/
def State.perstAct (s : State) : State :=
  let s : State := { s with power := { s.power with perstHeld := false } }
  match s.pstate with
  | 0 | 1 => s.requestReset 1 false
  | 2 => if s.is R.POWER_CTRL_PERST_EMBER then s.requestState 3 4 else s.requestReset 1 false
  | _ => s

/-- PERST# held during an entry or an exit is acted on when it has ended. -/
def State.perstSettle (s : State) : State := if s.power.perstHeld && s.power.seq == .idle then s.perstAct else s

/-- R350, R359: a reset event while the base die is held in reset: PD23 is reset with it, and its next release senses the fuses
again. -/
def State.unhold (s : State) : State :=
  if s.fuse.hold then ({ s with fuse := { s.fuse with hold := false } } : State).loseBaseDie.drivePins else s

/-- PERST_ASSERT: the link goes down and a host-held token is released; a tripped device ignores PERST#
(DEDUCED in part: log entry 31). -/
def State.perstAssert (s : State) : State :=
  let s : State := { s with pins := { s.pins with perst := true } }
  if !s.power.lanternUp || s.thermal.trip.isSome then s
  else
    let s := s.hostTokenLost
    if s.power.inReset then s.unhold
    else
      let s := if s.live 2 then s.linkDownNow else s
      if s.power.seq ≠ .idle then { s with power := { s.power with perstHeld := true } } else s.perstAct

/-- PERST_ASSERT. -/
def execPerstAssert (s : State) : Host.Outcome State Fault Refusal := .next s.perstAssert

/-- PERST_DEASSERT: WAKE# is released, and the device wakes from EMBER (R261, R263). -/
def State.perstDeassert (s : State) : State :=
  let s : State := { s with pins := { s.pins with perst := false, wake := false } }
  if s.power.lanternUp then s.wakeBy 1 else s

/-- PERST_DEASSERT. -/
def execPerstDeassert (s : State) : Host.Outcome State Fault Refusal := .next s.perstDeassert

/-- R474: a write of RESET_CTRL with BASE_RESET at 1 (DEDUCED in part: log entry 31). -/
def State.baseReset (s : State) (src : RegSrc) (key : Nat) : State :=
  if !s.live 3 then s
  else match src with
    | .host _ =>
      if !s.host.flr.isNone then s
      else if key % 65536 ≠ 0xB5E7 then s.refuse src R.GLOBAL_RESET_CTRL_BASE_RESET.off
      else if s.power.resetReq.isSome then s
      else s.requestReset 2 true
    | _ => s.refuse src R.GLOBAL_RESET_CTRL_BASE_RESET.off

/-- BASE_RESET. -/
def execBaseReset (src : RegSrc) (key : Nat) (s : State) : Host.Outcome State Fault Refusal := .next ((s.inbound src).baseReset src key)

/-- An exit from EMBER cut off by a supply or REFCLK: the device is in EMBER again, with the wake held
(DEDUCED in part: log entry 30). -/
def State.emberAgain (s : State) : State :=
  (s.offBut (s.stateDoms 3)).seqIdle.drivePins

/-- R448: an unflushed reset, with the fault source that recorded it. Nothing is lost in EMBER, in reset or after a trip
(DEDUCED in part: log entry 31). -/
def State.dropReset (s : State) (source cause : Nat) : State :=
  if !s.power.lanternUp then s
  else if s.power.inReset then s.unhold
  else if s.thermal.trip.isSome then s
  else if s.pstate = 3 then (if s.power.seq = .exiting then s.emberAgain else s)
  else (s.capture source (s.rd R.FAULT_REACT_REACTION [source])).1.enterReset cause false

/-- VDD_CORE_LOW. The TAP, which VDD_CORE supplies, will select IDCODE again (R463). -/
def execVddCoreLow (s : State) : Host.Outcome State Fault Refusal :=
  .next (({ s with pins := { s.pins with core := false, tapIr := 1, tapBypass := false } } : State).dropReset 0 3)

/-- REFCLK_LOSS. -/
def execRefclkLoss (s : State) : Host.Outcome State Fault Refusal :=
  .next (({ s with pins := { s.pins with refclk := false } } : State).dropReset 6 4)

/-! ### Leaving reset (R437 to R442, R450) -/

/-- Supplies and REFCLK present (DEDUCED in part: log entry 31). -/
def State.supplied (s : State) : State := { s with pins := { s.pins with core := true, rails := true, refclk := true } }

/-- The domains of Table 20.1's first row. -/
def firstDoms : List Nat := [23, 3, 11, 12, 0, 1, 2]

/-- R369: the boot ROM reads the flash's JEDEC ID and size. -/
def State.readFlash (s : State) : State :=
  (s.wr R.MGMT_FLASH_ID_JEDEC_ID Config.flashId.toNat).wr R.MGMT_FLASH_SIZE_MIB Config.flashMib.toNat

/-- BASE_DIE_RESET_EXIT: the conditions of R439 hold; the command stands for the supplies and REFCLK among them. SAFE ends, and
the write generation restarts from the tick number (R58) (DESIGN CHOICE in part: log entry 2). -/
def State.resetExit (s : State) (bootsel : Bool) : State :=
  let s := s.resetSettle
  if !s.power.lanternUp || !s.power.inReset || s.pins.perst || s.thermal.trip.isSome || s.pstate == 3 || s.fuse.hold then s
  else
    let s := s.supplied
    let s : State := { s with
      pins := { s.pins with bootsel := bootsel }
      power := { s.power with inReset := false }
      ras := { s.ras with gen := s.time.now % 2 ^ 24 } }
    ((s.onUpTo firstDoms).clr R.FAULT_STATUS_SAFE).drivePins.readFlash.srResetExit

/-- BASE_DIE_RESET_EXIT. -/
def execBaseDieResetExit (bootsel : Bool) (s : State) : Host.Outcome State Fault Refusal := .next (s.resetExit bootsel)

/-- R450: LAYER_STATE loaded from the save; a REJOINING layer restarts its sweep from slab 0. -/
def State.reloadLayers (s : State) : State :=
  let s := s.loadLayers
  let s := (s.wr R.CODE_CODE_STATUS_OFFLINE_COUNT s.offline).wr R.CODE_CODE_STATUS_PROTECTION s.protection
  if (List.range s.nLayer).any fun n => s.layer n == 2 then
    ({ s with ras := { s.ras with rejoinNext := some 0 } } : State).set R.CODE_CODE_STATUS_REJOIN_BUSY
  else s

/-- R359, R440, R445: fuse sensing ends. A privileged region that fails holds the base die in reset; otherwise the domains of
ACTIVE come on, the thermal model and the governor start, and the boot ROM runs. -/
def State.sensingDone (s : State) (reads : List FuseRead) : State :=
  if !s.live 23 || s.is R.FUSE_STATUS_SENSED then s
  else
    let s := s.sense reads
    if s.fuse.hold then
      let s := (s.wr R.POWER_STATUS_STATE 0).seqIdle
      ({ s with power := { s.power with inReset := true } } : State).drivePins
    else
      let late := !s.power.domOn.testBit 4
      let s := s.driveVid (s.vidCode 2)
      let s := s.benchesUp (s.stateDoms 0)
      let s := s.reloadLayers.modelInit.govInit
      let s := if late then s.srResetExit else s
      s.bootStart s.pins.bootsel

/-- FUSE_SENSING_DONE. -/
def execFuseSensingDone (reads : List FuseRead) (s : State) : Host.Outcome State Fault Refusal := .next (s.sensingDone reads)

/-- FIRMWARE_RUNNING: the image loaded runs, and firmware makes its loads. -/
def execFirmwareRunning (s : State) : Host.Outcome State Fault Refusal := .next s.bootSlot.firmwareUp.rackDrain

/-! ### Readiness (R443, R445) -/

/-- R132: the suspect marks reloaded from every active bench's CANARY_RESULT. -/
def State.reloadMarks (s : State) : State :=
  ((List.range s.nBench).foldl (fun s b =>
    if s.linkState b = linkActive then
      (s.marksFrom b (mapOf 128 fun i => s.is R.BENCH_CANARY_RESULT_PENDING [b, i / 32, i % 32])).1
    else s) s).suspectSettle

/-- R335, R440: the start-up from OFF in progress still owes MARCH_FULL: the REPAIR region fails integrity, or object 0x1A00:04
is 1. -/
def State.marchOwed (s : State) : Bool :=
  s.power.fromOff && !s.test.fullDone &&
    ((s.rd R.FUSE_STATUS_INTEG_FAIL).testBit 5 || s.dict.startupMarch == 1)

/-- R312: firmware's loads of a bench are still under way. -/
def State.loading (s : State) : Bool := s.shaft.any fun l => (l.reg.toList ++ l.regq).any (·.asker == .load)

/-- R335, R440, R445: the tests of start-up have been run: SRAM_BASE, and from OFF LBIST_BASE and LBIST_BENCH on every bench that is
not offline. The training is SHAFT_PRBS. -/
def State.testsRun (s : State) : Bool :=
  s.test.ran.contains (2, 0) && (!s.power.fromOff || (s.test.ran.contains (1, 0) &&
    (List.range s.nBench).all fun b => s.linkState b == linkOffline || s.test.ran.contains (3, b)))

/-- Every step before STACK_READY has completed: trained links, loaded tables, tests, canary masks, CS_RECORD, and from OFF or after a clear that was
cut off the stack clear, unless protection is FAILED. -/
def State.stackDone (s : State) : Bool :=
  s.fwRuns && s.mgmt.loaded && s.live 8 && s.allTrained && s.bench.all (fun x => !x.canaryDue) &&
    !s.marchOwed && !s.is R.TEST_CS_RECORD_VALID && s.test.mem.isNone && !s.loading && s.testsRun && !s.test.entering && !s.is R.TEST_CTRL_SERVICE &&
    (s.protection == 3 || (!s.is R.CODE_CODE_STATUS_CLEAR_PENDING && (!s.power.fromOff || s.is R.CODE_CODE_STATUS_EMPTY)))

/-- R440, R441: once firmware reports every active shaft trained, the layers that the records hold as lost are loaded at
power-up from OFF (R66), and the governor is released. -/
def State.releaseSettle (s : State) : State :=
  if s.fwRuns && s.mgmt.loaded && !s.thermal.released && s.allTrained then
    let s := if s.power.fromOff && s.live 8 then s.loadLost.protSettle else s
    { s with thermal := { s.thermal with released := true } }
  else s

/-- TRAIN_STEP_DONE. -/
def execTrainStepDone (b : Nat) (lanes : List (Nat × Nat)) (s : State) : Host.Outcome State Fault Refusal :=
  .next (s.stepDone b lanes).releaseSettle

/-- R443, R445: STACK_READY. -/
def State.stackReady (s : State) : State :=
  let s := s.restoreSettle.releaseSettle
  if s.is R.HOST_STATUS_STACK_READY || !s.stackDone then s
  else
    let s := s.loadSpares.reloadMarks.patrolCopies
    let s : State := { s with power := { s.power with fromOff := false } }
    let s := (s.set R.HOST_STATUS_STACK_READY).raise E.HOST_STACK_READY_SET
    let s := if s.power.seq = .exiting then
        ((((s.wr R.POWER_STATUS_STATE 0).clr R.POWER_WAKE_LATCH_PENDING).seqIdle).raise E.POWER_EXITED).logPower
      else s
    (s.kickSweeps.advanceAll).perstSettle

/-- STACK_READY. -/
def execStackReady (s : State) : Host.Outcome State Fault Refusal := .next s.stackReady

/-- The domains that come on as the exit from EMBER starts: all of ACTIVE but the benches' logic and its endpoints, which follow
fuse sensing (R266, Table 20.2) (DEDUCED in part: log entry 30). -/
def State.emberDoms (s : State) : List Nat :=
  (s.stateDoms 0).filter fun d => decide (d < 13) || d == 22 || d == 23 || decide (60 ≤ d)

/-- R445: the exit from EMBER starts; the command stands for the rails and REFCLK (DEDUCED in part: log entry 30). -/
def State.emberExit (s : State) : State :=
  if !s.power.lanternUp || s.pstate != 3 || s.power.seq != .idle || !s.is R.POWER_WAKE_LATCH_PENDING || s.pins.perst ||
      s.thermal.trip.isSome then s
  else
    let s := (s.supplied.wr R.DICT_TOKEN_AGE_TICKS 0).set R.POWER_STATUS_SEQ_BUSY
    let s : State := { s with
      power := { s.power with seq := .exiting }
      pins := { s.pins with wake := false }
      ras := { s.ras with gen := s.time.now % 2 ^ 24 } }
    (s.onUpTo s.emberDoms).reloadLayers.drivePins.readFlash.srResetExit

/-- EMBER_EXIT. -/
def execEmberExit (s : State) : Host.Outcome State Fault Refusal := .next s.emberExit

/-! ### The lantern domain (R438, R281) -/

/-- LANTERN_POR: VDD_AON is present; every lantern field has its reset value, but for the trip latch; ADDR is sampled. -/
def State.lanternPor (s : State) (addr : Nat) : State :=
  if s.power.lanternUp then s
  else
    let t : State := { State.reset with
      thermal := { ThermalSt.reset with trip := s.thermal.trip }
      mgmt := s.mgmt, test := s.test, fuse := s.fuse, ras := s.ras
      dict := { DictSt.reset with copy0 := s.dict.copy0, copy1 := s.dict.copy1 }
      pins := { State.reset.pins with perst := s.pins.perst, addr := addr % 8 }
      dram := s.dram, segs := s.segs, fresh := s.fresh, sent := s.sent, pending := s.pending }
    t.drivePins

/-- LANTERN_POR. -/
def execLanternPor (addr : Nat) (s : State) : Host.Outcome State Fault Refusal := .next (s.lanternPor addr)

/-- VDD_AON_LOSS: VDD_AON is away for long enough that the trip latch clears (R281). What the fuses and the external flash hold
stays; everything else is at its power-on value, and the device is off (DESIGN CHOICE in part: log entry 4). -/
def State.aonLoss (s : State) : State :=
  let s := s.dropUpdate
  { State.reset with
    ras := { State.reset.ras with recA := s.ras.recA, recB := s.ras.recB }
    test := { TestSt.reset with copyA := s.test.copyA, copyB := s.test.copyB }
    fuse := { FuseSt.reset with words := s.fuse.words, seals := s.fuse.seals }
    mgmt := { MgmtSt.reset with
      flashLog := s.mgmt.flashLog, hdr0 := s.mgmt.hdr0, hdr1 := s.mgmt.hdr1, slotA := s.mgmt.slotA, slotB := s.mgmt.slotB }
    dict := { DictSt.reset with copy0 := s.dict.copy0, copy1 := s.dict.copy1 }
    power := { State.reset.power with lanternUp := false }
    pins := { State.reset.pins with aon := false, perst := s.pins.perst }
    fresh := s.fresh, sent := s.sent, pending := s.pending }

/-- VDD_AON_LOSS. -/
def execVddAonLoss (s : State) : Host.Outcome State Fault Refusal := .next s.aonLoss

end Sys2Proof.Machine
end

