-- ==== Sys2Proof/Machine/RegWrite.lean ====
section
/-! DEFINITION. Register writes as they arrive: over the host link, tested against Table 07.6, or from firmware and the
dictionary (R8, R168 to R170, R176, R398, R474, R475). -/
namespace Sys2Proof.Machine

/-- R398: the request in the dictionary port's mailbox. -/
def State.mailbox (s : State) : List Byte :=
  let hdr := (List.range 4).flatMap fun k => leBytes 4 (s.rd R.DICT_REQ_HDR_HDR [k])
  let r := dreqOf hdr
  let n := if r.cmd = 2 ∨ r.cmd = 6 then min r.len 4096 else 0
  hdr ++ ((List.range ((n + 3) / 4)).flatMap fun k => leBytes 4 (s.rd R.DICT_REQ_DATA_DATA [k])).take n

/-- DICTPORT (Table 18.5). While BUSY, the mailbox and GO are kept, with logging. -/
def State.dictWord (s : State) (src : RegSrc) (o data : Nat) : State :=
  let off := 0x20000 + o
  let busy := s.is R.DICT_STATUS_BUSY
  if o < 0x10 ∨ (0x1000 ≤ o ∧ o < 0x2000) then (if busy then s.refuse src off else s.plainWrite src off data)
  else if o = 0x10 then
    let s := if data.testBit (bitOf R.DICT_CTRL_ABORT []) then s.portAbort else s
    if data.testBit (bitOf R.DICT_CTRL_GO []) && s.live 3 then (if busy then s.refuse src off else s.dictServe 0 s.mailbox)
    else s
  else s.writeWord src off data

/-- Any register word of BAR0 written. -/
def State.bar0Write (s : State) (src : RegSrc) (off data : Nat) : State :=
  let data := data % 2 ^ 32
  if off = 0x30 then
    (if data.testBit (bitOf R.GLOBAL_RESET_CTRL_BASE_RESET []) then
      s.baseReset src (field data (bitOf R.GLOBAL_RESET_CTRL_KEY []) 16)
    else s)
  else if off / 0x10000 = 2 && definedWord off then s.dictWord src (off - 0x20000) data
  else s.writeWord src off data

/-- R170: one or two double words, every byte enabled, naturally aligned: how many, 0 for a request of another form. -/
def writeDws (off be : Nat) : Nat :=
  if be = 0xF ∧ off % 4 = 0 then 1 else if be = 0xFF ∧ off % 8 = 0 then 2 else 0

/-- A register write that arrives over the host link (R176). -/
def State.hostRegWrite (s : State) (rid : Nat) (space : Space) (off data be : Nat) (ep : Bool) : State :=
  let src := RegSrc.host rid
  let bar := if space = .bar4 then 2 else 0
  if !s.linkOn || !s.rxRoom (space != .config) 4 then s
  else if space = .config then (if ep then s.aer .poisoned else (s.inbound src).configWrite off data be)
  else if !s.memOn then s.aer .unsupported
  else
    let n := writeDws off be
    if n = 0 then s.notIdle.dozeExit.refuseHost .form true bar off rid none
    else if !s.wordsDefined space off n then s.notIdle.dozeExit.refuseHost .unimpl false bar off rid none
    else if ep then s.notIdle.dozeExit.epDropped bar off rid
    else
      let s := s.inbound src
      (List.range n).foldl (fun s k =>
        let v := field data (32 * k) 32
        if space = .bar4 then s.bar4Write (off + 4 * k) v else s.bar0Write src (off + 4 * k) v) s

/-- REGISTER_WRITE (DEDUCED in part: log entry 13). -/
def State.registerWrite (s : State) (src : RegSrc) (space : Space) (off data be : Nat) (ep : Bool) : State :=
  match src with
  | .host rid => s.hostRegWrite rid space off data be ep
  | _ => if space = .bar0 && off % 4 == 0 then (s.inbound src).bar0Write src off data else s

/-- REGISTER_WRITE. -/
def execRegisterWrite (src : RegSrc) (space : Space) (off data be : Nat) (ep : Bool) (s : State) :
    Host.Outcome State Fault Refusal := .next (s.registerWrite src space off data be ep)

/-- EVENT_EN_WRITE: a write of an EVENT_EN word (DEDUCED in part: log entry 13). -/
def execEventEnWrite (src : RegSrc) (off data : Nat) (s : State) : Host.Outcome State Fault Refusal :=
  .next (if (eventWords.any fun e => e.2.1 == some off) && s.up then (s.inbound src).writeWord src off data else s)

/-! ### Checkers and the TAP (R317, R463) -/

/-- Sources whose checker is tied to no command: supplies, clocks, switches, isolation, consistency and parity, and the arrays
and interfaces whose errors have no effect but their source (DEDUCED in part: log entry 32). -/
def checkerSource (n : Nat) : Bool :=
  decide (n ≤ 14) || n == 40 || n == 43 || (decide (48 ≤ n) && decide (n ≤ 56)) || [81, 85, 86, 99, 105, 106].contains n

/-- Table 14.1, FS041, FS042 and FS044: an uncorrectable error in sectors `mask` of a slab's line or merge-buffer entry. Clean sectors
are invalidated, DIRTY ones poisoned in the line, an entry's poisoned at its close (DEDUCED in part: log entry 33). -/
def State.sramFault (s : State) (source slab mask : Nat) : State :=
  let mask := mask % 2 ^ s.sectors
  match source, s.lineOf slab with
  | 41, some l =>
    let bad := minus (mask &&& l.valid) l.dirty
    if bad = 0 then s else (s.setLine { l with valid := minus l.valid bad, poison := minus l.poison bad }).detect [41]
  | 42, some l =>
    let bad := mask &&& l.dirty
    if bad = 0 then s else (s.setLine { l with poison := l.poison ||| bad, data := zeroPoison bad l.data }).detect [42]
  | 44, _ =>
    if (s.entryOf slab).isNone then s else (s.modEntry slab fun e => { e with poison := e.poison ||| mask }).detect [44]
  | _, _ => if checkerSource source then s.detect [source] else s

/-- CHECKER_FAULT (DEDUCED in part: log entry 32). -/
def execCheckerFault (source : Nat) (s : State) (slab mask : Nat := 0) : Host.Outcome State Fault Refusal :=
  .next (s.sramFault source slab mask)

/-- The public instructions of R463. -/
def tapPublic : List Nat := [0x00, 0x01, 0x02, 0x04, 0x05, 0x08, 0x09, 0xFF]

/-- TAP_INSTRUCTION: under DEBUG_LOCK a private opcode acts as BYPASS and sets FS103; while LIFE is open debug is unlocked (R359). -/
def State.tapInstruction (s : State) (op : Nat) : State :=
  if !(s.pins.aon && s.pins.core) then s
  else
    let locked := !tapPublic.contains (op % 256) && (s.fuseWord 8).testBit 8 && !s.is R.FUSE_STATUS_MANUFACTURING
    let s : State := { s with pins := { s.pins with tapIr := op % 256, tapBypass := locked || op % 256 == 0xFF } }
    if locked then s.detect [103] else s

/-- TAP_INSTRUCTION (DEDUCED in part: log entry 51). -/
def execTapInstruction (op : Nat) (s : State) : Host.Outcome State Fault Refusal := .next (s.tapInstruction op)

end Sys2Proof.Machine
end

