-- ==== Sys2Proof/Machine/Tick.lean ====
section
/-! DEFINITION. The rack tick: its edges, the flywheel, and what every counted tick does (R23 to R30, and the per-tick rules of
each chapter). -/
namespace Sys2Proof.Machine

/-! ### What a counted tick does -/

/-- R86: every open merge-buffer entry is one tick older. -/
def State.mergeOlder (s : State) : State :=
  { s with cache := { s.cache with merge := s.cache.merge.map fun e => { e with age := e.age + 1 } } }

/-- R115: the benches read their own diodes, 26 + 2`b` and 27 + 2`b`. -/
def State.benchDiodes (s : State) (env : TickEnv) : State :=
  let read := fun i => if env.outside.getD i false then none else env.sensors[i]?
  (List.range s.nBench).foldl (fun s b =>
    if s.benchOn b then (s.modBench b fun x => { x with diode := (read (26 + 2 * b), read (27 + 2 * b)) }).refreshRate b else s) s

/-- R157, R163: stuffing violations are counted per tick, and the benches' counts are exchanged. -/
def State.stuffClear (s : State) : State :=
  let s := s.activeLinks.foldl State.violExchange s
  { s with shaft := s.shaft.map fun l =>
    { l with down := { l.down with viol := [] }, up := { l.up with viol := [] } } }

/-- R255: an idle tick, or one with a descriptor in execution. -/
def State.idleTick (s : State) : State :=
  { s with power := { s.power with idleTicks := if s.haulBusy then 0 else s.power.idleTicks + 1 } }

/-- R374, R375, R379: the ages of a boot and of the running image, and the watchdog. -/
def State.mgmtTick (s : State) : State :=
  let s := s.wdogTick
  { s with mgmt := { s.mgmt with
    bootAge := if s.booting then s.mgmt.bootAge + 1 else s.mgmt.bootAge
    runAge := if s.fwRuns then s.mgmt.runAge + 1 else s.mgmt.runAge } }

/-- One tick of an open transfer. -/
def CarrierSt.older (c : CarrierSt) : CarrierSt := { c with open_ := c.open_.map fun t => { t with idle := t.idle + 1 } }

/-- R390, R394, R403: the heartbeat's age, which stands still in EMBER, idle transfers, and the age of an unsaved write. -/
def State.dictTick (s : State) : State :=
  let s : State := { s with dict := { s.dict with
    port := s.dict.port.older, rack := s.dict.rack.older, unsaved := s.dict.unsaved.map (· + 1) } }
  if s.dict.holder ≠ 0 ∧ (s.pstate ≠ 3 ∨ s.power.seq = .exiting) then s.incSat R.DICT_TOKEN_AGE_TICKS else s

/-- Rack Link over one tick. -/
def State.rackTick (s : State) : State :=
  let s : State := { s with rack := { s.rack with tx := s.rack.tx.map fun f => { f with age := f.age + 1 } } }
  if s.live 22 then s.slotStep.rackDrain else s

/-- The fuse block, the programming window and a calibration run over one tick (R282, R344, R361, R362). -/
def State.fuseTick (s : State) (env : TickEnv) : State :=
  let s := if s.live 23 then s.wrB R.FUSE_STATUS_VPROG_OK env.vprog else s
  ((s.burnTick.saveTick).fuseRecheck env.fuse).calTick

/-- Firmware and the hardware engines go on with what they wait for. -/
def State.settle (s : State) : State :=
  let s := ((s.repairSettle.kickSweeps).serviceSettle).wayEmpty
  let s := if s.halted && s.haul.chans.any (·.run.isSome) then s.advanceAll else s
  let s := if s.fwRuns then s.persistCheck.restoreSettle.releaseSettle else s
  (s.drainSettle.perstSettle).resetSettle

/-- What every counted tick does, after the number has been counted. -/
def State.tickBody (s : State) (env : TickEnv) : State :=
  let s := ((s.shiftPassed.clearTick.shadowTick.thermalTick env).govTick env).loadSets
  let s := (s.keepCurrents env).marchSegment
  let s := ((s.mergeOlder.benchDiodes env).stuffClear).idleTick
  let s := (if s.live 3 then s.patrolCopies.patrolStatus else s).mgmtTick
  let s := (s.dictTick.rackTick).fuseTick env
  let s := s.settle
  { s with time := { s.time with sinceReset := if s.live 3 then (s.time.sinceReset + 1) % tickMod else 0 } }.wakeRefresh

/-- R28 to R30: a tick counted at instant `t`. -/
def State.countTick (s : State) (t : Nat) (env : TickEnv) : State :=
  let next := (s.time.now + 1) % tickMod
  let n := s.time.load.getD next
  let s : State := { s with time := { s.time with
    now := n, lastTick := t, load := none, freshSched := [], freshShift := false, sliced := []
    pinSilent := s.time.pinSilent + 1, beaconSilent := s.time.beaconSilent + 1 } }
  let s := s.tickBody env
  if n = next then s else s.stepped

/-! ### Edges on TICK (R23, R26) -/

/-- A counted edge. -/
def State.edgeCounted (s : State) (t : Nat) (env : TickEnv) : State :=
  let s : State := { s with time := { s.time with flew := false } }
  let s := s.countTick t env
  { s with time := { s.time with pinSilent := 0 } }

/-- R23: an edge while the source is PIN (DEDUCED in part: log entry 11). -/
def State.pinEdge (s : State) (t : Nat) (env : TickEnv) : State :=
  let d := t - s.time.lastTick
  if d < 9800 then (s.raise E.TIME_TICK_EARLY).detect [119]
  else if 15000 < d then s
  else (if d ≤ 10200 then s.wr R.TIME_PERIOD ((d + 20) / 40) else s).edgeCounted t env

/-- R26: the device returns to the pin (DEDUCED in part: log entry 11). -/
def State.toPin (s : State) : State :=
  let s := (s.wr R.TIME_STATUS_SOURCE 0).clr R.TIME_STATUS_FREE_RUNNING
  ({ s with time := { s.time with train := 0 } } : State).raise E.TIME_FREE_RUN_CLEAR

/-- R26: an edge while free-running; `spacing` is the time since the previous edge (DEDUCED in part: log entry 11). -/
def State.freeEdge (s : State) (t spacing : Nat) (env : TickEnv) : State :=
  if !s.is R.TIME_CTRL_PIN_EN then { s with time := { s.time with train := 0 } }
  else
    let train := if s.time.train = 8 then 8 else if 9800 ≤ spacing ∧ spacing ≤ 10200 then s.time.train + 1 else 1
    let s : State := { s with time := { s.time with train := train } }
    let p := s.period
    if train = 8 then
      (if 5000 ≤ t - s.time.lastTick ∧ t - s.time.lastTick ≤ 15000 then s.toPin.edgeCounted t env else s)
    else if t ≤ s.time.nextFly ∧ s.time.nextFly ≤ t + 2000 then
      { s with time := { s.time with nextFly := t + p } }.edgeCounted t env
    else if s.time.flew ∧ t ≤ s.time.lastTick + 2000 then { s with time := { s.time with nextFly := t + p } }
    else s

/-- An edge at instant `t`, in nanoseconds of the lantern clock. -/
def State.tickEdge (s : State) (t : Nat) (env : TickEnv) : State :=
  if !s.power.lanternUp ∨ t < s.time.lastTick ∨ t < s.time.lastEdge then s
  else
    let spacing := t - s.time.lastEdge
    let s : State := { s with time := { s.time with lastEdge := t } }
    if s.rd R.TIME_STATUS_SOURCE = 0 then s.pinEdge t env else s.freeEdge t spacing env

/-- TICK_EDGE (DESIGN CHOICE in part: log entry 9). -/
def execTickEdge (t : Nat) (env : TickEnv) (s : State) : Host.Outcome State Fault Refusal := .next (s.tickEdge t env)

/-- R25, R26: no countable edge within 15 µs of the last counted tick. -/
def State.missingTick (s : State) (t : Nat) (env : TickEnv) : State :=
  if !s.power.lanternUp ∨ t < s.time.lastTick + 15000 ∨ (s.rd R.TIME_STATUS_SOURCE ≠ 0 ∧ s.time.train ≠ 8) then s
  else
    let s := s.freeRun 2
    let s : State := { s with time := { s.time with train := 0, nextFly := t + s.period, flew := true } }
    s.countTick t env

/-- MISSING_TICK. -/
def execMissingTick (t : Nat) (env : TickEnv) (s : State) : Host.Outcome State Fault Refusal := .next (s.missingTick t env)

/-- R27: the change of the flywheel's period that begins now: toward the beacon, by up to 1 % (DEDUCED in part: log entry 11). -/
def State.flyAdjust (s : State) : Int :=
  let most : Int := s.period / 100
  if s.rd R.TIME_STATUS_SOURCE = 1 then max (-most) (min most s.time.phase) else 0

/-- R25 to R27: the flywheel's tick, counted at the instant at which it falls due; the next is one period later, adjusted
toward the beacon. -/
def State.flywheelTick (s : State) (t : Nat) (env : TickEnv) : State :=
  if !s.power.lanternUp ∨ s.rd R.TIME_STATUS_SOURCE = 0 ∨ s.time.train = 8 ∨ t < s.time.nextFly then s
  else
    let due := s.time.nextFly
    let step := s.flyAdjust
    ({ s with time := { s.time with
      nextFly := due + (s.period + step).toNat, phase := s.time.phase - step, flew := true } } : State).countTick due env

/-- FLYWHEEL_TICK. -/
def execFlywheelTick (t : Nat) (env : TickEnv) (s : State) : Host.Outcome State Fault Refusal := .next (s.flywheelTick t env)

end Sys2Proof.Machine
end

