-- ==== Sys2Proof/Machine/Dispatch.lean ====
section
/-! DEFINITION. Which meaning each command has. -/
namespace Sys2Proof.Machine

/-- The effect of a command on everything but the queue. -/
def exec (i : Instr) (s : State) : Host.Outcome State Fault Refusal :=
  match i with
  | .tickEdge t env => Sys2Proof.Machine.execTickEdge t env s
  | .missingTick t env => Sys2Proof.Machine.execMissingTick t env s
  | .flywheelTick t env => Sys2Proof.Machine.execFlywheelTick t env s
  | .pinSilenceTimeout => Sys2Proof.Machine.execPinSilenceTimeout s
  | .beaconSilenceTimeout => Sys2Proof.Machine.execBeaconSilenceTimeout s
  | .tickLoad src hi => Sys2Proof.Machine.execTickLoad src hi s
  | .loReadLatch r => Sys2Proof.Machine.execLoReadLatch r s
  | .schedEntryWrite src n word data => Sys2Proof.Machine.execSchedEntryWrite src n word data s
  | .schedNone n => Sys2Proof.Machine.execSchedNone n s
  | .schedWake n => Sys2Proof.Machine.execSchedWake n s
  | .schedEnterState n => Sys2Proof.Machine.execSchedEnterState n s
  | .schedSetCap n => Sys2Proof.Machine.execSchedSetCap n s
  | .schedEvent n => Sys2Proof.Machine.execSchedEvent n s
  | .schedScrubPause n => Sys2Proof.Machine.execSchedScrubPause n s
  | .schedScrubResume n => Sys2Proof.Machine.execSchedScrubResume n s
  | .shiftArm src => Sys2Proof.Machine.execShiftArm src s
  | .shiftWithdraw src => Sys2Proof.Machine.execShiftWithdraw src s
  | .shiftEndEarly src => Sys2Proof.Machine.execShiftEndEarly src s
  | .shiftTicksWrite src off data => Sys2Proof.Machine.execShiftTicksWrite src off data s
  | .shiftStart => Sys2Proof.Machine.execShiftStart s
  | .drainStart => Sys2Proof.Machine.execDrainStart s
  | .drainComplete => Sys2Proof.Machine.execDrainComplete s
  | .drainOverrun => Sys2Proof.Machine.execDrainOverrun s
  | .shiftEnd => Sys2Proof.Machine.execShiftEnd s
  | .slabFetchComplete slab got => Sys2Proof.Machine.execSlabFetchComplete slab got s
  | .portionTimeout slab layer => Sys2Proof.Machine.execPortionTimeout slab layer s
  | .bankHashWrite src v => Sys2Proof.Machine.execBankHashWrite src v s
  | .reqLost src n => Sys2Proof.Machine.execReqLost src n s
  | .reqRejoin src n => Sys2Proof.Machine.execReqRejoin src n s
  | .rejoinDone => Sys2Proof.Machine.execRejoinDone s
  | .stackClear src => Sys2Proof.Machine.execStackClear src s
  | .clearDone => Sys2Proof.Machine.execClearDone s
  | .cacheRead r => Sys2Proof.Machine.execCacheRead r s
  | .cacheWrite r => Sys2Proof.Machine.execCacheWrite r s
  | .mergeAgeExpiry slab => Sys2Proof.Machine.execMergeAgeExpiry slab s
  | .flush src scope label => Sys2Proof.Machine.execFlush src scope label s
  | .flushInv src scope label => Sys2Proof.Machine.execFlushInv src scope label s
  | .inv src scope label => Sys2Proof.Machine.execInv src scope label s
  | .flushDone => Sys2Proof.Machine.execFlushDone s
  | .srmapRelease src => Sys2Proof.Machine.execSrmapRelease src s
  | .benchCommandIssue b ch => Sys2Proof.Machine.execBenchCommandIssue b ch s
  | .bankRefresh b ch bank => Sys2Proof.Machine.execBankRefresh b ch bank s
  | .pageIdleClose b ch bank => Sys2Proof.Machine.execPageIdleClose b ch bank s
  | .trTaskAged b ch bank => Sys2Proof.Machine.execTrTaskAged b ch bank s
  | .trWindowReset b ch bank => Sys2Proof.Machine.execTrWindowReset b ch bank s
  | .trWarmupEnd b => Sys2Proof.Machine.execTrWarmupEnd b s
  | .tempEstimateTimeout b => Sys2Proof.Machine.execTempEstimateTimeout b s
  | .patrolSlice => Sys2Proof.Machine.execPatrolSlice s
  | .patrolReadDone b got => Sys2Proof.Machine.execPatrolReadDone b got s
  | .levelPauseStart => Sys2Proof.Machine.execLevelPauseStart s
  | .levelPauseEnd locked => Sys2Proof.Machine.execLevelPauseEnd locked s
  | .canaryEntryDone b bad => Sys2Proof.Machine.execCanaryEntryDone b bad s
  | .canaryExitCheck b bad => Sys2Proof.Machine.execCanaryExitCheck b bad s
  | .suspectSweepStart => Sys2Proof.Machine.execSuspectSweepStart s
  | .sweepPositionDone pos => Sys2Proof.Machine.execSweepPositionDone pos s
  | .remapWrite src b data => Sys2Proof.Machine.execRemapWrite src b data s
  | .idleFrame b down f => Sys2Proof.Machine.execIdleFrame b down f s
  | .replayFrame b down f => Sys2Proof.Machine.execReplayFrame b down f s
  | .reqFrame b f => Sys2Proof.Machine.execReqFrame b f s
  | .wdataL b f => Sys2Proof.Machine.execWdataL b f s
  | .wdataU b f => Sys2Proof.Machine.execWdataU b f s
  | .rdataL b f => Sys2Proof.Machine.execRdataL b f s
  | .rdataU b f => Sys2Proof.Machine.execRdataU b f s
  | .sideFrame b down f => Sys2Proof.Machine.execSideFrame b down f s
  | .regRd b f => Sys2Proof.Machine.execRegRd b f s
  | .regWr b f => Sys2Proof.Machine.execRegWr b f s
  | .regRsp b f => Sys2Proof.Machine.execRegRsp b f s
  | .tempFrame b f => Sys2Proof.Machine.execTempFrame b f s
  | .tokensFrame b f => Sys2Proof.Machine.execTokensFrame b f s
  | .grantFrame b f => Sys2Proof.Machine.execGrantFrame b f s
  | .patrolRpt b f => Sys2Proof.Machine.execPatrolRpt b f s
  | .canaryFrame b f => Sys2Proof.Machine.execCanaryFrame b f s
  | .holdFrame b f => Sys2Proof.Machine.execHoldFrame b f s
  | .pauseFrame b f => Sys2Proof.Machine.execPauseFrame b f s
  | .retainFrame b f => Sys2Proof.Machine.execRetainFrame b f s
  | .readyFrame b f => Sys2Proof.Machine.execReadyFrame b f s
  | .shaftCrcFail b down => Sys2Proof.Machine.execShaftCrcFail b down s
  | .reservedFrame b down type => Sys2Proof.Machine.execReservedFrame b down type s
  | .replayTimeout b down => Sys2Proof.Machine.execReplayTimeout b down s
  | .recoveryDone b dn up => Sys2Proof.Machine.execRecoveryDone b dn up s
  | .recoveryTimeout b => Sys2Proof.Machine.execRecoveryTimeout b s
  | .lockLoss b => Sys2Proof.Machine.execLockLoss b s
  | .regAccessTimeout b => Sys2Proof.Machine.execRegAccessTimeout b s
  | .refLock b level => Sys2Proof.Machine.execRefLock b level s
  | .prbsTx b => Sys2Proof.Machine.execPrbsTx b s
  | .phaseSweep b => Sys2Proof.Machine.execPhaseSweep b s
  | .slip b => Sys2Proof.Machine.execSlip b s
  | .frameAlign b => Sys2Proof.Machine.execFrameAlign b s
  | .scrSync b => Sys2Proof.Machine.execScrSync b s
  | .prbsCheck b => Sys2Proof.Machine.execPrbsCheck b s
  | .enterService b => Sys2Proof.Machine.execEnterService b s
  | .trainStepDone b lanes => Sys2Proof.Machine.execTrainStepDone b lanes s
  | .failedLanesWrite src off data => Sys2Proof.Machine.execFailedLanesWrite src off data s
  | .dspreadEnWrite src v => Sys2Proof.Machine.execDspreadEnWrite src v s
  | .refclkSscChange spread => Sys2Proof.Machine.execRefclkSscChange spread s
  | .bar2Read r => Sys2Proof.Machine.execBar2Read r s
  | .bar2Write w => Sys2Proof.Machine.execBar2Write w s
  | .registerWrite src space off data be ep => Sys2Proof.Machine.execRegisterWrite src space off data be ep s
  | .unsupportedRequest bar addr rid tag write => Sys2Proof.Machine.execUnsupportedRequest bar addr rid tag write s
  | .malformedTlp => Sys2Proof.Machine.execMalformedTlp s
  | .viologClear src => Sys2Proof.Machine.execViologClear src s
  | .d3hotWrite => Sys2Proof.Machine.execD3hotWrite s
  | .d0Write => Sys2Proof.Machine.execD0Write s
  | .flr => Sys2Proof.Machine.execFlr s
  | .hotReset => Sys2Proof.Machine.execHotReset s
  | .dlDown => Sys2Proof.Machine.execDlDown s
  | .flrComplete => Sys2Proof.Machine.execFlrComplete s
  | .busMasterEnable => Sys2Proof.Machine.execBusMasterEnable s
  | .haulCompletionRx tag status ep data => Sys2Proof.Machine.execHaulCompletionRx tag status ep data s
  | .completionTimeout tag => Sys2Proof.Machine.execCompletionTimeout tag s
  | .doorbell src c data => Sys2Proof.Machine.execDoorbell src c data s
  | .descriptorFetched c => Sys2Proof.Machine.execDescriptorFetched c s
  | .nop c => Sys2Proof.Machine.execNop c s
  | .copy c => Sys2Proof.Machine.execCopy c s
  | .fill c => Sys2Proof.Machine.execFill c s
  | .digest c => Sys2Proof.Machine.execDigest c s
  | .encode c => Sys2Proof.Machine.execEncode c s
  | .verify c => Sys2Proof.Machine.execVerify c s
  | .rebuild c => Sys2Proof.Machine.execRebuild c s
  | .fence c => Sys2Proof.Machine.execFence c s
  | .ledgerReadDone c => Sys2Proof.Machine.execLedgerReadDone c s
  | .pass1Done c => Sys2Proof.Machine.execPass1Done c s
  | .pass2Done c => Sys2Proof.Machine.execPass2Done c s
  | .commit src c => Sys2Proof.Machine.execCommit src c s
  | .handOver c => Sys2Proof.Machine.execHandOver c s
  | .channelEnable src c => Sys2Proof.Machine.execChannelEnable src c s
  | .channelDisable src c => Sys2Proof.Machine.execChannelDisable src c s
  | .haulReset src => Sys2Proof.Machine.execHaulReset src s
  | .ledgerEnWrite src v => Sys2Proof.Machine.execLedgerEnWrite src v s
  | .ledgerRegionWrite src off data => Sys2Proof.Machine.execLedgerRegionWrite src off data s
  | .regulationWindowStart => Sys2Proof.Machine.execRegulationWindowStart s
  | .labelCfgWrite src l data => Sys2Proof.Machine.execLabelCfgWrite src l data s
  | .ceilingWrite src v => Sys2Proof.Machine.execCeilingWrite src v s
  | .windowWrite src v => Sys2Proof.Machine.execWindowWrite src v s
  | .spillAged id => Sys2Proof.Machine.execSpillAged id s
  | .reqDoze src => Sys2Proof.Machine.execReqDoze src s
  | .reqRest src => Sys2Proof.Machine.execReqRest src s
  | .reqEmber src => Sys2Proof.Machine.execReqEmber src s
  | .autoDoze => Sys2Proof.Machine.execAutoDoze s
  | .blockGrant => Sys2Proof.Machine.execBlockGrant s
  | .domainSwitchDone => Sys2Proof.Machine.execDomainSwitchDone s
  | .emberExit => Sys2Proof.Machine.execEmberExit s
  | .stackReady => Sys2Proof.Machine.execStackReady s
  | .perfLimitWrite src v => Sys2Proof.Machine.execPerfLimitWrite src v s
  | .sensorSuspect n => Sys2Proof.Machine.execSensorSuspect n s
  | .sensorRestored n => Sys2Proof.Machine.execSensorRestored n s
  | .modelGuardEnd => Sys2Proof.Machine.execModelGuardEnd s
  | .govStartHoldEnd => Sys2Proof.Machine.execGovStartHoldEnd s
  | .govRiseQualified => Sys2Proof.Machine.execGovRiseQualified s
  | .govForcedStep => Sys2Proof.Machine.execGovForcedStep s
  | .throttleLimitStep => Sys2Proof.Machine.execThrottleLimitStep s
  | .scrubSlice => Sys2Proof.Machine.execScrubSlice s
  | .rowRepairDone => Sys2Proof.Machine.execRowRepairDone s
  | .rowRepairRetry => Sys2Proof.Machine.execRowRepairRetry s
  | .celogClear src => Sys2Proof.Machine.execCelogClear src s
  | .uelogClear src => Sys2Proof.Machine.execUelogClear src s
  | .fieldRecordAppend => Sys2Proof.Machine.execFieldRecordAppend s
  | .stickyClear src word data => Sys2Proof.Machine.execStickyClear src word data s
  | .fenceRelease src data => Sys2Proof.Machine.execFenceRelease src data s
  | .reactWrite src word data => Sys2Proof.Machine.execReactWrite src word data s
  | .faultLock src => Sys2Proof.Machine.execFaultLock src s
  | .shadowEnd target => Sys2Proof.Machine.execShadowEnd target s
  | .injectShaftCrc src b dir count => Sys2Proof.Machine.execInjectShaftCrc src b dir count s
  | .injectInnerCrc src layer count => Sys2Proof.Machine.execInjectInnerCrc src layer count s
  | .injectSlabSyndrome src count => Sys2Proof.Machine.execInjectSlabSyndrome src count s
  | .injectSramEcc src array double count => Sys2Proof.Machine.execInjectSramEcc src array double count s
  | .injectFuseEcc src => Sys2Proof.Machine.execInjectFuseEcc src s
  | .injectRlCrc src count => Sys2Proof.Machine.execInjectRlCrc src count s
  | .csMemSlice => Sys2Proof.Machine.execCsMemSlice s
  | .csMemMarchDone fails => Sys2Proof.Machine.execCsMemMarchDone fails s
  | .csMemRebuildDone => Sys2Proof.Machine.execCsMemRebuildDone s
  | .csWaySlice => Sys2Proof.Machine.execCsWaySlice s
  | .csWayDone pass => Sys2Proof.Machine.execCsWayDone pass s
  | .csLaneSlice => Sys2Proof.Machine.execCsLaneSlice s
  | .csLaneDone errors => Sys2Proof.Machine.execCsLaneDone errors s
  | .serviceEnter src => Sys2Proof.Machine.execServiceEnter src s
  | .serviceExit src => Sys2Proof.Machine.execServiceExit src s
  | .lbistBase src => Sys2Proof.Machine.execLbistBase src s
  | .sramBase src => Sys2Proof.Machine.execSramBase src s
  | .lbistBench src b => Sys2Proof.Machine.execLbistBench src b s
  | .marchFull src => Sys2Proof.Machine.execMarchFull src s
  | .marchBank src layer pos => Sys2Proof.Machine.execMarchBank src layer pos s
  | .shaftPrbs src b => Sys2Proof.Machine.execShaftPrbs src b s
  | .testDone fails bench => Sys2Proof.Machine.execTestDone fails s bench
  | .calSensors src => Sys2Proof.Machine.execCalSensors src s
  | .calMonitors src => Sys2Proof.Machine.execCalMonitors src s
  | .calShaft src b => Sys2Proof.Machine.execCalShaft src b s
  | .calDriver src b => Sys2Proof.Machine.execCalDriver src b s
  | .calRunDone measured => Sys2Proof.Machine.execCalRunDone measured s
  | .calApply src => Sys2Proof.Machine.execCalApply src s
  | .calValuesInForce => Sys2Proof.Machine.execCalValuesInForce s
  | .calReload src => Sys2Proof.Machine.execCalReload src s
  | .calSave src => Sys2Proof.Machine.execCalSave src s
  | .calSaveDone done => Sys2Proof.Machine.execCalSaveDone done s
  | .fuseSensingDone reads => Sys2Proof.Machine.execFuseSensingDone reads s
  | .fuseRead src ctrl reads => Sys2Proof.Machine.execFuseRead src ctrl s reads
  | .burnUnlock src key => Sys2Proof.Machine.execBurnUnlock src key s
  | .burnUnlockLapse => Sys2Proof.Machine.execBurnUnlockLapse s
  | .wordBurn src w => Sys2Proof.Machine.execWordBurn src w s
  | .sealBurn src r => Sys2Proof.Machine.execSealBurn src r s
  | .forceLock src r => Sys2Proof.Machine.execForceLock src r s
  | .rollbackBurn src w => Sys2Proof.Machine.execRollbackBurn src w s
  | .burnDone got0 got1 => Sys2Proof.Machine.execBurnDone got0 got1 s
  | .forceArm src r => Sys2Proof.Machine.execForceArm src r s
  | .overrideSet src w => Sys2Proof.Machine.execOverrideSet src w s
  | .overrideClear src w => Sys2Proof.Machine.execOverrideClear src w s
  | .firmwareRunning => Sys2Proof.Machine.execFirmwareRunning s
  | .bootTimeout => Sys2Proof.Machine.execBootTimeout s
  | .confirmDelayExpiry => Sys2Proof.Machine.execConfirmDelayExpiry s
  | .updateEraseDone ok => Sys2Proof.Machine.execUpdateEraseDone s ok
  | .updateStaged ok => Sys2Proof.Machine.execUpdateStaged s ok
  | .coreReset src => Sys2Proof.Machine.execCoreReset src s
  | .watchdogExpiry => Sys2Proof.Machine.execWatchdogExpiry s
  | .logPersist src => Sys2Proof.Machine.execLogPersist src s
  | .logPersistDone => Sys2Proof.Machine.execLogPersistDone s
  | .read c req => Sys2Proof.Machine.execRead c req s
  | .write c req => Sys2Proof.Machine.execWrite c req s
  | .readSegInit c req => Sys2Proof.Machine.execReadSegInit c req s
  | .readSeg c req => Sys2Proof.Machine.execReadSeg c req s
  | .writeSegInit c req => Sys2Proof.Machine.execWriteSegInit c req s
  | .writeSeg c req => Sys2Proof.Machine.execWriteSeg c req s
  | .abort c req => Sys2Proof.Machine.execAbort c req s
  | .dictportAbort src => Sys2Proof.Machine.execDictportAbort src s
  | .tokenClaimDecision => Sys2Proof.Machine.execTokenClaimDecision s
  | .transferTimeout c => Sys2Proof.Machine.execTransferTimeout c s
  | .saveValues ok => Sys2Proof.Machine.execSaveValues ok s
  | .wakePortWake => Sys2Proof.Machine.execWakePortWake s
  | .wakePortPointer p => Sys2Proof.Machine.execWakePortPointer p s
  | .wakePortRead n => Sys2Proof.Machine.execWakePortRead n s
  | .wakePortTimeout => Sys2Proof.Machine.execWakePortTimeout s
  | .beacon t note db hdr pay => Sys2Proof.Machine.execBeacon t note db hdr pay s
  | .dictReq note hdr pay => Sys2Proof.Machine.execDictReq note hdr pay s
  | .wakeFrame note hdr pay => Sys2Proof.Machine.execWakeFrame note hdr s pay
  | .assign note hdr pay => Sys2Proof.Machine.execAssign note hdr pay s
  | .rlCrcFail note hdr pay => Sys2Proof.Machine.execRlCrcFail note hdr s pay
  | .rlCycleStart => Sys2Proof.Machine.execRlCycleStart s
  | .beaconLost => Sys2Proof.Machine.execBeaconLost s
  | .nodeSlot db foreign => Sys2Proof.Machine.execNodeSlot db foreign s
  | .collision residual => Sys2Proof.Machine.execCollision s residual
  | .assignReqSlot db => Sys2Proof.Machine.execAssignReqSlot s db
  | .assignRetry => Sys2Proof.Machine.execAssignRetry s
  | .linkTestSlot got db => Sys2Proof.Machine.execLinkTestSlot got s db
  | .lanternPor addr => Sys2Proof.Machine.execLanternPor addr s
  | .vddAonLoss => Sys2Proof.Machine.execVddAonLoss s
  | .baseDieResetExit bootsel => Sys2Proof.Machine.execBaseDieResetExit bootsel s
  | .perstAssert => Sys2Proof.Machine.execPerstAssert s
  | .perstDeassert => Sys2Proof.Machine.execPerstDeassert s
  | .vddCoreLow => Sys2Proof.Machine.execVddCoreLow s
  | .refclkLoss => Sys2Proof.Machine.execRefclkLoss s
  | .baseReset src key => Sys2Proof.Machine.execBaseReset src key s
  | .eventEnWrite src off data => Sys2Proof.Machine.execEventEnWrite src off data s
  | .stuffingViolation b up lane => Sys2Proof.Machine.execStuffingViolation b up lane s
  | .benchReadyTimeout b => Sys2Proof.Machine.execBenchReadyTimeout b s
  | .checkerFault source slab mask => Sys2Proof.Machine.execCheckerFault source s slab mask
  | .dlUp speed width flit => Sys2Proof.Machine.execDlUp speed width flit s
  | .rlDiscardedFrame note hdr pay => Sys2Proof.Machine.execRlDiscardedFrame note hdr pay s
  | .tapInstruction op => Sys2Proof.Machine.execTapInstruction op s
  | .forceArmLapse => Sys2Proof.Machine.execForceArmLapse s

end Sys2Proof.Machine
end

