-- ==== Sys2Proof/WellFormed.lean ====
section
/-! DEFINITION. Which commands are well-formed: every operand names a thing the device has, or a value of the width the spec
gives it. The machine gives every command a meaning, well-formed or not. -/
namespace Sys2Proof

/-- A writer of a register: requester IDs have 16 bits, and there are two dictionary carriers. -/
def srcOk : RegSrc → Bool
  | .host rid => decide (rid < 2 ^ 16)
  | .firmware => true
  | .dict c => decide (c < 2)

/-- A sensing read names a word or a seal, a copy and a reference, and has 72 bits (R350). -/
def readOk (x : FuseRead) : Bool := decide (x.entry < 137) && decide (x.copy < 2) && decide (x.ref < 3) && decide (x.bits < 2 ^ 72)

/-- The readings of a tick: 44 sensors, 69 monitors, and fuse reads (R115, R20, R361). -/
def envOk (e : TickEnv) : Bool := e.sensors.length == 44 && e.outside.length == 44 && e.monitors.length == 69 && e.fuse.all readOk

/-- A frame's TAG and AUX fit Table 06.2, its payload the 128 bytes of R140, and its lanes are those of a direction (R137). -/
def frameOk (f : Frame) : Bool :=
  decide (f.tag < 2 ^ 16) && decide (f.aux < 2 ^ 24) && decide (f.payload.length ≤ 128) && f.line.all fun p => decide (p.1 < 76) && decide (p.2.length ≤ 96)

/-- What replaces a portion names a layer and has a portion's 144 bytes. -/
def deliveriesOk (l : List Delivery) : Bool :=
  l.all fun d => decide (d.layer < 18) && match d.bytes with | some bs => bs.length == 144 | none => true

/-- A cache request stays in one slab of at most 2,048 bytes. -/
def reqOk (r : CReq) : Bool :=
  decide (r.slab < 2 ^ 27) && decide (r.label < 64) && decide (r.off + max r.len r.data.length ≤ 2048) && r.job.isNone

/-- A dictionary message fits its carrier: 16 header bytes and 4,096 bytes of data at the port, a 256-byte payload on Rack Link
(R391). -/
def reqMsgOk (c : Nat) (m : List Byte) : Bool := decide (m.length ≤ if c = 0 then 4112 else 256)

/-- `n` or fewer received symbols. -/
def symsOk (n : Nat) (l : List Int) : Bool := decide (l.length ≤ n) && l.all fun x => x == 0 || x == 1 || x == -1

/-- A sync of 48 symbols (R418). -/
def syncOk (x : RxSync) : Bool := symsOk 48 x.syms && x.syms.length == 48 && x.amps.length == 48

/-- A line of at most the longest frame's symbols (R416, R417). -/
def lineOk (l : RxLine) : Bool :=
  syncOk l.sync && symsOk 104 l.hdr && l.hdr.length == 104 && symsOk 2782 l.pay &&
    l.cuts.all fun c => syncOk c.sync && symsOk 104 c.hdr

/-- A well-formed command. -/
def Instr.wf (i : Instr) : Bool :=
  match i with
  | .tickEdge _ env => envOk env
  | .missingTick _ env => envOk env
  | .flywheelTick _ env => envOk env
  | .tickLoad src hi => srcOk src && decide (hi < 2 ^ 32)
  | .loReadLatch r => srcOk r.src && decide (r.off < 2 ^ 26) && decide (r.words ≤ 1024) && decide (r.tag < 2 ^ 14)
  | .schedEntryWrite src n word data => srcOk src && decide (n < 64) && decide (word < 4) && decide (data < 2 ^ 32)
  | .schedNone n => decide (n < 64)
  | .schedWake n => decide (n < 64)
  | .schedEnterState n => decide (n < 64)
  | .schedSetCap n => decide (n < 64)
  | .schedEvent n => decide (n < 64)
  | .schedScrubPause n => decide (n < 64)
  | .schedScrubResume n => decide (n < 64)
  | .shiftArm src => srcOk src
  | .shiftWithdraw src => srcOk src
  | .shiftEndEarly src => srcOk src
  | .shiftTicksWrite src off data => srcOk src && (decide (off < 2 ^ 26) && off % 4 == 0) && decide (data < 2 ^ 32)
  | .slabFetchComplete slab got => decide (slab < 2 ^ 27) && deliveriesOk got
  | .portionTimeout slab layer => decide (slab < 2 ^ 27) && decide (layer < 18)
  | .bankHashWrite src v => srcOk src && decide (v < 2 ^ 32)
  | .reqLost src n => srcOk src && decide (n < 18)
  | .reqRejoin src n => srcOk src && decide (n < 18)
  | .stackClear src => srcOk src
  | .cacheRead r => (reqOk r && !r.write)
  | .cacheWrite r => (reqOk r && r.write)
  | .mergeAgeExpiry slab => decide (slab < 2 ^ 27)
  | .flush src scope label => srcOk src && decide (scope < 3) && decide (label < 64)
  | .flushInv src scope label => srcOk src && decide (scope < 3) && decide (label < 64)
  | .inv src scope label => srcOk src && decide (scope < 3) && decide (label < 64)
  | .srmapRelease src => srcOk src
  | .benchCommandIssue b ch => decide (b < 9) && decide (ch < 2)
  | .bankRefresh b ch bank => decide (b < 9) && decide (ch < 2) && decide (bank < 32)
  | .pageIdleClose b ch bank => decide (b < 9) && decide (ch < 2) && decide (bank < 32)
  | .trTaskAged b ch bank => decide (b < 9) && decide (ch < 2) && decide (bank < 32)
  | .trWindowReset b ch bank => decide (b < 9) && decide (ch < 2) && decide (bank < 32)
  | .trWarmupEnd b => decide (b < 9)
  | .tempEstimateTimeout b => decide (b < 9)
  | .patrolReadDone b got => decide (b < 9) && deliveriesOk got
  | .levelPauseEnd locked => locked.all (· < 9)
  | .canaryEntryDone b bad => decide (b < 9) && bad.all (· < 256 * 9216)
  | .canaryExitCheck b bad => decide (b < 9) && bad.all (· < 256 * 9216)
  | .sweepPositionDone pos => decide (pos < 64)
  | .remapWrite src b data => srcOk src && decide (b < 9) && decide (data < 2 ^ 32)
  | .idleFrame b _ f => decide (b < 9) && frameOk f
  | .replayFrame b _ f => decide (b < 9) && frameOk f
  | .reqFrame b f => decide (b < 9) && frameOk f
  | .wdataL b f => decide (b < 9) && frameOk f
  | .wdataU b f => decide (b < 9) && frameOk f
  | .rdataL b f => decide (b < 9) && frameOk f
  | .rdataU b f => decide (b < 9) && frameOk f
  | .sideFrame b _ f => decide (b < 9) && frameOk f
  | .regRd b f => decide (b < 9) && frameOk f
  | .regWr b f => decide (b < 9) && frameOk f
  | .regRsp b f => decide (b < 9) && frameOk f
  | .tempFrame b f => decide (b < 9) && frameOk f
  | .tokensFrame b f => decide (b < 9) && frameOk f
  | .grantFrame b f => decide (b < 9) && frameOk f
  | .patrolRpt b f => decide (b < 9) && frameOk f
  | .canaryFrame b f => decide (b < 9) && frameOk f
  | .holdFrame b f => decide (b < 9) && frameOk f
  | .pauseFrame b f => decide (b < 9) && frameOk f
  | .retainFrame b f => decide (b < 9) && frameOk f
  | .readyFrame b f => decide (b < 9) && frameOk f
  | .shaftCrcFail b _ => decide (b < 9)
  | .reservedFrame b _ type => decide (b < 9) && decide (type < 256)
  | .replayTimeout b _ => decide (b < 9)
  | .recoveryDone b dn up => decide (b < 9) && dn.all (· < 76) && up.all (· < 76)
  | .recoveryTimeout b => decide (b < 9)
  | .lockLoss b => decide (b < 9)
  | .regAccessTimeout b => decide (b < 9)
  | .refLock b level => decide (b < 9) && decide (level < 4)
  | .prbsTx b => decide (b < 9)
  | .phaseSweep b => decide (b < 9)
  | .slip b => decide (b < 9)
  | .frameAlign b => decide (b < 9)
  | .scrSync b => decide (b < 9)
  | .prbsCheck b => decide (b < 9)
  | .enterService b => decide (b < 9)
  | .trainStepDone b lanes => decide (b < 9) && lanes.all (·.1 < 153)
  | .failedLanesWrite src off data => srcOk src && (decide (off < 2 ^ 26) && off % 4 == 0) && decide (data < 2 ^ 32)
  | .dspreadEnWrite src v => srcOk src && decide (v < 2 ^ 32)
  | .refclkSscChange _ => true
  | .bar2Read r => (decide (r.len ≤ 4096) && decide (r.rid < 2 ^ 16) && decide (r.tag < 2 ^ 14))
  | .bar2Write w => (decide (w.data.length ≤ 4096) && decide (w.rid < 2 ^ 16))
  | .registerWrite src _ off data be _ =>
    srcOk src && (decide (off < 2 ^ 26) && off % 4 == 0) && decide (data < 2 ^ 64) && decide (be < 256)
  | .unsupportedRequest bar addr rid tag _ =>
    decide (bar < 4) && decide (addr < 2 ^ 64) && decide (rid < 2 ^ 16) && decide (tag < 2 ^ 14)
  | .viologClear src => srcOk src
  | .haulCompletionRx tag status _ data => decide (tag < 2 ^ 14) && decide (status < 8) && decide (data.length ≤ 4096)
  | .completionTimeout tag => decide (tag < 2 ^ 14)
  | .doorbell src c data => srcOk src && decide (c < 64) && decide (data < 2 ^ 32)
  | .descriptorFetched c => decide (c < 64)
  | .nop c => decide (c < 64)
  | .copy c => decide (c < 64)
  | .fill c => decide (c < 64)
  | .digest c => decide (c < 64)
  | .encode c => decide (c < 64)
  | .verify c => decide (c < 64)
  | .rebuild c => decide (c < 64)
  | .fence c => decide (c < 64)
  | .ledgerReadDone c => decide (c < 64)
  | .pass1Done c => decide (c < 64)
  | .pass2Done c => decide (c < 64)
  | .commit src c => srcOk src && decide (c < 64)
  | .handOver c => decide (c < 64)
  | .channelEnable src c => srcOk src && decide (c < 64)
  | .channelDisable src c => srcOk src && decide (c < 64)
  | .haulReset src => srcOk src
  | .ledgerEnWrite src v => srcOk src && decide (v < 2 ^ 32)
  | .ledgerRegionWrite src off data => srcOk src && (decide (off < 2 ^ 26) && off % 4 == 0) && decide (data < 2 ^ 32)
  | .labelCfgWrite src l data => srcOk src && decide (l < 64) && decide (data < 2 ^ 32)
  | .ceilingWrite src v => srcOk src && decide (v < 2 ^ 32)
  | .windowWrite src v => srcOk src && decide (v < 2 ^ 32)
  | .spillAged _ => true
  | .reqDoze src => srcOk src
  | .reqRest src => srcOk src
  | .reqEmber src => srcOk src
  | .perfLimitWrite src v => srcOk src && decide (v < 2 ^ 32)
  | .sensorSuspect n => decide (n < 44)
  | .sensorRestored n => decide (n < 44)
  | .celogClear src => srcOk src
  | .uelogClear src => srcOk src
  | .stickyClear src word data => srcOk src && decide (word < 4) && decide (data < 2 ^ 32)
  | .fenceRelease src data => srcOk src && decide (data < 2 ^ 32)
  | .reactWrite src word data => srcOk src && decide (word < 16) && decide (data < 2 ^ 32)
  | .faultLock src => srcOk src
  | .shadowEnd target => decide (target < 14)
  | .injectShaftCrc src b dir count => srcOk src && decide (b < 9) && decide (dir < 2) && decide (count < 256)
  | .injectInnerCrc src layer count => srcOk src && decide (layer < 18) && decide (count < 256)
  | .injectSlabSyndrome src count => srcOk src && decide (count < 256)
  | .injectSramEcc src array _ count => srcOk src && decide (array < 32) && decide (count < 256)
  | .injectFuseEcc src => srcOk src
  | .injectRlCrc src count => srcOk src && decide (count < 256)
  | .csMemMarchDone fails => fails.all (· < 2 ^ 18)
  | .csWayDone _ => true
  | .csLaneDone _ => true
  | .serviceEnter src => srcOk src
  | .serviceExit src => srcOk src
  | .lbistBase src => srcOk src
  | .sramBase src => srcOk src
  | .lbistBench src b => srcOk src && decide (b < 9)
  | .marchFull src => srcOk src
  | .marchBank src layer pos => srcOk src && decide (layer < 18) && decide (pos < 64)
  | .shaftPrbs src b => srcOk src && decide (b < 9)
  | .testDone fails bench => bench.all (· < 9) && fails.all (·.1 < 2 ^ 18)
  | .calSensors src => srcOk src
  | .calMonitors src => srcOk src
  | .calShaft src b => srcOk src && decide (b < 9)
  | .calDriver src b => srcOk src && decide (b < 9)
  | .calRunDone measured => measured.all (·.1 < 4096)
  | .calApply src => srcOk src
  | .calReload src => srcOk src
  | .calSave src => srcOk src
  | .calSaveDone _ => true
  | .fuseSensingDone reads => reads.all readOk
  | .fuseRead src ctrl reads => srcOk src && decide (ctrl < 2 ^ 32) && reads.all readOk
  | .burnUnlock src key => srcOk src && decide (key < 2 ^ 32)
  | .wordBurn src w => srcOk src && decide (w < 126)
  | .sealBurn src r => srcOk src && decide (r < 9)
  | .forceLock src r => srcOk src && decide (r < 9)
  | .rollbackBurn src w => srcOk src && (w == 126 || w == 127)
  | .burnDone got0 got1 => decide (got0 < 2 ^ 72) && decide (got1 < 2 ^ 72)
  | .forceArm src r => srcOk src && decide (r < 9)
  | .overrideSet src w => srcOk src && decide (w < 128)
  | .overrideClear src w => srcOk src && decide (w < 128)
  | .coreReset src => srcOk src
  | .logPersist src => srcOk src
  | .read c req => decide (c < 2) && reqMsgOk c req
  | .write c req => decide (c < 2) && reqMsgOk c req
  | .readSegInit c req => decide (c < 2) && reqMsgOk c req
  | .readSeg c req => decide (c < 2) && reqMsgOk c req
  | .writeSegInit c req => decide (c < 2) && reqMsgOk c req
  | .writeSeg c req => decide (c < 2) && reqMsgOk c req
  | .abort c req => decide (c < 2) && reqMsgOk c req
  | .dictportAbort src => srcOk src
  | .transferTimeout c => decide (c < 2)
  | .saveValues _ => true
  | .wakePortPointer p => decide (p < 256)
  | .wakePortRead _ => true
  | .beacon _ note _ hdr pay => lineOk (note.line hdr pay)
  | .dictReq note hdr pay => lineOk (note.line hdr pay)
  | .wakeFrame note hdr pay => lineOk (note.line hdr pay)
  | .assign note hdr pay => lineOk (note.line hdr pay)
  | .rlCrcFail note hdr pay => lineOk (note.line hdr pay)
  | .nodeSlot _ _ => true
  | .linkTestSlot got _ => got.all lineOk
  | .lanternPor addr => decide (addr < 8)
  | .baseDieResetExit _ => true
  | .baseReset src key => srcOk src && decide (key < 2 ^ 32)
  | .eventEnWrite src off data => srcOk src && (decide (off < 2 ^ 26) && off % 4 == 0) && decide (data < 2 ^ 32)
  | .stuffingViolation b _ lane => decide (b < 9) && decide (lane < 76)
  | .benchReadyTimeout b => decide (b < 9)
  | .checkerFault source slab mask => decide (source < 128) && decide (slab < 2 ^ 27) && decide (mask < 2 ^ 32)
  | .dlUp speed width _ => decide (speed < 8) && decide (width ≤ 16)
  | .rlDiscardedFrame note hdr pay => lineOk (note.line hdr pay)
  | .tapInstruction op => decide (op < 256)
  | .pinSilenceTimeout => true
  | .beaconSilenceTimeout => true
  | .shiftStart => true
  | .drainStart => true
  | .drainComplete => true
  | .drainOverrun => true
  | .shiftEnd => true
  | .rejoinDone => true
  | .clearDone => true
  | .flushDone => true
  | .patrolSlice => true
  | .levelPauseStart => true
  | .suspectSweepStart => true
  | .malformedTlp => true
  | .d3hotWrite => true
  | .d0Write => true
  | .flr => true
  | .hotReset => true
  | .dlDown => true
  | .flrComplete => true
  | .busMasterEnable => true
  | .regulationWindowStart => true
  | .autoDoze => true
  | .blockGrant => true
  | .domainSwitchDone => true
  | .emberExit => true
  | .stackReady => true
  | .modelGuardEnd => true
  | .govStartHoldEnd => true
  | .govRiseQualified => true
  | .govForcedStep => true
  | .throttleLimitStep => true
  | .scrubSlice => true
  | .rowRepairDone => true
  | .rowRepairRetry => true
  | .fieldRecordAppend => true
  | .csMemSlice => true
  | .csMemRebuildDone => true
  | .csWaySlice => true
  | .csLaneSlice => true
  | .calValuesInForce => true
  | .burnUnlockLapse => true
  | .firmwareRunning => true
  | .bootTimeout => true
  | .confirmDelayExpiry => true
  | .updateEraseDone _ => true
  | .updateStaged _ => true
  | .watchdogExpiry => true
  | .logPersistDone => true
  | .tokenClaimDecision => true
  | .wakePortWake => true
  | .wakePortTimeout => true
  | .rlCycleStart => true
  | .beaconLost => true
  | .collision _ => true
  | .assignReqSlot _ => true
  | .assignRetry => true
  | .vddAonLoss => true
  | .perstAssert => true
  | .perstDeassert => true
  | .vddCoreLow => true
  | .refclkLoss => true
  | .forceArmLapse => true

end Sys2Proof
end

