-- ==== Sys2Proof/Safety.lean ====
section
/-! DEFINITION. The invariants that statements are made in: the canonical form of memory and of the register files, and that
every command completes. -/
namespace Sys2Proof.Safety
open Sys2Proof.Machine

/-- Keys strictly rising. -/
def keysRise : List (Nat × Nat) → Bool
  | [] => true
  | [_] => true
  | (a, _) :: (b, v) :: l => decide (a < b) && keysRise ((b, v) :: l)

/-- The three register files list their members in order, each once. -/
abbrev Filed (s : State) : Prop :=
  keysRise s.regs = true ∧ keysRise s.lregs = true ∧ keysRise s.bregs = true

/-- A step that goes on. -/
def GoesOn (s : State) : Prop := ∃ t, step s = .next t

/-- Every command that waits is well-formed. -/
def QueueOk (s : State) : Prop := s.pending.all Instr.wf = true

/-- Command `c` at `s` completes in a state of which `P` holds. -/
def Leads (c : Instr) (s : State) (P : State → Prop) : Prop := ∃ t, exec c s = .next t ∧ P t

/-- Source `n` reacts with NOTE at most (R320). -/
abbrev Mild (s : State) (n : Nat) : Prop := s.rd R.FAULT_REACT_REACTION [n] ≤ 1

/-- R323: every source carries a reaction that it allows. -/
abbrev ReactLegal (s : State) : Prop := ∀ n, n < 128 → s.rd R.FAULT_REACT_REACTION [n] ∈ allowedReactions n

/-- Nothing waits in the cache or at its internal port, no descriptor runs and no injection is in progress: a request is served at
once. -/
abbrev CacheIdle (s : State) : Prop :=
  s.cacheOn = true ∧ s.cache.wait = [] ∧ s.cache.opq = [] ∧ s.fault.inj = none ∧ (∀ h ∈ s.haul.chans, h.run = none) ∧
    ∀ r ∈ s.cache.port, srcPort r.src ≠ 3

/-- No FENCE waits, so that nothing but the cache follows what a link brings. -/
abbrev NoFence (s : State) : Prop := ∀ c, c < 64 → ((s.chan c).run.all fun r => r.phase != .fence) = true

/-- Each remap entry names a repair spare of its own (R134). -/
abbrev RemapsOk (s : State) : Prop :=
  (∀ r ∈ s.remaps, r.layer < 18 ∧ r.pos < 64 ∧ r.spare < 16) ∧
    (s.remaps.map fun r => (r.layer, r.pos, r.spare)).Nodup

/-- The receiver of a direction of bench `b`'s link takes the next frame (R146). -/
abbrev Accepts (s : State) (b : Nat) (down : Bool) : Prop :=
  b < s.nBench ∧ b < s.shaft.length ∧ b < s.bench.length ∧ s.linkState b = linkActive ∧ s.injFrame b down = false ∧
    (s.dir b down).nak = false ∧ (s.dir b down).dup = 0

/-- The bytes of DRAM that portions of a slab take up on the layers `ns`. -/
abbrev InPortion (s : State) (ns : List Nat) (slab a : Nat) : Prop :=
  ∃ n ∈ ns, s.place n slab ≤ a ∧ a < s.place n slab + portionBytes

/-- Members of the register files that differ at no key but those listed. -/
def Keeps (s t : State) (ks : List (Held × Nat)) : Prop := ∀ h k, (h, k) ∉ ks → kvGet k (t.file h) = kvGet k (s.file h)

/-- The state in which a message of a carrier is judged: at the port its bytes stand in the mailbox; a request ends DOZE. -/
def dictBefore (s : State) (c : Nat) (m : List Byte) : State :=
  let s := if c = 0 then (s.wordsOf R.DICT_REQ_HDR_HDR (m.take 16)).wordsOf R.DICT_REQ_DATA_DATA (m.drop 16) else s
  (s.inbound (.dict c)).checkArray 6

/-- A carrier takes a message: the port when it is not busy, Rack Link outside EMBER with its domain on. -/
abbrev DictTakes (s : State) (c : Nat) : Prop :=
  s.live 3 = true ∧ (c = 0 ∧ s.rd R.DICT_STATUS_BUSY ≠ 1 ∨ c = 1 ∧ s.live 22 = true ∧ s.pstate ≠ 3)

/-- A line on which the Rack Link receiver finds one sync that it accepts, while nothing is injected (R418). -/
abbrev Locks (s : State) (l : RxLine) : Prop :=
  s.rackHears = true ∧ l.cuts = [] ∧ syncGood l.sync = true ∧ s.fault.inj = none

/-- A line whose frame the Rack Link receiver takes as one of `k` (R418 to R422). -/
abbrev Frames (s : State) (l : RxLine) (h p : List Byte) (k : RxKind) : Prop :=
  Locks s l ∧ lineFrame l = some (h, p) ∧ s.rxKind h p = k

/-- Such a line, with no address conflict (R430). -/
abbrev Hears (s : State) (l : RxLine) (h p : List Byte) (k : RxKind) : Prop :=
  Frames s l h p k ∧ hdrSrc h ≠ s.rackAddr ∧ s.inOwnSlot = false

/-- A receive buffer is free for an accepted frame, or the management core takes it (R432). -/
abbrev Room (s : State) : Prop := s.pstate = 3 ∨ s.rackTakes = true ∨ s.rack.rx.length < 4

/-- Two states whose members of a register family are the same. -/
def Same (f : Fam) (s t : State) : Prop := ∀ i, t.rd f i = s.rd f i

/-- What a register write leaves of rack time, of DRAM and of the OTP array: all of it. -/
def Untouched (s t : State) : Prop :=
  t.time = s.time ∧ t.dram = s.dram ∧ t.segs = s.segs ∧ t.fuse.words = s.fuse.words ∧ t.pending = s.pending

end Sys2Proof.Safety
end

