-- ==== Sys2Proof/Certificates/Slice0/Obligations.lean ====
section
/-! DEFINITION. What is to be proved of the model: statements over every state, drawn from the spec's numbered rules. -/
open Sys2Proof Sys2Proof.Machine Sys2Proof.Safety

/-! ### The queue -/

/-- A step takes the command at the front of the queue and performs it with the rest waiting. -/
def Obligations.StepTakesFront : Prop :=
  ∀ (s : State) (c : Instr) (cs : List Instr), s.pending = c :: cs → step s = exec c { s with pending := cs }

/-- Every command has a next state: none stops the block. With no command waiting the device idles (the model's choice, log
entry 1). -/
def Obligations.EveryStepGoesOn : Prop :=
  (∀ (c : Instr) (s : State), ∃ t, exec c s = .next t) ∧
  (∀ s : State, s.pending = [] → step s = .next s)

/-- No command adds to, takes from or reorders the queue. -/
def Obligations.CommandKeepsQueue : Prop :=
  ∀ (c : Instr) (s t : State), exec c s = .next t → t.pending = s.pending

/-! ### Rack time and shifts -/

/-- R23, R25, R28: a countable edge on TICK counts one tick, whose number is the loaded one or the next; an early one counts
none; a tick missing for 15 µs, and the flywheel's tick, are counted the same way. R26: while free-running an edge up to 2 µs before
the flywheel's tick replaces it, one up to 2 µs after it moves the next, others do neither; after eight the pin counts again. R27: from the flywheel's tick to its next
there is one period, adjusted by at most 1 % while it follows beacons. -/
def Obligations.TicksAreCounted : Prop :=
  ∀ (s : State) (t : Nat) (env : TickEnv),
    s.power.lanternUp = true →
    let next := s.time.load.getD ((s.time.now + 1) % 2 ^ 48)
    (s.rd R.TIME_STATUS_SOURCE = 0 → s.time.lastEdge ≤ t → s.time.lastTick + 9800 ≤ t → t ≤ s.time.lastTick + 15000 →
      Leads (.tickEdge t env) s fun u =>
        u.time.now = next ∧ u.time.lastTick = t ∧ u.time.load = none ∧ u.time.pinSilent = 0) ∧
    (s.rd R.TIME_STATUS_SOURCE = 0 → s.time.lastEdge ≤ t → s.time.lastTick ≤ t → t < s.time.lastTick + 9800 →
      Leads (.tickEdge t env) s fun u =>
        u.time = { s.time with lastEdge := t, sinceReset := u.time.sinceReset, freshShift := u.time.freshShift }) ∧
    (s.rd R.TIME_STATUS_SOURCE ≠ 0 → s.rd R.TIME_CTRL_PIN_EN = 1 → s.time.lastEdge ≤ t → s.time.lastTick ≤ t →
      let near := t ≤ s.time.nextFly ∧ s.time.nextFly ≤ t + 2000
      (s.time.train < 7 → near →
        Leads (.tickEdge t env) s fun u => u.time.now = next ∧ u.time.lastTick = t ∧ u.time.load = none ∧
          u.time.nextFly = t + s.rd R.TIME_PERIOD * 40) ∧
      (s.time.train < 7 → ¬ near →
        Leads (.tickEdge t env) s fun u => u.time.now = s.time.now ∧ u.time.lastTick = s.time.lastTick ∧ u.time.nextFly =
          if s.time.flew = true ∧ t ≤ s.time.lastTick + 2000 then t + s.rd R.TIME_PERIOD * 40 else s.time.nextFly) ∧
      (s.time.train = 8 → s.time.lastTick + 5000 ≤ t → t ≤ s.time.lastTick + 15000 →
        Leads (.tickEdge t env) s fun u => u.time.now = next ∧ u.time.lastTick = t ∧ u.time.train = 0)) ∧
    (s.rd R.TIME_STATUS_SOURCE = 0 ∨ s.time.train = 8 → s.time.lastTick + 15000 ≤ t →
      Leads (.missingTick t env) s fun u =>
        u.time.now = next ∧ u.time.lastTick = t ∧ u.time.load = none ∧ u.time.nextFly = t + s.rd R.TIME_PERIOD * 40) ∧
    (s.rd R.TIME_STATUS_SOURCE ≠ 0 → s.time.train ≠ 8 → s.time.nextFly ≤ t →
      Leads (.flywheelTick t env) s fun u =>
        u.time.now = next ∧ u.time.lastTick = s.time.nextFly ∧ u.time.load = none ∧
        u.time.nextFly = s.time.nextFly + ((s.rd R.TIME_PERIOD * 40 : Nat) + s.flyAdjust).toNat ∧
        (s.rd R.TIME_STATUS_SOURCE ≠ 1 → s.flyAdjust = 0) ∧ 100 * s.flyAdjust.natAbs ≤ s.rd R.TIME_PERIOD * 40)

/-- R27: without an edge for 1,000 ticks the flywheel follows beacons that still arrive, or runs alone; without a beacon for
3,000 ticks the source becomes LOCAL. R29: the write of LOAD_HI commits a load of the next counted tick's number and
sets NUMBER_VALID. -/
def Obligations.TimeSourceAndLoad : Prop :=
  (∀ s : State, s.power.lanternUp = true →
     (s.rd R.TIME_STATUS_SOURCE ≠ 0 → 1000 ≤ s.time.pinSilent →
       Leads .pinSilenceTimeout s fun t => t.rd R.TIME_STATUS_SOURCE =
         if s.rd R.TIME_CTRL_BEACON_EN = 1 ∧ s.time.beaconSilent < 3000 then 1 else 2) ∧
     (s.rd R.TIME_STATUS_SOURCE = 1 → 3000 ≤ s.time.beaconSilent →
       Leads .beaconSilenceTimeout s fun t => t.rd R.TIME_STATUS_SOURCE = 2)) ∧
  (∀ (s : State) (src : RegSrc) (hi : Nat), (s.inbound src).live 3 = true →
     Leads (.tickLoad src hi) s fun t =>
       t.time.load = some (((s.inbound src).rd R.TIME_LOAD_LO + hi % 65536 * 2 ^ 32) % 2 ^ 48) ∧
       t.rd R.TIME_STATUS_NUMBER_VALID = 1 ∧ t.time.now = (s.inbound src).time.now)

/-- R34, R35: an entry that is due acts after every lower one that is due: each action has its effect. R35: an action other
than WAKE or EVENT that falls due in REST or EMBER, or once the TIME block has granted an entry (Table 11.5), is
skipped: SKIPPED is set and FIRED is not. -/
def Obligations.ScheduleActs : Prop :=
  (∀ (s : State) (i : Nat), i < 64 → s.power.lanternUp = true → s.schedDue i = true →
     (∀ j, j < i → s.schedDue j = false) →
     let act := s.rd R.TIME_SCHED_ACTION [i]
     let arg := s.rd R.TIME_SCHED_ARG [i]
     let free := s.pstate < 2 ∧ s.power.granted.contains 1 = false
     (act = 0 → free →
       Leads (.schedNone i) s fun t => t.rd R.TIME_SCHED_FIRED [i] = 1 ∧
         (s.rd R.TIME_SCHED_PERIOD [i] = 0 → t.rd R.TIME_SCHED_ARM [i] = 0)) ∧
     (act = 1 → s.pstate = 3 → s.power.seq = .idle → s.thermal.trip = none → (s.rd R.POWER_WAKE_EN_EN).testBit 2 = true →
       Leads (.schedWake i) s fun t => t.rd R.POWER_WAKE_LATCH_PENDING = 1 ∧ t.pins.wake = true) ∧
     (act = 2 → arg = 1 → free → s.pstate = 0 → s.power.seq = .idle → s.shiftState ≠ 3 → s.haulBusy = false →
       Leads (.schedEnterState i) s fun t => t.rd R.POWER_STATUS_STATE = 1) ∧
     (act = 3 → arg < 512 → free → Leads (.schedSetCap i) s fun t => t.rd R.THERMAL_CAP_SETPOINT = arg) ∧
     (act = 4 → s.live 3 = true → s.pstate < 2 → Leads (.schedEvent i) s fun t => t.rd R.TIME_EVENTS_SCHED_FIRED = 1) ∧
     (act = 5 → free → Leads (.schedScrubPause i) s fun t => t.rd R.RAS_RAS_CTRL_PAUSED = 1) ∧
     (act = 6 → free → Leads (.schedScrubResume i) s fun t => t.rd R.RAS_RAS_CTRL_PAUSED = 0)) ∧
  (∀ (s : State) (i : Nat), i < 64 → s.power.lanternUp = true → s.schedDue i = true →
     (∀ j, j < i → s.schedDue j = false) → 2 ≤ s.pstate ∨ s.power.granted.contains 1 = true →
     let P := fun t : State => t.rd R.TIME_SCHED_SKIPPED [i] = 1 ∧ t.rd R.TIME_SCHED_FIRED [i] = s.rd R.TIME_SCHED_FIRED [i] ∧
       t.rd R.POWER_STATUS_STATE = s.rd R.POWER_STATUS_STATE
     (s.rd R.TIME_SCHED_ACTION [i] = 0 → Leads (.schedNone i) s P) ∧
     (s.rd R.TIME_SCHED_ACTION [i] = 2 → Leads (.schedEnterState i) s P) ∧
     (s.rd R.TIME_SCHED_ACTION [i] = 3 → Leads (.schedSetCap i) s P) ∧
     (s.rd R.TIME_SCHED_ACTION [i] = 5 → Leads (.schedScrubPause i) s P) ∧
     (s.rd R.TIME_SCHED_ACTION [i] = 6 → Leads (.schedScrubResume i) s P))

/-- R36: an entry that is not armed takes what is written; one that is armed keeps its target, period and action, and the
word that clears ARM still clears it. R37: the start tick, the end tick and the drain lead are written before the drain;
from the drain on they are kept. -/
def Obligations.ArmedWritesAreGuarded : Prop :=
  (∀ (s : State) (src : RegSrc) (n data : Nat), n < 64 →
     let u := s.inbound src
     u.live 3 = true →
     (u.rd R.TIME_SCHED_ARM [n] ≠ 1 →
       (Leads (.schedEntryWrite src n 0 data) s fun t => t.rd R.TIME_SCHED_TARGET_LO [n] = data % 2 ^ 32) ∧
       (Leads (.schedEntryWrite src n 1 data) s fun t =>
         t.rd R.TIME_SCHED_TARGET_HI [n] = data % 2 ^ 16 ∧ t.rd R.TIME_SCHED_ARM [n] = data / 2 ^ 16 % 2) ∧
       (Leads (.schedEntryWrite src n 2 data) s fun t => t.rd R.TIME_SCHED_PERIOD [n] = data % 2 ^ 32) ∧
       (schedLegal (data % 16) (data / 2 ^ 16 % 2 ^ 16) = true →
         Leads (.schedEntryWrite src n 3 data) s fun t =>
           t.rd R.TIME_SCHED_ACTION [n] = data % 16 ∧ t.rd R.TIME_SCHED_ARG [n] = data / 2 ^ 16 % 2 ^ 16)) ∧
     (u.rd R.TIME_SCHED_ARM [n] = 1 → ∀ word, Leads (.schedEntryWrite src n word data) s fun t =>
       t.rd R.TIME_SCHED_TARGET_LO [n] = u.rd R.TIME_SCHED_TARGET_LO [n] ∧
       t.rd R.TIME_SCHED_TARGET_HI [n] = u.rd R.TIME_SCHED_TARGET_HI [n] ∧
       t.rd R.TIME_SCHED_PERIOD [n] = u.rd R.TIME_SCHED_PERIOD [n] ∧
       t.rd R.TIME_SCHED_ACTION [n] = u.rd R.TIME_SCHED_ACTION [n] ∧
       t.rd R.TIME_SCHED_ARG [n] = u.rd R.TIME_SCHED_ARG [n] ∧
       (word = 1 → t.rd R.TIME_SCHED_ARM [n] = data / 2 ^ 16 % 2))) ∧
  (∀ (s : State) (src : RegSrc) (data : Nat),
     let u := s.inbound src
     u.live 3 = true →
     (u.shiftState < 3 →
       (Leads (.shiftTicksWrite src 0x410024 data) s fun t => t.rd R.TIME_SHIFT_START_LO = data % 2 ^ 32) ∧
       (Leads (.shiftTicksWrite src 0x410028 data) s fun t => t.rd R.TIME_SHIFT_START_HI = data % 2 ^ 16) ∧
       (Leads (.shiftTicksWrite src 0x41002C data) s fun t => t.rd R.TIME_SHIFT_END_LO = data % 2 ^ 32) ∧
       (Leads (.shiftTicksWrite src 0x410030 data) s fun t => t.rd R.TIME_SHIFT_END_HI = data % 2 ^ 16) ∧
       (10 ≤ data % 2 ^ 14 → data % 2 ^ 14 ≤ 10000 →
         Leads (.shiftTicksWrite src 0x410034 data) s fun t => t.rd R.TIME_DRAIN_LEAD_LEAD = data % 2 ^ 14)) ∧
     (3 ≤ u.shiftState → ∀ off, Leads (.shiftTicksWrite src off data) s fun t =>
       t.shiftStart? = u.shiftStart? ∧ t.shiftEnd? = u.shiftEnd? ∧ t.lead = u.lead))

/-- R37 to R39, R41 to R43: the shift's state moves IDLE, ARMED, IN_SHIFT, DRAINING, DRAINED, IDLE. A start that is reached
in REST or EMBER is late. Where a queue of R43 is not empty at the start tick, the start waits for the next tick: the model's
choice (log entry 12). -/
def Obligations.ShiftMoves : Prop :=
  ∀ (s : State) (src : RegSrc), ReactLegal s → ReactLegal (s.inbound src) →
    let u := s.inbound src
    (u.live 3 = true → u.shiftState = 0 → u.lead + 10 ≤ tickSub u.shiftEnd? u.shiftStart? →
      tickSub u.shiftEnd? u.shiftStart? < 2 ^ 47 →
      Leads (.shiftArm src) s fun t => t.rd R.TIME_SHIFT_STATUS_STATE = 1 ∧ t.rd R.TIME_SHIFT_CTRL_ARM = 1) ∧
    (u.live 3 = true → u.shiftState = 1 →
      Leads (.shiftWithdraw src) s fun t => t.rd R.TIME_SHIFT_STATUS_STATE = 0 ∧ t.rd R.TIME_SHIFT_CTRL_ARM = 0) ∧
    (u.live 3 = true → u.shiftState = 2 →
      Leads (.shiftEndEarly src) s fun t => t.shiftEnd? = (u.time.load.getD (u.time.now + 1) + u.lead) % 2 ^ 48 ∧
        t.shiftState = 2 ∧ t.time.freshShift = true) ∧
    (s.shiftState = 1 → s.time.freshShift = false → reached s.time.now s.shiftStart? = true → s.power.lanternUp = true →
      (2 ≤ s.pstate ∨ s.power.seq ≠ .idle →
        Leads .shiftStart s fun t => t = { s with time := { s.time with startDeferred := true } }) ∧
      (s.pstate < 2 → s.power.seq = .idle → s.live 3 = true → s.rd R.TEST_CTRL_SERVICE = 0 →
        let v := if s.dozeExit.cacheOn then s.dozeExit.closeAll.cacheSettle else s.dozeExit
        (v.startReady = true →
          Leads .shiftStart s fun t => t.rd R.TIME_SHIFT_STATUS_STATE = 2 ∧ t.time.startDeferred = false ∧
            (s.time.startDeferred = true → t.rd R.TIME_SHIFT_STATUS_START_LATE = 1)) ∧
        (v.startReady = false →
          Leads .shiftStart s fun t => t.rd R.TIME_SHIFT_STATUS_STATE = 1 ∧ t.time.startDeferred = true ∧
            t.time.freshShift = true))) ∧
    (s.shiftState = 2 → s.time.freshShift = false → s.live 3 = true →
      reached s.time.now (tickSub s.shiftEnd? s.lead) = true →
      Leads .drainStart s fun t => t.rd R.TIME_SHIFT_STATUS_STATE = 3 ∧ t.time.overran = false ∧
        (s.test.mem = none → (∀ c, c < 64 → (s.chan c).run = none ∧ s.rd R.HAUL_CTRL_EN [c] ≠ 1 ∧ s.chanPosted c = false) →
          t.time.flushing = true)) ∧
    (s.shiftState = 3 → s.live 3 = true → s.channelsQuiet = true → s.test.mem = none →
      (s.time.flushing = false → Leads .drainComplete s fun t => t.time.flushing = true) ∧
      (s.time.flushing = true → s.cacheQuiet = true →
        Leads .drainComplete s fun t => t.rd R.TIME_SHIFT_STATUS_STATE = 4 ∧ t.time.freshShift = true)) ∧
    (Mild s 118 → s.shiftState = 3 → s.time.overran = false → s.time.freshShift = false → s.live 3 = true →
      reached s.time.now s.shiftEnd? = true →
      Leads .drainOverrun s fun t => t.rd R.TIME_SHIFT_STATUS_DRAIN_OVERRUN = 1 ∧ t.time.overran = true ∧
        t.time.overruns = s.time.overruns + 1 ∧ t.rd R.TIME_SHIFT_STATUS_STATE = 3) ∧
    (s.shiftState = 4 → s.time.freshShift = false → s.power.lanternUp = true → reached s.time.now s.shiftEnd? = true →
      Leads .shiftEnd s fun t => t.rd R.TIME_SHIFT_STATUS_STATE = 0 ∧ t.rd R.TIME_SHIFT_CTRL_ARM = 0)

/-- R41: a drain that runs on at the end tick is reported and goes on to DRAINED; the shift ends there and not before. -/
def Obligations.DrainOverrunIsReported : Prop :=
  ∀ s : State, s.shiftState = 3 → s.live 3 = true → s.time.freshShift = false → reached s.time.now s.shiftEnd? = true →
    (s.time.overran = false → Mild s 118 →
      Leads .drainOverrun s fun t => t.rd R.TIME_SHIFT_STATUS_DRAIN_OVERRUN = 1 ∧ t.rd R.TIME_EVENTS_DRAIN_OVERRUN = 1 ∧
        t.shiftState = 3 ∧ t.time.overruns = s.time.overruns + 1) ∧
    (Leads .shiftEnd s fun t => t = s) ∧
    (s.channelsQuiet = true → s.time.flushing = true → s.cacheQuiet = true → s.test.mem = none → ReactLegal s →
      Leads .drainComplete s fun t => t.shiftState = 4) ∧
    ∀ s4 : State, ReactLegal s4 → s4.shiftState = 4 → s4.time.freshShift = false → s4.power.lanternUp = true →
      reached s4.time.now s4.shiftEnd? = true → Leads .shiftEnd s4 fun t => t.shiftState = 0

/-! ### Power states -/

/-- R253, R255, R256: a request for DOZE in ACTIVE is served at once; one for REST or EMBER starts the entry sequence with
block 1, or from REST with block 4. R255: after DOZE_IDLE idle ticks the device enters DOZE by itself. R249: PERF.LIMIT
is written, and LEVEL_LIMIT follows it. -/
def Obligations.StateRequestsStart : Prop :=
  (∀ (s : State) (src : RegSrc),
     let u := s.inbound src
     u.live 3 = true → u.power.seq = .idle →
     (u.pstate = 0 → u.shiftState ≠ 3 → u.haulBusy = false →
       Leads (.reqDoze src) s fun t => t.rd R.POWER_STATUS_STATE = 1 ∧ t.power.seq = .idle) ∧
     (u.pstate = 0 → u.shiftState ≠ 2 → u.shiftState ≠ 3 →
       (Leads (.reqRest src) s fun t => t.power.seq = .asking 1 ∧ t.power.target = 2 ∧ t.rd R.POWER_STATUS_SEQ_BUSY = 1) ∧
       (Leads (.reqEmber src) s fun t => t.power.seq = .asking 1 ∧ t.power.target = 3 ∧ t.rd R.POWER_STATUS_SEQ_BUSY = 1)) ∧
     (u.pstate = 2 → u.blockRefuses 4 3 = none →
       Leads (.reqEmber src) s fun t => t.power.seq = .asking 4 ∧ t.power.target = 3)) ∧
  (∀ s : State, s.live 3 = true → s.pstate = 0 → s.power.seq = .idle → s.rd R.POWER_CTRL_DOZE_IDLE ≠ 0 →
     s.rd R.POWER_CTRL_DOZE_IDLE ≤ s.power.idleTicks → s.shiftState ≠ 3 → s.haulBusy = false →
     Leads .autoDoze s fun t => t.rd R.POWER_STATUS_STATE = 1 ∧ t.power.idleTicks = 0) ∧
  (∀ (s : State) (src : RegSrc) (v : Nat), (s.inbound src).live 3 = true → v < 4 →
     Leads (.perfLimitWrite src v) s fun t => t.rd R.POWER_PERF_LIMIT = v ∧ v ≤ t.levelLimit)

/-- R256, R257, R266: BLOCK_GRANT completes whatever the sequencer waits for: a block that has quiesced grants and the next is
asked, from ACTIVE in the order of Table 11.5 and from REST 4, 7, the preparation of R257, 8; after block 8 the domains
are switched; one that has not quiesced changes nothing. DOMAIN_SWITCH_DONE completes: the new state is reported and the
sequencer is idle. R264: BENCH_READY_TIMEOUT completes: a bench that reports no READY in time goes offline, and the entry no
longer waits for it. -/
def Obligations.EntrySequenceProceeds : Prop :=
  (∀ s : State, s.rd R.POWER_WAKE_LATCH_PENDING = 0 →
     (∀ b, s.power.seq = .asking b → s.blockQuiet b = false → ∃ t, exec .blockGrant s = .next t ∧ t = s) ∧
     (∀ b, s.power.seq = .asking b → s.blockQuiet b = true → s.pstate = 0 → b ∈ [1, 2, 3, 5, 6] →
       s.rd R.TEST_CTRL_SERVICE = 0 → (s.blockGrants b).blockRefuses (b + 1) s.power.target = none →
       ∃ t, exec .blockGrant s = .next t ∧ t.power.seq = .asking (b + 1) ∧ t.power.granted = s.power.granted ++ [b + 1] ∧
         t.pstate = 0) ∧
     (s.power.seq = .asking 4 → s.blockQuiet 4 = true → s.pstate = 0 → s.cache.lines = [] → s.cache.merge = [] →
       ∃ t, exec .blockGrant s = .next t ∧ t.power.seq = .asking 5 ∧ t.power.granted = s.power.granted ++ [5]) ∧
     (s.power.seq = .asking 7 → s.pstate = 0 → s.power.target = 2 →
       ∃ t, exec .blockGrant s = .next t ∧ t.power.seq = .asking 8 ∧ t.power.granted = s.power.granted ++ [8] ∧
         ∀ b, b ∈ t.power.waitReady ↔ b ∈ s.askedBenches ∧ s.linkState b ≠ linkHold) ∧
     (s.pstate = 2 → s.power.target = 3 →
       (s.power.seq = .asking 4 → s.blockQuiet 4 = true → s.blockRefuses 7 3 = none →
         ∃ t, exec .blockGrant s = .next t ∧ t.power.seq = .asking 7) ∧
       (s.power.seq = .asking 7 → s.fwRuns = false →
         ∃ t, exec .blockGrant s = .next t ∧ t.power.seq = .preparing ∧ t.rd R.POWER_STATUS_VID = s.vidCode 2) ∧
       (s.power.seq = .preparing → s.allTrained = true →
         ∃ t, exec .blockGrant s = .next t ∧ t.power.seq = .asking 8 ∧ t.power.waitReady = s.askedBenches) ∧
       (s.power.seq = .preparing → s.allTrained = false → ∃ t, exec .blockGrant s = .next t ∧ t = s)) ∧
     (s.power.seq = .asking 8 → s.power.waitReady = [] →
       ∃ t, exec .blockGrant s = .next t ∧ t.power.seq = .switching ∧ t.power.target = s.power.target) ∧
     (s.power.seq = .switching → s.power.target = 2 ∨ s.power.target = 3 →
       ∃ t, exec .domainSwitchDone s = .next t ∧ t.rd R.POWER_STATUS_STATE = s.power.target ∧ t.power.seq = .idle ∧
         t.rd R.HOST_STATUS_STACK_READY = 0 ∧ t.rd R.POWER_LAST_ENTRY_RESULT = 0 ∧
         t.rd R.POWER_LAST_ENTRY_TARGET = s.power.target)) ∧
  (∀ (s : State) (b : Nat), b < s.nBench → b ∈ s.power.waitReady → s.live 3 = true → ReactLegal s →
     ∃ t, exec (.benchReadyTimeout b) s = .next t ∧ t.linkState b = linkOffline ∧ b ∉ t.power.waitReady)

/-! ### Supplies, resets and start-up -/

/-- R439, R447, R448, R474: what PERST#, a supply, REFCLK and RESET_CTRL do to the base die, and how it leaves reset. -/
def Obligations.BaseDieResets : Prop :=
  ∀ s : State,
    (s.power.lanternUp = true → s.thermal.trip = none → s.power.inReset = false → s.live 2 = true →
      s.rd R.HOST_STATUS_LINK_UP < 2 →
      Leads .perstAssert s fun t => t.pins.perst = true ∧ t.rd R.HOST_STATUS_LINK_UP = 0) ∧
    (Leads .perstDeassert s fun t => t.pins.perst = false ∧ t.pins.wake = false) ∧
    (s.power.lanternUp = true → s.thermal.trip = none → s.power.inReset = false → s.pstate ≠ 3 →
      (Leads .vddCoreLow s fun t => t.power.inReset = true ∧ t.pins.core = false ∧ t.rd R.GLOBAL_RESET_INFO_CAUSE = 3 ∧
        t.rd R.GLOBAL_RESET_INFO_FLUSHED = 0 ∧ t.rd R.FAULT_STICKY_SOURCES [0] = 1) ∧
      (Leads .refclkLoss s fun t => t.power.inReset = true ∧ t.pins.refclk = false ∧ t.rd R.GLOBAL_RESET_INFO_CAUSE = 4 ∧
        t.rd R.GLOBAL_RESET_INFO_FLUSHED = 0 ∧ t.rd R.FAULT_STICKY_SOURCES [6] = 1)) ∧
    (∀ rid key, key % 65536 = 0xB5E7 → (s.inbound (.host rid)).live 3 = true → (s.inbound (.host rid)).host.flr = none →
      (s.inbound (.host rid)).power.resetReq = none →
      Leads (.baseReset (.host rid) key) s fun t => t.power.resetReq.isSome = true ∨ t.power.inReset = true) ∧
    (∀ bootsel, s.power.resetReq = none → s.power.lanternUp = true → s.power.inReset = true → s.pins.perst = false →
      s.thermal.trip = none → s.pstate ≠ 3 → s.fuse.hold = false → Mild s 45 →
      Leads (.baseDieResetExit bootsel) s fun t => t.power.inReset = false ∧ t.pins.bootsel = bootsel ∧
        t.rd R.FAULT_STATUS_SAFE = 0 ∧ t.ras.gen = s.time.now % 2 ^ 24)

/-- R474: RESET_CTRL resets nothing without its key, or when firmware or the dictionary writes it. R463: the TAP takes an
instruction while its supplies are present; under DEBUG_LOCK a private one acts as BYPASS, but not while LIFE is open (R359). R323,
R328: LOCK is set by a write of it once firmware has applied the saved reactions, and not before. -/
def Obligations.KeysAndLocksGuard : Prop :=
  (∀ (s : State) (src : RegSrc) (key : Nat),
     let u := s.inbound src
     u.power.inReset = false → u.power.resetReq = none → (key % 65536 ≠ 0xB5E7 ∨ fromHost src = false) →
     Leads (.baseReset src key) s fun t => t.power.inReset = false ∧ t.power.resetReq = none ∧
       t.rd R.GLOBAL_RESET_COUNT_COUNT = u.rd R.GLOBAL_RESET_COUNT_COUNT) ∧
  (∀ (s : State) (op : Nat), s.pins.aon = true → s.pins.core = true →
     Leads (.tapInstruction op) s fun t => t.pins.tapIr = op % 256 ∧
       t.pins.tapBypass = ((!tapPublic.contains (op % 256) && (s.fuseWord 8).testBit 8 &&
         !s.is R.FUSE_STATUS_MANUFACTURING) || op % 256 == 0xFF)) ∧
  (∀ (s : State) (src : RegSrc), let u := s.inbound src
     u.live 3 = true →
     (u.mgmt.loaded = true → Leads (.faultLock src) s fun t => t.rd R.FAULT_CTRL_LOCK = 1) ∧
     (u.mgmt.loaded = false → Leads (.faultLock src) s fun t => t.rd R.FAULT_CTRL_LOCK = u.rd R.FAULT_CTRL_LOCK))

/-- R281, R438: the lantern domain's power-on reset samples ADDR and restarts rack time; loss of VDD_AON loses everything
but what the fuses and the external flash hold. R443, R445: with every step of start-up completed STACK_READY is set,
and an exit ends in ACTIVE; the exit from EMBER starts when the wake latch is set. -/
def Obligations.StartUpProceeds : Prop :=
  (∀ (s : State) (addr : Nat),
     (s.power.lanternUp = false →
       Leads (.lanternPor addr) s fun t => t.power.lanternUp = true ∧ t.pins.addr = addr % 8 ∧ t.time = State.reset.time ∧
         t.lregs = [] ∧ t.dram = s.dram ∧ t.fuse = s.fuse) ∧
     (Leads .vddAonLoss s fun t => t.power.lanternUp = false ∧ t.pins.aon = false ∧ t.lregs = [] ∧ t.dram = [] ∧
       t.fuse.words = s.fuse.words ∧ t.fuse.seals = s.fuse.seals ∧ t.mgmt.flashLog = s.mgmt.flashLog ∧
       t.mgmt.slotA = s.mgmt.slotA ∧ t.mgmt.slotB = s.mgmt.slotB)) ∧
  (∀ s : State,
     (let u := s.restoreSettle.releaseSettle
      u.rd R.HOST_STATUS_STACK_READY = 0 → u.stackDone = true → u.live 2 = true → u.power.perstHeld = false → ReactLegal u →
       Leads .stackReady s fun t => t.rd R.HOST_STATUS_STACK_READY = 1 ∧ t.power.fromOff = false ∧
         (u.power.seq = .exiting → t.rd R.POWER_STATUS_STATE = 0 ∧ t.power.seq = .idle)) ∧
     (s.power.lanternUp = true → s.pstate = 3 → s.power.seq = .idle → s.rd R.POWER_WAKE_LATCH_PENDING = 1 →
       s.pins.perst = false → s.thermal.trip = none → Mild s 45 →
       Leads .emberExit s fun t => t.power.seq = .exiting ∧ t.rd R.POWER_STATUS_SEQ_BUSY = 1 ∧ t.pins.wake = false))

/-! ### Faults -/

/-- R318: 1s written to a STICKY word clear those bits, and no other source's. R318: FIRST.VALID does not outlive the last
sticky bit. R322: a release write frees CODING and RACKLINK, and no other target. R324: a shadow whose last tick
boundary has come is closed. -/
def Obligations.FaultRecordsClear : Prop :=
  (∀ (s : State) (src : RegSrc) (w data : Nat), w < 4 → (s.inbound src).live 3 = true →
     Leads (.stickyClear src w data) s fun t => ∀ n, n < 128 →
       t.rd R.FAULT_STICKY_SOURCES [n] =
         if n / 32 = w ∧ data.testBit (n % 32) = true then 0 else (s.inbound src).rd R.FAULT_STICKY_SOURCES [n]) ∧
  (∀ (s : State) (src : RegSrc) (w data : Nat), w < 4 → (s.inbound src).live 3 = true →
     Leads (.stickyClear src w data) s fun t =>
       (∀ n, n < 128 → t.rd R.FAULT_STICKY_SOURCES [n] ≠ 1) → t.rd R.FAULT_FIRST_VALID = 0) ∧
  (∀ (s : State) (src : RegSrc) (data : Nat), (s.inbound src).live 3 = true →
     Leads (.fenceRelease src data) s fun t => ∀ k, k < 14 →
       (t.rd R.FAULT_FENCED_TARGETS).testBit k =
         (((s.inbound src).rd R.FAULT_FENCED_TARGETS).testBit k && !((k == 1 || k == 3) && data.testBit k))) ∧
  (∀ (s : State) (target : Nat), (target, 0) ∈ s.fault.shadows →
     Leads (.shadowEnd target) s fun t => t.fault.shadows = s.fault.shadows.filter (·.1 != target) ∧
       t.rd R.FAULT_STATUS_SHADOW_OPEN = if t.fault.shadows = [] then 0 else 1)

/-- R323: a REACT field takes a reaction that its source allows while LOCK is 0; any other field keeps its value. -/
def Obligations.ReactionsAreGuarded : Prop :=
  ∀ (s : State) (src : RegSrc) (w data : Nat),
    let u := s.inbound src
    w < 16 → u.live 3 = true → u.fault.inj = none →
    Leads (.reactWrite src w data) s fun t => ∀ n, n < 128 →
      t.rd R.FAULT_REACT_REACTION [n] =
        if n / 8 = w ∧ u.rd R.FAULT_CTRL_LOCK ≠ 1 ∧ field data (4 * (n % 8)) 4 ∈ allowedReactions n
        then field data (4 * (n % 8)) 4 else u.rd R.FAULT_REACT_REACTION [n]

/-- R325, R326: an injection that is not refused runs: GO is set and REMAINING counts the checks to invert. R318: a source
that its checker detects, and no shadow masks, has its sticky bit set. Table 14.1: an uncorrectable error of the cache poisons the
DIRTY sectors that it meets, and one of the merge buffer its entry's sectors. -/
def Obligations.ChecksAndInjections : Prop :=
  (∀ (s : State) (src : RegSrc) (count : Nat),
     let u := s.inbound src
     let P := fun t : State => t.rd R.FAULT_INJ_CTRL_GO = 1 ∧ t.rd R.FAULT_INJ_STATUS_REMAINING = count % 256
     u.live 3 = true → count < 256 →
     (∀ b dir, u.injRefused 1 b false count = false → Leads (.injectShaftCrc src b dir count) s P) ∧
     (∀ layer, u.injRefused 2 layer false count = false → Leads (.injectInnerCrc src layer count) s P) ∧
     (u.injRefused 3 0 false count = false → Leads (.injectSlabSyndrome src count) s P) ∧
     (∀ array double, u.injRefused 4 array double count = false → Leads (.injectSramEcc src array double count) s P) ∧
     (u.injRefused 5 0 false 1 = false →
       Leads (.injectFuseEcc src) s fun t => t.rd R.FAULT_INJ_CTRL_GO = 1 ∧ t.fault.fuseInj = 1) ∧
     (u.injRefused 6 0 false count = false → Leads (.injectRlCrc src count) s P)) ∧
  (∀ (s : State) (n : Nat), checkerSource n = true → s.srcLive n = true →
     (∀ p ∈ s.fault.shadows, shadowMask p.1 n = false) →
     ∀ slab mask, Leads (.checkerFault n slab mask) s fun t =>
       t.rd R.FAULT_STICKY_SOURCES [n] = 1 ∧ t.rd R.FAULT_FIRST_VALID = 1) ∧
  (∀ (s : State) (slab mask : Nat),
     (∀ l, s.lineOf slab = some l → l.dirty &&& (mask % 2 ^ s.sectors) ≠ 0 → Mild s 42 →
       Leads (.checkerFault 42 slab mask) s fun t => ∃ l', t.lineOf slab = some l' ∧
         l'.poison = l.poison ||| (mask % 2 ^ s.sectors &&& l.dirty) ∧ l'.dirty = l.dirty) ∧
     (∀ e, s.entryOf slab = some e → Mild s 44 →
       Leads (.checkerFault 44 slab mask) s fun t => ∃ e', t.entryOf slab = some e' ∧
         e'.poison = e.poison ||| mask % 2 ^ s.sectors ∧ e'.bytes = e.bytes))

/-- R323: every reaction stays one that its source allows. -/
def Obligations.ReactionsStayLegal : Prop :=
  ∀ s t : State, ReactLegal s → step s = .next t → ReactLegal t

/-! ### Heat -/

/-- R275, R277, R289, R290, R292, R293: what the thermal model's and the governor's events change. -/
def Obligations.ThermalEvents : Prop :=
  ∀ s : State, s.live 3 = true →
    (∀ n, n < 44 → s.rd R.THERMAL_SUSPECT_SENSORS [n] = 0 → 8 ≤ s.thermal.away.getD n 0 → Mild s 19 →
      Leads (.sensorSuspect n) s fun t => t.rd R.THERMAL_SUSPECT_SENSORS [n] = 1) ∧
    (∀ n, n < 44 → s.rd R.THERMAL_SUSPECT_SENSORS [n] = 1 → 1000 ≤ s.thermal.near.getD n 0 →
      Leads (.sensorRestored n) s fun t => t.rd R.THERMAL_SUSPECT_SENSORS [n] = 0) ∧
    (s.rd R.THERMAL_STATUS_GUARD = 1 → 1000 ≤ s.thermal.guardAge →
      Leads .modelGuardEnd s fun t => t.rd R.THERMAL_STATUS_GUARD = 0) ∧
    (s.rd R.THERMAL_STATUS_START_HOLD = 1 → 100 ≤ s.thermal.holdAge →
      Leads .govStartHoldEnd s fun t => t.rd R.THERMAL_STATUS_START_HOLD = 0) ∧
    (s.levelFree = true → 100 ≤ s.thermal.rise → s.thermal.riseTo < s.rd R.POWER_STATUS_LEVEL → s.thermal.riseTo < 4 →
      s.levelLimit ≤ s.thermal.riseTo →
      Leads .govRiseQualified s fun t => t.rd R.THERMAL_GOV_CHOSEN = s.thermal.riseTo ∧
        t.power.riseAt = some s.time.now ∧ t.pins.vid = s.vidCode s.thermal.riseTo) ∧
    (s.levelFree = true → 32 ≤ s.thermal.low → s.rd R.POWER_STATUS_LEVEL < 3 → Mild s 23 →
      Leads .govForcedStep s fun t => t.rd R.THERMAL_GOV_CHOSEN = s.rd R.POWER_STATUS_LEVEL + 1 ∧ t.thermal.forced = 1000) ∧
    (100 ≤ s.thermal.limitAge → s.rd R.THERMAL_STATUS_THROTTLE_LIMIT ≤ 3 →
      Leads .throttleLimitStep s fun t => t.thermal.limitAge = 0 ∧ t.rd R.THERMAL_STATUS_THROTTLE_LIMIT =
        if s.rd R.THERMAL_STATUS_THROTTLE = 1 then min 3 (s.rd R.THERMAL_STATUS_THROTTLE_LIMIT + 1)
        else s.rd R.THERMAL_STATUS_THROTTLE_LIMIT - 1)

/-! ### The host link and the registers -/

/-- R171, R173, R174, R206: a BAR2 request that has its credits and that no row of Table 07.6 refuses is cut at slab boundaries
and waits at the PCIe port, with its label; it holds its header credit and its data credits, one for 16 bytes.
R321: with SAFE in force a BAR2 write is discarded and counted. -/
def Obligations.Bar2RequestsReachTheCache : Prop :=
  (∀ s : State, s.linkOn = true → s.memOn = true → s.fault.inj = none →
     let u := s.notIdle.dozeExit
     (∀ r : HostRd, r.len ≤ 4096 → 0 < r.len → r.ecrcBad = false → s.rxRoom false 0 = true →
       u.bar2Refusal false false r.addr r.len = none →
       Leads (.bar2Read r) s fun t => ∃ new : List CReq, t.cache.port = s.cache.port ++ new ∧
         (new.map fun q => (q.slab, q.off, q.len)) = s.stackParts r.addr r.len ∧
         (∀ q ∈ new, q.src = .pcie ∧ q.write = false ∧ q.label = u.hostLabel r.addr r.st) ∧
         t.cache.reads = s.cache.reads ++ [⟨r, u.hostLabel r.addr r.st, new.map fun q => (q.id, none)⟩] ∧
         t.host.rx = s.host.rx ++ [⟨false, 0, new.map (·.id)⟩]) ∧
     (∀ w : HostWr, w.data.length ≤ s.host.maxPayload → 0 < w.data.length → w.ecrcBad = false →
       s.rxRoom true w.data.length = true →
       u.bar2Refusal true w.ep w.addr w.data.length = none →
       s.rd R.FAULT_STATUS_SAFE = 0 → (∀ b ∈ w.data, b.isSome = true) →
       Leads (.bar2Write w) s fun t => ∃ new : List CReq, t.cache.port = s.cache.port ++ new ∧
         (new.map fun q => (q.slab, q.off, q.len)) = s.stackParts w.addr w.data.length ∧
         (∀ q ∈ new, q.src = .pcie ∧ q.write = true ∧ q.label = u.hostLabel w.addr w.st) ∧
         t.host.rx = s.host.rx ++ [⟨true, (w.data.length + 15) / 16, new.map (·.id)⟩])) ∧
  (∀ (s : State) (w : HostWr), s.linkOn = true → s.memOn = true → s.fault.inj = none → s.rd R.FAULT_STATUS_SAFE = 1 →
     s.rxRoom true w.data.length = true →
     w.data.length ≤ s.host.maxPayload → w.ecrcBad = false →
     s.rd R.FAULT_SAFE_WRITES_COUNT < 2 ^ 32 - 1 →
     Leads (.bar2Write w) s fun t => t.cache = s.cache ∧ t.dram = s.dram ∧
       t.rd R.FAULT_SAFE_WRITES_COUNT = s.rd R.FAULT_SAFE_WRITES_COUNT + 1)

/-- R8, R168, R170: a register write of one double word with every byte enabled changes its register, from the host link or
from firmware; a configuration write changes its byte. R170, R176: a host write of another form than one or two double
words changes no register of GLOBAL. -/
def Obligations.RegisterWritesLand : Prop :=
  (∀ (s : State) (rid data k : Nat), s.linkOn = true → s.up = true → k < 4 →
     (Leads (.registerWrite .firmware .bar0 (0x40 + 4 * k) data 0xF false) s fun t =>
       t.rd R.GLOBAL_SCRATCH_DATA [k] = data % 2 ^ 32) ∧
     (s.memOn = true → s.rxRoom true 4 = true → (s.inbound (.host rid)).up = true →
       Leads (.registerWrite (.host rid) .bar0 (0x40 + 4 * k) data 0xF false) s fun t =>
         t.rd R.GLOBAL_SCRATCH_DATA [k] = data % 2 ^ 32) ∧
     (data.testBit 2 = false → s.rxRoom false 4 = true →
       Leads (.registerWrite (.host rid) .config 4 data 0xF false) s fun t =>
         t.host.memEnable = data.testBit 1 ∧ t.host.busMaster = false)) ∧
  (∀ (s : State) (rid off data be : Nat) (ep : Bool), writeDws off be = 0 →
     Leads (.registerWrite (.host rid) .bar0 off data be ep) s fun t =>
       ∀ k, k < 4 → t.rd R.GLOBAL_SCRATCH_DATA [k] = s.rd R.GLOBAL_SCRATCH_DATA [k] ∨ t.live 3 = false)

/-- R176, Table 07.6: a BAR2 read that a row refuses is completed with the row's status and no data, and reaches no port.
R176, R181: a request of a type that the function lacks is completed UR; a malformed one is recorded through AER. R177:
VIOLOG_STATUS.CLEAR empties the violation log. -/
def Obligations.BadRequestsAreAnswered : Prop :=
  (∀ s : State, s.linkOn = true → s.rxRoom false 0 = true → s.host.egress = [] → ReactLegal s →
     let Sends := fun (c : Cpl) (t : State) => t.host.egress = [] ∧ ∃ l, t.sent =
       (if (s.cfgWord 0x118).testBit 6 = true then [Output.digest] else []) ++ .cpl c :: l
     (∀ (r : HostRd) (v : Viol) (ca : Bool), s.memOn = true → s.fault.inj = none → r.len ≤ 4096 → r.ecrcBad = false →
       (s.notIdle.dozeExit).bar2Refusal false false r.addr r.len = some (v, ca) →
       Leads (.bar2Read r) s (Sends ⟨r.rid, r.tag, if ca then 4 else 1, r.len, r.addr, [], false⟩)) ∧
     (∀ bar addr rid tag write,
       Leads (.unsupportedRequest bar addr rid tag write) s (Sends ⟨rid, tag, 1, 0, addr, [], false⟩)) ∧
     (∀ rid off n tag, s.memOn = true → readForm off n = false →
       Leads (.loReadLatch ⟨.host rid, .bar0, off, n, tag⟩) s (Sends ⟨rid, tag, 4, 4 * n, off, [], false⟩))) ∧
  (∀ s : State, s.linkOn = true →
     (Mild s 83 → Leads .malformedTlp s fun t => Aer.malformed ∈ t.host.aer)) ∧
  (∀ (s : State) (src : RegSrc), (s.inbound src).live 2 = true →
     Leads (.viologClear src) s fun t => t.rd R.HOST_VIOLOG_STATUS_COUNT = 0 ∧ t.rd R.HOST_VIOLOG_STATUS_NEXT = 0)

/-- R166, R182, R184: PowerState follows its writes, Bus Master Enable is set, and the link comes up at an allowed rate.
R185, R186: each reset of the function starts its sequence, which a hot reset or DL_Down makes with the link down; it
completes once nothing is left to write back, with the function's enables cleared. -/
def Obligations.LinkAndResetsFollow : Prop :=
  (∀ s : State, ReactLegal s →
     (s.linkOn = true → Leads .d3hotWrite s fun t => t.host.powerState = 3) ∧
     (s.linkOn = true → Leads .d0Write s fun t => t.host.powerState = 0) ∧
     (s.linkOn = true → Leads .busMasterEnable s fun t => t.host.busMaster = true) ∧
     (∀ speed width flit, s.live 2 = true → s.rd R.FUSE_STATUS_SENSED = 1 → s.pins.perst = false → 0 < speed → speed ≤ s.rd R.HOST_STATUS_SPEED_CEIL →
       speed < 8 → width = 1 ∨ width = 4 ∨ width = 8 ∨ width = 16 →
       Leads (.dlUp speed width flit) s fun t => t.rd R.HOST_STATUS_LINK_UP = 1 ∧ t.rd R.HOST_STATUS_SPEED = speed ∧
         t.rd R.HOST_STATUS_WIDTH = width)) ∧
  (∀ s : State, ReactLegal s → s.live 2 = true → s.rd R.HOST_STATUS_LINK_UP < 2 →
     (s.linkOn = true → Leads .flr s fun t => t.host.flr.isSome = true) ∧
     (Leads .hotReset s fun t => t.host.flr.isSome = true ∧ t.rd R.HOST_STATUS_LINK_UP = 0) ∧
     (Leads .dlDown s fun t => t.host.flr.isSome = true ∧ t.rd R.HOST_STATUS_LINK_UP = 0) ∧
     (∀ k, s.host.flr = some ⟨k, true⟩ → s.rd R.CODE_CODE_STATUS_CLEAR_BUSY = 1 ∨ s.flushedOut = true →
       Leads .flrComplete s fun t => t.host.flr = none ∧ t.host.memEnable = false ∧ t.host.busMaster = false ∧
         t.rd R.HOST_EVENTS_FLR_DONE = 1))

/-- R170, R472: a read of a LO word that answers brings the lower half of its value and latches the upper half into HI, from
firmware and over the host link. R475: an EVENT_EN word takes the enables written to it. -/
def Obligations.RegistersLatchAndEnable : Prop :=
  (∀ (s : State) (tag : Nat), ∀ p ∈ pairs,
     (s.readable p.2.1 p.1 = true →
       Leads (.loReadLatch ⟨.firmware, .bar0, p.1, 1, tag⟩) s fun t => t.rd p.2.1 = p.2.2 s / 2 ^ 32 % 2 ^ p.2.1.width ∧
         (s.host.regReads = [] → ∃ e, Output.firmwareRead tag (leBytes 4 (p.2.2 s % 2 ^ 32)) e ∈ t.sent)) ∧
     (∀ rid, let u := s.inbound (.host rid)
       s.linkOn = true → s.rxRoom false 0 = true → s.memOn = true → u.readable p.2.1 p.1 = true →
       Leads (.loReadLatch ⟨.host rid, .bar0, p.1, 1, tag⟩) s fun t => t.rd p.2.1 = p.2.2 u / 2 ^ 32 % 2 ^ p.2.1.width ∧
         (u.host.regReads = [] → u.host.egress = [] → u.rd R.HOST_STATUS_LINK_UP = 1 →
           Output.cpl ⟨rid, tag, 0, 4, p.1, leBytes 4 (p.2.2 u % 2 ^ 32), false⟩ ∈ t.sent))) ∧
  (∀ (s : State) (src : RegSrc) (data : Nat), s.up = true →
     ∀ f ∈ [R.TIME_EVENT_EN_EN, R.CODE_CODE_EVENT_EN_EN, R.RAS_RAS_EVENT_EN_EN, R.CACHE_EVENT_EN_EN, R.HOST_EVENT_EN_EN,
       R.CODING_EVENT_EN_EN, R.REG_EVENT_EN_EN, R.POWER_EVENT_EN_EN, R.THERMAL_EVENT_EN_EN, R.FAULT_EVENT_EN_EN,
       R.TEST_EVENT_EN_EN, R.FUSE_EVENT_EN_EN, R.MGMT_EVENT_EN_EN, R.DICT_EVENT_EN_EN, R.RL_EVENT_EN_EN],
     (s.inbound src).blockOn f.off = true →
     Leads (.eventEnWrite src f.off data) s fun t => t.rd f = data % 2 ^ f.width)

/-! ### The slab code and the stack -/

/-- R52, R54: the columns of an encoded slab sum to zero, plain and weighted by `α^i`, and the check symbols are those of
R54. -/
def Obligations.EncodedSlabsAreCodewords : Prop :=
  ∀ ds : List (List Byte), (∀ d ∈ ds, d.length = 128) →
    let pq := checkCols ds
    let word := pq.1 :: pq.2 :: ds
    let a := wsumCols (zeroCols :: zeroCols :: ds)
    let b := sumCols ds
    sumCols word = zeroCols ∧ wsumCols word = zeroCols ∧
      (∀ j, j < 128 → pq.2.getD j 0#8 = gfMul (a.getD j 0#8 ^^^ b.getD j 0#8) 0xF4#8) ∧
      (∀ j, j < 128 → pq.1.getD j 0#8 = b.getD j 0#8 ^^^ pq.2.getD j 0#8)

/-- R57: ACHK is the product of the key and the multiplier, modulo 2^32, and tells every two places of the stack apart. -/
def Obligations.AchkTellsPlacesApart : Prop :=
  ∀ layer slab layer' slab' : Nat, layer < 18 → slab < 2 ^ 27 → layer' < 18 → slab' < 2 ^ 27 →
    achk layer slab = (layer * 2 ^ 27 + slab) * 0x9E3779B1 % 2 ^ 32 ∧
      (achk layer slab = achk layer' slab' → layer = layer' ∧ slab = slab')

/-- R60 to R63: a slab that was encoded without poison decodes to its bytes with any two of its portions missing. -/
def Obligations.SlabsSurviveTwoErasures : Prop :=
  ∀ (nb slab gen : Nat) (data : List Byte) (x y : Nat),
    nb = 7 ∨ nb = 9 → slab < 2 ^ 27 → data.length = 128 * (2 * nb - 2) →
    let ps := (encodeSlab nb slab data 0 gen 0).mapIdx fun layer p => if layer = x ∨ layer = y then none else some p
    let d := decodeSlab nb slab 0 ps false
    d.data = data ∧ d.poison = 0 ∧ d.outcome ≠ .uncorrectable ∧
      d.erasures = ((List.range (2 * nb)).filter fun n => n = x ∨ n = y).length

/-- R61, R296: a portion that has not arrived is MISSING at its fetch; a fetch whose portions have arrived is decoded, and
CE_TOTAL counts the CORRECTED ones. -/
def Obligations.FetchesAreJudged : Prop :=
  ∀ (s : State) (slab : Nat),
    (∀ layer, layer < s.nLayer → ∀ o ∈ s.cache.ops, o.slab = slab → o.mapped.testBit layer = false →
      Leads (.portionTimeout slab layer) s fun t =>
        ∃ o' ∈ t.cache.ops, o'.slab = slab ∧ o'.kind = o.kind ∧ o'.missing.testBit layer = true) ∧
    (∀ (got : List Delivery) (op : SlabOp), s.fetching slab = some op → s.unsent op = false → s.cacheOn = true → ReactLegal s →
      s.power.seq = .idle →
      let v := s.landFetch op.tag
      let o := v.linkMissing op got
      Leads (.slabFetchComplete slab got) s fun t => t.ras.ceTotal =
        if ((v.closeAsked o).decodeOp o got).2.outcome = .corrected then (s.ras.ceTotal + 1) % 2 ^ 64 else s.ras.ceTotal)

/-- R49, R71, R73, R74, R75, R130: the bank hash, the requests on layers, the rejoin sweep, the stack clear and the suspect
sweep. -/
def Obligations.LayersAreManaged : Prop :=
  ∀ (s : State) (src : RegSrc),
    let u := s.inbound src
    (∀ v, u.live 8 = true → Mild u 84 →
      Leads (.bankHashWrite src v) s fun t => t.rd R.CODE_CODE_CTRL_BANK_HASH =
        if u.rd R.CODE_CODE_STATUS_EMPTY = 1 then v % 2 else u.rd R.CODE_CODE_CTRL_BANK_HASH) ∧
    (∀ n, n < 18 → u.live 8 = true → u.layer n = 0 → u.offline + 1 ≤ 2 → Mild u 32 → CacheIdle u →
      Leads (.reqLost src n) s fun t => t.layer n = 1 ∧ t.rd R.CODE_LAYER_STATE_CAUSE [n] = 1 ∧
        ∀ m, m < 18 → m ≠ n → t.layer m = u.layer m) ∧
    (∀ n, n < 18 → u.live 8 = true → u.layer n = 1 → u.rd R.CODE_LAYER_STATE_CAUSE [n] ≠ 5 →
      u.linkState (n / 2) = linkActive → u.protection ≠ 3 → Mild u 32 → CacheIdle u →
      Leads (.reqRejoin src n) s fun t => t.layer n = 2 ∧ t.ras.rejoinNext = some 0 ∧
        t.rd R.CODE_CODE_STATUS_REJOIN_BUSY = 1) ∧
    (s.ras.rejoinNext = some slabCount → s.live 8 = true → Mild s 32 →
      Leads .rejoinDone s fun t => t.ras.rejoinNext = none ∧ t.rd R.CODE_CODE_STATUS_REJOIN_BUSY = 0 ∧
        ∀ n, n < s.nLayer → s.layer n = 2 → t.layer n = 0) ∧
    (CacheIdle u → u.rd R.CODE_CODE_CTRL_CLEAR ≠ 1 → u.clearRefused = false →
      Leads (.stackClear src) s fun t => t.rd R.CODE_CODE_STATUS_CLEAR_BUSY = 1 ∧ t.rd R.CODE_CODE_STATUS_EMPTY = 0 ∧
        t.rd R.CODE_CODE_STATUS_CLEAR_PENDING = 1 ∧ t.cache.lines = [] ∧ t.cache.merge = [] ∧
        t.rd R.CODE_CLEAR_PTR_SLAB = 0 ∧ t.ras.clearNext = some 0) ∧
    (∀ p, s.live 8 = true → s.rd R.CODE_CODE_STATUS_CLEAR_BUSY = 1 → Mild s 32 → s.ras.clearNext = some p → p ≤ slabCount →
      s.noWrites = false → (∀ o ∈ s.cache.ops, o.slab < p) → (∀ k ∈ s.landBenches.writesWaiting, k < p) →
      (∀ c, c < 64 → (s.chan c).run = none ∧ s.chanPosted c = false ∧ s.rd R.HAUL_CTRL_EN [c] ≠ 1) →
      Leads .clearDone s fun t => t.rd R.CODE_CODE_STATUS_CLEAR_BUSY = 0 ∧ t.rd R.CODE_CODE_STATUS_CLEAR_PENDING = 0 ∧
        t.rd R.CODE_CODE_STATUS_EMPTY = 1 ∧ t.rd R.CODE_CODE_CTRL_CLEAR = 0 ∧ t.ras.clearNext = none ∧
        ∀ n, n < s.nLayer → s.layer n = 2 → t.layer n = 0) ∧
    (s.live 8 = true → CacheIdle s → s.rd R.HOST_STATUS_STACK_READY = 1 → s.ras.sweeps = [] → s.markedPos ≠ [] →
      Leads .suspectSweepStart s fun t => t.ras.sweeps = s.markedPos.map (·, 0)) ∧
    (∀ pos, pos < 64 → s.live 8 = true → CacheIdle s → (pos, 2 ^ 21) ∈ s.ras.sweeps →
      Leads (.sweepPositionDone pos) s fun t => (∀ p ∈ t.ras.sweeps, p.1 ≠ pos) ∧
        ∀ n, n < s.nLayer → t.rd R.CODE_SUSPECT_MARKS [n, pos] = 0)

/-- R74: a stretch of a stack clear leaves each of its slabs, on every layer that it writes, as zeros with the CLEARED flag; the
generations of the slabs follow one another from the counter on. -/
def Obligations.ClearWritesZeroSlabs : Prop :=
  ∀ (s : State) (p q layer slab : Nat), RemapsOk s → layer < s.nLayer → p ≤ slab → slab < q → q ≤ slabCount →
    s.layer layer = 0 ∨ s.layer layer = 2 →
    (s.clearedDram p q).readPortion layer slab = clearedPortion s.nBench layer slab ((s.ras.gen + (slab - p)) % 2 ^ 24)

/-! ### The slab cache, errors and repair -/

/-- R83, R84: a read that the line covers is answered from it without a fetch; a write to a covered line changes exactly the
bytes it enables and makes their sectors dirty. -/
def Obligations.CacheServes : Prop :=
  ∀ (s : State) (r : CReq) (l : Line),
    CacheIdle s → r.src = .pcie → r.job = none → s.portPick 0 = some r → s.txnFree r = true → r.slab < 2 ^ 27 →
    s.lineOf r.slab = some l → l.poison = 0 → l.data.length = s.slabBytes → r.off + max r.len r.data.length ≤ s.slabBytes →
    (∀ (q : HostRd) (k : Nat), r.write = false → 0 < r.len → s.cache.reads = [⟨q, k, [(r.id, none)]⟩] → q.len = r.len →
      q.addr % 64 + r.len ≤ 64 → minus (reqTouched r s.sectors) l.valid = 0 →
      s.host.egress = [] → s.rd R.HOST_STATUS_LINK_UP = 1 →
      Leads (.cacheRead r) s fun t => Output.cpl ⟨q.rid, q.tag, 0, q.len, q.addr, slice l.data r.off r.len, false⟩ ∈ t.sent ∧
        t.cache.ops = s.cache.ops ∧ t.cache.hits = (s.cache.hits + 1) % 2 ^ 64 ∧ t.dram = s.dram) ∧
    (r.write = true → r.media = false → s.noWrites = false → s.wt = false →
      minus (minus (reqTouched r s.sectors) (reqCovered r s.sectors)) l.valid = 0 →
      Leads (.cacheWrite r) s fun t => t.dram = s.dram ∧ ∃ l', t.lineOf r.slab = some l' ∧
        ∀ i, i < s.slabBytes → match reqByte r i with
          | some v => l'.data.getD i 0#8 = v ∧ l'.dirty.testBit (i / 64) = true
          | none => l'.data.getD i 0#8 = l.data.getD i 0#8)

/-- R60, R86, R88, R123: an entry of MERGE_AGE ticks closes: a full one's portions are sent to the benches of the layers of R60
whose links are in service, or wait for the end of a level change; no byte of DRAM changes until a bench performs them. One that
is not full begins its read-modify-write. -/
def Obligations.MergeEntriesClose : Prop :=
  ∀ (s : State) (slab : Nat) (e : MEntry),
    CacheIdle s → s.entryOf slab = some e → s.rd R.CACHE_CTRL_MERGE_AGE ≤ e.age → e.closing = false → s.noWrites = false →
    s.locked slab = false → s.nBench ≤ s.shaft.length → s.cache.reqs = [] → (∀ b, b < s.nBench → (s.link b).queue = []) →
    (e.bytes.all Option.isSome = true →
      let ps := encodeSlab s.nBench slab (zeroPoison e.poison (e.bytes.map (·.getD 0#8))) e.poison s.ras.gen 0
      (s.power.pauseTo = none → s.pauseSoon = false →
        (∀ b, b < s.nBench → s.linkState b = linkActive → 0 < s.credits b (2 * field slab 3 1 + 1)) →
        Leads (.mergeAgeExpiry slab) s fun t => t.entryOf slab = none ∧ t.dram = s.dram ∧ t.cache.reqs = [] ∧
          ∀ b, b < s.nBench → s.linkState b = linkActive → s.recLayers b slab ≠ 0 →
            ∃ w ∈ (t.link b).flight, w.write = true ∧ w.slab = slab ∧ w.layers = s.recLayers b slab ∧
              w.lower = ps.getD (2 * b) [] ∧ w.upper = ps.getD (2 * b + 1) []) ∧
      (s.power.pauseTo.isSome = true →
        Leads (.mergeAgeExpiry slab) s fun t => t.entryOf slab = none ∧ t.dram = s.dram ∧
          (t.cache.reqs.map fun r => (r.slab, r.write, r.portions)) = [(slab, true, ps)])) ∧
    (e.bytes.all Option.isSome = false → s.fetchHeld = false →
      Leads (.mergeAgeExpiry slab) s fun t => t.entryOf slab = some { e with closing := true } ∧ t.locked slab = true ∧
        t.dram = s.dram)

/-- R97, R98, R102: the three maintenance operations, their end, and the release of the suspect-region map. -/
def Obligations.CacheMaintenance : Prop :=
  ∀ (s : State) (src : RegSrc),
    let u := s.inbound src
    (∀ scope label, CacheIdle u → u.cache.merge = [] → u.cache.ops = [] → u.noWrites = false →
      (∀ l ∈ u.cache.lines, l.valid = u.allSectors) →
      (u.flushRefused 0 scope = false →
        Leads (.flush src scope label) s fun t => t.cache.flush.isSome = true ∧ t.rd R.CACHE_FLUSH_CTRL_GO = 1 ∧
          ∀ l ∈ t.cache.lines, u.inScope scope (label % 64) l.slab l.label = true → l.dirty = 0) ∧
      (u.flushRefused 1 scope = false →
        Leads (.flushInv src scope label) s fun t => t.cache.flush.isSome = true ∧ t.rd R.CACHE_FLUSH_CTRL_GO = 1 ∧
          ∀ l ∈ t.cache.lines, u.inScope scope (label % 64) l.slab l.label = false) ∧
      (u.flushRefused 2 scope = false →
        Leads (.inv src scope label) s fun t => t.cache.flush.isSome = true ∧ t.dram = u.dram ∧
          ∀ l ∈ t.cache.lines, u.inScope scope (label % 64) l.slab l.label = false)) ∧
    (∀ f, CacheIdle s → s.cache.flush = some f → s.flushHandled f = true →
      Leads .flushDone s fun t => t.cache.flush = none ∧ t.rd R.CACHE_FLUSH_CTRL_GO = 0 ∧ t.rd R.CACHE_STATUS_FLUSH_BUSY = 0) ∧
    (u.cacheOn = true →
      Leads (.srmapRelease src) s fun t => t.rd R.CACHE_SRMAP_STATUS_UNFLUSHED = 0 ∧ ∀ g, g < 4096 →
        (u.regionHeld g = true → t.rd R.CACHE_SRMAP_BITS [g] = u.rd R.CACHE_SRMAP_BITS [g]) ∧
        (u.regionHeld g = false → t.rd R.CACHE_SRMAP_BITS [g] ≠ 1))

/-- R298, R300, R303, R308 to R311: the logs' clearing, the first slab of a scrub slice, the end and the retry of a row repair, and the
appending of a record. -/
def Obligations.ScrubAndRepair : Prop :=
  ∀ s : State,
    (∀ src, (s.inbound src).live 8 = true →
      (Leads (.celogClear src) s fun t => t.rd R.RAS_CELOG_STATUS_COUNT = 0 ∧ t.rd R.RAS_CELOG_STATUS_NEXT = 0) ∧
      Leads (.uelogClear src) s fun t => t.rd R.RAS_UELOG_STATUS_COUNT = 0 ∧ t.rd R.RAS_UELOG_STATUS_NEXT = 0) ∧
    (s.scrubRuns = true → s.time.now % s.rd R.RAS_SCRUB_CTRL_INTERVAL = 0 → s.sliced 0 = false → s.ras.watch = [] →
      s.ras.reports = [] → s.scrubBusy = false → CacheIdle s → s.rd R.RAS_SCRUB_PTR_SLAB < 2 ^ 27 →
      Leads .scrubSlice s fun t => t.sliced 0 = true ∧ t.ras.slice = some (8, s.rd R.RAS_SCRUB_CTRL_COUNT_M1) ∧
        t.rd R.RAS_SCRUB_PTR_SLAB = (s.rd R.RAS_SCRUB_PTR_SLAB + 1) % 2 ^ 27) ∧
    (∀ r, CacheIdle s → s.ras.slice = none → s.ras.repair = some r → r.remapped = true → r.failed = false → 8 ≤ r.got.length →
      s.layer r.layer ≠ 1 → s.linkState (r.layer / 2) = linkActive →
      Leads .rowRepairDone s fun t => t.ras.repair = none ∧ t.rd R.RAS_SCRUB_STATUS_REPAIR_BUSY = 0 ∧
        ∀ w ∈ t.ras.watch, ¬ (w.layer = r.layer ∧ w.pos = r.pos ∧ w.row = r.row)) ∧
    (∀ r, CacheIdle s → s.ras.repair = some r → r.failed = true → s.linkState (r.layer / 2) = linkActive →
      s.layer r.layer ≠ 1 →
      Leads .rowRepairRetry s fun t => t.ras.repair = some { r with got := [], failed := false } ∧
        t.rd R.RAS_SCRUB_STATUS_REPAIR_BUSY = 1) ∧
    (∀ r rs, s.ras.recDue = r :: rs → s.fwRuns = true → s.live 12 = true → s.activeHalf.length < halfRoom →
      Leads .fieldRecordAppend s fun t => t.ras.recDue = rs ∧
        t.activeHalf = s.activeHalf ++ [({ r with seq := s.nextSeq } : FieldRec).bytes])

/-! ### Benches -/

/-- R111 to R119: what a channel controller issues at its command slot, what falls due in it, and the bench's own timers; a
write reaches the portions its request names and no other byte. -/
def Obligations.BenchesWork : Prop :=
  ∀ (s : State) (b ch : Nat), s.benchOn b = true → b < s.bench.length → ch < 2 →
    let c := s.ctl b ch
    (s.live (benchDom b (1 + ch)) = true → (s.bn b).selfRefresh = false → (s.bn b).paused = none → s.fault.inj = none →
      (s.bn b).drain = none →
      (∀ k, k < 32 → 8 ≤ c.debt.getD k 0 → (∀ j, j < k → c.debt.getD j 0 < 8) → c.openRow.getD k none = none →
        Leads (.benchCommandIssue b ch) s fun t => (t.ctl b ch).debt.getD k 0 = c.debt.getD k 0 - 1 ∧ t.dram = s.dram) ∧
      (∀ r : BReq, (∀ k, k < 32 → c.debt.getD k 0 < 8) → c.tasks = [] → 0 < (s.bn b).tokens →
        c.openRow.getD r.bank none = some (rowOf r.loc) → (s.link b).upQueue + 2 ≤ 64 →
        (c.reads = [r] → c.writes = [] → r.write = false →
          Leads (.benchCommandIssue b ch) s fun t => (t.ctl b ch).reads = [] ∧ ∀ a, t.peek a = s.peek a) ∧
        (c.reads = [] → c.writes = [r] → r.write = true → r.lower.length = portionBytes → r.upper.length = portionBytes →
          Leads (.benchCommandIssue b ch) s fun t => (t.ctl b ch).writes = [] ∧
            (RemapsOk s → r.loc < 2 ^ 27 → ∀ n ∈ s.reqLayers b r,
              t.readPortion n (locOf s.hash r.loc) = if n = 2 * b then r.lower else r.upper) ∧
            ∀ a, ¬ InPortion s (s.reqLayers b r) (locOf s.hash r.loc) a → t.peek a = s.peek a))) ∧
    (∀ bank, bank < 32 → bank < c.debt.length →
      ((s.bn b).selfRefresh = false → Mild s 46 →
        Leads (.bankRefresh b ch bank) s fun t => (t.ctl b ch).debt.getD bank 0 = c.debt.getD bank 0 + 1) ∧
      (Leads (.pageIdleClose b ch bank) s fun t => (t.ctl b ch).openRow.getD bank none = none) ∧
      (∀ k ks, c.tasks = k :: ks → k.bank = bank → k.aged = false →
        Leads (.trTaskAged b ch bank) s fun t => (t.ctl b ch).tasks = { k with aged := true } :: ks) ∧
      Leads (.trWindowReset b ch bank) s fun t => ∀ g, (t.ctl b ch).act bank g = 0) ∧
    (Leads (.trWarmupEnd b) s fun t => (t.bn b).warm = false ∧ t.rd R.BENCH_STATUS_TR_WARMUP [b] = 0) ∧
    (Leads (.tempEstimateTimeout b) s fun t => (t.bn b).est = none ∧ t.rd R.BENCH_STATUS_LOCAL_TEMP [b] = 1) ∧
    (s.patrolGrants = true → s.sliced 1 = false → s.rd R.BENCH_PATROL_CTRL_EN [b] = 1 →
      s.time.now % s.rd R.BENCH_PATROL_CTRL_INTERVAL [b] = 0 → s.linkState b = linkActive →
      (s.dir b true).replay.length < 64 → (s.dir b true).wait = [] → (s.dir b true).group = [] →
      Leads .patrolSlice s fun t => t.sliced 1 = true ∧
        let f : Frame := ⟨0, s.rd R.BENCH_PATROL_CTRL_COUNT_M1 [b], [], []⟩
        ∃ lanes, Output.shaft b true 0x32 f (lineWord 0x32 f) lanes ∈ t.sent) ∧
    (∀ got, s.rd R.BENCH_PATROL_CTRL_EN [b] = 1 → 2 ≤ (s.bn b).tokens → (s.bn b).patrolLeft ≠ 0 → (s.bn b).selfRefresh = false →
      (s.bn b).paused = none →
      let pos := s.posOf (s.bn b).patrolPtr
      let acts := ((s.fillTasks b (pos / 32)).ctl b (pos / 32)).act (pos % 32) (rowOf (s.bn b).patrolPtr / 64)
      (s.ctl b (pos / 32)).bankIdle (pos % 32) = true →
      (acts < s.trThresh b → Leads (.patrolReadDone b got) s fun t => (t.bn b).patrolLeft = (s.bn b).patrolLeft - 1 ∧
        (t.bn b).patrolPtr = ((s.bn b).patrolPtr + 1) % 2 ^ 27) ∧
      (s.trThresh b ≤ acts → s.patrolled (2 * b) (s.bn b).patrolPtr = true → Mild s 47 →
        Leads (.patrolReadDone b got) s fun t => (t.bn b).patrolPtr = (s.bn b).patrolPtr ∧ t.dram = s.dram))

/-- R123, R126, R127, R129, R134: level-change pauses, canaries and the remap table: the canary rows of an EMBER entry hold their
patterns, and at its exit a row with more changed bits than TOL marks its bank. -/
def Obligations.LevelsCanariesRemaps : Prop :=
  ∀ s : State,
    (s.live 3 = true → s.fwDrives = true → s.rd R.THERMAL_GOV_CHOSEN ≠ s.rd R.POWER_STATUS_LEVEL → s.power.pauseTo = none →
      s.power.riseAt = none → s.rd R.POWER_STATUS_STATE < 2 →
      Leads .levelPauseStart s fun t => t.power.pauseTo = some (s.rd R.THERMAL_GOV_CHOSEN)) ∧
    (∀ l locked, s.power.pauseTo = some l → l < 4 → CacheIdle s →
      (∀ b, b < s.nBench → (s.bn b).paused.isSome = true ∨ (s.bn b).drain.isSome = true → b ∈ locked) →
      Leads (.levelPauseEnd locked) s fun t => t.power.pauseTo = none ∧ t.rd R.POWER_STATUS_LEVEL = l ∧
        ∀ b, b < s.nBench → b < s.bench.length → (s.bn b).paused.isSome = true →
          (t.bn b).paused = none ∧ (t.bn b).selfRefresh = false) ∧
    (∀ b, s.benchOn b = true → b < s.bench.length →
      (∀ bad, (s.bn b).retaining = true →
        Leads (.canaryEntryDone b bad) s fun t =>
          (t.bn b).canaryMode = true ∧ (t.bn b).selfRefresh = true ∧ (t.bn b).retaining = false ∧
            (bad = [] → ∀ k, k < 256 * canaryBytesOf →
              t.peek (canaryStart b + k) = if (k + k / canaryBytesOf) % 2 = 0 then 0x55#8 else 0xAA#8)) ∧
      (∀ bad i, (s.bn b).canaryDue = true → (s.bn b).selfRefresh = false → i < 256 →
        s.rd R.BENCH_CANARY_CTRL_TOL [b] < (s.canaryFlip b bad).canaryDiff b i →
        Leads (.canaryExitCheck b bad) s fun t => t.rd R.BENCH_CANARY_RESULT_PENDING [b, i / 64, i / 2 % 32] = 1) ∧
      (∀ data, s.rd R.BENCH_STATUS_LINK_UP [b] = 1 →
        let e := s.remapSel b
        Leads (.remapWrite .firmware b data) s fun t =>
          if data.testBit 31 = true then ⟨e.1, e.2.1, e.2.2, data % 2 ^ 18⟩ ∈ (t.bn b).remaps
          else ∀ r ∈ (t.bn b).remaps, ¬ (r.layer = e.1 ∧ r.pos = e.2.1 ∧ r.spare = e.2.2))) ∧
    (∀ rid b data, let u := s.inbound (.host rid)
      b < u.nBench → Mild u 84 → Leads (.remapWrite (.host rid) b data) s fun t => (t.bn b).remaps = (u.bn b).remaps)

/-! ### Shaft links -/

/-- R141 to R150, R161: a frame that the receiver takes acts as its type says. -/
def Obligations.FramesAct : Prop :=
  ∀ (s : State) (b : Nat) (f : Frame),
    NoFence s →
    (∀ down, Accepts s b down → Leads (.idleFrame b down f) s fun t => (t.dir b down).debt =
        addDebt (recoverDebt (s.dir b down).debt) (frameDeletions f)) ∧
    (∀ down, b < s.nBench → b < s.shaft.length → s.linkState b = linkActive → (s.dir b down).nak = true →
      f.aux % 64 = (s.dir b down).rxSeq →
      Leads (.replayFrame b down f) s fun t => (t.dir b down).nak = false ∧ (t.dir b down).dup = 0) ∧
    (Accepts s b true →
      (Leads (.reqFrame b f) s fun t => (t.dir b true).rxSeq = ((s.dir b true).rxSeq + 1) % 64 ∧
        let waiting := fun (x : State) => (x.link b).records.length + (x.ctl b 0).reads.length + (x.ctl b 1).reads.length
        ((s.bn b).drain = none → waiting t = waiting s + (f.aux % 16 + 1))) ∧
      (Leads (.wdataL b f) s fun t => (t.dir b true).held = (s.dir b true).held ++ [(0x11, f)]) ∧
      (Leads (.wdataU b f) s fun t => (t.dir b true).held = (s.dir b true).held ++ [(0x12, f)]) ∧
      (Leads (.sideFrame b true f) s fun t => (t.dir b true).held = []) ∧
      ((s.dir b false).replay.length < 64 → (s.dir b false).wait = [] → (s.dir b false).group = [] →
        Leads (.regRd b f) s fun t =>
          let v := s.benchReg b (field f.aux 16 8)
          let a : Frame := ⟨v % 65536, field f.aux 16 8 * 65536 + v / 65536 % 65536, [], []⟩
          ∃ lanes, t.sent.head? = some (.shaft b false 0x22 a (lineWord 0x22 a) lanes)) ∧
      (∀ k, k < 24 → field f.aux 16 8 = 96 + k →
        Leads (.regWr b f) s fun t => t.rd R.BENCH_TSET_SHADOW_VALUE [b, k] =
          (f.tag % 65536 + field f.aux 0 16 * 65536) % 2 ^ R.BENCH_TSET_SHADOW_VALUE.width) ∧
      (Leads (.tempFrame b f) s fun t => (t.bn b).est = some (field f.aux 0 12, field f.aux 12 12)) ∧
      ((s.bn b).drain = none → Leads (.tokensFrame b f) s fun t => (t.bn b).tokens = f.aux % 2 ^ 18) ∧
      (Leads (.grantFrame b f) s fun t => (t.bn b).patrolLeft = f.aux % 256 + 1) ∧
      (s.benchOn b = true →
        (Leads (.holdFrame b f) s fun t =>
          if s.drained b = true then (t.bn b).selfRefresh = true ∧ (t.bn b).drain = none
          else (t.bn b).selfRefresh = true ∨ (t.bn b).drain = some .hold) ∧
        (Leads (.retainFrame b f) s fun t =>
          if s.drained b = true then (t.bn b).retaining = true ∧ (t.bn b).drain = none
          else (t.bn b).retaining = true ∨ (t.bn b).drain = some .retain) ∧
        ((s.bn b).paused = none → (s.bn b).drain = none → Leads (.pauseFrame b f) s fun t =>
          if s.drained b = true then (t.bn b).paused = some (f.aux % 4) ∧ (t.bn b).selfRefresh = true
          else (t.bn b).paused = some (f.aux % 4) ∨ (t.bn b).drain = some (.pause (f.aux % 4))))) ∧
    (Accepts s b false →
      (Leads (.rdataL b f) s fun t => (t.dir b false).held = (s.dir b false).held ++ [(0x13, f)]) ∧
      (Leads (.rdataU b f) s fun t => (t.dir b false).held = (s.dir b false).held ++ [(0x14, f)]) ∧
      (Leads (.sideFrame b false f) s fun t => (t.dir b false).held = []) ∧
      (∀ a, (s.link b).reg = some a → a.word = field f.aux 16 8 → (s.link b).regq = [] → s.ras.repair = none →
        Leads (.regRsp b f) s fun t => (t.link b).reg = none) ∧
      (let slab := f.tag % 65536 + f.aux % 2048 * 65536
       s.live 8 = true → s.ras.reports.length < 64 → (∀ r ∈ s.ras.reports, r.slab ≠ slab) →
        Leads (.patrolRpt b f) s fun t =>
          t.ras.reports = s.ras.reports ++ [⟨slab, 2 ^ (2 * b + b2n (f.aux.testBit 11)), field f.aux 12 2⟩]) ∧
      (f.aux % 2 = 1 → Leads (.canaryFrame b f) s fun t => ∀ k, k < 4 → ∀ i, i < 32 →
        t.rd R.BENCH_CANARY_BAD_BANKS [b, k, i] = b2n ((leNat (f.payload.take 16)).testBit (32 * k + i))) ∧
      (f.aux % 256 = 1 → s.ras.repair = none →
        Leads (.readyFrame b f) s fun t => t.linkState b = linkHold ∧ b ∉ t.power.waitReady))

/-- R141, R146, R148, R157 to R161: what an error of a link does: a CRC failure sets NAK, protocol errors, a lost lock, a
silent transmitter and stuffing violations start a recovery, and recoveries end in service or with the bench offline. R163: the
count of a down lane is the bench's until the next exchange. R334: a planned map change has no limit. -/
def Obligations.LinkErrorsAct : Prop :=
  ∀ (s : State) (b : Nat), b < s.nBench → b < s.shaft.length → s.ras.repair = none →
    (s.linkState b = linkActive → s.rd R.SHAFT_TRAIN_CFG_AUTO_RECOVER [b] = 1 → Mild s (64 + b) →
      (∀ down, (s.dir b down).crcRun < 15 → (s.dir b down).nakRun < 7 →
        Leads (.shaftCrcFail b down) s fun t => (t.dir b down).nak = true ∧ t.linkState b = linkActive ∧
          t.rd R.SHAFT_CRC_ERRORS_COUNT [b] =
            min (s.rd R.SHAFT_CRC_ERRORS_COUNT [b] + 1) (2 ^ R.SHAFT_CRC_ERRORS_COUNT.width - 1)) ∧
      (∀ down type, type % 256 ∉ frameTypes down →
        Leads (.reservedFrame b down type) s fun t => t.linkState b = linkRecovery) ∧
      (∀ down, (s.dir b down).nak = true → Leads (.replayTimeout b down) s fun t => t.linkState b = linkRecovery) ∧
      (Leads (.lockLoss b) s fun t => t.linkState b = linkRecovery) ∧
      (∀ lane, lane < 76 →
        (Leads (.stuffingViolation b true lane) s fun t => t.rd R.SHAFT_VIOL_COUNT_COUNT [b, 1, lane] =
          min (s.rd R.SHAFT_VIOL_COUNT_COUNT [b, 1, lane] + 1) (2 ^ R.SHAFT_VIOL_COUNT_COUNT.width - 1)) ∧
        Leads (.stuffingViolation b false lane) s fun t =>
          kvGet lane (t.dir b true).violNew = some ((kvGet lane (s.dir b true).violNew).getD 0 + 1) ∧
          t.rd R.SHAFT_VIOL_COUNT_COUNT [b, 0, lane] = s.rd R.SHAFT_VIOL_COUNT_COUNT [b, 0, lane])) ∧
    (∀ a, (s.link b).reg = some a → (s.link b).regq = [] → Mild s (64 + b) → (a.asker = .march → CacheIdle s) →
      Leads (.regAccessTimeout b) s fun t => (t.link b).reg = none) ∧
    (s.linkState b = linkRecovery → s.tooFew b = false → (s.link b).recovered.length < 16 → Mild s 75 → NoFence s →
      Leads (.recoveryDone b [] []) s fun t => t.linkState b = linkActive ∧ (t.dir b true).nak = false ∧
        (t.dir b false).nak = false) ∧
    (s.linkState b = linkRecovery → (s.link b).mapping = false → ReactLegal s →
      s.rd R.SHAFT_TRAIN_CFG_RECOVERY_LIMIT [b] ≤ tickSub s.time.now (s.link b).recStart →
      Leads (.recoveryTimeout b) s fun t => t.linkState b = linkOffline) ∧
    ((s.link b).mapping = true → Leads (.recoveryTimeout b) s (· = s))

/-- R151, R153, R155: a training step starts when firmware sets GO, the next follows in TRAINING, and the last puts the link
in service; step 6 loads the scramblers' seeds (R147); the FAILED maps and the down-spread. -/
def Obligations.LinksTrain : Prop :=
  ∀ (s : State) (b : Nat), b < s.nBench → b < s.shaft.length →
    (s.fwDrives = true → s.live (13 + b) = true → s.rd R.SHAFT_TRAIN_CTRL_GO [b] = 0 →
      let Runs := fun (k : Nat) (t : State) =>
        t.linkState b = 1 ∧ (t.link b).step = k ∧ t.rd R.SHAFT_TRAIN_CTRL_GO [b] = 1 ∧
          t.rd R.SHAFT_LINK_STATUS_STEP_DONE [b] = 0
      (∀ level, s.linkState b = linkDown ∨ s.linkState b = 1 ∨ s.linkState b = linkHold → Mild s 73 →
        Leads (.refLock b level) s (Runs 1)) ∧
      (s.linkState b = 1 → Mild s 75 →
        Leads (.prbsTx b) s (Runs 2) ∧ Leads (.phaseSweep b) s (Runs 3) ∧ Leads (.slip b) s (Runs 4) ∧
        Leads (.frameAlign b) s (Runs 5) ∧ Leads (.prbsCheck b) s (Runs 7) ∧
        (let seed := s.rd R.SHAFT_SEED_SEED_HI [b]
         Leads (.scrSync b) s fun t => Runs 6 t ∧ (t.dir b true).lanes = laneSeeds seed false ∧
           (t.dir b false).lanes = laneSeeds seed true) ∧
        Leads (.enterService b) s fun t => Runs 8 t ∧ (t.dir b true).txSeq = 0 ∧ (t.dir b false).rxSeq = 0 ∧
          t.rd R.SHAFT_CREDITS_A_RD [b] = 64 ∧ t.rd R.SHAFT_CREDITS_B_WR [b] = 64 ∧
          (b < s.bench.length → (t.bn b).selfRefresh = false))) ∧
    (s.fwDrives = true → s.linkState b = 1 → s.rd R.SHAFT_TRAIN_CTRL_GO [b] = 1 → s.tooFew b = false → s.ras.repair = none →
      s.thermal.released = true → s.test.back.contains b = false → NoFence s →
      ((s.link b).step = 1 → Leads (.trainStepDone b []) s fun t => t.rd R.SHAFT_LINK_STATUS_STEP_DONE [b] = 1 ∧
        t.rd R.SHAFT_TRAIN_CTRL_GO [b] = 0 ∧ t.rd R.SHAFT_LINK_STATUS_REF_LOCK_BASE [b] = 1) ∧
      ((s.link b).step = 8 → Leads (.trainStepDone b []) s fun t => t.linkState b = linkActive ∧
        t.rd R.BENCH_STATUS_LINK_UP [b] = 1)) ∧
    (∀ src data k up, let u := s.inbound src
      let off := 0x300040 + 0x10000 * b + 0x10 * b2n up + 4 * k
      u.live 3 = true → k < 3 →
      (u.linkState b = linkDown ∨ u.linkState b = linkOffline →
        Leads (.failedLanesWrite src off data) s fun t => ∀ dir i, i < 76 → t.rd (failedFam dir) [b, i] =
          if dir = up ∧ i / 32 = k then b2n (data.testBit (i % 32)) else u.rd (failedFam dir) [b, i]) ∧
      (u.linkState b ≠ linkDown → u.linkState b ≠ linkOffline → Mild u 84 →
        Leads (.failedLanesWrite src off data) s fun t => ∀ dir i, i < 76 →
          t.rd (failedFam dir) [b, i] = u.rd (failedFam dir) [b, i])) ∧
    (∀ src v, let u := s.inbound src
      u.live 3 = true → Mild u 84 →
      Leads (.dspreadEnWrite src v) s fun t => t.rd R.SHAFT_REF_CTRL_DSPREAD_EN =
        if v % 2 = 1 ∧ u.rd R.SHAFT_REF_STATUS_REFCLK_SSC = 1 then u.rd R.SHAFT_REF_CTRL_DSPREAD_EN else v % 2) ∧
    (∀ spread, s.live 3 = true →
      Leads (.refclkSscChange spread) s fun t => t.rd R.SHAFT_REF_STATUS_REFCLK_SSC = b2n spread)

/-! ### The haul engine and coding -/

/-- R189, R190, R202, R205: a channel's tail, hand-over, enable and disable, and the arrival of its descriptors. -/
def Obligations.ChannelsAreRun : Prop :=
  ∀ (s : State) (c : Nat), c < 64 → c < s.haul.chans.length → s.live 9 = true → s.coding.waiting = [] →
    (∀ src, let u := s.inbound src
      u.live 9 = true → u.coding.waiting = [] → c < u.haul.chans.length → ReactLegal u →
      (∀ data, data % 65536 < u.ringSize c →
        Leads (.doorbell src c data) s fun t => t.rd R.HAUL_TAIL_INDEX [c] = data % 65536) ∧
      (∀ data, u.ringSize c ≤ data % 65536 →
        Leads (.doorbell src c data) s fun t => t.rd R.HAUL_TAIL_INDEX [c] = u.rd R.HAUL_TAIL_INDEX [c]) ∧
      (u.rd R.HAUL_COMMIT [c] = 0 → 1 ≤ u.rd R.HAUL_SH_CFG_SIZE_LOG2 [c] → u.rd R.HAUL_SH_CFG_SIZE_LOG2 [c] ≤ 16 →
        u.rd R.HAUL_SH_CFG_DESC_SPACE [c] = 0 → u.rd R.HAUL_SH_CFG_COMP_SPACE [c] = 0 →
        Leads (.commit src c) s fun t => t.rd R.HAUL_COMMIT [c] = 1) ∧
      (u.rd R.HAUL_CTRL_EN [c] = 0 → u.rd R.HAUL_ACT_CFG_SIZE_LOG2 [c] ≠ 0 → u.rd R.HAUL_ACT_CFG_COMP_SPACE [c] = 0 →
        Leads (.channelEnable src c) s fun t => t.rd R.HAUL_CTRL_EN [c] = 1) ∧
      (u.rd R.HAUL_CTRL_EN [c] = 1 →
        Leads (.channelDisable src c) s fun t => t.rd R.HAUL_CTRL_EN [c] = 0 ∧ (t.chan c).pre = [])) ∧
    (s.handReady c = true → (s.chan c).pre = [] →
      Leads (.handOver c) s fun t => t.rd R.HAUL_COMMIT [c] = 0 ∧
        (∀ p ∈ [(R.HAUL_SH_DESC_BASE_LO_BASE, R.HAUL_ACT_DESC_BASE_LO_BASE), (R.HAUL_SH_DESC_BASE_HI_BASE,
            R.HAUL_ACT_DESC_BASE_HI_BASE), (R.HAUL_SH_COMP_BASE_LO_BASE, R.HAUL_ACT_COMP_BASE_LO_BASE),
            (R.HAUL_SH_COMP_BASE_HI_BASE, R.HAUL_ACT_COMP_BASE_HI_BASE), (R.HAUL_SH_CFG_SIZE_LOG2, R.HAUL_ACT_CFG_SIZE_LOG2),
            (R.HAUL_SH_CFG_DESC_SPACE, R.HAUL_ACT_CFG_DESC_SPACE), (R.HAUL_SH_CFG_COMP_SPACE, R.HAUL_ACT_CFG_COMP_SPACE),
            (R.HAUL_SH_CFG_LABEL, R.HAUL_ACT_CFG_LABEL), (R.HAUL_SH_CFG_PRIORITY, R.HAUL_ACT_CFG_PRIORITY)],
          t.rd p.2 [c] = s.rd p.1 [c] % 2 ^ p.2.width) ∧
        (s.ringChange c = true → t.rd R.HAUL_TAIL_INDEX [c] = 0 ∧ t.rd R.HAUL_COMP_INDEX [c] = 0)) ∧
    (∀ raw, (s.chan c).run = none → (s.chan c).pre = [] → (s.chan c).got = [(s.nextIdx c, raw, false)] →
      dOp raw ≤ 7 → s.gated = false →
      Leads (.descriptorFetched c) s fun t =>
        (t.chan c).pre = [(s.nextIdx c, raw, false)] ∧ (t.chan c).got = [])

/-- R182, R206 to R208: the completion of a haul read brings its bytes; an error or a timeout halts the engine with its
HALT_INFO type, and a reset of the engine ends every descriptor. -/
def Obligations.HaulRequestsEnd : Prop :=
  ∀ s : State, s.live 9 = true →
    (∀ (tag i : Nat) (data : List Byte) (q : NpReq), s.haul.np.find? (·.tag == tag) = some q → q.use = .desc i →
      q.chan < s.haul.chans.length → q.len ≤ (q.got ++ data).length → s.issueCount = 0 →
      Leads (.haulCompletionRx tag 0 false data) s fun t =>
        (i, (q.got ++ data).take q.len, false) ∈ (t.chan q.chan).got) ∧
    (∀ (tag : Nat) (q : NpReq), s.haul.np.find? (·.tag == tag) = some q → s.halted = false → Mild s 80 → Mild s 83 →
      (∀ h ∈ s.haul.chans, ∀ r, h.run = some r → s.runFinished h r = false) →
      (∀ status data, status ≠ 0 →
        Leads (.haulCompletionRx tag status false data) s fun t => t.rd R.HG_STATUS_HALTED = 1 ∧
          t.rd R.HG_HALT_INFO_TYPE = (if status = 4 then 2 else 1) ∧ ∀ h ∈ t.haul.chans, h.run = none) ∧
      (s.timeoutsOn = true → Leads (.completionTimeout tag) s fun t => t.rd R.HG_STATUS_HALTED = 1 ∧ t.rd R.HG_HALT_INFO_TYPE = 3 ∧
        ∀ h ∈ t.haul.chans, h.run = none)) ∧
    (∀ src, (s.inbound src).live 9 = true →
      Leads (.haulReset src) s fun t => t.rd R.HG_STATUS_HALTED = 0 ∧ t.rd R.HG_EVENTS_RESET_DONE = 1 ∧ t.haul.np = [] ∧
        (∀ h ∈ t.haul.chans, h.run = none) ∧
        ∀ c, c < 64 → t.rd R.HAUL_HEAD_INDEX [c] = (s.inbound src).rd R.HAUL_COMP_INDEX [c] % 2 ^ 16)

/-- R191 to R196, R201, R215 to R224: the operations of Table 08.2 start, and a descriptor without data movement completes
with its entry in the completion ring. -/
def Obligations.DescriptorsStart : Prop :=
  ∀ (s : State) (c i : Nat) (raw : List Byte), c < 64 → c < s.haul.chans.length → (s.chan c).pre = [(i, raw, false)] →
    s.mayStart c = true → s.fault.inj = none → s.coding.waiting = [] → ctrlBad raw = false → s.host.busMaster = true →
    s.rd R.HAUL_ACT_CFG_COMP_SPACE [c] = 0 → s.rd R.HAUL_ACT_CFG_SIZE_LOG2 [c] ≤ 16 → s.cplOut c = 0 →
    s.rd R.HOST_STATUS_LINK_UP = 1 →
    let entry := Output.memWr (s.compBase c + 32 * i)
      (cplEntry (s.rd R.HAUL_COMP_SEQ_SEQ [c]) i 0 0 (dUser raw) 0 0xFFFF 0)
    let Completes := fun t : State => entry ∈ t.sent ∧ t.rd R.HAUL_COMP_INDEX [c] =
      (s.rd R.HAUL_COMP_INDEX [c] + 1) % s.ringSize c ∧ (t.chan c).run = none
    let el := (elemAddr (slice raw 24 16), elemLen (slice raw 24 16), elemFlags (slice raw 24 16))
    let src := (elemAddr (slice raw 8 16), elemLen (slice raw 8 16), elemFlags (slice raw 8 16))
    let Alone := s.haul.turn < 64 ∧ s.rd R.HAUL_TAIL_INDEX [c] = s.rd R.HAUL_HEAD_INDEX [c] ∧
      ∀ h ∈ s.haul.chans, h.todo = [] ∧ h.run = none
    (leNat (slice raw 40 24) = 0 →
      (dOp raw = 0 → Leads (.nop c) s Completes) ∧
      (dOp raw = 7 → field (dCtrl raw) 13 2 = 0 → Leads (.fence c) s Completes) ∧
      (dOp raw = 1 → (dCtrl raw).testBit 16 = false → (dCtrl raw).testBit 17 = false → el.2.2 = 0 → src.2.2 = 0 →
        el.2.1 = src.2.1 → 0 < src.2.1 → src.2.1 ≤ s.host.maxRead → src.1 % 4096 + src.2.1 ≤ 4096 →
        src.1 + src.2.1 ≤ 2 ^ 64 → el.1 + el.2.1 ≤ 2 ^ 64 → Alone → s.freeTag.isSome = true →
        Leads (.copy c) s fun t => (t.chan c).run.map (·.raw) = some raw ∧
          ∃ tag, Output.memRd tag src.1 src.2.1 ∈ t.sent)) ∧
    (leNat (slice raw 48 16) = 0 → dOp raw = 2 → (dCtrl raw).testBit 17 = false → el.2.2 = 0 → 0 < el.2.1 →
      el.2.1 ≤ s.host.maxPayload → el.1 % 4096 + el.2.1 ≤ 4096 → el.1 + el.2.1 ≤ 2 ^ 64 → Alone →
      Leads (.fill c) s fun t => (t.chan c).run.map (·.raw) = some raw ∧
        Output.memWr el.1 ((List.range el.2.1).map fun d => (slice raw 40 8).getD (d % 8) 0#8) ∈ t.sent) ∧
    (s.codingOn = true → (s.rd R.FAULT_FENCED_TARGETS).testBit 1 = false → s.coding.active.length < 16 →
      (cArgs raw).bad (leNat (slice raw 45 1)) = false →
      (dCtrl raw).testBit 16 = false → (dCtrl raw).testBit 17 = false →
      let r := { Run.init i raw (s.descLabel c raw) with
        src := s.slotOf (slice raw 8 16) false false false
        dst := if (cArgs raw).slots.isEmpty then Slot.empty else s.slotOf (slice raw 24 16) false true false }
      s.codedCheck r = none →
      let Waits := fun t : State => c ∈ t.coding.active ∧ (t.chan c).run.map (·.phase) = some .lists
      (s.rangeHeld c r = true → (∀ d ∈ s.coding.active, ∀ q, (s.chan d).run = some q → q.phase ≠ .lists) →
        (dOp raw = 3 → Leads (.digest c) s Waits) ∧ (dOp raw = 4 → Leads (.encode c) s Waits) ∧
        (dOp raw = 5 → Leads (.verify c) s Waits) ∧ (dOp raw = 6 → Leads (.rebuild c) s Waits)) ∧
      (s.rangeHeld c r = false →
      let Reads := fun t : State => c ∈ t.coding.active ∧ ∃ q, (t.chan c).run = some q ∧ q.raw = raw ∧
        q.phase = if (cArgs raw).ledgered then .ledger else .reading
      (dOp raw = 3 → Leads (.digest c) s Reads) ∧ (dOp raw = 4 → Leads (.encode c) s Reads) ∧
      (dOp raw = 5 → Leads (.verify c) s Reads) ∧ (dOp raw = 6 → Leads (.rebuild c) s Reads)))

/-- R216, R217, R220, R223, R224: what a coded descriptor's phases bring, and the writes of the ledger's controls. -/
def Obligations.CodedDescriptorsProceed : Prop :=
  ∀ (s : State) (c : Nat), c < 64 → c < s.haul.chans.length → s.coding.waiting = [] → s.halted = false →
    (∀ r, (s.chan c).run = some r → r.phase = .ledger → r.await = 0 → opCoded (dOp r.raw) = true →
      (∀ p ∈ r.parts, p.2.2 = []) →
      Leads (.ledgerReadDone c) s fun t => ∃ q, (t.chan c).run = some q ∧ q.phase = .reading ∧
        q.entries = chunks 16 (cArgs r.raw).count (assemble r.parts (16 * (cArgs r.raw).count))) ∧
    (∀ r, (s.chan c).run = some r → r.phase = .reading → r.await = 0 → dOp r.raw = 3 → (cArgs r.raw).ledgered = false →
      (∀ p ∈ r.parts, p.2.2 = []) → r.status = none → r.endStatus = none → r.writes = [] → r.lastPcie = none → r.bytes = 0 →
      r.stackWrote = false → r.outcome = 0 → s.host.busMaster = true → s.rd R.HAUL_ACT_CFG_COMP_SPACE [c] = 0 →
      s.cplOut c = 0 → s.rd R.HOST_STATUS_LINK_UP = 1 →
      let a := cArgs r.raw
      Leads (.pass1Done c) s fun t =>
        Output.memWr (s.compBase c + 32 * r.idx) (cplEntry (s.rd R.HAUL_COMP_SEQ_SEQ [c]) r.idx 0 0 (dUser r.raw) 0 0xFFFF
          (crc64 ((fragsRead r a.supplied).map (·.2)).flatten)) ∈ t.sent) ∧
    (∀ r f addr, (s.chan c).run = some r → r.phase = .pass2 → r.await = 0 → opCoded (dOp r.raw) = true →
      let a := cArgs r.raw
      let frags := fragsRead r r.rows
      let out := rebuildFrag a.k a.m a.size f (rebuildData a.k a.m a.size r.rows (frags.map (·.2)))
      (∀ p ∈ frags, (r.digests.find? (·.1 == p.1)).map (·.2) = some (crc64 p.2)) → r.rebuilds = [f] → a.slots = [f] →
      r.dst.elems = [⟨addr, out.length, false⟩] → 0 < out.length → out.length ≤ s.host.maxPayload →
      addr % 4096 + out.length ≤ 4096 → s.host.busMaster = true → s.rd R.HOST_STATUS_LINK_UP = 1 → s.haul.turn < 64 →
      s.rd R.HAUL_TAIL_INDEX [c] = s.rd R.HAUL_HEAD_INDEX [c] → (∀ h ∈ s.haul.chans, h.todo = []) →
      (∀ d, d ≠ c → (s.chan d).run = none) →
      Leads (.pass2Done c) s fun t => Output.memWr addr out ∈ t.sent) ∧
    (∀ src, let u := s.inbound src
      u.codingOn = true → Mild u 84 →
      (∀ v, u.coding.active = [] → u.coding.waiting = [] →
        u.rd R.CODING_LEDGER_BASE_GIB + u.rd R.CODING_LEDGER_SIZE_GIB ≤ u.capacity / 2 ^ 30 →
        Leads (.ledgerEnWrite src v) s fun t => t.rd R.CODING_CTRL_LEDGER_EN = v % 2) ∧
      (∀ data, u.rd R.CODING_CTRL_LEDGER_EN = 1 → ∀ off,
        Leads (.ledgerRegionWrite src off data) s fun t =>
          t.rd R.CODING_LEDGER_BASE_GIB = u.rd R.CODING_LEDGER_BASE_GIB ∧
          t.rd R.CODING_LEDGER_SIZE_GIB = u.rd R.CODING_LEDGER_SIZE_GIB) ∧
      (∀ data, u.rd R.CODING_CTRL_LEDGER_EN = 0 →
        (Leads (.ledgerRegionWrite src R.CODING_LEDGER_BASE_GIB.off data) s fun t =>
          t.rd R.CODING_LEDGER_BASE_GIB = data % 2 ^ R.CODING_LEDGER_BASE_GIB.width) ∧
        (1 ≤ data % 128 → data % 128 ≤ 64 →
          Leads (.ledgerRegionWrite src R.CODING_LEDGER_SIZE_GIB.off data) s fun t =>
            t.rd R.CODING_LEDGER_SIZE_GIB = data % 128)))

/-! ### Regulation -/

/-- R236, R239 to R243: a written label's budget, the guarantee ceiling, the window's length and start, and the SPILL
request that has waited at a cache port or at PCIe egress. -/
def Obligations.RegulationActs : Prop :=
  ∀ s : State,
    (∀ src, let u := s.inbound src
      u.live 3 = true → Mild u 84 →
      (∀ l data, l < 64 → l ≠ 1 → data.testBit 20 = false →
        Leads (.labelCfgWrite src l data) s fun t => t.rd R.REG_LABEL_CFG_BUDGET [l] =
          if u.ceilingNow < u.writtenG l (data % 2 ^ 20) false then u.rd R.REG_LABEL_CFG_BUDGET [l] else data % 2 ^ 20) ∧
      (∀ v, v < 65536 → v ≠ 0 → Leads (.ceilingWrite src v) s fun t => t.rd R.REG_CEILING_UNITS =
        if v * u.rd R.REG_CTRL_WINDOW < u.gSum then u.rd R.REG_CEILING_UNITS else v) ∧
      (∀ v, v < 128 → Leads (.windowWrite src v) s fun t => t.rd R.REG_CTRL_WINDOW =
        if v = 0 ∨ 64 < v ∨ u.rd R.REG_CEILING_UNITS * v < u.gSum then u.rd R.REG_CTRL_WINDOW else v)) ∧
    (s.windowDue = true → s.live 3 = true →
      Leads .regulationWindowStart s fun t => t.regul.window = s.rd R.REG_CTRL_WINDOW ∧ t.regul.started = s.time.now ∧
        ∀ k, k < 64 → t.rd R.REG_LABEL_USED_UNITS [k] = 0 ∧
          t.rd R.REG_LABEL_EFF_FIXED [k] = b2n (s.is R.REG_LABEL_CFG_FIXED [k])) ∧
    (∀ id l, s.waitLabel id = some l → s.classOf l = 2 → id ∉ s.regul.aged →
      Leads (.spillAged id) s fun t => t.regul.aged = s.regul.aged ++ [id] ∧
        (∀ r ∈ s.cache.port, r.id = id → r.label = l → t.reqClass r = 1) ∧
        ∀ e ∈ s.host.egress, e.id = id → e.label = some l → t.egClass e = 1)

/-! ### Core samples, service mode and tests -/

/-- R329 to R334: a granted slice starts a sample where the pointer stands, each kind where R329 and Table 03.8 admit one; the
march leaves every byte outside its row-group as it was; a sample that passes leaves nothing behind but the pointer moved on, and
one that fails is counted and takes the way or the lane out of service. -/
def Obligations.CoreSamplesRun : Prop :=
  ∀ s : State,
    let layer := s.rd R.TEST_CS_MEM_PTR_LAYER
    (s.csDue 2 R.TEST_CS_MEM_INTERVAL_TICKS = true → s.csMay R.TEST_CTRL_CS_MEM_EN false = true → s.test.mem = none →
      s.test.lane = none → s.csMemAdmits layer = true →
      ∃ t, exec .csMemSlice s = .next t ∧ t.sliced 2 = true ∧
        t.test.mem = some ⟨layer, s.rd R.TEST_CS_MEM_PTR_POSITION, s.rd R.TEST_CS_MEM_PTR_ROW_GROUP, false, [], false,
          none⟩ ∧
        t.rd R.CODE_PLANNED_ACTIVE = 1 ∧ t.rd R.TEST_CS_RECORD_VALID = 1 ∧ t.rd R.TEST_STATUS_CS_KIND = 1) ∧
    (∀ m fails, s.test.mem = some m → m.rebuilding = false →
      (s.marchBegun m = false → ∃ t, exec (.csMemMarchDone fails) s = .next t ∧ t = s) ∧
      (s.marchBegun m = true → CacheIdle s →
        ∃ t, exec (.csMemMarchDone fails) s = .next t ∧ (t.test.mem.map (·.rebuilding)) = some true ∧
          ∀ a, (∀ i, i < 512 → ¬ InPortion s [m.layer] (s.plannedSlab i) a) →
            t.peek a = (s.landAll (m.layer / 2)).peek a)) ∧
    (∀ m, s.test.mem = some m → m.rebuilding = true → m.restoring = false → m.fails = [] → s.test.entering = false →
      s.rd R.TEST_CS_PROGRESS_REBUILD_PTR = 512 →
      ∃ t, exec .csMemRebuildDone s = .next t ∧ t.test.mem = none ∧ t.rd R.CODE_PLANNED_ACTIVE = 0 ∧
        t.rd R.TEST_CS_RECORD_VALID = 0 ∧ t.dram = s.dram) ∧
    (s.csDue 3 R.TEST_CS_WAY_INTERVAL_TICKS = true → s.csMay R.TEST_CTRL_CS_WAY_EN false = true → s.test.way = none →
      s.cacheOn = true → s.protection ≠ 3 → s.cache.flush = none → s.wt = false → s.rd R.CACHE_WAY_DISABLE_WAYS = 0 →
      ∃ t, exec .csWaySlice s = .next t ∧ t.sliced 3 = true ∧ t.test.way = some (s.rd R.TEST_CS_WAY_PTR_WAY)) ∧
    (∀ w, w < 16 → s.test.way = some w → (∀ l ∈ s.cache.lines, l.way ≠ w) → s.test.entering = false →
      (∃ t, exec (.csWayDone true) s = .next t ∧ t.test.way = none ∧ t.rd R.TEST_CS_WAY_PTR_WAY = (w + 1) % 16 ∧
        (t.rd R.CACHE_WAY_DISABLE_WAYS).testBit w = false) ∧
      ∃ t, exec (.csWayDone false) s = .next t ∧ t.test.way = none ∧ (t.rd R.CACHE_WAY_DISABLE_WAYS).testBit w = true ∧
        (t.rd R.TEST_CS_WAY_PTR_WAY_FAILED).testBit w = true) ∧
    (∀ b up l, s.csDue 4 R.TEST_CS_LANE_INTERVAL_TICKS = true → s.csMay R.TEST_CTRL_CS_LANE_EN false = true →
      s.test.lane = none → s.protection ≠ 3 → s.laneNext = some (b, up, l) →
      let on := fun k => s.is R.SHAFT_LANE_MAPPED [b, b2n up, k]
      (on l = false →
        ∃ t, exec .csLaneSlice s = .next t ∧ t.sliced 4 = true ∧ t.test.lane = some ⟨b, up, l, false⟩) ∧
      (on l = true → s.test.mem = none → s.recalAdmits = true → (∃ k ∈ s.goodLanes b up, on k = false) →
        s.ras.repair = none →
        ∃ t, exec .csLaneSlice s = .next t ∧ t.sliced 4 = true ∧ t.test.lane = some ⟨b, up, l, true⟩ ∧
          t.linkState b = linkRecovery ∧ l ∉ t.goodLanes b up)) ∧
    (∀ c n, s.test.lane = some c → c.used = false → c.bench < 9 → c.lane < 76 → s.test.entering = false →
      let limit := s.rd R.SHAFT_TRAIN_CFG_PRBS_LIMIT [c.bench]
      (n ≤ limit →
        ∃ t, exec (.csLaneDone (some n)) s = .next t ∧ t.test.lane = none ∧
          t.rd R.SHAFT_PRBS_ERR_COUNT [c.bench, b2n c.up, c.lane] = min n (2 ^ 32 - 1) ∧
          t.rd R.TEST_CS_FAILS_COUNT = s.rd R.TEST_CS_FAILS_COUNT) ∧
      (limit < n → Mild s 74 →
        ∃ t, exec (.csLaneDone (some n)) s = .next t ∧ t.test.lane = none ∧
          t.rd (failedFam c.up) [c.bench, c.lane] = 1 ∧
          t.rd R.TEST_CS_FAILS_COUNT = min (s.rd R.TEST_CS_FAILS_COUNT + 1) (2 ^ R.TEST_CS_FAILS_COUNT.width - 1)))

/-- R336 to R338: service mode is entered with nothing dirty left and left again; a test that is admitted runs, one bench
taken out of service for a test of its own; a test that found nothing ends PASS, with the stack clear that follows MARCH_FULL
(Table 15.1) and with the bench to rejoin. -/
def Obligations.ServiceAndTests : Prop :=
  ∀ s : State,
    (∀ src, let u := s.inbound src
      u.live 3 = true →
      (u.rd R.TEST_CTRL_SERVICE ≠ 1 → u.rd R.POWER_STATUS_STATE = 0 →
        u.rd R.TIME_SHIFT_STATUS_STATE = 0 ∨ u.rd R.TIME_SHIFT_STATUS_STATE = 4 → u.haulBusy = false →
        u.rd R.CODE_CODE_STATUS_CLEAR_BUSY ≠ 1 → u.ras.rejoinNext = none → u.ras.sweeps = [] → u.ras.repair = none →
        u.sampling = false → u.cache.flush = none → u.anyDirty = false → u.cache.ops = [] →
        Leads (.serviceEnter src) s fun t => t.rd R.TEST_CTRL_SERVICE = 1 ∧ t.rd R.TEST_STATUS_SERVICE_MODE = 1 ∧
          t.rd R.HOST_STATUS_STACK_READY = 0 ∧ t.cache.lines = []) ∧
      (u.rd R.TEST_CTRL_SERVICE = 1 → u.rd R.TEST_STATUS_SERVICE_MODE = 1 → u.test.test = none → u.ras.rejoinNext = none →
        u.ras.sweeps = [] → u.test.mem = none →
        (∀ c, c < 64 → (u.chan c).run = none ∧ u.chanPosted c = false ∧ u.rd R.HAUL_CTRL_EN [c] ≠ 1) → CacheIdle u →
        Leads (.serviceExit src) s fun t => t.rd R.TEST_CTRL_SERVICE = 0 ∧ t.rd R.TEST_STATUS_SERVICE_MODE = 0 ∧
          t.rd R.HOST_STATUS_STACK_READY = 1) ∧
      (u.rd R.TEST_STATUS_SERVICE_MODE = 1 → u.startingUp = false → u.test.test = none →
        let Runs := fun (code target pos : Nat) (t : State) =>
          t.test.test = some ⟨code, target, pos, false⟩ ∧ t.rd R.TEST_TEST_CTRL_GO = 1 ∧ t.rd R.TEST_STATUS_TEST_BUSY = 1 ∧
            t.rd R.TEST_TEST_STATUS_TEST = code ∧ t.rd R.TEST_TEST_STATUS_RESULT = 8
        Leads (.lbistBase src) s (Runs 1 0 0) ∧ Leads (.sramBase src) s (Runs 2 0 0) ∧
        (∀ b, b < u.nBench → Leads (.lbistBench src b) s (Runs 3 b 0) ∧ Leads (.shaftPrbs src b) s (Runs 6 b 0)) ∧
        (u.rd R.TIME_SHIFT_STATUS_STATE = 0 ∨ u.rd R.TIME_SHIFT_STATUS_STATE = 4 →
          Leads (.marchFull src) s (Runs 4 0 0)) ∧
        (∀ layer pos, layer < u.nLayer → pos < 64 → u.protection = 0 →
          Leads (.marchBank src layer pos) s fun t => Runs 5 layer pos t ∧ t.rd R.TEST_CS_RECORD_VALID = 1)) ∧
      (∀ b, u.rd R.TEST_STATUS_SERVICE_MODE ≠ 1 → u.startingUp = false → u.test.test = none → u.recalAdmits = true →
        b < u.nBench → u.live 8 = true → u.layer (2 * b) = 0 → u.layer (2 * b + 1) = 0 → Mild u 32 →
        u.ras.rejoinNext = none → u.ras.sweeps = [] → u.ras.repair = none → u.test.mem = none → CacheIdle u →
        Leads (.lbistBench src b) s fun t => t.test.test = some ⟨3, b, 0, true⟩ ∧
          ∀ n, n = 2 * b ∨ n = 2 * b + 1 → t.layer n = 1 ∧ t.rd R.CODE_LAYER_STATE_CAUSE [n] = 4) ∧
      (∀ b, u.startingUp = true → b < u.nBench → b ∉ u.test.lbist →
        Leads (.lbistBench src b) s fun t => b ∈ t.test.lbist ∧ t.test.test = u.test.test ∧
          t.rd R.TEST_STATUS_TEST_BUSY = 1)) ∧
    (∀ b, b ∈ s.test.lbist → Leads (.testDone [] (some b)) s fun t => b ∉ t.test.lbist ∧ t.test.test = s.test.test ∧
      t.rd R.TEST_TEST_STATUS_RESULT = 1) ∧
    (∀ r, s.test.test = some r → s.test.lbist = [] →
      (r.removed = false → 1 ≤ r.code → r.code ≤ 6 → r.code ≠ 4 →
        Leads (.testDone []) s fun t => t.test.test = none ∧ t.rd R.TEST_TEST_CTRL_GO = 0 ∧
          t.rd R.TEST_STATUS_TEST_BUSY = 0 ∧ t.rd R.TEST_TEST_STATUS_TEST = r.code ∧ t.rd R.TEST_TEST_STATUS_RESULT = 1) ∧
      (r.removed = false → r.code = 4 → CacheIdle s → s.protection ≠ 3 →
        Leads (.testDone []) s fun t => t.test.test = none ∧ t.rd R.TEST_TEST_STATUS_RESULT = 1 ∧
          t.rd R.CODE_CODE_STATUS_CLEAR_BUSY = 1 ∧ t.rd R.CODE_CODE_STATUS_CLEAR_PENDING = 1) ∧
      (r.removed = true → r.code = 3 ∨ r.code = 6 → s.linkState r.target ≠ linkActive →
        Leads (.testDone []) s fun t => t.test.test = none ∧ t.rd R.TEST_TEST_STATUS_RESULT = 1 ∧
          r.target ∈ t.test.back))

/-! ### Calibration -/

/-- R343 to R346, R348: a run measures into the shadow values and nowhere else; APPLY brings them into force at the tick
boundary after it; RELOAD takes them back; a save replaces one copy of the record. -/
def Obligations.CalibrationActs : Prop :=
  ∀ s : State,
    (∀ src, let u := s.inbound src
      u.calOn = true →
      (u.test.run = none →
        let Runs := fun (kind : Nat) (t : State) => t.test.run = some ⟨kind, 0, false, 0⟩ ∧ t.rd R.TEST_CAL_CTRL_GO = 1 ∧
          t.rd R.TEST_CAL_STATUS_RESULT = 8
        (∃ t, exec (.calSensors src) s = .next t ∧ Runs 1 t) ∧ (∃ t, exec (.calMonitors src) s = .next t ∧ Runs 2 t) ∧
        (∀ b, b < u.nBench →
          (u.recalAdmits = false →
            (∃ t, exec (.calShaft src b) s = .next t ∧
              (t.rd R.TEST_CAL_STATUS_PENDING_BENCHES).testBit b = true ∧ t.test.run = none) ∧
            ∃ t, exec (.calDriver src b) s = .next t ∧
              (t.rd R.TEST_CAL_STATUS_PENDING_BENCHES).testBit b = true ∧ t.test.run = none) ∧
          (u.recalAdmits = true →
            (∃ t, exec (.calShaft src b) s = .next t ∧ t.test.run = some ⟨3, b, false, 0⟩) ∧
            ∃ t, exec (.calDriver src b) s = .next t ∧ t.test.run = some ⟨4, b, false, 0⟩))) ∧
      (∃ t, exec (.calApply src) s = .next t ∧ t.test.apply = some u.time.now ∧ t.test.active = u.test.active) ∧
      (∃ t, exec (.calReload src) s = .next t ∧ t.test.shadow = u.test.active ∧ t.rd R.TEST_CAL_STATUS_SHADOW_DIRTY = 0) ∧
      (u.test.save = none → u.updating = false → u.rd R.THERMAL_STATUS_PROG_OK = 1 →
        ∃ t, exec (.calSave src) s = .next t ∧ t.test.save = some (u.oldCopy, false) ∧ t.rd R.TEST_CAL_STATUS_RESULT = 8)) ∧
    (∀ r measured, s.test.run = some r →
      (r.kind < 3 ∧ r.removed = false) ∨ (3 ≤ r.kind ∧ r.removed = true ∧ s.linkState r.bench ≠ linkActive) →
      ∃ t, exec (.calRunDone measured) s = .next t ∧ t.test.run = none ∧ t.rd R.TEST_CAL_CTRL_GO = 0 ∧
        t.rd R.TEST_CAL_STATUS_RESULT = 1 ∧ t.rd R.TEST_CAL_STATUS_SHADOW_DIRTY = 1 ∧ t.test.active = s.test.active ∧
        (∀ i, (∀ p ∈ measured, p.1 = i → calBytes r.kind r.bench i = false) → t.test.shadow[i]? = s.test.shadow[i]?) ∧
        ∀ off v, measured = [(off, v)] → calBytes r.kind r.bench off = true → off < s.test.shadow.length →
          t.test.shadow[off]? = some v) ∧
    (∀ t0, s.test.apply = some t0 → t0 ≠ s.time.now → s.test.active.length = 4096 → s.test.atTick.length = 4096 →
      ∃ t, exec .calValuesInForce s = .next t ∧ t.test.apply = none ∧
        (∀ i, 0x10 ≤ i → i < 0x128 → t.test.active[i]? = s.test.atTick[i]?) ∧
        ∀ i, i < 0x10 ∨ 0x128 ≤ i → t.test.active[i]? = s.test.active[i]?) ∧
    (∀ k, s.test.save = some (k, false) →
      (∃ t, exec (.calSaveDone true) s = .next t ∧ t.test.save = none ∧ t.rd R.TEST_CAL_STATUS_RESULT = 1 ∧
        (if k = 0 then t.test.copyA = s.newRecord ∧ t.test.copyB = s.test.copyB
          else t.test.copyB = s.newRecord ∧ t.test.copyA = s.test.copyA)) ∧
      ∃ t, exec (.calSaveDone false) s = .next t ∧ t.test.save = none ∧ t.rd R.TEST_CAL_STATUS_RESULT = 2)

/-! ### Fuses -/

/-- R350, R359, R361, R362, R365, R366: sensing, a read of a word in force and of one copy at a
reference, the unlock and its lapse, FORCE_ARM, and trial overrides. -/
def Obligations.FuseControlsAct : Prop :=
  ∀ s : State,
    (∀ reads, s.live 23 = true → s.rd R.FUSE_STATUS_SENSED ≠ 1 → s.power.seq ≠ .exiting → Mild s 45 → Mild s 96 → Mild s 97 →
      Leads (.fuseSensingDone reads) s fun t => t.rd R.FUSE_STATUS_SENSED = 1 ∧ t.fuse.overrides = [] ∧
        t.fuse.words = s.fuse.words ∧ (t.fuse.hold = true → t.power.inReset = true ∧ t.pins.fault = true)) ∧
    (∀ src, let u := s.inbound src
      u.fuseOn = true →
      (∀ w, w < 128 → ∀ reads, Leads (.fuseRead src (w + 2 ^ 31) reads) s fun t => t.rd R.FUSE_READ_LO_DATA = u.fuseWord w % 2 ^ 32 ∧
        t.rd R.FUSE_READ_HI_DATA = u.fuseWord w / 2 ^ 32 % 2 ^ 32) ∧
      (∀ w c ref reads d fixed, w < 126 → c < 2 → ref < 3 → secDecode (u.senseRead reads false w c ref) = some (d, fixed) →
        Leads (.fuseRead src (w + 2 ^ 8 * (c + 1) + 2 ^ 10 * ref + 2 ^ 31) reads) s fun t =>
          t.rd R.FUSE_READ_LO_DATA = d % 2 ^ 32 ∧ t.rd R.FUSE_READ_HI_DATA = d / 2 ^ 32 % 2 ^ 32 ∧
          t.rd R.FUSE_READ_INFO_CORRECTED = b2n fixed) ∧
      (∀ key, Leads (.burnUnlock src key) s fun t => t.fuse.unlocked = (key % 2 ^ 32 == 0x46555345)) ∧
      (∀ r, Leads (.forceArm src r) s fun t => t.fuse.armed = some (r % 16)) ∧
      (∀ w, w < 128 →
        (Leads (.overrideClear src w) s fun t => ∀ p ∈ t.fuse.overrides, p.1 ≠ w) ∧
        (privileged (fuseRegion w) = true ∨ fuseRegion w = 8 ∨
            (u.rd R.FUSE_STATUS_OPEN).testBit (fuseRegion w) = false →
          Leads (.overrideSet src w) s fun t => t.fuse.overrides = u.fuse.overrides ∧
            t.rd R.FUSE_OVR_STATUS_REFUSED = 1) ∧
        (privileged (fuseRegion w) = false → fuseRegion w ≠ 8 → u.ras.repair = none →
          (u.rd R.FUSE_STATUS_OPEN).testBit (fuseRegion w) = true →
          Leads (.overrideSet src w) s fun t =>
            t.fuseWord w = u.rd R.FUSE_OVR_LO + 2 ^ 32 * u.rd R.FUSE_OVR_HI ∧ t.fuse.words = u.fuse.words))) ∧
    (Leads .burnUnlockLapse s fun t => t.fuse.unlocked = false) ∧
    (Leads .forceArmLapse s fun t => t.fuse.armed = none)

/-- R362 to R365: a GO that fails a check ends with that check's RESULT and burns nothing; one that passes starts the burn
of the word's SEC-DED entry; a burn verified in both copies ends DONE. -/
def Obligations.BurnsAct : Prop :=
  ∀ s : State,
    (∀ src w, w < 128 → let u := s.inbound src
      u.fuseOn = true → Mild u 22 →
      let lo := (u.rd R.FUSE_BURN_DATA_LO_DATA)
      let hi := (u.rd R.FUSE_BURN_DATA_HI_DATA)
      let Fails := fun (c : Instr) (isSeal force : Bool) => ∀ e, u.burnCheck w isSeal force = some e →
        Leads c s fun t => t.rd R.FUSE_BURN_STATUS_RESULT = e ∧ t.fuse.burn = u.fuse.burn ∧ t.fuse.words = u.fuse.words ∧
          t.fuse.seals = u.fuse.seals
      Fails (.wordBurn src w) false false ∧ Fails (.sealBurn src w) true false ∧ Fails (.forceLock src w) true true ∧
      Fails (.rollbackBurn src w) false false ∧
      (w < 126 → u.burnCheck w false false = none →
        Leads (.wordBurn src w) s fun t => t.rd R.FUSE_STATUS_BURN_BUSY = 1 ∧
          t.fuse.burn = some ⟨false, w, secEncode (lo + 2 ^ 32 * hi), none, false⟩) ∧
      (126 ≤ w → u.burnCheck w false false = none →
        Leads (.rollbackBurn src w) s fun t => t.rd R.FUSE_STATUS_BURN_BUSY = 1 ∧
          t.fuse.burn = some ⟨false, w, lo % 256, some (u.rd R.FUSE_ROLLBACK_COUNTER), false⟩) ∧
      (w < 9 → let b : Burn := ⟨true, w, secEncode (lo + w * 2 ^ 32 + 2 ^ 63), none, false⟩
        (u.burnCheck w true false = none → Leads (.sealBurn src w) s fun t => t.fuse.burn = some b) ∧
        (u.burnCheck w true true = none → Leads (.forceLock src w) s fun t => t.fuse.burn = some b))) ∧
    (∀ b : Burn, s.fuse.burn = some b → b.isSeal = false → b.rollback = none → b.word < 126 → b.left = false →
      s.fuseCell b.word 0 = 0 → s.fuseCell b.word 1 = 0 → b.data < 2 ^ 72 →
      Leads (.burnDone b.data b.data) s fun t => t.fuse.burn = none ∧ t.rd R.FUSE_STATUS_BURN_BUSY = 0 ∧
        t.rd R.FUSE_BURN_STATUS_RESULT = 1 ∧ t.fuseCell b.word 0 = b.data ∧ t.fuseCell b.word 1 = b.data ∧
        ∀ e c, e < 137 → e ≠ b.word → t.fuseCell e c = s.fuseCell e c)

/-- R349, R354, R364: a bit of the OTP array that is 1 stays 1, in both copies of every word and seal. -/
def Obligations.OtpBitsOnlyGain : Prop :=
  ∀ (s t : State) (e copy i : Nat), step s = .next t → (s.fuseCell e copy).testBit i = true →
    (t.fuseCell e copy).testBit i = true

/-! ### The management core -/

/-- R374 to R379, R381: the core's restart, the boot of a slot that verifies and the refusal of one that does not, the boot
limit, the confirmation of a trial, an update's steps, the watchdog, and the log's persistence. -/
def Obligations.ManagementActs : Prop :=
  ∀ s : State,
    (∀ src, let u := s.inbound src
      (u.live 11 = true → Leads (.coreReset src) s fun t =>
        t.rd R.MGMT_STATUS_FW_STATE = (if u.pins.bootsel = true then 4 else 5) ∧
        t.rd R.MGMT_MGMT_RESETS_COUNT = min (u.rd R.MGMT_MGMT_RESETS_COUNT + 1) (2 ^ R.MGMT_MGMT_RESETS_COUNT.width - 1)) ∧
      (u.fwRuns = true → u.mgmt.persistTo = none →
        Leads (.logPersist src) s fun t => t.rd R.MGMT_CTRL_LOG_PERSIST = 1 ∧
          t.mgmt.persistTo = some (u.rd R.MGMT_LOG_SEQ_SEQ)) ∧
      (u.fwRuns = false ∨ u.mgmt.persistTo.isSome = true → Leads (.logPersist src) s fun t => t.mgmt.persistDue = true ∧
        t.mgmt.persistTo = u.mgmt.persistTo)) ∧
    (∀ q, s.mgmt.persistTo = some q →
      let old := s.rd R.MGMT_LOG_PERSISTED_SEQ_SEQ
      Leads .logPersistDone s fun t =>
        t.rd R.MGMT_LOG_PERSISTED_SEQ_SEQ = (if seqFrom old q = true then old else q % 2 ^ 32) ∧
        (s.mgmt.persistDue = false → t.unpersisted < 2048 → t.mgmt.persistTo = none ∧ t.rd R.MGMT_CTRL_LOG_PERSIST = 0)) ∧
    (s.booting = true → s.mgmt.loading < 2 → s.mgmt.loaded = true → s.rack.rx = [] →
      let code := s.imageCode (s.slot s.mgmt.loading) none
      s.mgmt.second = false → Mild s 100 →
      Leads .firmwareRunning s fun t =>
        if code = 0 then
          t.rd R.MGMT_STATUS_FW_STATE = 2 ∧ t.rd R.MGMT_STATUS_SLOT = s.mgmt.loading ∧ t.rd R.MGMT_WDOG_CTRL_EN = 1
        else t.mgmt.second = true ∧ t.mgmt.loading = 1 - s.mgmt.loading ∧ t.booting = true) ∧
    (s.booting = true → 10000 ≤ s.mgmt.bootAge → Mild s 98 → s.pins.bootsel = false → s.mgmt.second = true →
      Leads .bootTimeout s fun t => t.rd R.MGMT_STATUS_FW_STATE = 3) ∧
    (s.fwRuns = true →
      (s.rd R.MGMT_STATUS_TRIAL = 1 → s.mgmt.confirmDelay ≠ 0 → s.mgmt.confirmDelay ≤ s.mgmt.runAge →
        Leads .confirmDelayExpiry s fun t => t.rd R.MGMT_STATUS_TRIAL = 0) ∧
      (s.rd R.MGMT_STATUS_UPDATE_STATE = 1 →
        (Leads (.updateEraseDone true) s fun t => t.rd R.MGMT_STATUS_UPDATE_STATE = 2) ∧
        Leads (.updateEraseDone false) s fun t => t.rd R.MGMT_STATUS_UPDATE_STATE = 5 ∧
          t.rd R.MGMT_UPDATE_INFO_ERROR = 6 ∧ t.slot s.spareSlot = []) ∧
      (∀ ok, s.rd R.MGMT_STATUS_UPDATE_STATE = 3 →
        let found := s.imageCode (s.slot s.spareSlot) (some (s.rd R.MGMT_UPDATE_BYTES_BYTES))
        let code := if found = 0 ∧ ok = false then 6 else found
        s.rd R.MGMT_UPDATE_INFO_ACT_MODE ≠ 2 →
        Leads (.updateStaged ok) s fun t =>
          if code = 0 then t.rd R.MGMT_STATUS_UPDATE_STATE = 4 ∧ t.slot s.spareSlot = s.slot s.spareSlot
          else t.rd R.MGMT_STATUS_UPDATE_STATE = 5 ∧ t.rd R.MGMT_UPDATE_INFO_ERROR = code ∧ t.slot s.spareSlot = []) ∧
      (s.rd R.MGMT_WDOG_CTRL_EN = 1 → s.rd R.MGMT_WDOG_COUNT_TICKS = 0 → s.rd R.FAULT_REACT_REACTION [98] = 2 → s.fault.shadows = [] →
        (s.rd R.FAULT_FENCED_TARGETS).testBit 2 = false →
        Leads .watchdogExpiry s fun t => t.rd R.FAULT_STICKY_SOURCES [98] = 1 ∧
          t.rd R.MGMT_STATUS_FW_STATE = (if s.pins.bootsel = true then 4 else 5)))

/-! ### The object dictionary and the wake port -/

/-- R391 to R396, R398: while nobody serves requests each is answered RESTARTING, and that answer is not kept; a message that repeats the last one of its carrier is answered from the kept response; one that fails a
check is answered with that check's abort; READ, WRITE and the transfers answer with what Table 18.3 gives them. -/
def Obligations.DictionaryServes : Prop :=
  ∀ (s : State) (c : Nat) (m : List Byte), DictTakes s c →
    let u := dictBefore s c m
    let r := dreqOf m
    let x := u.carrier c
    (u.restarting c m = true →
      let Shut := fun (cmd : List Byte → Instr) => Leads (cmd m) s fun t =>
        Output.dict c (drspAbort r 0 0x0C 0) ∈ t.sent ∧ (t.carrier c).lastRsp = x.lastRsp
      (r.cmd = 1 → Shut (.read c)) ∧ (r.cmd = 2 → Shut (.write c)) ∧ (r.cmd = 3 → Shut (.readSegInit c)) ∧
      (r.cmd = 4 → Shut (.readSeg c)) ∧ (r.cmd = 5 → Shut (.writeSegInit c)) ∧ (r.cmd = 6 → Shut (.writeSeg c)) ∧
      (r.cmd = 7 → Shut (.abort c))) ∧
    (u.restarting c m = false → x.lastReq = some (reqKey c m) →
      let Again := fun (cmd : List Byte → Instr) => Leads (cmd m) s fun t =>
        Output.dict c x.lastRsp ∈ t.sent ∧ (t.carrier c).open_ = x.open_ ∧ t.dict.holder = u.dict.holder
      (r.cmd = 1 → Again (.read c)) ∧ (r.cmd = 2 → Again (.write c)) ∧ (r.cmd = 3 → Again (.readSegInit c)) ∧
      (r.cmd = 4 → Again (.readSeg c)) ∧ (r.cmd = 5 → Again (.writeSegInit c)) ∧ (r.cmd = 6 → Again (.writeSeg c)) ∧
      (r.cmd = 7 → Again (.abort c))) ∧
    (u.restarting c m = false → x.lastReq ≠ some (reqKey c m) → u.dict.claims = [] →
      let Answers := fun (rsp : List Byte) (t : State) => Output.dict c rsp ∈ t.sent ∧ (t.carrier c).lastRsp = rsp ∧
        (t.carrier c).lastReq = some (reqKey c m)
      let Refused := fun (cmd : List Byte → Instr) => ∀ k o, u.dictCheck c r = (k, o) → k ≠ 0 →
        Leads (cmd m) s (Answers (drspAbort r ((o.map (·.type.code)).getD 0) k 0))
      (r.cmd = 1 → Refused (.read c) ∧ ∀ o, u.dictCheck c r = (0, some o) →
        Leads (.read c m) s (Answers (drspOk r o.type.code r.pos (u.objRead c o r.sub)))) ∧
      (r.cmd = 2 → Refused (.write c) ∧ ∀ o, u.dictCheck c r = (0, some o) →
        (∀ w, u.dictWrite c o r.sub (r.data.take r.len) = some w → w.code = 0 →
          Leads (.write c m) s (Answers (drspOk r o.type.code r.pos []))) ∧
        (o.index = 0x1101 → leNat (r.data.take r.len) = 0 → Leads (.write c m) s fun t => t.dict.holder = 0) ∧
        (o.index = 0x1101 → leNat (r.data.take r.len) ≠ 0 → u.dict.holder ≠ tokenValue c →
          Leads (.write c m) s fun t => t.dict.claims = [⟨c, m⟩] ∧ t.dict.holder = u.dict.holder)) ∧
      (r.cmd = 3 → Refused (.readSegInit c) ∧ ∀ o, u.dictCheck c r = (0, some o) →
        let v := u.objRead c o r.sub
        Leads (.readSegInit c m) s fun t => Answers (drspOk r o.type.code v.length []) t ∧
          (t.carrier c).open_ = some ⟨false, r.index, r.sub, v.length, v, 0, none, 0⟩) ∧
      (r.cmd = 4 → Refused (.readSeg c) ∧ ∀ o q, u.dictCheck c r = (0, some o) → x.open_ = some q →
        let n := min r.len (min (carrierMax c) (q.total - r.pos))
        Leads (.readSeg c m) s (Answers (drspOk r o.type.code r.pos (slice q.bytes r.pos n)))) ∧
      (r.cmd = 5 → Refused (.writeSegInit c) ∧ ∀ o, u.dictCheck c r = (0, some o) →
        Leads (.writeSegInit c m) s fun t => Answers (drspOk r o.type.code r.pos []) t ∧
          (t.carrier c).open_ = some ⟨true, r.index, r.sub, r.pos, [], 0, none, 0⟩) ∧
      (r.cmd = 6 → Refused (.writeSeg c) ∧ ∀ o q, u.dictCheck c r = (0, some o) → x.open_ = some q →
        r.pos + r.len ≠ q.total →
        Leads (.writeSeg c m) s fun t => Answers (drspOk r o.type.code r.pos []) t ∧
          ((t.carrier c).open_.map (·.bytes)) = some (q.bytes ++ r.data.take r.len)) ∧
      (r.cmd = 7 → (x.open_.isSome = true →
          Leads (.abort c m) s fun t => (t.carrier c).open_ = none ∧ Answers (drspAbort r 0 0x0F 0) t) ∧
        (x.open_ = none → Leads (.abort c m) s (Answers (drspOk r 0 r.pos [])))))

/-- R389, R394, R398, R403, R404: the decision on a claim, the timeout and the abort of a transfer, and a save. -/
def Obligations.TokenAndTransfersEnd : Prop :=
  ∀ s : State,
    (∀ c m, c < 2 → s.dict.claims = [⟨c, m⟩] → s.live 3 = true → s.fwRuns = true →
      let r := dreqOf m
      (s.dict.holder = 0 →
        Leads .tokenClaimDecision s fun t => t.dict.holder = tokenValue c ∧ t.dict.claims = [] ∧
          Output.dict c (drspOk r 2 r.pos []) ∈ t.sent) ∧
      (s.dict.holder ≠ 0 → s.rd R.DICT_TOKEN_AGE_TICKS < 20000 →
        Leads .tokenClaimDecision s fun t => t.dict.holder = s.dict.holder ∧ t.dict.claims = [] ∧
          Output.dict c (drspAbort r 2 0x07 0) ∈ t.sent) ∧
      (s.dict.holder ≠ 0 → s.dict.holder ≠ tokenValue c → 20000 ≤ s.rd R.DICT_TOKEN_AGE_TICKS → Mild s 120 →
        Leads .tokenClaimDecision s fun t => t.dict.holder = tokenValue c ∧
          t.dict.seizures = min (s.dict.seizures + 1) (2 ^ 32 - 1) ∧ Output.dict c (drspOk r 2 r.pos []) ∈ t.sent)) ∧
    (∀ c q, c < 2 → (s.carrier c).open_ = some q →
      Leads (.transferTimeout c) s fun t => (t.carrier c).open_ = (if q.idle < 100000 then some q else none)) ∧
    (∀ src, let u := s.inbound src
      u.live 3 = true → u.dict.port.open_.isSome = true →
      Leads (.dictportAbort src) s fun t => t.dict.port.open_ = none ∧ t.rd R.DICT_STATUS_LAST_ABORT = 0x0F) ∧
    (s.fwRuns = true → s.dict.unsaved.isSome = true →
      (Leads (.saveValues true) s fun t => t.dict.unsaved = none ∧ t.dict.saveFailed = false ∧
        (t.savedCopy.map (·.1.entries)) = some s.savedNow) ∧
      (Mild s 105 → Leads (.saveValues false) s fun t => t.dict.saveFailed = true ∧ t.dict.unsaved = s.dict.unsaved ∧
        t.savedCopy = s.savedCopy))

/-- R262, R401, R402, R459: a command byte of 0x10 to 0x2F sets the pointer and is acknowledged, another is not; a read
returns the bytes from the pointer on and 0xFF beyond 0x2F; the last byte is the check of the others; WAKE latches a
wake from EMBER; a bus held low is released. -/
def Obligations.WakePortAnswers : Prop :=
  ∀ s : State,
    ((∀ b, s.wake.base = some b → b.length = 12) →
      s.wakeBytes.length = 32 ∧ s.wakeBytes.drop 31 = leBytes 1 (crc8 (s.wakeBytes.take 31))) ∧
    (s.power.lanternUp = true →
      (∀ p, Leads (.wakePortPointer p) s fun t =>
        if 0x10 ≤ p ∧ p ≤ 0x2F then t.wake.ptr = p ∧ t.wake.sda = true else t.wake.ptr = s.wake.ptr ∧ t.wake.sda = false) ∧
      (∀ n, Leads (.wakePortRead n) s fun t => t.wake.ptr = min (s.wake.ptr + n) 0x30 ∧ t.sent =
        ((List.range n).map fun k =>
          Output.wakeByte ((s.wakeBytes.drop (s.wake.ptr - 0x10)).getD k 0xFF#8).toNat).reverse ++ s.sent) ∧
      (s.thermal.trip = none → s.power.seq = .idle → s.pstate = 3 → (s.rd R.POWER_WAKE_EN_EN).testBit 0 = true →
        Leads .wakePortWake s fun t => t.wake.sda = true ∧ t.rd R.POWER_WAKE_LATCH_PENDING = 1 ∧
          (t.rd R.POWER_WAKE_SRC_SRC).testBit 0 = true ∧ t.pins.wake = true) ∧
      Leads .wakePortTimeout s fun t => t.wake.sda = false ∧ t.wake.ptr = s.wake.ptr)

/-! ### Rack Link -/

/-- R400, R411, R416 to R424, R429 to R432: what the receiver makes of the symbols of a frame. -/
def Obligations.RackLinkHears : Prop :=
  ∀ (s : State) (l : RxLine) (h p : List Byte),
    let Counted := fun t : State => t.rd R.RL_FRAMES_RX_COUNT = (s.rd R.RL_FRAMES_RX_COUNT + 1) % 2 ^ 32
    let Overrun := fun t : State => t.rack.rx = s.rack.rx ∧ t.rd R.RL_RX_OVERRUNS_COUNT =
      min (s.rd R.RL_RX_OVERRUNS_COUNT + 1) (2 ^ R.RL_RX_OVERRUNS_COUNT.width - 1)
    (∀ t0 db, Hears s l h p .beacon → s.rd R.TIME_STATUS_SOURCE = 0 →
      (Room s → s.rd R.TIME_CTRL_BEACON_LOAD ≠ 1 →
        Leads (.beacon t0 l.note db l.hdr l.pay) s fun t => Counted t ∧ t.rd R.RL_STATUS_BEACON_THIS_CYCLE = 1 ∧
          t.rd R.RL_GRANT_SLOTS = leNat (slice p 6 4) % 2 ^ 32 ∧ t.rd R.RL_BEACON_TICK_TICK = leNat (p.take 6) % 2 ^ 32 ∧
          t.rd R.RL_EC_RESIDUAL_DB = min db 255 ∧ t.time.now = s.time.now) ∧
      (Room s → s.rd R.TIME_CTRL_BEACON_LOAD = 1 → s.period ≤ 2 * (t0 - s.time.lastTick) →
        leNat (p.take 6) ≠ (s.time.now + 1) % tickMod →
        Leads (.beacon t0 l.note db l.hdr l.pay) s fun t => Counted t ∧ t.time.load = some (leNat (p.take 6) % tickMod) ∧
          t.rd R.TIME_STATUS_NUMBER_VALID = 1) ∧
      (¬ Room s → Leads (.beacon t0 l.note db l.hdr l.pay) s fun t => Overrun t ∧
        t.rd R.RL_STATUS_BEACON_THIS_CYCLE = s.rd R.RL_STATUS_BEACON_THIS_CYCLE)) ∧
    (Hears s l h p .dictReq →
      (s.pstate = 3 →
        Leads (.dictReq l.note l.hdr l.pay) s fun t => Counted t ∧ Output.dict 1 (drspAbort (dreqOf p) 0 0x10 0) ∈ t.sent) ∧
      (s.pstate ≠ 3 → s.rackTakes = true → s.live 3 = true → s.dict.claims = [] → (dreqOf p).cmd = 1 →
        Leads (.dictReq l.note l.hdr l.pay) s fun t => Counted t ∧ ∃ rsp, Output.dict 1 rsp ∈ t.sent) ∧
      (s.pstate ≠ 3 → s.rackTakes = false → s.rack.rx.length < 4 →
        Leads (.dictReq l.note l.hdr l.pay) s fun t => Counted t ∧ t.rack.rx = s.rack.rx ++ [⟨2, hdrSrc h, p⟩]) ∧
      (¬ Room s → Leads (.dictReq l.note l.hdr l.pay) s Overrun)) ∧
    (Hears s l h p .assign → s.pstate ≠ 3 → s.rackTakes = true →
      (s.fwRuns = true → s.rd R.RL_CTRL_ASSIGN_EN = 1 → leNat (p.take 8) = s.fuseWord 0 →
        isNode (leNat (slice p 8 1)) = true →
        Leads (.assign l.note l.hdr l.pay) s fun t => Counted t ∧ t.rack.pendingAddr = some (leNat (slice p 8 1)) ∧ t.rackAddr = s.rackAddr) ∧
      (s.rd R.RL_CTRL_ASSIGN_EN ≠ 1 ∨ leNat (p.take 8) ≠ s.fuseWord 0 →
        Leads (.assign l.note l.hdr l.pay) s fun t => Counted t ∧ t.rack.pendingAddr = s.rack.pendingAddr)) ∧
    (Hears s l h p .wake → s.thermal.trip = none → s.power.seq = .idle → s.pstate = 3 →
      (s.rd R.POWER_WAKE_EN_EN).testBit 3 = true → s.rd R.POWER_CTRL_RL_LISTEN = 1 →
      Leads (.wakeFrame l.note l.hdr l.pay) s fun t => Counted t ∧ t.rd R.POWER_WAKE_LATCH_PENDING = 1 ∧
        (t.rd R.POWER_WAKE_SRC_SRC).testBit 3 = true ∧ t.pins.wake = true) ∧
    (Hears s l h p .bad →
      Leads (.rlDiscardedFrame l.note l.hdr l.pay) s fun t => t.rd R.RL_BAD_FRAMES_COUNT =
        min (s.rd R.RL_BAD_FRAMES_COUNT + 1) (2 ^ R.RL_BAD_FRAMES_COUNT.width - 1)) ∧
    (Hears s l h p .other →
      Leads (.rlDiscardedFrame l.note l.hdr l.pay) s fun t => t.rd R.RL_BAD_FRAMES_COUNT = s.rd R.RL_BAD_FRAMES_COUNT ∧
        t.rd R.RL_FRAMES_RX_COUNT = s.rd R.RL_FRAMES_RX_COUNT ∧ t.rack = s.rack) ∧
    (Frames s l h p .other → Mild s 115 → s.inOwnSlot = true ∨ isNode s.rackAddr = true ∧ hdrSrc h = s.rackAddr →
      Leads (.rlDiscardedFrame l.note l.hdr l.pay) s fun t => t.rd R.RL_ADDR_CONFLICTS_COUNT =
        min (s.rd R.RL_ADDR_CONFLICTS_COUNT + 1) (2 ^ R.RL_ADDR_CONFLICTS_COUNT.width - 1)) ∧
    (Locks s l → s.inOwnSlot = false → l.hdr.length = 104 → Mild s 112 →
      (hdrGood (headerOf l.hdr) = false →
        Leads (.rlCrcFail l.note l.hdr l.pay) s fun t => t.rd R.RL_HDR_CRC_ERRS_COUNT =
          min (s.rd R.RL_HDR_CRC_ERRS_COUNT + 1) (2 ^ R.RL_HDR_CRC_ERRS_COUNT.width - 1) ∧ t.rack = s.rack) ∧
      (hdrGood (headerOf l.hdr) = true → hdrSrc (headerOf l.hdr) ≠ s.rackAddr → lineFrame l = none →
        l.pay.length = paySymbols (hdrLen (headerOf l.hdr)) →
        Leads (.rlCrcFail l.note l.hdr l.pay) s fun t => t.rd R.RL_PAY_CRC_ERRS_COUNT =
          min (s.rd R.RL_PAY_CRC_ERRS_COUNT + 1) (2 ^ R.RL_PAY_CRC_ERRS_COUNT.width - 1) ∧ t.rack = s.rack))

/-- R414, R423 to R430, R434: the cycle, the slots, a collision, the request for an address and the link test. -/
def Obligations.RackLinkCycles : Prop :=
  ∀ s : State, s.power.lanternUp = true → s.live 22 = true →
    (s.time.now % 1000 = 0 →
      (s.rack.pendingAddr = none → Leads .rlCycleStart s fun t => t.rd R.RL_STATUS_BEACON_THIS_CYCLE = 0 ∧
        t.rackAddr = s.rackAddr ∧ t.rack.linkTest = false ∧ t.rack.assignOpen = false) ∧
      ∀ a, s.rack.pendingAddr = some a → a < 31 → Leads .rlCycleStart s fun t =>
        t.rd R.RL_STATUS_BEACON_THIS_CYCLE = 0 ∧ t.rackAddr = a ∧ t.rack.pendingAddr = none) ∧
    (s.time.now % 1000 = 20 → s.rd R.RL_STATUS_BEACON_THIS_CYCLE ≠ 1 →
      Leads .beaconLost s fun t => t.rd R.RL_BEACONS_LOST_COUNT =
        min (s.rd R.RL_BEACONS_LOST_COUNT + 1) (2 ^ R.RL_BEACONS_LOST_COUNT.width - 1)) ∧
    (∀ db foreign, s.ownSlot = true → (foreign = true → Mild s 115) →
      (s.slotMay = false ∨ (s.rd R.RL_GRANT_SLOTS).testBit s.rackAddr = false →
        Leads (.nodeSlot db foreign) s fun t => t.rack.slot = []) ∧
      (s.slotMay = true → (s.rd R.RL_GRANT_SLOTS).testBit s.rackAddr = true → s.testSlot = false →
        ∀ f fs, (s.rack.back ++ s.rack.tx).filter (fun f => f.rsp && decide (3 ≤ f.age)) = f :: fs → frameSymbols f.payload.length ≤ 3400 →
        Leads (.nodeSlot db foreign) s fun t => (∃ rest, t.rack.slot = s.placed f 50 :: rest) ∧
          ∀ x ∈ t.rack.slot, x.stop ≤ 3450)) ∧
    (∀ res f fs, s.rack.slot = f :: fs → s.transmits = true → Mild s 114 →
      (foreignSymbols s.collisionLimit res = true → Leads (.collision res) s fun t => t.rack.slot = fs ∧
        t.rd R.RL_COLLISIONS_COUNT = min (s.rd R.RL_COLLISIONS_COUNT + 1) (2 ^ R.RL_COLLISIONS_COUNT.width - 1) ∧
        (f.frame.type = 6 → ∃ k, 1 ≤ k ∧ k ≤ 8 ∧ t.rack.assign = .wait k) ∧
        (f.frame.type ≠ 6 → f.frame.retries < 3 →
          t.rack.back = s.rack.back ++ [{ f.frame with retries := f.frame.retries + 1 }]) ∧
        (f.frame.type ≠ 6 → 3 ≤ f.frame.retries → t.rack.back = s.rack.back ∧ t.rd R.RL_TX_DROPPED_COUNT =
          min (s.rd R.RL_TX_DROPPED_COUNT + 1) (2 ^ R.RL_TX_DROPPED_COUNT.width - 1))) ∧
      (foreignSymbols s.collisionLimit res = false → Leads (.collision res) s (· = s))) ∧
    (s.isAssigned = false → s.rd R.RL_CTRL_ASSIGN_EN = 1 → s.fwRuns = true → s.rackMay = true →
      s.rd R.RL_STATUS_BEACON_THIS_CYCLE = 1 → s.rack.assignOpen = true → s.rack.assign = .ready → s.rack.slot = [] →
      s.time.now % 1000 = 916 → s.rack.pendingAddr = none →
      ∀ db, Leads (.assignReqSlot db) s fun t => t.rack.assign = .sent 0 ∧ ∃ k, k < 8 ∧
        t.rack.slot = [s.placed ⟨false, 6, 0x20, leBytes 8 (s.fuseWord 0), 0, 0⟩ (k * 2625 / 2 + 50)]) ∧
    (∀ n, s.rack.assign = .sent n →
      (4 ≤ n → Leads .assignRetry s fun t => ∃ k, 1 ≤ k ∧ k ≤ 8 ∧ t.rack.assign = .wait k) ∧
      (n < 4 → Leads .assignRetry s fun t => t.rack.assign = .sent n)) ∧
    (s.rack.linkTest = true → s.rack.testA ≠ s.rack.testB → isNode s.rack.testA = true → isNode s.rack.testB = true →
      s.slotMay = true → s.rd R.RL_STATUS_EC_CONVERGED = 1 → s.rackAddr = s.rack.testA ∨ s.rackAddr = s.rack.testB →
      s.time.now % 1000 = slotTick s.rack.testA → s.rack.slot = [] → s.pstate ≠ 3 → Mild s 112 →
      let peer := if s.rackAddr = s.rack.testA then s.rack.testB else s.rack.testA
      ∀ db got, Leads (.linkTestSlot got db) s fun t => t.rd R.RL_LT_RESULT_PEER = peer ∧ t.rd R.RL_LT_RESULT_VALID = 1 ∧
        t.rd R.RL_LT_BITS_COUNT = 2048 ∧ (got = none → t.rd R.RL_LT_ERRORS_COUNT = 2048) ∧
        ∀ l, got = some l → s.fault.inj = none → Room s →
          t.rd R.RL_LT_ERRORS_COUNT = linkTestErrors (testPayload s.rackAddr peer l))

/-! ### What holds of every command and every step -/

/-- The canonical form of DRAM outlives every step. -/
def Obligations.MemoryStaysCanonical : Prop :=
  ∀ s t : State, Memory.wf s = true → step s = .next t → Memory.wf t = true

/-- The state after reset meets the invariants, and has the values that the spec gives for it. -/
def Obligations.ResetIsSound : Prop :=
  let s := State.reset
  Memory.wf s = true ∧ ReactLegal s ∧ Filed s ∧ s.pending = [] ∧ s.time.now = 0 ∧ s.rd R.TIME_STATUS_NUMBER_VALID = 0 ∧
    s.rd R.TIME_CTRL_PIN_EN = 1 ∧ s.rd R.TIME_CTRL_BEACON_EN = 1 ∧ s.rd R.TIME_CTRL_BEACON_LOAD = 1 ∧
    s.rd R.TIME_PERIOD = 250 ∧ s.rd R.TIME_DRAIN_LEAD_LEAD = 100 ∧ s.rd R.TIME_SHIFT_STATUS_STATE = 0 ∧
    s.rd R.HOST_STATUS_STACK_READY = 0 ∧ s.rd R.RL_STATUS_ADDRESS = 31 ∧ s.rd R.FAULT_STATUS_SAFE = 0 ∧ s.fault.shadows = []

/-- The frame of the commands that set one thing: nothing else of the state changes. -/
def Obligations.ControlsLeaveTheRest : Prop :=
  ∀ s : State,
    (Leads .burnUnlockLapse s fun t => t = { s with fuse := { s.fuse with unlocked := t.fuse.unlocked } }) ∧
    (Leads .forceArmLapse s fun t => t = { s with fuse := { s.fuse with armed := t.fuse.armed } }) ∧
    (∀ p, Leads (.wakePortPointer p) s fun t => t = { s with wake := t.wake }) ∧
    (∀ n, Leads (.wakePortRead n) s fun t => t = { s with wake := t.wake, sent := t.sent }) ∧
    (Leads .wakePortTimeout s fun t => t = { s with wake := t.wake }) ∧
    (∀ op, let locked := !tapPublic.contains (op % 256) && (s.fuseWord 8).testBit 8 && !s.is R.FUSE_STATUS_MANUFACTURING
      (locked = false → Leads (.tapInstruction op) s fun t => t = { s with pins := t.pins }) ∧
      (locked = true → s.pins.aon = true → s.pins.core = true → Mild s 103 → Leads (.tapInstruction op) s fun t =>
        t.pins.tapIr = op % 256 ∧ t.pins.tapBypass = true ∧ t.fuse = s.fuse ∧ t.dram = s.dram)) ∧
    (Leads .pinSilenceTimeout s fun t => Keeps s t [(R.TIME_STATUS_SOURCE.held, R.TIME_STATUS_SOURCE.key [])] ∧
      t = { s with regs := t.regs, lregs := t.lregs }) ∧
    (Leads .beaconSilenceTimeout s fun t => Keeps s t [(R.TIME_STATUS_SOURCE.held, R.TIME_STATUS_SOURCE.key [])] ∧
      t = { s with regs := t.regs, lregs := t.lregs }) ∧
    (∀ src, let u := s.inbound src
      (∀ key, Leads (.burnUnlock src key) s fun t => t = { u with fuse := { u.fuse with unlocked := t.fuse.unlocked } }) ∧
      (∀ r, Leads (.forceArm src r) s fun t => t = { u with fuse := { u.fuse with armed := t.fuse.armed } }) ∧
      (Leads (.calApply src) s fun t => t = { u with test := { u.test with apply := t.test.apply } }) ∧
      (Leads (.calReload src) s fun t =>
        Keeps u t [(R.TEST_CAL_STATUS_SHADOW_DIRTY.held, R.TEST_CAL_STATUS_SHADOW_DIRTY.key [])] ∧
          t = { u with regs := t.regs, lregs := t.lregs, test := { u.test with shadow := t.test.shadow } }) ∧
      (∀ hi, Leads (.tickLoad src hi) s fun t =>
        Keeps u t [(R.TIME_STATUS_NUMBER_VALID.held, R.TIME_STATUS_NUMBER_VALID.key [])] ∧
          t = { u with regs := t.regs, lregs := t.lregs, time := { u.time with load := t.time.load } }) ∧
      (∀ data, Leads (.fenceRelease src data) s fun t =>
        Keeps u t [(R.FAULT_FENCED_TARGETS.held, R.FAULT_FENCED_TARGETS.key [])] ∧
          t = { u with regs := t.regs, lregs := t.lregs }) ∧
      (∀ w data, Leads (.stickyClear src w data) s fun t =>
        Keeps u t ((R.FAULT_FIRST_VALID.held, R.FAULT_FIRST_VALID.key []) :: (List.range 32).map fun i =>
          (R.FAULT_STICKY_SOURCES.held, R.FAULT_STICKY_SOURCES.key [32 * w + i])) ∧
          t = { u with regs := t.regs, lregs := t.lregs, pins := t.pins }))

/-- The frame of the register writes that may be refused: rack time but for a shift's bookkeeping, every byte of DRAM, the
OTP array, the cache, the benches, the links and the queue stay. -/
def Obligations.GuardedWritesLeaveTheRest : Prop :=
  ∀ (s : State) (src : RegSrc),
    let u := s.inbound src
    Mild u 84 →
    let P := fun t : State => t.dram = u.dram ∧ t.segs = u.segs ∧ t.fuse = u.fuse ∧ t.cache = u.cache ∧ t.bench = u.bench ∧
      t.shaft = u.shaft ∧ t.haul = u.haul ∧ t.coding = u.coding ∧ t.thermal = u.thermal ∧ t.rack = u.rack ∧ t.dict = u.dict ∧
      t.bregs = u.bregs ∧ t.time.now = u.time.now ∧ t.pending = u.pending
    (∀ n word data, Leads (.schedEntryWrite src n word data) s P) ∧
    (∀ off data, Leads (.shiftTicksWrite src off data) s P) ∧
    (∀ l data, Leads (.labelCfgWrite src l data) s P) ∧
    (∀ v, Leads (.ceilingWrite src v) s P) ∧ (∀ v, Leads (.windowWrite src v) s P) ∧
    (∀ v, Leads (.perfLimitWrite src v) s P) ∧
    (∀ ctrl reads, Leads (.fuseRead src ctrl reads) s P) ∧
    (∀ w data, u.fault.inj = none → Leads (.reactWrite src w data) s P) ∧
    (∀ v, Leads (.bankHashWrite src v) s P)
end

