-- ==== Sys2Proof/Laws/Files.lean ====
section
/-! SUPPORT. The register files: reading after writing, and that every write keeps the keys in order. -/
namespace Sys2Proof.Machine
open Sys2Proof.Safety

/-! ### Sorted key lists -/

theorem kvGet_kvPut_same (k v : Nat) (l : List (Nat × Nat)) : kvGet k (kvPut k v l) = some v := by
  induction l with
  | nil => simp [kvPut, kvGet]
  | cons p l ih =>
    obtain ⟨a, w⟩ := p
    unfold kvPut
    split
    · simp [kvGet]
    · split
      · simp [kvGet]
      · rename_i h
        simp [kvGet, h, ih]

theorem kvGet_kvPut_ne {k j : Nat} (v : Nat) (l : List (Nat × Nat)) (h : j ≠ k) : kvGet j (kvPut k v l) = kvGet j l := by
  induction l with
  | nil => simp [kvPut, kvGet, h]
  | cons p l ih =>
    obtain ⟨a, w⟩ := p
    unfold kvPut
    split
    · simp [kvGet, h]
    · split
      · rename_i e
        subst e
        simp [kvGet, h]
      · simp [kvGet, ih]

theorem kvGet_kvDel_same (k : Nat) (l : List (Nat × Nat)) : kvGet k (kvDel k l) = none := by
  induction l with
  | nil => rfl
  | cons p l ih =>
    obtain ⟨a, w⟩ := p
    by_cases h : a = k
    · subst h
      simpa [kvDel] using ih
    · have : k ≠ a := fun e => h e.symm
      simpa [kvDel, kvGet, h, this] using ih

theorem kvGet_kvDel_ne {k j : Nat} (l : List (Nat × Nat)) (h : j ≠ k) : kvGet j (kvDel k l) = kvGet j l := by
  induction l with
  | nil => rfl
  | cons p l ih =>
    obtain ⟨a, w⟩ := p
    by_cases e : a = k
    · subst e
      simpa [kvDel, kvGet, h] using ih
    · by_cases f : j = a
      · subst f
        simp [kvDel, kvGet, e]
      · simpa [kvDel, kvGet, e, f] using ih

/-- Every key of a rising list is above a bound that its first is above. -/
theorem keysRise_bound {a : Nat} {l : List (Nat × Nat)} {w : Nat} (h : keysRise ((a, w) :: l) = true) :
    ∀ p ∈ l, a < p.1 := by
  induction l generalizing a w with
  | nil => simp
  | cons q l ih =>
    obtain ⟨b, v⟩ := q
    simp only [keysRise, Bool.and_eq_true, decide_eq_true_eq] at h
    intro p hp
    rcases List.mem_cons.1 hp with rfl | hp
    · exact h.1
    · exact Nat.lt_trans h.1 (ih h.2 p hp)

theorem keysRise_tail {p : Nat × Nat} {l : List (Nat × Nat)} (h : keysRise (p :: l) = true) : keysRise l = true := by
  cases l with
  | nil => rfl
  | cons q l =>
    obtain ⟨a, w⟩ := p
    obtain ⟨b, v⟩ := q
    simp only [keysRise, Bool.and_eq_true] at h
    exact h.2

theorem keysRise_cons {a w : Nat} {l : List (Nat × Nat)} (h : keysRise l = true) (hb : ∀ p ∈ l, a < p.1) :
    keysRise ((a, w) :: l) = true := by
  cases l with
  | nil => rfl
  | cons q l =>
    obtain ⟨b, v⟩ := q
    simp [keysRise, h, hb (b, v) (by simp)]

theorem mem_kvPut {k v : Nat} {l : List (Nat × Nat)} {p : Nat × Nat} (h : p ∈ kvPut k v l) : p = (k, v) ∨ p ∈ l := by
  induction l with
  | nil => simpa [kvPut] using h
  | cons q l ih =>
    obtain ⟨a, w⟩ := q
    unfold kvPut at h
    split at h
    · rcases List.mem_cons.1 h with h | h
      · exact .inl h
      · exact .inr h
    · split at h
      · rcases List.mem_cons.1 h with h | h
        · exact .inl h
        · exact .inr (List.mem_cons_of_mem _ h)
      · rcases List.mem_cons.1 h with h | h
        · exact .inr (h ▸ by simp)
        · rcases ih h with h | h
          · exact .inl h
          · exact .inr (List.mem_cons_of_mem _ h)

theorem keysRise_kvPut (k v : Nat) {l : List (Nat × Nat)} (h : keysRise l = true) : keysRise (kvPut k v l) = true := by
  induction l with
  | nil => rfl
  | cons q l ih =>
    obtain ⟨a, w⟩ := q
    have hb := keysRise_bound h
    have ht := keysRise_tail h
    unfold kvPut
    split
    · rename_i hk
      exact keysRise_cons h fun p hp => by
        rcases List.mem_cons.1 hp with rfl | hp
        · exact hk
        · exact Nat.lt_trans hk (hb p hp)
    · rename_i hk
      split
      · rename_i e
        subst e
        exact keysRise_cons ht hb
      · rename_i e
        refine keysRise_cons (ih ht) fun p hp => ?_
        rcases mem_kvPut hp with rfl | hp
        · show a < k
          omega
        · exact hb p hp

theorem keysRise_filter (f : Nat × Nat → Bool) {l : List (Nat × Nat)} (h : keysRise l = true) : keysRise (l.filter f) = true := by
  induction l with
  | nil => rfl
  | cons q l ih =>
    obtain ⟨a, w⟩ := q
    have ht := ih (keysRise_tail h)
    by_cases e : f (a, w)
    · rw [List.filter_cons_of_pos e]
      exact keysRise_cons ht fun p hp => keysRise_bound h p (List.mem_of_mem_filter hp)
    · rw [List.filter_cons_of_neg e]
      exact ht

theorem keysRise_kvDel (k : Nat) {l : List (Nat × Nat)} (h : keysRise l = true) : keysRise (kvDel k l) = true :=
  keysRise_filter _ h

/-! ### Files of the state -/

@[simp] theorem file_setFile_same (s : State) (h : Held) (l : List (Nat × Nat)) : (s.setFile h l).file h = l := by
  cases h <;> rfl

theorem file_setFile_ne (s : State) {h k : Held} (l : List (Nat × Nat)) (e : k ≠ h) : (s.setFile h l).file k = s.file k := by
  cases h <;> cases k <;> first | rfl | exact absurd rfl e

theorem file_wr_ne (s : State) {f : Fam} {k : Held} (v : Nat) (i : List Nat) (e : k ≠ f.held) :
    (s.wr f v i).file k = s.file k := file_setFile_ne s _ e

/-- What a write does to a register file: the member written is listed unless it is at its reset value. -/
theorem kvGet_wr_same (s : State) (f : Fam) (v : Nat) (i : List Nat) :
    kvGet (f.key i) ((s.wr f v i).file f.held) =
      if v % 2 ^ f.width = f.resetAt i then none else some (v % 2 ^ f.width) := by
  simp only [State.wr, file_setFile_same]
  split
  · exact kvGet_kvDel_same _ _
  · exact kvGet_kvPut_same _ _ _

/-- A write leaves every other key of every file. -/
theorem kvGet_wr_ne (s : State) (f : Fam) (v : Nat) (i : List Nat) {h : Held} {k : Nat} (e : ¬ (h = f.held ∧ k = f.key i)) :
    kvGet k ((s.wr f v i).file h) = kvGet k (s.file h) := by
  by_cases hh : h = f.held
  · subst hh
    have hk : k ≠ f.key i := fun hk => e ⟨rfl, hk⟩
    simp only [State.wr, file_setFile_same]
    split
    · exact kvGet_kvDel_ne _ hk
    · exact kvGet_kvPut_ne _ _ hk
  · rw [file_wr_ne s v i hh]

/-- A field reads back the low bits written. -/
theorem rd_wr_same (s : State) (f : Fam) (v : Nat) (i : List Nat) : (s.wr f v i).rd f i = v % 2 ^ f.width := by
  simp only [State.rd, kvGet_wr_same]
  split
  · rename_i h
    simp [h]
  · rfl

/-- A field at another place reads as before. -/
theorem rd_wr_ne (s : State) (f g : Fam) (v : Nat) (i j : List Nat) (e : ¬ (g.held = f.held ∧ g.key j = f.key i)) :
    (s.wr f v i).rd g j = s.rd g j := by
  simp only [State.rd, kvGet_wr_ne s f v i e]

/-- A field in another file reads as before. -/
theorem rd_wr_held (s : State) (f g : Fam) (v : Nat) (i j : List Nat) (e : g.held ≠ f.held) : (s.wr f v i).rd g j = s.rd g j :=
  rd_wr_ne s f g v i j fun h => e h.1

/-- A field with another key reads as before. -/
theorem rd_wr_key (s : State) (f g : Fam) (v : Nat) (i j : List Nat) (e : g.key j ≠ f.key i) : (s.wr f v i).rd g j = s.rd g j :=
  rd_wr_ne s f g v i j fun h => e h.2

theorem rd_set_same (s : State) (f : Fam) (i : List Nat) (h : 0 < f.width) : (s.set f i).rd f i = 1 := by
  have : 1 < 2 ^ f.width := Nat.one_lt_two_pow (by omega)
  simp [State.set, rd_wr_same, Nat.mod_eq_of_lt this]

@[simp] theorem rd_clr_same (s : State) (f : Fam) (i : List Nat) : (s.clr f i).rd f i = 0 := by simp [State.clr, rd_wr_same]

/-- Every write keeps the files in order. -/
theorem filed_wr {s : State} (h : Filed s) (f : Fam) (v : Nat) (i : List Nat) : Filed (s.wr f v i) := by
  obtain ⟨h1, h2, h3⟩ := h
  have key : ∀ l, keysRise l = true →
      keysRise (if v % 2 ^ f.width = f.resetAt i then kvDel (f.key i) l else kvPut (f.key i) (v % 2 ^ f.width) l) = true := by
    intro l hl
    split
    · exact keysRise_kvDel _ hl
    · exact keysRise_kvPut _ _ hl
  unfold State.wr Filed
  cases f.held
  · exact ⟨key _ h1, h2, h3⟩
  · exact ⟨h1, key _ h2, h3⟩
  · exact ⟨h1, h2, key _ h3⟩

theorem filed_resetBlock {s : State} (h : Filed s) (lo hi : Nat) : Filed (s.resetBlock lo hi) :=
  ⟨keysRise_filter _ h.1, h.2.1, keysRise_filter _ h.2.2⟩

/-! ### Folds -/

/-- A fold keeps what each of its steps keeps. -/
theorem foldl_keeps {α β γ : Type} (p : β → γ) (g : β → α → β) (hg : ∀ b a, p (g b a) = p b) (l : List α) (b : β) :
    p (l.foldl g b) = p b := by
  induction l generalizing b with
  | nil => rfl
  | cons a l ih => rw [List.foldl_cons, ih, hg]

/-- A fold keeps an invariant that each of its steps keeps. -/
theorem foldl_inv {α β : Type} (P : β → Prop) (g : β → α → β) (hg : ∀ b a, P b → P (g b a)) (l : List α) {b : β} (h : P b) :
    P (l.foldl g b) := by
  induction l generalizing b with
  | nil => exact h
  | cons a l ih => exact ih (hg b a h)

end Sys2Proof.Machine
end

