-- ==== Sys2Proof/Laws/Memory.lean ====
section
/-! SUPPORT. DRAM: reading after writing, and that every operation on it keeps the canonical form. -/
namespace Sys2Proof.Machine

/-! ### What an unlisted byte reads as -/

theorem blankPortion_congr {s t : State} (h : t.segs = s.segs) (p : Nat) : t.blankPortion p = s.blankPortion p := by
  simp only [State.blankPortion, h]

theorem blank_congr {s t : State} (h : t.segs = s.segs) (a : Nat) : t.blank a = s.blank a := by
  simp only [State.blank, blankPortion_congr h]

theorem peek_congr {s t : State} (hd : t.dram = s.dram) (hs : t.segs = s.segs) (a : Nat) : t.peek a = s.peek a := by
  simp only [State.peek, blank_congr hs, hd]

/-- The canonical form speaks of the listed bytes and of what stack clears left, of nothing else. -/
theorem wf_congr {s t : State} (hd : t.dram = s.dram) (hs : t.segs = s.segs) (h : Memory.wf s = true) : Memory.wf t = true := by
  simpa only [Memory.wf, hd, blank_congr hs] using h

/-! ### Sorted cells -/

theorem cellsRise_tail {c : Host.Cell} {l : List Host.Cell} (h : cellsRise (c :: l) = true) : cellsRise l = true := by
  cases l with
  | nil => rfl
  | cons d l =>
    obtain ⟨a, v⟩ := c
    obtain ⟨b, w⟩ := d
    simp only [cellsRise, Bool.and_eq_true] at h
    exact h.2

theorem cellsRise_bound {c : Host.Cell} {l : List Host.Cell} (h : cellsRise (c :: l) = true) : ∀ d ∈ l, c.1 < d.1 := by
  induction l generalizing c with
  | nil => simp
  | cons e l ih =>
    have ht := cellsRise_tail h
    obtain ⟨a, v⟩ := c
    obtain ⟨b, w⟩ := e
    simp only [cellsRise, Bool.and_eq_true, decide_eq_true_eq] at h
    intro d hd
    rcases List.mem_cons.1 hd with rfl | hd
    · exact h.1
    · exact Nat.lt_trans h.1 (ih ht d hd)

theorem cellsRise_cons {c : Host.Cell} {l : List Host.Cell} (h : cellsRise l = true) (hb : ∀ d ∈ l, c.1 < d.1) :
    cellsRise (c :: l) = true := by
  cases l with
  | nil => rfl
  | cons d l =>
    obtain ⟨a, v⟩ := c
    obtain ⟨b, w⟩ := d
    simp [cellsRise, h]
    exact hb (b, w) (by simp)

theorem cellsRise_filter (p : Host.Cell → Bool) {l : List Host.Cell} (h : cellsRise l = true) : cellsRise (l.filter p) = true := by
  induction l with
  | nil => rfl
  | cons c l ih =>
    have ht := ih (cellsRise_tail h)
    by_cases e : p c
    · rw [List.filter_cons_of_pos e]
      exact cellsRise_cons ht fun d hd => cellsRise_bound h d (List.mem_of_mem_filter hd)
    · rw [List.filter_cons_of_neg e]
      exact ht

theorem cellsRise_append {l m : List Host.Cell} (hl : cellsRise l = true) (hm : cellsRise m = true)
    (h : ∀ c ∈ l, ∀ d ∈ m, c.1 < d.1) : cellsRise (l ++ m) = true := by
  induction l with
  | nil => exact hm
  | cons c l ih =>
    refine cellsRise_cons (ih (cellsRise_tail hl) fun d hd => h d (List.mem_cons_of_mem _ hd)) fun d hd => ?_
    rcases List.mem_append.1 hd with hd | hd
    · exact cellsRise_bound hl d hd
    · exact h c (by simp) d hd

theorem cellAt_append (a : Nat) (l m : List Host.Cell) : cellAt a (l ++ m) = (cellAt a l).or (cellAt a m) := by
  induction l with
  | nil => rfl
  | cons c l ih =>
    obtain ⟨b, v⟩ := c
    by_cases h : b = a <;> simp [cellAt, h, ih]

theorem cellAt_none {a : Nat} {l : List Host.Cell} (h : ∀ c ∈ l, c.1 ≠ a) : cellAt a l = none := by
  induction l with
  | nil => rfl
  | cons c l ih =>
    obtain ⟨b, v⟩ := c
    have : b ≠ a := h (b, v) (by simp)
    simp [cellAt, this, ih fun d hd => h d (List.mem_cons_of_mem _ hd)]

/-- Cells that a filter on addresses keeps are found in what it leaves. -/
theorem cellAt_filter (p : Nat → Bool) (a : Nat) (l : List Host.Cell) :
    cellAt a (l.filter fun c => p c.1) = if p a then cellAt a l else none := by
  induction l with
  | nil => simp [cellAt]
  | cons c l ih =>
    obtain ⟨b, v⟩ := c
    by_cases e : b = a
    · subst e
      by_cases q : p b <;> simp [cellAt, q, ih]
    · by_cases q : p b <;> simp [cellAt, q, e, ih]

/-! ### Bytes written in a row -/

/-- The cells that a write lists: the bytes that differ from what an unlisted byte reads as. -/
def cellsOf (bl : Nat → Byte) (a : Nat) (bs : List Byte) : List Host.Cell :=
  (bs.zipIdx a).filterMap fun (v, i) => if v = bl i then none else some (i, v)

theorem cellsOf_cons (bl : Nat → Byte) (a : Nat) (v : Byte) (bs : List Byte) :
    cellsOf bl a (v :: bs) = (if v = bl a then [] else [(a, v)]) ++ cellsOf bl (a + 1) bs := by
  by_cases h : v = bl a <;> simp [cellsOf, List.zipIdx_cons, h]

theorem cellsOf_range {bl : Nat → Byte} {a : Nat} {bs : List Byte} {c : Host.Cell} (h : c ∈ cellsOf bl a bs) :
    a ≤ c.1 ∧ c.1 < a + bs.length ∧ c.2 ≠ bl c.1 := by
  induction bs generalizing a with
  | nil => simp [cellsOf] at h
  | cons v bs ih =>
    rw [cellsOf_cons] at h
    rcases List.mem_append.1 h with h | h
    · by_cases e : v = bl a
      · simp [e] at h
      · simp [e] at h
        subst h
        exact ⟨Nat.le_refl _, by simp, e⟩
    · have := ih h
      refine ⟨by omega, ?_, this.2.2⟩
      simp only [List.length_cons]
      omega

theorem cellsRise_cellsOf (bl : Nat → Byte) (a : Nat) (bs : List Byte) : cellsRise (cellsOf bl a bs) = true := by
  induction bs generalizing a with
  | nil => rfl
  | cons v bs ih =>
    rw [cellsOf_cons]
    by_cases e : v = bl a
    · simpa [e] using ih (a + 1)
    · simp only [e, if_false]
      exact cellsRise_cons (ih (a + 1)) fun d hd => (cellsOf_range hd).1

theorem cellAt_cellsOf {bl : Nat → Byte} {a i : Nat} {bs : List Byte} (h : i < bs.length) :
    (cellAt (a + i) (cellsOf bl a bs)).getD (bl (a + i)) = bs[i] := by
  induction bs generalizing a i with
  | nil => simp at h
  | cons v bs ih =>
    rw [cellsOf_cons, cellAt_append]
    cases i with
    | zero =>
      by_cases e : v = bl a
      · have hn : cellAt a (cellsOf bl (a + 1) bs) = none :=
          cellAt_none fun c hc => by have := (cellsOf_range hc).1; omega
        simp [e, cellAt, hn]
      · simp [e, cellAt]
    | succ i =>
      have hh := ih (a := a + 1) (i := i) (by simpa using h)
      rw [show a + 1 + i = a + (i + 1) by omega] at hh
      by_cases e : v = bl a
      · simpa [e, cellAt] using hh
      · simpa [e, cellAt] using hh

/-! ### Writing DRAM -/

/-- A write in three parts: the cells below, those written, the cells above. -/
theorem poke_dram (s : State) (a : Nat) (bs : List Byte) :
    (s.poke a bs).dram = s.dram.filter (fun c => decide (c.1 < a)) ++ cellsOf s.blank a bs ++
      s.dram.filter fun c => decide (a + bs.length ≤ c.1) := by
  have hbl : (fun i => if i / portionBytes = a / portionBytes then
      (s.blankPortion (a / portionBytes)).getD (i % portionBytes) 0#8 else s.blank i) = s.blank := by
    funext i
    split
    · rename_i h
      rw [State.blank, h]
    · rfl
  rw [← hbl]
  rfl

@[simp] theorem poke_segs (s : State) (a : Nat) (bs : List Byte) : (s.poke a bs).segs = s.segs := rfl

/-- A byte outside those written reads as before. -/
theorem peek_poke_out (s : State) (a : Nat) (bs : List Byte) (b : Nat) (h : b < a ∨ a + bs.length ≤ b) :
    (s.poke a bs).peek b = s.peek b := by
  have hm : cellAt b (cellsOf s.blank a bs) = none :=
    cellAt_none fun c hc => by have := cellsOf_range hc; omega
  simp only [State.peek, blank_congr (poke_segs s a bs), poke_dram, cellAt_append, hm,
    cellAt_filter (fun x => decide (x < a)), cellAt_filter (fun x => decide (a + bs.length ≤ x))]
  rcases h with h | h
  · have : ¬ a + bs.length ≤ b := by omega
    simp [h, this]
  · have : ¬ b < a := by omega
    simp [h, this]

/-- A byte written reads as written. -/
theorem peek_poke_in (s : State) (a : Nat) (bs : List Byte) (i : Nat) (h : i < bs.length) :
    (s.poke a bs).peek (a + i) = bs[i] := by
  have h1 : ¬ a + i < a := by omega
  have h2 : ¬ a + bs.length ≤ a + i := by omega
  simp only [State.peek, blank_congr (poke_segs s a bs), poke_dram, cellAt_append,
    cellAt_filter (fun x => decide (x < a)), cellAt_filter (fun x => decide (a + bs.length ≤ x)), h1, h2]
  simpa using cellAt_cellsOf (bl := s.blank) (a := a) h

/-- A write keeps the canonical form. -/
theorem wf_poke {s : State} (h : Memory.wf s = true) (a : Nat) (bs : List Byte) : Memory.wf (s.poke a bs) = true := by
  simp only [Memory.wf, Bool.and_eq_true, List.all_eq_true, bne_iff_ne, ne_eq] at h ⊢
  constructor
  · rw [poke_dram, List.append_assoc]
    refine cellsRise_append (cellsRise_filter _ h.1)
      (cellsRise_append (cellsRise_cellsOf _ _ _) (cellsRise_filter _ h.1) ?_) ?_
    · intro c hc d hd
      have h1 := cellsOf_range hc
      have h2 := (List.mem_filter.1 hd).2
      simp at h2
      omega
    · intro c hc d hd
      have h1 := (List.mem_filter.1 hc).2
      simp at h1
      rcases List.mem_append.1 hd with hd | hd
      · have := cellsOf_range hd
        omega
      · have h2 := (List.mem_filter.1 hd).2
        simp at h2
        omega
  · intro c hc
    rw [blank_congr (poke_segs s a bs)]
    rw [poke_dram] at hc
    rcases List.mem_append.1 hc with hc | hc
    · rcases List.mem_append.1 hc with hc | hc
      · exact h.2 c (List.mem_of_mem_filter hc)
      · exact (cellsOf_range hc).2.2
    · exact h.2 c (List.mem_of_mem_filter hc)

/-- Portions left by a clear or a march keep the canonical form: every cell of a portion written goes, and what the others read
as without their cells stays. -/
theorem wf_addSeg {s : State} (h : Memory.wf s = true) (g : ClearSeg) : Memory.wf (s.addSeg g) = true := by
  simp only [Memory.wf, Bool.and_eq_true, List.all_eq_true, bne_iff_ne, ne_eq] at h ⊢
  constructor
  · exact cellsRise_filter _ h.1
  · intro c hc
    have hm := List.mem_filter.1 hc
    have hn : g.leaves (c.1 / portionBytes) = none := Option.isNone_iff_eq_none.1 hm.2
    have hb : (s.addSeg g).blank c.1 = s.blank c.1 := by
      simp only [State.blank, State.blankPortion, State.addSeg, List.findSome?_cons, hn]
    rw [hb]
    exact h.2 c hm.1

/-- A stack clear keeps the canonical form. -/
theorem wf_clearedDram {s : State} (h : Memory.wf s = true) (p q : Nat) : Memory.wf (s.clearedDram p q) = true := wf_addSeg h _

/-- Writing the canaries keeps the canonical form. -/
theorem wf_canaryWrite {s : State} (h : Memory.wf s = true) (b : Nat) : Memory.wf (s.canaryWrite b) = true := by
  simp only [Memory.wf, Bool.and_eq_true, List.all_eq_true, bne_iff_ne, ne_eq] at h ⊢
  exact ⟨cellsRise_filter _ h.1, fun c hc => h.2 c (List.mem_filter.1 hc).1⟩

/-- Changes of canary cells keep the canonical form. -/
theorem wf_canaryFlip {s : State} (h : Memory.wf s = true) (b : Nat) (bits : List Nat) :
    Memory.wf (s.canaryFlip b bits) = true := by
  unfold State.canaryFlip
  induction bits generalizing s with
  | nil => exact h
  | cons n l ih => exact ih (wf_poke h _ _)

/-- The machine after reset lists nothing. -/
theorem wf_reset : Memory.wf State.reset = true := rfl

/-- A portion read is its 144 bytes read one by one. -/
theorem readPortion_eq (s : State) (layer slab : Nat) :
    s.readPortion layer slab = (List.range portionBytes).map fun i => s.peek (s.place layer slab + i) := by
  unfold State.readPortion
  refine List.map_congr_left fun i hi => ?_
  have hi : i < portionBytes := List.mem_range.1 hi
  have hp : (s.place layer slab + i) / portionBytes = portionIndex s.hash s.remaps layer slab := by
    unfold State.place portionBytes at *
    omega
  have hm : (s.place layer slab + i) % portionBytes = i := by
    unfold State.place portionBytes at *
    omega
  simp only [State.peek, State.blank, hp, hm,
    cellAt_filter (fun x => x / portionBytes == portionIndex s.hash s.remaps layer slab), beq_self_eq_true, if_true]

/-- A portion written reads back. -/
theorem readPortion_poke (s : State) (layer slab : Nat) (bs : List Byte) (h : bs.length = portionBytes) :
    (s.poke (s.place layer slab) bs).readPortion layer slab = bs := by
  have hp : (s.poke (s.place layer slab) bs).place layer slab = s.place layer slab := rfl
  rw [readPortion_eq, hp]
  apply List.ext_getElem
  · simp [h]
  · intro i h1 h2
    simp [peek_poke_in s _ bs i h2]

end Sys2Proof.Machine
end

