-- ==== Sys2Proof/Laws/State.lean ====
section
/-! SUPPORT. What each basic update leaves of the state: one lemma per field and update, all for simp. -/
namespace Sys2Proof.Machine

/-! ### A register file replaced -/

@[simp] theorem setFile_time (s : State) (h : Held) (l : List (Nat × Nat)) : (s.setFile h l).time = s.time := by cases h <;> rfl
@[simp] theorem setFile_dram (s : State) (h : Held) (l : List (Nat × Nat)) : (s.setFile h l).dram = s.dram := by cases h <;> rfl
@[simp] theorem setFile_segs (s : State) (h : Held) (l : List (Nat × Nat)) : (s.setFile h l).segs = s.segs := by cases h <;> rfl
@[simp] theorem setFile_cache (s : State) (h : Held) (l : List (Nat × Nat)) : (s.setFile h l).cache = s.cache := by cases h <;> rfl
@[simp] theorem setFile_ras (s : State) (h : Held) (l : List (Nat × Nat)) : (s.setFile h l).ras = s.ras := by cases h <;> rfl
@[simp] theorem setFile_bench (s : State) (h : Held) (l : List (Nat × Nat)) : (s.setFile h l).bench = s.bench := by cases h <;> rfl
@[simp] theorem setFile_shaft (s : State) (h : Held) (l : List (Nat × Nat)) : (s.setFile h l).shaft = s.shaft := by cases h <;> rfl
@[simp] theorem setFile_host (s : State) (h : Held) (l : List (Nat × Nat)) : (s.setFile h l).host = s.host := by cases h <;> rfl
@[simp] theorem setFile_haul (s : State) (h : Held) (l : List (Nat × Nat)) : (s.setFile h l).haul = s.haul := by cases h <;> rfl
@[simp] theorem setFile_coding (s : State) (h : Held) (l : List (Nat × Nat)) : (s.setFile h l).coding = s.coding := by cases h <;> rfl
@[simp] theorem setFile_regul (s : State) (h : Held) (l : List (Nat × Nat)) : (s.setFile h l).regul = s.regul := by cases h <;> rfl
@[simp] theorem setFile_power (s : State) (h : Held) (l : List (Nat × Nat)) : (s.setFile h l).power = s.power := by cases h <;> rfl
@[simp] theorem setFile_thermal (s : State) (h : Held) (l : List (Nat × Nat)) : (s.setFile h l).thermal = s.thermal := by cases h <;> rfl
@[simp] theorem setFile_fault (s : State) (h : Held) (l : List (Nat × Nat)) : (s.setFile h l).fault = s.fault := by cases h <;> rfl
@[simp] theorem setFile_test (s : State) (h : Held) (l : List (Nat × Nat)) : (s.setFile h l).test = s.test := by cases h <;> rfl
@[simp] theorem setFile_fuse (s : State) (h : Held) (l : List (Nat × Nat)) : (s.setFile h l).fuse = s.fuse := by cases h <;> rfl
@[simp] theorem setFile_mgmt (s : State) (h : Held) (l : List (Nat × Nat)) : (s.setFile h l).mgmt = s.mgmt := by cases h <;> rfl
@[simp] theorem setFile_dict (s : State) (h : Held) (l : List (Nat × Nat)) : (s.setFile h l).dict = s.dict := by cases h <;> rfl
@[simp] theorem setFile_wake (s : State) (h : Held) (l : List (Nat × Nat)) : (s.setFile h l).wake = s.wake := by cases h <;> rfl
@[simp] theorem setFile_rack (s : State) (h : Held) (l : List (Nat × Nat)) : (s.setFile h l).rack = s.rack := by cases h <;> rfl
@[simp] theorem setFile_pins (s : State) (h : Held) (l : List (Nat × Nat)) : (s.setFile h l).pins = s.pins := by cases h <;> rfl
@[simp] theorem setFile_fresh (s : State) (h : Held) (l : List (Nat × Nat)) : (s.setFile h l).fresh = s.fresh := by cases h <;> rfl
@[simp] theorem setFile_sent (s : State) (h : Held) (l : List (Nat × Nat)) : (s.setFile h l).sent = s.sent := by cases h <;> rfl
@[simp] theorem setFile_pending (s : State) (h : Held) (l : List (Nat × Nat)) : (s.setFile h l).pending = s.pending := by cases h <;> rfl

/-! ### A register field written -/

@[simp] theorem wr_time (s : State) (f : Fam) (v : Nat) (i : List Nat) : (s.wr f v i).time = s.time := setFile_time s _ _
@[simp] theorem wr_dram (s : State) (f : Fam) (v : Nat) (i : List Nat) : (s.wr f v i).dram = s.dram := setFile_dram s _ _
@[simp] theorem wr_segs (s : State) (f : Fam) (v : Nat) (i : List Nat) : (s.wr f v i).segs = s.segs := setFile_segs s _ _
@[simp] theorem wr_cache (s : State) (f : Fam) (v : Nat) (i : List Nat) : (s.wr f v i).cache = s.cache := setFile_cache s _ _
@[simp] theorem wr_ras (s : State) (f : Fam) (v : Nat) (i : List Nat) : (s.wr f v i).ras = s.ras := setFile_ras s _ _
@[simp] theorem wr_bench (s : State) (f : Fam) (v : Nat) (i : List Nat) : (s.wr f v i).bench = s.bench := setFile_bench s _ _
@[simp] theorem wr_shaft (s : State) (f : Fam) (v : Nat) (i : List Nat) : (s.wr f v i).shaft = s.shaft := setFile_shaft s _ _
@[simp] theorem wr_host (s : State) (f : Fam) (v : Nat) (i : List Nat) : (s.wr f v i).host = s.host := setFile_host s _ _
@[simp] theorem wr_haul (s : State) (f : Fam) (v : Nat) (i : List Nat) : (s.wr f v i).haul = s.haul := setFile_haul s _ _
@[simp] theorem wr_coding (s : State) (f : Fam) (v : Nat) (i : List Nat) : (s.wr f v i).coding = s.coding := setFile_coding s _ _
@[simp] theorem wr_regul (s : State) (f : Fam) (v : Nat) (i : List Nat) : (s.wr f v i).regul = s.regul := setFile_regul s _ _
@[simp] theorem wr_power (s : State) (f : Fam) (v : Nat) (i : List Nat) : (s.wr f v i).power = s.power := setFile_power s _ _
@[simp] theorem wr_thermal (s : State) (f : Fam) (v : Nat) (i : List Nat) : (s.wr f v i).thermal = s.thermal := setFile_thermal s _ _
@[simp] theorem wr_fault (s : State) (f : Fam) (v : Nat) (i : List Nat) : (s.wr f v i).fault = s.fault := setFile_fault s _ _
@[simp] theorem wr_test (s : State) (f : Fam) (v : Nat) (i : List Nat) : (s.wr f v i).test = s.test := setFile_test s _ _
@[simp] theorem wr_fuse (s : State) (f : Fam) (v : Nat) (i : List Nat) : (s.wr f v i).fuse = s.fuse := setFile_fuse s _ _
@[simp] theorem wr_mgmt (s : State) (f : Fam) (v : Nat) (i : List Nat) : (s.wr f v i).mgmt = s.mgmt := setFile_mgmt s _ _
@[simp] theorem wr_dict (s : State) (f : Fam) (v : Nat) (i : List Nat) : (s.wr f v i).dict = s.dict := setFile_dict s _ _
@[simp] theorem wr_wake (s : State) (f : Fam) (v : Nat) (i : List Nat) : (s.wr f v i).wake = s.wake := setFile_wake s _ _
@[simp] theorem wr_rack (s : State) (f : Fam) (v : Nat) (i : List Nat) : (s.wr f v i).rack = s.rack := setFile_rack s _ _
@[simp] theorem wr_pins (s : State) (f : Fam) (v : Nat) (i : List Nat) : (s.wr f v i).pins = s.pins := setFile_pins s _ _
@[simp] theorem wr_fresh (s : State) (f : Fam) (v : Nat) (i : List Nat) : (s.wr f v i).fresh = s.fresh := setFile_fresh s _ _
@[simp] theorem wr_sent (s : State) (f : Fam) (v : Nat) (i : List Nat) : (s.wr f v i).sent = s.sent := setFile_sent s _ _
@[simp] theorem wr_pending (s : State) (f : Fam) (v : Nat) (i : List Nat) : (s.wr f v i).pending = s.pending := setFile_pending s _ _

/-! ### A field set -/

@[simp] theorem set_time (s : State) (f : Fam) (i : List Nat) : (s.set f i).time = s.time := wr_time s f 1 i
@[simp] theorem set_dram (s : State) (f : Fam) (i : List Nat) : (s.set f i).dram = s.dram := wr_dram s f 1 i
@[simp] theorem set_segs (s : State) (f : Fam) (i : List Nat) : (s.set f i).segs = s.segs := wr_segs s f 1 i
@[simp] theorem set_cache (s : State) (f : Fam) (i : List Nat) : (s.set f i).cache = s.cache := wr_cache s f 1 i
@[simp] theorem set_ras (s : State) (f : Fam) (i : List Nat) : (s.set f i).ras = s.ras := wr_ras s f 1 i
@[simp] theorem set_bench (s : State) (f : Fam) (i : List Nat) : (s.set f i).bench = s.bench := wr_bench s f 1 i
@[simp] theorem set_shaft (s : State) (f : Fam) (i : List Nat) : (s.set f i).shaft = s.shaft := wr_shaft s f 1 i
@[simp] theorem set_host (s : State) (f : Fam) (i : List Nat) : (s.set f i).host = s.host := wr_host s f 1 i
@[simp] theorem set_haul (s : State) (f : Fam) (i : List Nat) : (s.set f i).haul = s.haul := wr_haul s f 1 i
@[simp] theorem set_coding (s : State) (f : Fam) (i : List Nat) : (s.set f i).coding = s.coding := wr_coding s f 1 i
@[simp] theorem set_regul (s : State) (f : Fam) (i : List Nat) : (s.set f i).regul = s.regul := wr_regul s f 1 i
@[simp] theorem set_power (s : State) (f : Fam) (i : List Nat) : (s.set f i).power = s.power := wr_power s f 1 i
@[simp] theorem set_thermal (s : State) (f : Fam) (i : List Nat) : (s.set f i).thermal = s.thermal := wr_thermal s f 1 i
@[simp] theorem set_fault (s : State) (f : Fam) (i : List Nat) : (s.set f i).fault = s.fault := wr_fault s f 1 i
@[simp] theorem set_test (s : State) (f : Fam) (i : List Nat) : (s.set f i).test = s.test := wr_test s f 1 i
@[simp] theorem set_fuse (s : State) (f : Fam) (i : List Nat) : (s.set f i).fuse = s.fuse := wr_fuse s f 1 i
@[simp] theorem set_mgmt (s : State) (f : Fam) (i : List Nat) : (s.set f i).mgmt = s.mgmt := wr_mgmt s f 1 i
@[simp] theorem set_dict (s : State) (f : Fam) (i : List Nat) : (s.set f i).dict = s.dict := wr_dict s f 1 i
@[simp] theorem set_wake (s : State) (f : Fam) (i : List Nat) : (s.set f i).wake = s.wake := wr_wake s f 1 i
@[simp] theorem set_rack (s : State) (f : Fam) (i : List Nat) : (s.set f i).rack = s.rack := wr_rack s f 1 i
@[simp] theorem set_pins (s : State) (f : Fam) (i : List Nat) : (s.set f i).pins = s.pins := wr_pins s f 1 i
@[simp] theorem set_fresh (s : State) (f : Fam) (i : List Nat) : (s.set f i).fresh = s.fresh := wr_fresh s f 1 i
@[simp] theorem set_sent (s : State) (f : Fam) (i : List Nat) : (s.set f i).sent = s.sent := wr_sent s f 1 i
@[simp] theorem set_pending (s : State) (f : Fam) (i : List Nat) : (s.set f i).pending = s.pending := wr_pending s f 1 i

/-! ### A field cleared -/

@[simp] theorem clr_time (s : State) (f : Fam) (i : List Nat) : (s.clr f i).time = s.time := wr_time s f 0 i
@[simp] theorem clr_dram (s : State) (f : Fam) (i : List Nat) : (s.clr f i).dram = s.dram := wr_dram s f 0 i
@[simp] theorem clr_segs (s : State) (f : Fam) (i : List Nat) : (s.clr f i).segs = s.segs := wr_segs s f 0 i
@[simp] theorem clr_cache (s : State) (f : Fam) (i : List Nat) : (s.clr f i).cache = s.cache := wr_cache s f 0 i
@[simp] theorem clr_ras (s : State) (f : Fam) (i : List Nat) : (s.clr f i).ras = s.ras := wr_ras s f 0 i
@[simp] theorem clr_bench (s : State) (f : Fam) (i : List Nat) : (s.clr f i).bench = s.bench := wr_bench s f 0 i
@[simp] theorem clr_shaft (s : State) (f : Fam) (i : List Nat) : (s.clr f i).shaft = s.shaft := wr_shaft s f 0 i
@[simp] theorem clr_host (s : State) (f : Fam) (i : List Nat) : (s.clr f i).host = s.host := wr_host s f 0 i
@[simp] theorem clr_haul (s : State) (f : Fam) (i : List Nat) : (s.clr f i).haul = s.haul := wr_haul s f 0 i
@[simp] theorem clr_coding (s : State) (f : Fam) (i : List Nat) : (s.clr f i).coding = s.coding := wr_coding s f 0 i
@[simp] theorem clr_regul (s : State) (f : Fam) (i : List Nat) : (s.clr f i).regul = s.regul := wr_regul s f 0 i
@[simp] theorem clr_power (s : State) (f : Fam) (i : List Nat) : (s.clr f i).power = s.power := wr_power s f 0 i
@[simp] theorem clr_thermal (s : State) (f : Fam) (i : List Nat) : (s.clr f i).thermal = s.thermal := wr_thermal s f 0 i
@[simp] theorem clr_fault (s : State) (f : Fam) (i : List Nat) : (s.clr f i).fault = s.fault := wr_fault s f 0 i
@[simp] theorem clr_test (s : State) (f : Fam) (i : List Nat) : (s.clr f i).test = s.test := wr_test s f 0 i
@[simp] theorem clr_fuse (s : State) (f : Fam) (i : List Nat) : (s.clr f i).fuse = s.fuse := wr_fuse s f 0 i
@[simp] theorem clr_mgmt (s : State) (f : Fam) (i : List Nat) : (s.clr f i).mgmt = s.mgmt := wr_mgmt s f 0 i
@[simp] theorem clr_dict (s : State) (f : Fam) (i : List Nat) : (s.clr f i).dict = s.dict := wr_dict s f 0 i
@[simp] theorem clr_wake (s : State) (f : Fam) (i : List Nat) : (s.clr f i).wake = s.wake := wr_wake s f 0 i
@[simp] theorem clr_rack (s : State) (f : Fam) (i : List Nat) : (s.clr f i).rack = s.rack := wr_rack s f 0 i
@[simp] theorem clr_pins (s : State) (f : Fam) (i : List Nat) : (s.clr f i).pins = s.pins := wr_pins s f 0 i
@[simp] theorem clr_fresh (s : State) (f : Fam) (i : List Nat) : (s.clr f i).fresh = s.fresh := wr_fresh s f 0 i
@[simp] theorem clr_sent (s : State) (f : Fam) (i : List Nat) : (s.clr f i).sent = s.sent := wr_sent s f 0 i
@[simp] theorem clr_pending (s : State) (f : Fam) (i : List Nat) : (s.clr f i).pending = s.pending := wr_pending s f 0 i

/-! ### A field set from a condition -/

@[simp] theorem wrB_time (s : State) (f : Fam) (b : Bool) (i : List Nat) : (s.wrB f b i).time = s.time := wr_time s f _ i
@[simp] theorem wrB_dram (s : State) (f : Fam) (b : Bool) (i : List Nat) : (s.wrB f b i).dram = s.dram := wr_dram s f _ i
@[simp] theorem wrB_segs (s : State) (f : Fam) (b : Bool) (i : List Nat) : (s.wrB f b i).segs = s.segs := wr_segs s f _ i
@[simp] theorem wrB_cache (s : State) (f : Fam) (b : Bool) (i : List Nat) : (s.wrB f b i).cache = s.cache := wr_cache s f _ i
@[simp] theorem wrB_ras (s : State) (f : Fam) (b : Bool) (i : List Nat) : (s.wrB f b i).ras = s.ras := wr_ras s f _ i
@[simp] theorem wrB_bench (s : State) (f : Fam) (b : Bool) (i : List Nat) : (s.wrB f b i).bench = s.bench := wr_bench s f _ i
@[simp] theorem wrB_shaft (s : State) (f : Fam) (b : Bool) (i : List Nat) : (s.wrB f b i).shaft = s.shaft := wr_shaft s f _ i
@[simp] theorem wrB_host (s : State) (f : Fam) (b : Bool) (i : List Nat) : (s.wrB f b i).host = s.host := wr_host s f _ i
@[simp] theorem wrB_haul (s : State) (f : Fam) (b : Bool) (i : List Nat) : (s.wrB f b i).haul = s.haul := wr_haul s f _ i
@[simp] theorem wrB_coding (s : State) (f : Fam) (b : Bool) (i : List Nat) : (s.wrB f b i).coding = s.coding := wr_coding s f _ i
@[simp] theorem wrB_regul (s : State) (f : Fam) (b : Bool) (i : List Nat) : (s.wrB f b i).regul = s.regul := wr_regul s f _ i
@[simp] theorem wrB_power (s : State) (f : Fam) (b : Bool) (i : List Nat) : (s.wrB f b i).power = s.power := wr_power s f _ i
@[simp] theorem wrB_thermal (s : State) (f : Fam) (b : Bool) (i : List Nat) : (s.wrB f b i).thermal = s.thermal := wr_thermal s f _ i
@[simp] theorem wrB_fault (s : State) (f : Fam) (b : Bool) (i : List Nat) : (s.wrB f b i).fault = s.fault := wr_fault s f _ i
@[simp] theorem wrB_test (s : State) (f : Fam) (b : Bool) (i : List Nat) : (s.wrB f b i).test = s.test := wr_test s f _ i
@[simp] theorem wrB_fuse (s : State) (f : Fam) (b : Bool) (i : List Nat) : (s.wrB f b i).fuse = s.fuse := wr_fuse s f _ i
@[simp] theorem wrB_mgmt (s : State) (f : Fam) (b : Bool) (i : List Nat) : (s.wrB f b i).mgmt = s.mgmt := wr_mgmt s f _ i
@[simp] theorem wrB_dict (s : State) (f : Fam) (b : Bool) (i : List Nat) : (s.wrB f b i).dict = s.dict := wr_dict s f _ i
@[simp] theorem wrB_wake (s : State) (f : Fam) (b : Bool) (i : List Nat) : (s.wrB f b i).wake = s.wake := wr_wake s f _ i
@[simp] theorem wrB_rack (s : State) (f : Fam) (b : Bool) (i : List Nat) : (s.wrB f b i).rack = s.rack := wr_rack s f _ i
@[simp] theorem wrB_pins (s : State) (f : Fam) (b : Bool) (i : List Nat) : (s.wrB f b i).pins = s.pins := wr_pins s f _ i
@[simp] theorem wrB_fresh (s : State) (f : Fam) (b : Bool) (i : List Nat) : (s.wrB f b i).fresh = s.fresh := wr_fresh s f _ i
@[simp] theorem wrB_sent (s : State) (f : Fam) (b : Bool) (i : List Nat) : (s.wrB f b i).sent = s.sent := wr_sent s f _ i
@[simp] theorem wrB_pending (s : State) (f : Fam) (b : Bool) (i : List Nat) : (s.wrB f b i).pending = s.pending := wr_pending s f _ i

/-! ### A saturating counter -/

@[simp] theorem addSat_time (s : State) (f : Fam) (n : Nat) (i : List Nat) : (s.addSat f n i).time = s.time := wr_time s f _ i
@[simp] theorem addSat_dram (s : State) (f : Fam) (n : Nat) (i : List Nat) : (s.addSat f n i).dram = s.dram := wr_dram s f _ i
@[simp] theorem addSat_segs (s : State) (f : Fam) (n : Nat) (i : List Nat) : (s.addSat f n i).segs = s.segs := wr_segs s f _ i
@[simp] theorem addSat_cache (s : State) (f : Fam) (n : Nat) (i : List Nat) : (s.addSat f n i).cache = s.cache := wr_cache s f _ i
@[simp] theorem addSat_ras (s : State) (f : Fam) (n : Nat) (i : List Nat) : (s.addSat f n i).ras = s.ras := wr_ras s f _ i
@[simp] theorem addSat_bench (s : State) (f : Fam) (n : Nat) (i : List Nat) : (s.addSat f n i).bench = s.bench := wr_bench s f _ i
@[simp] theorem addSat_shaft (s : State) (f : Fam) (n : Nat) (i : List Nat) : (s.addSat f n i).shaft = s.shaft := wr_shaft s f _ i
@[simp] theorem addSat_host (s : State) (f : Fam) (n : Nat) (i : List Nat) : (s.addSat f n i).host = s.host := wr_host s f _ i
@[simp] theorem addSat_haul (s : State) (f : Fam) (n : Nat) (i : List Nat) : (s.addSat f n i).haul = s.haul := wr_haul s f _ i
@[simp] theorem addSat_coding (s : State) (f : Fam) (n : Nat) (i : List Nat) : (s.addSat f n i).coding = s.coding := wr_coding s f _ i
@[simp] theorem addSat_regul (s : State) (f : Fam) (n : Nat) (i : List Nat) : (s.addSat f n i).regul = s.regul := wr_regul s f _ i
@[simp] theorem addSat_power (s : State) (f : Fam) (n : Nat) (i : List Nat) : (s.addSat f n i).power = s.power := wr_power s f _ i
@[simp] theorem addSat_thermal (s : State) (f : Fam) (n : Nat) (i : List Nat) : (s.addSat f n i).thermal = s.thermal := wr_thermal s f _ i
@[simp] theorem addSat_fault (s : State) (f : Fam) (n : Nat) (i : List Nat) : (s.addSat f n i).fault = s.fault := wr_fault s f _ i
@[simp] theorem addSat_test (s : State) (f : Fam) (n : Nat) (i : List Nat) : (s.addSat f n i).test = s.test := wr_test s f _ i
@[simp] theorem addSat_fuse (s : State) (f : Fam) (n : Nat) (i : List Nat) : (s.addSat f n i).fuse = s.fuse := wr_fuse s f _ i
@[simp] theorem addSat_mgmt (s : State) (f : Fam) (n : Nat) (i : List Nat) : (s.addSat f n i).mgmt = s.mgmt := wr_mgmt s f _ i
@[simp] theorem addSat_dict (s : State) (f : Fam) (n : Nat) (i : List Nat) : (s.addSat f n i).dict = s.dict := wr_dict s f _ i
@[simp] theorem addSat_wake (s : State) (f : Fam) (n : Nat) (i : List Nat) : (s.addSat f n i).wake = s.wake := wr_wake s f _ i
@[simp] theorem addSat_rack (s : State) (f : Fam) (n : Nat) (i : List Nat) : (s.addSat f n i).rack = s.rack := wr_rack s f _ i
@[simp] theorem addSat_pins (s : State) (f : Fam) (n : Nat) (i : List Nat) : (s.addSat f n i).pins = s.pins := wr_pins s f _ i
@[simp] theorem addSat_fresh (s : State) (f : Fam) (n : Nat) (i : List Nat) : (s.addSat f n i).fresh = s.fresh := wr_fresh s f _ i
@[simp] theorem addSat_sent (s : State) (f : Fam) (n : Nat) (i : List Nat) : (s.addSat f n i).sent = s.sent := wr_sent s f _ i
@[simp] theorem addSat_pending (s : State) (f : Fam) (n : Nat) (i : List Nat) : (s.addSat f n i).pending = s.pending := wr_pending s f _ i

/-! ### A saturating counter incremented -/

@[simp] theorem incSat_time (s : State) (f : Fam) (i : List Nat) : (s.incSat f i).time = s.time := wr_time s f _ i
@[simp] theorem incSat_dram (s : State) (f : Fam) (i : List Nat) : (s.incSat f i).dram = s.dram := wr_dram s f _ i
@[simp] theorem incSat_segs (s : State) (f : Fam) (i : List Nat) : (s.incSat f i).segs = s.segs := wr_segs s f _ i
@[simp] theorem incSat_cache (s : State) (f : Fam) (i : List Nat) : (s.incSat f i).cache = s.cache := wr_cache s f _ i
@[simp] theorem incSat_ras (s : State) (f : Fam) (i : List Nat) : (s.incSat f i).ras = s.ras := wr_ras s f _ i
@[simp] theorem incSat_bench (s : State) (f : Fam) (i : List Nat) : (s.incSat f i).bench = s.bench := wr_bench s f _ i
@[simp] theorem incSat_shaft (s : State) (f : Fam) (i : List Nat) : (s.incSat f i).shaft = s.shaft := wr_shaft s f _ i
@[simp] theorem incSat_host (s : State) (f : Fam) (i : List Nat) : (s.incSat f i).host = s.host := wr_host s f _ i
@[simp] theorem incSat_haul (s : State) (f : Fam) (i : List Nat) : (s.incSat f i).haul = s.haul := wr_haul s f _ i
@[simp] theorem incSat_coding (s : State) (f : Fam) (i : List Nat) : (s.incSat f i).coding = s.coding := wr_coding s f _ i
@[simp] theorem incSat_regul (s : State) (f : Fam) (i : List Nat) : (s.incSat f i).regul = s.regul := wr_regul s f _ i
@[simp] theorem incSat_power (s : State) (f : Fam) (i : List Nat) : (s.incSat f i).power = s.power := wr_power s f _ i
@[simp] theorem incSat_thermal (s : State) (f : Fam) (i : List Nat) : (s.incSat f i).thermal = s.thermal := wr_thermal s f _ i
@[simp] theorem incSat_fault (s : State) (f : Fam) (i : List Nat) : (s.incSat f i).fault = s.fault := wr_fault s f _ i
@[simp] theorem incSat_test (s : State) (f : Fam) (i : List Nat) : (s.incSat f i).test = s.test := wr_test s f _ i
@[simp] theorem incSat_fuse (s : State) (f : Fam) (i : List Nat) : (s.incSat f i).fuse = s.fuse := wr_fuse s f _ i
@[simp] theorem incSat_mgmt (s : State) (f : Fam) (i : List Nat) : (s.incSat f i).mgmt = s.mgmt := wr_mgmt s f _ i
@[simp] theorem incSat_dict (s : State) (f : Fam) (i : List Nat) : (s.incSat f i).dict = s.dict := wr_dict s f _ i
@[simp] theorem incSat_wake (s : State) (f : Fam) (i : List Nat) : (s.incSat f i).wake = s.wake := wr_wake s f _ i
@[simp] theorem incSat_rack (s : State) (f : Fam) (i : List Nat) : (s.incSat f i).rack = s.rack := wr_rack s f _ i
@[simp] theorem incSat_pins (s : State) (f : Fam) (i : List Nat) : (s.incSat f i).pins = s.pins := wr_pins s f _ i
@[simp] theorem incSat_fresh (s : State) (f : Fam) (i : List Nat) : (s.incSat f i).fresh = s.fresh := wr_fresh s f _ i
@[simp] theorem incSat_sent (s : State) (f : Fam) (i : List Nat) : (s.incSat f i).sent = s.sent := wr_sent s f _ i
@[simp] theorem incSat_pending (s : State) (f : Fam) (i : List Nat) : (s.incSat f i).pending = s.pending := wr_pending s f _ i

/-! ### A wrapping counter -/

@[simp] theorem inc_time (s : State) (f : Fam) (i : List Nat) : (s.inc f i).time = s.time := wr_time s f _ i
@[simp] theorem inc_dram (s : State) (f : Fam) (i : List Nat) : (s.inc f i).dram = s.dram := wr_dram s f _ i
@[simp] theorem inc_segs (s : State) (f : Fam) (i : List Nat) : (s.inc f i).segs = s.segs := wr_segs s f _ i
@[simp] theorem inc_cache (s : State) (f : Fam) (i : List Nat) : (s.inc f i).cache = s.cache := wr_cache s f _ i
@[simp] theorem inc_ras (s : State) (f : Fam) (i : List Nat) : (s.inc f i).ras = s.ras := wr_ras s f _ i
@[simp] theorem inc_bench (s : State) (f : Fam) (i : List Nat) : (s.inc f i).bench = s.bench := wr_bench s f _ i
@[simp] theorem inc_shaft (s : State) (f : Fam) (i : List Nat) : (s.inc f i).shaft = s.shaft := wr_shaft s f _ i
@[simp] theorem inc_host (s : State) (f : Fam) (i : List Nat) : (s.inc f i).host = s.host := wr_host s f _ i
@[simp] theorem inc_haul (s : State) (f : Fam) (i : List Nat) : (s.inc f i).haul = s.haul := wr_haul s f _ i
@[simp] theorem inc_coding (s : State) (f : Fam) (i : List Nat) : (s.inc f i).coding = s.coding := wr_coding s f _ i
@[simp] theorem inc_regul (s : State) (f : Fam) (i : List Nat) : (s.inc f i).regul = s.regul := wr_regul s f _ i
@[simp] theorem inc_power (s : State) (f : Fam) (i : List Nat) : (s.inc f i).power = s.power := wr_power s f _ i
@[simp] theorem inc_thermal (s : State) (f : Fam) (i : List Nat) : (s.inc f i).thermal = s.thermal := wr_thermal s f _ i
@[simp] theorem inc_fault (s : State) (f : Fam) (i : List Nat) : (s.inc f i).fault = s.fault := wr_fault s f _ i
@[simp] theorem inc_test (s : State) (f : Fam) (i : List Nat) : (s.inc f i).test = s.test := wr_test s f _ i
@[simp] theorem inc_fuse (s : State) (f : Fam) (i : List Nat) : (s.inc f i).fuse = s.fuse := wr_fuse s f _ i
@[simp] theorem inc_mgmt (s : State) (f : Fam) (i : List Nat) : (s.inc f i).mgmt = s.mgmt := wr_mgmt s f _ i
@[simp] theorem inc_dict (s : State) (f : Fam) (i : List Nat) : (s.inc f i).dict = s.dict := wr_dict s f _ i
@[simp] theorem inc_wake (s : State) (f : Fam) (i : List Nat) : (s.inc f i).wake = s.wake := wr_wake s f _ i
@[simp] theorem inc_rack (s : State) (f : Fam) (i : List Nat) : (s.inc f i).rack = s.rack := wr_rack s f _ i
@[simp] theorem inc_pins (s : State) (f : Fam) (i : List Nat) : (s.inc f i).pins = s.pins := wr_pins s f _ i
@[simp] theorem inc_fresh (s : State) (f : Fam) (i : List Nat) : (s.inc f i).fresh = s.fresh := wr_fresh s f _ i
@[simp] theorem inc_sent (s : State) (f : Fam) (i : List Nat) : (s.inc f i).sent = s.sent := wr_sent s f _ i
@[simp] theorem inc_pending (s : State) (f : Fam) (i : List Nat) : (s.inc f i).pending = s.pending := wr_pending s f _ i

/-! ### A bit map written -/

@[simp] theorem wrBits_time (s : State) (f : Fam) (n v : Nat) (i : List Nat) : (s.wrBits f n v i).time = s.time := foldl_keeps State.time _ (fun s _ => wrB_time s f _ _) _ s
@[simp] theorem wrBits_dram (s : State) (f : Fam) (n v : Nat) (i : List Nat) : (s.wrBits f n v i).dram = s.dram := foldl_keeps State.dram _ (fun s _ => wrB_dram s f _ _) _ s
@[simp] theorem wrBits_segs (s : State) (f : Fam) (n v : Nat) (i : List Nat) : (s.wrBits f n v i).segs = s.segs := foldl_keeps State.segs _ (fun s _ => wrB_segs s f _ _) _ s
@[simp] theorem wrBits_cache (s : State) (f : Fam) (n v : Nat) (i : List Nat) : (s.wrBits f n v i).cache = s.cache := foldl_keeps State.cache _ (fun s _ => wrB_cache s f _ _) _ s
@[simp] theorem wrBits_ras (s : State) (f : Fam) (n v : Nat) (i : List Nat) : (s.wrBits f n v i).ras = s.ras := foldl_keeps State.ras _ (fun s _ => wrB_ras s f _ _) _ s
@[simp] theorem wrBits_bench (s : State) (f : Fam) (n v : Nat) (i : List Nat) : (s.wrBits f n v i).bench = s.bench := foldl_keeps State.bench _ (fun s _ => wrB_bench s f _ _) _ s
@[simp] theorem wrBits_shaft (s : State) (f : Fam) (n v : Nat) (i : List Nat) : (s.wrBits f n v i).shaft = s.shaft := foldl_keeps State.shaft _ (fun s _ => wrB_shaft s f _ _) _ s
@[simp] theorem wrBits_host (s : State) (f : Fam) (n v : Nat) (i : List Nat) : (s.wrBits f n v i).host = s.host := foldl_keeps State.host _ (fun s _ => wrB_host s f _ _) _ s
@[simp] theorem wrBits_haul (s : State) (f : Fam) (n v : Nat) (i : List Nat) : (s.wrBits f n v i).haul = s.haul := foldl_keeps State.haul _ (fun s _ => wrB_haul s f _ _) _ s
@[simp] theorem wrBits_coding (s : State) (f : Fam) (n v : Nat) (i : List Nat) : (s.wrBits f n v i).coding = s.coding := foldl_keeps State.coding _ (fun s _ => wrB_coding s f _ _) _ s
@[simp] theorem wrBits_regul (s : State) (f : Fam) (n v : Nat) (i : List Nat) : (s.wrBits f n v i).regul = s.regul := foldl_keeps State.regul _ (fun s _ => wrB_regul s f _ _) _ s
@[simp] theorem wrBits_power (s : State) (f : Fam) (n v : Nat) (i : List Nat) : (s.wrBits f n v i).power = s.power := foldl_keeps State.power _ (fun s _ => wrB_power s f _ _) _ s
@[simp] theorem wrBits_thermal (s : State) (f : Fam) (n v : Nat) (i : List Nat) : (s.wrBits f n v i).thermal = s.thermal := foldl_keeps State.thermal _ (fun s _ => wrB_thermal s f _ _) _ s
@[simp] theorem wrBits_fault (s : State) (f : Fam) (n v : Nat) (i : List Nat) : (s.wrBits f n v i).fault = s.fault := foldl_keeps State.fault _ (fun s _ => wrB_fault s f _ _) _ s
@[simp] theorem wrBits_test (s : State) (f : Fam) (n v : Nat) (i : List Nat) : (s.wrBits f n v i).test = s.test := foldl_keeps State.test _ (fun s _ => wrB_test s f _ _) _ s
@[simp] theorem wrBits_fuse (s : State) (f : Fam) (n v : Nat) (i : List Nat) : (s.wrBits f n v i).fuse = s.fuse := foldl_keeps State.fuse _ (fun s _ => wrB_fuse s f _ _) _ s
@[simp] theorem wrBits_mgmt (s : State) (f : Fam) (n v : Nat) (i : List Nat) : (s.wrBits f n v i).mgmt = s.mgmt := foldl_keeps State.mgmt _ (fun s _ => wrB_mgmt s f _ _) _ s
@[simp] theorem wrBits_dict (s : State) (f : Fam) (n v : Nat) (i : List Nat) : (s.wrBits f n v i).dict = s.dict := foldl_keeps State.dict _ (fun s _ => wrB_dict s f _ _) _ s
@[simp] theorem wrBits_wake (s : State) (f : Fam) (n v : Nat) (i : List Nat) : (s.wrBits f n v i).wake = s.wake := foldl_keeps State.wake _ (fun s _ => wrB_wake s f _ _) _ s
@[simp] theorem wrBits_rack (s : State) (f : Fam) (n v : Nat) (i : List Nat) : (s.wrBits f n v i).rack = s.rack := foldl_keeps State.rack _ (fun s _ => wrB_rack s f _ _) _ s
@[simp] theorem wrBits_pins (s : State) (f : Fam) (n v : Nat) (i : List Nat) : (s.wrBits f n v i).pins = s.pins := foldl_keeps State.pins _ (fun s _ => wrB_pins s f _ _) _ s
@[simp] theorem wrBits_fresh (s : State) (f : Fam) (n v : Nat) (i : List Nat) : (s.wrBits f n v i).fresh = s.fresh := foldl_keeps State.fresh _ (fun s _ => wrB_fresh s f _ _) _ s
@[simp] theorem wrBits_sent (s : State) (f : Fam) (n v : Nat) (i : List Nat) : (s.wrBits f n v i).sent = s.sent := foldl_keeps State.sent _ (fun s _ => wrB_sent s f _ _) _ s
@[simp] theorem wrBits_pending (s : State) (f : Fam) (n v : Nat) (i : List Nat) : (s.wrBits f n v i).pending = s.pending := foldl_keeps State.pending _ (fun s _ => wrB_pending s f _ _) _ s

/-! ### A block put back to reset -/

@[simp] theorem resetBlock_lregs (s : State) (lo hi : Nat) : (s.resetBlock lo hi).lregs = s.lregs := rfl
@[simp] theorem resetBlock_time (s : State) (lo hi : Nat) : (s.resetBlock lo hi).time = s.time := rfl
@[simp] theorem resetBlock_dram (s : State) (lo hi : Nat) : (s.resetBlock lo hi).dram = s.dram := rfl
@[simp] theorem resetBlock_segs (s : State) (lo hi : Nat) : (s.resetBlock lo hi).segs = s.segs := rfl
@[simp] theorem resetBlock_cache (s : State) (lo hi : Nat) : (s.resetBlock lo hi).cache = s.cache := rfl
@[simp] theorem resetBlock_ras (s : State) (lo hi : Nat) : (s.resetBlock lo hi).ras = s.ras := rfl
@[simp] theorem resetBlock_bench (s : State) (lo hi : Nat) : (s.resetBlock lo hi).bench = s.bench := rfl
@[simp] theorem resetBlock_shaft (s : State) (lo hi : Nat) : (s.resetBlock lo hi).shaft = s.shaft := rfl
@[simp] theorem resetBlock_host (s : State) (lo hi : Nat) : (s.resetBlock lo hi).host = s.host := rfl
@[simp] theorem resetBlock_haul (s : State) (lo hi : Nat) : (s.resetBlock lo hi).haul = s.haul := rfl
@[simp] theorem resetBlock_coding (s : State) (lo hi : Nat) : (s.resetBlock lo hi).coding = s.coding := rfl
@[simp] theorem resetBlock_regul (s : State) (lo hi : Nat) : (s.resetBlock lo hi).regul = s.regul := rfl
@[simp] theorem resetBlock_power (s : State) (lo hi : Nat) : (s.resetBlock lo hi).power = s.power := rfl
@[simp] theorem resetBlock_thermal (s : State) (lo hi : Nat) : (s.resetBlock lo hi).thermal = s.thermal := rfl
@[simp] theorem resetBlock_fault (s : State) (lo hi : Nat) : (s.resetBlock lo hi).fault = s.fault := rfl
@[simp] theorem resetBlock_test (s : State) (lo hi : Nat) : (s.resetBlock lo hi).test = s.test := rfl
@[simp] theorem resetBlock_fuse (s : State) (lo hi : Nat) : (s.resetBlock lo hi).fuse = s.fuse := rfl
@[simp] theorem resetBlock_mgmt (s : State) (lo hi : Nat) : (s.resetBlock lo hi).mgmt = s.mgmt := rfl
@[simp] theorem resetBlock_dict (s : State) (lo hi : Nat) : (s.resetBlock lo hi).dict = s.dict := rfl
@[simp] theorem resetBlock_wake (s : State) (lo hi : Nat) : (s.resetBlock lo hi).wake = s.wake := rfl
@[simp] theorem resetBlock_rack (s : State) (lo hi : Nat) : (s.resetBlock lo hi).rack = s.rack := rfl
@[simp] theorem resetBlock_pins (s : State) (lo hi : Nat) : (s.resetBlock lo hi).pins = s.pins := rfl
@[simp] theorem resetBlock_fresh (s : State) (lo hi : Nat) : (s.resetBlock lo hi).fresh = s.fresh := rfl
@[simp] theorem resetBlock_sent (s : State) (lo hi : Nat) : (s.resetBlock lo hi).sent = s.sent := rfl
@[simp] theorem resetBlock_pending (s : State) (lo hi : Nat) : (s.resetBlock lo hi).pending = s.pending := rfl

/-! ### A free value drawn -/

@[simp] theorem draw_regs (s : State)  : (s.draw.2).regs = s.regs := rfl
@[simp] theorem draw_lregs (s : State)  : (s.draw.2).lregs = s.lregs := rfl
@[simp] theorem draw_bregs (s : State)  : (s.draw.2).bregs = s.bregs := rfl
@[simp] theorem draw_time (s : State)  : (s.draw.2).time = s.time := rfl
@[simp] theorem draw_dram (s : State)  : (s.draw.2).dram = s.dram := rfl
@[simp] theorem draw_segs (s : State)  : (s.draw.2).segs = s.segs := rfl
@[simp] theorem draw_cache (s : State)  : (s.draw.2).cache = s.cache := rfl
@[simp] theorem draw_ras (s : State)  : (s.draw.2).ras = s.ras := rfl
@[simp] theorem draw_bench (s : State)  : (s.draw.2).bench = s.bench := rfl
@[simp] theorem draw_shaft (s : State)  : (s.draw.2).shaft = s.shaft := rfl
@[simp] theorem draw_host (s : State)  : (s.draw.2).host = s.host := rfl
@[simp] theorem draw_haul (s : State)  : (s.draw.2).haul = s.haul := rfl
@[simp] theorem draw_coding (s : State)  : (s.draw.2).coding = s.coding := rfl
@[simp] theorem draw_regul (s : State)  : (s.draw.2).regul = s.regul := rfl
@[simp] theorem draw_power (s : State)  : (s.draw.2).power = s.power := rfl
@[simp] theorem draw_thermal (s : State)  : (s.draw.2).thermal = s.thermal := rfl
@[simp] theorem draw_fault (s : State)  : (s.draw.2).fault = s.fault := rfl
@[simp] theorem draw_test (s : State)  : (s.draw.2).test = s.test := rfl
@[simp] theorem draw_fuse (s : State)  : (s.draw.2).fuse = s.fuse := rfl
@[simp] theorem draw_mgmt (s : State)  : (s.draw.2).mgmt = s.mgmt := rfl
@[simp] theorem draw_dict (s : State)  : (s.draw.2).dict = s.dict := rfl
@[simp] theorem draw_wake (s : State)  : (s.draw.2).wake = s.wake := rfl
@[simp] theorem draw_rack (s : State)  : (s.draw.2).rack = s.rack := rfl
@[simp] theorem draw_pins (s : State)  : (s.draw.2).pins = s.pins := rfl
@[simp] theorem draw_sent (s : State)  : (s.draw.2).sent = s.sent := rfl
@[simp] theorem draw_pending (s : State)  : (s.draw.2).pending = s.pending := rfl

/-! ### An output recorded -/

@[simp] theorem emit_regs (s : State) (o : Output) : (s.emit o).regs = s.regs := rfl
@[simp] theorem emit_lregs (s : State) (o : Output) : (s.emit o).lregs = s.lregs := rfl
@[simp] theorem emit_bregs (s : State) (o : Output) : (s.emit o).bregs = s.bregs := rfl
@[simp] theorem emit_time (s : State) (o : Output) : (s.emit o).time = s.time := rfl
@[simp] theorem emit_dram (s : State) (o : Output) : (s.emit o).dram = s.dram := rfl
@[simp] theorem emit_segs (s : State) (o : Output) : (s.emit o).segs = s.segs := rfl
@[simp] theorem emit_cache (s : State) (o : Output) : (s.emit o).cache = s.cache := rfl
@[simp] theorem emit_ras (s : State) (o : Output) : (s.emit o).ras = s.ras := rfl
@[simp] theorem emit_bench (s : State) (o : Output) : (s.emit o).bench = s.bench := rfl
@[simp] theorem emit_shaft (s : State) (o : Output) : (s.emit o).shaft = s.shaft := rfl
@[simp] theorem emit_host (s : State) (o : Output) : (s.emit o).host = s.host := rfl
@[simp] theorem emit_haul (s : State) (o : Output) : (s.emit o).haul = s.haul := rfl
@[simp] theorem emit_coding (s : State) (o : Output) : (s.emit o).coding = s.coding := rfl
@[simp] theorem emit_regul (s : State) (o : Output) : (s.emit o).regul = s.regul := rfl
@[simp] theorem emit_power (s : State) (o : Output) : (s.emit o).power = s.power := rfl
@[simp] theorem emit_thermal (s : State) (o : Output) : (s.emit o).thermal = s.thermal := rfl
@[simp] theorem emit_fault (s : State) (o : Output) : (s.emit o).fault = s.fault := rfl
@[simp] theorem emit_test (s : State) (o : Output) : (s.emit o).test = s.test := rfl
@[simp] theorem emit_fuse (s : State) (o : Output) : (s.emit o).fuse = s.fuse := rfl
@[simp] theorem emit_mgmt (s : State) (o : Output) : (s.emit o).mgmt = s.mgmt := rfl
@[simp] theorem emit_dict (s : State) (o : Output) : (s.emit o).dict = s.dict := rfl
@[simp] theorem emit_wake (s : State) (o : Output) : (s.emit o).wake = s.wake := rfl
@[simp] theorem emit_rack (s : State) (o : Output) : (s.emit o).rack = s.rack := rfl
@[simp] theorem emit_pins (s : State) (o : Output) : (s.emit o).pins = s.pins := rfl
@[simp] theorem emit_fresh (s : State) (o : Output) : (s.emit o).fresh = s.fresh := rfl
@[simp] theorem emit_pending (s : State) (o : Output) : (s.emit o).pending = s.pending := rfl

/-! ### A bench updated -/

@[simp] theorem modBench_regs (s : State) (b : Nat) (f : BenchSt → BenchSt) : (s.modBench b f).regs = s.regs := rfl
@[simp] theorem modBench_lregs (s : State) (b : Nat) (f : BenchSt → BenchSt) : (s.modBench b f).lregs = s.lregs := rfl
@[simp] theorem modBench_bregs (s : State) (b : Nat) (f : BenchSt → BenchSt) : (s.modBench b f).bregs = s.bregs := rfl
@[simp] theorem modBench_time (s : State) (b : Nat) (f : BenchSt → BenchSt) : (s.modBench b f).time = s.time := rfl
@[simp] theorem modBench_dram (s : State) (b : Nat) (f : BenchSt → BenchSt) : (s.modBench b f).dram = s.dram := rfl
@[simp] theorem modBench_segs (s : State) (b : Nat) (f : BenchSt → BenchSt) : (s.modBench b f).segs = s.segs := rfl
@[simp] theorem modBench_cache (s : State) (b : Nat) (f : BenchSt → BenchSt) : (s.modBench b f).cache = s.cache := rfl
@[simp] theorem modBench_ras (s : State) (b : Nat) (f : BenchSt → BenchSt) : (s.modBench b f).ras = s.ras := rfl
@[simp] theorem modBench_shaft (s : State) (b : Nat) (f : BenchSt → BenchSt) : (s.modBench b f).shaft = s.shaft := rfl
@[simp] theorem modBench_host (s : State) (b : Nat) (f : BenchSt → BenchSt) : (s.modBench b f).host = s.host := rfl
@[simp] theorem modBench_haul (s : State) (b : Nat) (f : BenchSt → BenchSt) : (s.modBench b f).haul = s.haul := rfl
@[simp] theorem modBench_coding (s : State) (b : Nat) (f : BenchSt → BenchSt) : (s.modBench b f).coding = s.coding := rfl
@[simp] theorem modBench_regul (s : State) (b : Nat) (f : BenchSt → BenchSt) : (s.modBench b f).regul = s.regul := rfl
@[simp] theorem modBench_power (s : State) (b : Nat) (f : BenchSt → BenchSt) : (s.modBench b f).power = s.power := rfl
@[simp] theorem modBench_thermal (s : State) (b : Nat) (f : BenchSt → BenchSt) : (s.modBench b f).thermal = s.thermal := rfl
@[simp] theorem modBench_fault (s : State) (b : Nat) (f : BenchSt → BenchSt) : (s.modBench b f).fault = s.fault := rfl
@[simp] theorem modBench_test (s : State) (b : Nat) (f : BenchSt → BenchSt) : (s.modBench b f).test = s.test := rfl
@[simp] theorem modBench_fuse (s : State) (b : Nat) (f : BenchSt → BenchSt) : (s.modBench b f).fuse = s.fuse := rfl
@[simp] theorem modBench_mgmt (s : State) (b : Nat) (f : BenchSt → BenchSt) : (s.modBench b f).mgmt = s.mgmt := rfl
@[simp] theorem modBench_dict (s : State) (b : Nat) (f : BenchSt → BenchSt) : (s.modBench b f).dict = s.dict := rfl
@[simp] theorem modBench_wake (s : State) (b : Nat) (f : BenchSt → BenchSt) : (s.modBench b f).wake = s.wake := rfl
@[simp] theorem modBench_rack (s : State) (b : Nat) (f : BenchSt → BenchSt) : (s.modBench b f).rack = s.rack := rfl
@[simp] theorem modBench_pins (s : State) (b : Nat) (f : BenchSt → BenchSt) : (s.modBench b f).pins = s.pins := rfl
@[simp] theorem modBench_fresh (s : State) (b : Nat) (f : BenchSt → BenchSt) : (s.modBench b f).fresh = s.fresh := rfl
@[simp] theorem modBench_sent (s : State) (b : Nat) (f : BenchSt → BenchSt) : (s.modBench b f).sent = s.sent := rfl
@[simp] theorem modBench_pending (s : State) (b : Nat) (f : BenchSt → BenchSt) : (s.modBench b f).pending = s.pending := rfl

/-! ### A link updated -/

@[simp] theorem modShaft_regs (s : State) (b : Nat) (f : ShaftSt → ShaftSt) : (s.modShaft b f).regs = s.regs := rfl
@[simp] theorem modShaft_lregs (s : State) (b : Nat) (f : ShaftSt → ShaftSt) : (s.modShaft b f).lregs = s.lregs := rfl
@[simp] theorem modShaft_bregs (s : State) (b : Nat) (f : ShaftSt → ShaftSt) : (s.modShaft b f).bregs = s.bregs := rfl
@[simp] theorem modShaft_time (s : State) (b : Nat) (f : ShaftSt → ShaftSt) : (s.modShaft b f).time = s.time := rfl
@[simp] theorem modShaft_dram (s : State) (b : Nat) (f : ShaftSt → ShaftSt) : (s.modShaft b f).dram = s.dram := rfl
@[simp] theorem modShaft_segs (s : State) (b : Nat) (f : ShaftSt → ShaftSt) : (s.modShaft b f).segs = s.segs := rfl
@[simp] theorem modShaft_cache (s : State) (b : Nat) (f : ShaftSt → ShaftSt) : (s.modShaft b f).cache = s.cache := rfl
@[simp] theorem modShaft_ras (s : State) (b : Nat) (f : ShaftSt → ShaftSt) : (s.modShaft b f).ras = s.ras := rfl
@[simp] theorem modShaft_bench (s : State) (b : Nat) (f : ShaftSt → ShaftSt) : (s.modShaft b f).bench = s.bench := rfl
@[simp] theorem modShaft_host (s : State) (b : Nat) (f : ShaftSt → ShaftSt) : (s.modShaft b f).host = s.host := rfl
@[simp] theorem modShaft_haul (s : State) (b : Nat) (f : ShaftSt → ShaftSt) : (s.modShaft b f).haul = s.haul := rfl
@[simp] theorem modShaft_coding (s : State) (b : Nat) (f : ShaftSt → ShaftSt) : (s.modShaft b f).coding = s.coding := rfl
@[simp] theorem modShaft_regul (s : State) (b : Nat) (f : ShaftSt → ShaftSt) : (s.modShaft b f).regul = s.regul := rfl
@[simp] theorem modShaft_power (s : State) (b : Nat) (f : ShaftSt → ShaftSt) : (s.modShaft b f).power = s.power := rfl
@[simp] theorem modShaft_thermal (s : State) (b : Nat) (f : ShaftSt → ShaftSt) : (s.modShaft b f).thermal = s.thermal := rfl
@[simp] theorem modShaft_fault (s : State) (b : Nat) (f : ShaftSt → ShaftSt) : (s.modShaft b f).fault = s.fault := rfl
@[simp] theorem modShaft_test (s : State) (b : Nat) (f : ShaftSt → ShaftSt) : (s.modShaft b f).test = s.test := rfl
@[simp] theorem modShaft_fuse (s : State) (b : Nat) (f : ShaftSt → ShaftSt) : (s.modShaft b f).fuse = s.fuse := rfl
@[simp] theorem modShaft_mgmt (s : State) (b : Nat) (f : ShaftSt → ShaftSt) : (s.modShaft b f).mgmt = s.mgmt := rfl
@[simp] theorem modShaft_dict (s : State) (b : Nat) (f : ShaftSt → ShaftSt) : (s.modShaft b f).dict = s.dict := rfl
@[simp] theorem modShaft_wake (s : State) (b : Nat) (f : ShaftSt → ShaftSt) : (s.modShaft b f).wake = s.wake := rfl
@[simp] theorem modShaft_rack (s : State) (b : Nat) (f : ShaftSt → ShaftSt) : (s.modShaft b f).rack = s.rack := rfl
@[simp] theorem modShaft_pins (s : State) (b : Nat) (f : ShaftSt → ShaftSt) : (s.modShaft b f).pins = s.pins := rfl
@[simp] theorem modShaft_fresh (s : State) (b : Nat) (f : ShaftSt → ShaftSt) : (s.modShaft b f).fresh = s.fresh := rfl
@[simp] theorem modShaft_sent (s : State) (b : Nat) (f : ShaftSt → ShaftSt) : (s.modShaft b f).sent = s.sent := rfl
@[simp] theorem modShaft_pending (s : State) (b : Nat) (f : ShaftSt → ShaftSt) : (s.modShaft b f).pending = s.pending := rfl

/-! ### A packet on the host link -/

@[simp] theorem tlp_regs (s : State) (o : Output) : (s.tlp o).regs = s.regs := by unfold State.tlp; split_ifs <;> rfl
@[simp] theorem tlp_lregs (s : State) (o : Output) : (s.tlp o).lregs = s.lregs := by unfold State.tlp; split_ifs <;> rfl
@[simp] theorem tlp_bregs (s : State) (o : Output) : (s.tlp o).bregs = s.bregs := by unfold State.tlp; split_ifs <;> rfl
@[simp] theorem tlp_time (s : State) (o : Output) : (s.tlp o).time = s.time := by unfold State.tlp; split_ifs <;> rfl
@[simp] theorem tlp_dram (s : State) (o : Output) : (s.tlp o).dram = s.dram := by unfold State.tlp; split_ifs <;> rfl
@[simp] theorem tlp_segs (s : State) (o : Output) : (s.tlp o).segs = s.segs := by unfold State.tlp; split_ifs <;> rfl
@[simp] theorem tlp_cache (s : State) (o : Output) : (s.tlp o).cache = s.cache := by unfold State.tlp; split_ifs <;> rfl
@[simp] theorem tlp_ras (s : State) (o : Output) : (s.tlp o).ras = s.ras := by unfold State.tlp; split_ifs <;> rfl
@[simp] theorem tlp_bench (s : State) (o : Output) : (s.tlp o).bench = s.bench := by unfold State.tlp; split_ifs <;> rfl
@[simp] theorem tlp_shaft (s : State) (o : Output) : (s.tlp o).shaft = s.shaft := by unfold State.tlp; split_ifs <;> rfl
@[simp] theorem tlp_host (s : State) (o : Output) : (s.tlp o).host = s.host := by unfold State.tlp; split_ifs <;> rfl
@[simp] theorem tlp_haul (s : State) (o : Output) : (s.tlp o).haul = s.haul := by unfold State.tlp; split_ifs <;> rfl
@[simp] theorem tlp_coding (s : State) (o : Output) : (s.tlp o).coding = s.coding := by unfold State.tlp; split_ifs <;> rfl
@[simp] theorem tlp_regul (s : State) (o : Output) : (s.tlp o).regul = s.regul := by unfold State.tlp; split_ifs <;> rfl
@[simp] theorem tlp_power (s : State) (o : Output) : (s.tlp o).power = s.power := by unfold State.tlp; split_ifs <;> rfl
@[simp] theorem tlp_thermal (s : State) (o : Output) : (s.tlp o).thermal = s.thermal := by unfold State.tlp; split_ifs <;> rfl
@[simp] theorem tlp_fault (s : State) (o : Output) : (s.tlp o).fault = s.fault := by unfold State.tlp; split_ifs <;> rfl
@[simp] theorem tlp_test (s : State) (o : Output) : (s.tlp o).test = s.test := by unfold State.tlp; split_ifs <;> rfl
@[simp] theorem tlp_fuse (s : State) (o : Output) : (s.tlp o).fuse = s.fuse := by unfold State.tlp; split_ifs <;> rfl
@[simp] theorem tlp_mgmt (s : State) (o : Output) : (s.tlp o).mgmt = s.mgmt := by unfold State.tlp; split_ifs <;> rfl
@[simp] theorem tlp_dict (s : State) (o : Output) : (s.tlp o).dict = s.dict := by unfold State.tlp; split_ifs <;> rfl
@[simp] theorem tlp_wake (s : State) (o : Output) : (s.tlp o).wake = s.wake := by unfold State.tlp; split_ifs <;> rfl
@[simp] theorem tlp_rack (s : State) (o : Output) : (s.tlp o).rack = s.rack := by unfold State.tlp; split_ifs <;> rfl
@[simp] theorem tlp_pins (s : State) (o : Output) : (s.tlp o).pins = s.pins := by unfold State.tlp; split_ifs <;> rfl
@[simp] theorem tlp_fresh (s : State) (o : Output) : (s.tlp o).fresh = s.fresh := by unfold State.tlp; split_ifs <;> rfl
@[simp] theorem tlp_pending (s : State) (o : Output) : (s.tlp o).pending = s.pending := by unfold State.tlp; split_ifs <;> rfl

/-! ### A configuration word written -/

@[simp] theorem cfgPut_regs (s : State) (off v : Nat) : (s.cfgPut off v).regs = s.regs := rfl
@[simp] theorem cfgPut_lregs (s : State) (off v : Nat) : (s.cfgPut off v).lregs = s.lregs := rfl
@[simp] theorem cfgPut_bregs (s : State) (off v : Nat) : (s.cfgPut off v).bregs = s.bregs := rfl
@[simp] theorem cfgPut_time (s : State) (off v : Nat) : (s.cfgPut off v).time = s.time := rfl
@[simp] theorem cfgPut_dram (s : State) (off v : Nat) : (s.cfgPut off v).dram = s.dram := rfl
@[simp] theorem cfgPut_segs (s : State) (off v : Nat) : (s.cfgPut off v).segs = s.segs := rfl
@[simp] theorem cfgPut_cache (s : State) (off v : Nat) : (s.cfgPut off v).cache = s.cache := rfl
@[simp] theorem cfgPut_ras (s : State) (off v : Nat) : (s.cfgPut off v).ras = s.ras := rfl
@[simp] theorem cfgPut_bench (s : State) (off v : Nat) : (s.cfgPut off v).bench = s.bench := rfl
@[simp] theorem cfgPut_shaft (s : State) (off v : Nat) : (s.cfgPut off v).shaft = s.shaft := rfl
@[simp] theorem cfgPut_haul (s : State) (off v : Nat) : (s.cfgPut off v).haul = s.haul := rfl
@[simp] theorem cfgPut_coding (s : State) (off v : Nat) : (s.cfgPut off v).coding = s.coding := rfl
@[simp] theorem cfgPut_regul (s : State) (off v : Nat) : (s.cfgPut off v).regul = s.regul := rfl
@[simp] theorem cfgPut_power (s : State) (off v : Nat) : (s.cfgPut off v).power = s.power := rfl
@[simp] theorem cfgPut_thermal (s : State) (off v : Nat) : (s.cfgPut off v).thermal = s.thermal := rfl
@[simp] theorem cfgPut_fault (s : State) (off v : Nat) : (s.cfgPut off v).fault = s.fault := rfl
@[simp] theorem cfgPut_test (s : State) (off v : Nat) : (s.cfgPut off v).test = s.test := rfl
@[simp] theorem cfgPut_fuse (s : State) (off v : Nat) : (s.cfgPut off v).fuse = s.fuse := rfl
@[simp] theorem cfgPut_mgmt (s : State) (off v : Nat) : (s.cfgPut off v).mgmt = s.mgmt := rfl
@[simp] theorem cfgPut_dict (s : State) (off v : Nat) : (s.cfgPut off v).dict = s.dict := rfl
@[simp] theorem cfgPut_wake (s : State) (off v : Nat) : (s.cfgPut off v).wake = s.wake := rfl
@[simp] theorem cfgPut_rack (s : State) (off v : Nat) : (s.cfgPut off v).rack = s.rack := rfl
@[simp] theorem cfgPut_pins (s : State) (off v : Nat) : (s.cfgPut off v).pins = s.pins := rfl
@[simp] theorem cfgPut_fresh (s : State) (off v : Nat) : (s.cfgPut off v).fresh = s.fresh := rfl
@[simp] theorem cfgPut_sent (s : State) (off v : Nat) : (s.cfgPut off v).sent = s.sent := rfl
@[simp] theorem cfgPut_pending (s : State) (off v : Nat) : (s.cfgPut off v).pending = s.pending := rfl

/-! ### A packet placed at PCIe egress -/

@[simp] theorem toEgress_regs (s : State) (l : Option Nat) (o : Output) : (s.toEgress l o).regs = s.regs := rfl
@[simp] theorem toEgress_lregs (s : State) (l : Option Nat) (o : Output) : (s.toEgress l o).lregs = s.lregs := rfl
@[simp] theorem toEgress_bregs (s : State) (l : Option Nat) (o : Output) : (s.toEgress l o).bregs = s.bregs := rfl
@[simp] theorem toEgress_time (s : State) (l : Option Nat) (o : Output) : (s.toEgress l o).time = s.time := rfl
@[simp] theorem toEgress_dram (s : State) (l : Option Nat) (o : Output) : (s.toEgress l o).dram = s.dram := rfl
@[simp] theorem toEgress_segs (s : State) (l : Option Nat) (o : Output) : (s.toEgress l o).segs = s.segs := rfl
@[simp] theorem toEgress_ras (s : State) (l : Option Nat) (o : Output) : (s.toEgress l o).ras = s.ras := rfl
@[simp] theorem toEgress_bench (s : State) (l : Option Nat) (o : Output) : (s.toEgress l o).bench = s.bench := rfl
@[simp] theorem toEgress_shaft (s : State) (l : Option Nat) (o : Output) : (s.toEgress l o).shaft = s.shaft := rfl
@[simp] theorem toEgress_haul (s : State) (l : Option Nat) (o : Output) : (s.toEgress l o).haul = s.haul := rfl
@[simp] theorem toEgress_coding (s : State) (l : Option Nat) (o : Output) : (s.toEgress l o).coding = s.coding := rfl
@[simp] theorem toEgress_regul (s : State) (l : Option Nat) (o : Output) : (s.toEgress l o).regul = s.regul := rfl
@[simp] theorem toEgress_power (s : State) (l : Option Nat) (o : Output) : (s.toEgress l o).power = s.power := rfl
@[simp] theorem toEgress_thermal (s : State) (l : Option Nat) (o : Output) : (s.toEgress l o).thermal = s.thermal := rfl
@[simp] theorem toEgress_fault (s : State) (l : Option Nat) (o : Output) : (s.toEgress l o).fault = s.fault := rfl
@[simp] theorem toEgress_test (s : State) (l : Option Nat) (o : Output) : (s.toEgress l o).test = s.test := rfl
@[simp] theorem toEgress_fuse (s : State) (l : Option Nat) (o : Output) : (s.toEgress l o).fuse = s.fuse := rfl
@[simp] theorem toEgress_mgmt (s : State) (l : Option Nat) (o : Output) : (s.toEgress l o).mgmt = s.mgmt := rfl
@[simp] theorem toEgress_dict (s : State) (l : Option Nat) (o : Output) : (s.toEgress l o).dict = s.dict := rfl
@[simp] theorem toEgress_wake (s : State) (l : Option Nat) (o : Output) : (s.toEgress l o).wake = s.wake := rfl
@[simp] theorem toEgress_rack (s : State) (l : Option Nat) (o : Output) : (s.toEgress l o).rack = s.rack := rfl
@[simp] theorem toEgress_pins (s : State) (l : Option Nat) (o : Output) : (s.toEgress l o).pins = s.pins := rfl
@[simp] theorem toEgress_fresh (s : State) (l : Option Nat) (o : Output) : (s.toEgress l o).fresh = s.fresh := rfl
@[simp] theorem toEgress_sent (s : State) (l : Option Nat) (o : Output) : (s.toEgress l o).sent = s.sent := rfl
@[simp] theorem toEgress_pending (s : State) (l : Option Nat) (o : Output) : (s.toEgress l o).pending = s.pending := rfl

/-! ### The idle time ended -/

@[simp] theorem notIdle_regs (s : State) : (s.notIdle).regs = s.regs := rfl
@[simp] theorem notIdle_lregs (s : State) : (s.notIdle).lregs = s.lregs := rfl
@[simp] theorem notIdle_bregs (s : State) : (s.notIdle).bregs = s.bregs := rfl
@[simp] theorem notIdle_time (s : State) : (s.notIdle).time = s.time := rfl
@[simp] theorem notIdle_dram (s : State) : (s.notIdle).dram = s.dram := rfl
@[simp] theorem notIdle_segs (s : State) : (s.notIdle).segs = s.segs := rfl
@[simp] theorem notIdle_cache (s : State) : (s.notIdle).cache = s.cache := rfl
@[simp] theorem notIdle_ras (s : State) : (s.notIdle).ras = s.ras := rfl
@[simp] theorem notIdle_bench (s : State) : (s.notIdle).bench = s.bench := rfl
@[simp] theorem notIdle_shaft (s : State) : (s.notIdle).shaft = s.shaft := rfl
@[simp] theorem notIdle_host (s : State) : (s.notIdle).host = s.host := rfl
@[simp] theorem notIdle_haul (s : State) : (s.notIdle).haul = s.haul := rfl
@[simp] theorem notIdle_coding (s : State) : (s.notIdle).coding = s.coding := rfl
@[simp] theorem notIdle_regul (s : State) : (s.notIdle).regul = s.regul := rfl
@[simp] theorem notIdle_thermal (s : State) : (s.notIdle).thermal = s.thermal := rfl
@[simp] theorem notIdle_fault (s : State) : (s.notIdle).fault = s.fault := rfl
@[simp] theorem notIdle_test (s : State) : (s.notIdle).test = s.test := rfl
@[simp] theorem notIdle_fuse (s : State) : (s.notIdle).fuse = s.fuse := rfl
@[simp] theorem notIdle_mgmt (s : State) : (s.notIdle).mgmt = s.mgmt := rfl
@[simp] theorem notIdle_dict (s : State) : (s.notIdle).dict = s.dict := rfl
@[simp] theorem notIdle_wake (s : State) : (s.notIdle).wake = s.wake := rfl
@[simp] theorem notIdle_rack (s : State) : (s.notIdle).rack = s.rack := rfl
@[simp] theorem notIdle_pins (s : State) : (s.notIdle).pins = s.pins := rfl
@[simp] theorem notIdle_fresh (s : State) : (s.notIdle).fresh = s.fresh := rfl
@[simp] theorem notIdle_sent (s : State) : (s.notIdle).sent = s.sent := rfl
@[simp] theorem notIdle_pending (s : State) : (s.notIdle).pending = s.pending := rfl

/-! ### A message sent -/

@[simp] theorem msix_regs (s : State) (v : Nat) : (s.msix v).regs = s.regs := by unfold State.msix; split_ifs <;> first | rfl | simp
@[simp] theorem msix_lregs (s : State) (v : Nat) : (s.msix v).lregs = s.lregs := by unfold State.msix; split_ifs <;> first | rfl | simp
@[simp] theorem msix_bregs (s : State) (v : Nat) : (s.msix v).bregs = s.bregs := by unfold State.msix; split_ifs <;> first | rfl | simp
@[simp] theorem msix_time (s : State) (v : Nat) : (s.msix v).time = s.time := by unfold State.msix; split_ifs <;> first | rfl | simp
@[simp] theorem msix_dram (s : State) (v : Nat) : (s.msix v).dram = s.dram := by unfold State.msix; split_ifs <;> first | rfl | simp
@[simp] theorem msix_segs (s : State) (v : Nat) : (s.msix v).segs = s.segs := by unfold State.msix; split_ifs <;> first | rfl | simp
@[simp] theorem msix_cache (s : State) (v : Nat) : (s.msix v).cache = s.cache := by unfold State.msix; split_ifs <;> first | rfl | simp
@[simp] theorem msix_ras (s : State) (v : Nat) : (s.msix v).ras = s.ras := by unfold State.msix; split_ifs <;> first | rfl | simp
@[simp] theorem msix_bench (s : State) (v : Nat) : (s.msix v).bench = s.bench := by unfold State.msix; split_ifs <;> first | rfl | simp
@[simp] theorem msix_shaft (s : State) (v : Nat) : (s.msix v).shaft = s.shaft := by unfold State.msix; split_ifs <;> first | rfl | simp
@[simp] theorem msix_haul (s : State) (v : Nat) : (s.msix v).haul = s.haul := by unfold State.msix; split_ifs <;> first | rfl | simp
@[simp] theorem msix_coding (s : State) (v : Nat) : (s.msix v).coding = s.coding := by unfold State.msix; split_ifs <;> first | rfl | simp
@[simp] theorem msix_regul (s : State) (v : Nat) : (s.msix v).regul = s.regul := by unfold State.msix; split_ifs <;> first | rfl | simp
@[simp] theorem msix_power (s : State) (v : Nat) : (s.msix v).power = s.power := by unfold State.msix; split_ifs <;> first | rfl | simp
@[simp] theorem msix_thermal (s : State) (v : Nat) : (s.msix v).thermal = s.thermal := by unfold State.msix; split_ifs <;> first | rfl | simp
@[simp] theorem msix_fault (s : State) (v : Nat) : (s.msix v).fault = s.fault := by unfold State.msix; split_ifs <;> first | rfl | simp
@[simp] theorem msix_test (s : State) (v : Nat) : (s.msix v).test = s.test := by unfold State.msix; split_ifs <;> first | rfl | simp
@[simp] theorem msix_fuse (s : State) (v : Nat) : (s.msix v).fuse = s.fuse := by unfold State.msix; split_ifs <;> first | rfl | simp
@[simp] theorem msix_mgmt (s : State) (v : Nat) : (s.msix v).mgmt = s.mgmt := by unfold State.msix; split_ifs <;> first | rfl | simp
@[simp] theorem msix_dict (s : State) (v : Nat) : (s.msix v).dict = s.dict := by unfold State.msix; split_ifs <;> first | rfl | simp
@[simp] theorem msix_wake (s : State) (v : Nat) : (s.msix v).wake = s.wake := by unfold State.msix; split_ifs <;> first | rfl | simp
@[simp] theorem msix_rack (s : State) (v : Nat) : (s.msix v).rack = s.rack := by unfold State.msix; split_ifs <;> first | rfl | simp
@[simp] theorem msix_pins (s : State) (v : Nat) : (s.msix v).pins = s.pins := by unfold State.msix; split_ifs <;> first | rfl | simp
@[simp] theorem msix_fresh (s : State) (v : Nat) : (s.msix v).fresh = s.fresh := by unfold State.msix; split_ifs <;> first | rfl | simp
@[simp] theorem msix_pending (s : State) (v : Nat) : (s.msix v).pending = s.pending := by unfold State.msix; split_ifs <;> first | rfl | simp

/-! ### An event raised -/

@[simp] theorem raise_time (s : State) (e : Ev) (i : List Nat) : (s.raise e i).time = s.time := by
  unfold State.raise; split_ifs <;> simp
@[simp] theorem raise_dram (s : State) (e : Ev) (i : List Nat) : (s.raise e i).dram = s.dram := by
  unfold State.raise; split_ifs <;> simp
@[simp] theorem raise_segs (s : State) (e : Ev) (i : List Nat) : (s.raise e i).segs = s.segs := by
  unfold State.raise; split_ifs <;> simp
@[simp] theorem raise_cache (s : State) (e : Ev) (i : List Nat) : (s.raise e i).cache = s.cache := by
  unfold State.raise; split_ifs <;> simp
@[simp] theorem raise_ras (s : State) (e : Ev) (i : List Nat) : (s.raise e i).ras = s.ras := by
  unfold State.raise; split_ifs <;> simp
@[simp] theorem raise_bench (s : State) (e : Ev) (i : List Nat) : (s.raise e i).bench = s.bench := by
  unfold State.raise; split_ifs <;> simp
@[simp] theorem raise_shaft (s : State) (e : Ev) (i : List Nat) : (s.raise e i).shaft = s.shaft := by
  unfold State.raise; split_ifs <;> simp
@[simp] theorem raise_haul (s : State) (e : Ev) (i : List Nat) : (s.raise e i).haul = s.haul := by
  unfold State.raise; split_ifs <;> simp
@[simp] theorem raise_coding (s : State) (e : Ev) (i : List Nat) : (s.raise e i).coding = s.coding := by
  unfold State.raise; split_ifs <;> simp
@[simp] theorem raise_regul (s : State) (e : Ev) (i : List Nat) : (s.raise e i).regul = s.regul := by
  unfold State.raise; split_ifs <;> simp
@[simp] theorem raise_power (s : State) (e : Ev) (i : List Nat) : (s.raise e i).power = s.power := by
  unfold State.raise; split_ifs <;> simp
@[simp] theorem raise_thermal (s : State) (e : Ev) (i : List Nat) : (s.raise e i).thermal = s.thermal := by
  unfold State.raise; split_ifs <;> simp
@[simp] theorem raise_fault (s : State) (e : Ev) (i : List Nat) : (s.raise e i).fault = s.fault := by
  unfold State.raise; split_ifs <;> simp
@[simp] theorem raise_test (s : State) (e : Ev) (i : List Nat) : (s.raise e i).test = s.test := by
  unfold State.raise; split_ifs <;> simp
@[simp] theorem raise_fuse (s : State) (e : Ev) (i : List Nat) : (s.raise e i).fuse = s.fuse := by
  unfold State.raise; split_ifs <;> simp
@[simp] theorem raise_mgmt (s : State) (e : Ev) (i : List Nat) : (s.raise e i).mgmt = s.mgmt := by
  unfold State.raise; split_ifs <;> simp
@[simp] theorem raise_dict (s : State) (e : Ev) (i : List Nat) : (s.raise e i).dict = s.dict := by
  unfold State.raise; split_ifs <;> simp
@[simp] theorem raise_wake (s : State) (e : Ev) (i : List Nat) : (s.raise e i).wake = s.wake := by
  unfold State.raise; split_ifs <;> simp
@[simp] theorem raise_rack (s : State) (e : Ev) (i : List Nat) : (s.raise e i).rack = s.rack := by
  unfold State.raise; split_ifs <;> simp
@[simp] theorem raise_pins (s : State) (e : Ev) (i : List Nat) : (s.raise e i).pins = s.pins := by
  unfold State.raise; split_ifs <;> simp
@[simp] theorem raise_fresh (s : State) (e : Ev) (i : List Nat) : (s.raise e i).fresh = s.fresh := by
  unfold State.raise; split_ifs <;> simp
@[simp] theorem raise_pending (s : State) (e : Ev) (i : List Nat) : (s.raise e i).pending = s.pending := by
  unfold State.raise; split_ifs <;> simp

/-! ### A violation logged -/

@[simp] theorem violog_time (s : State) (v : Viol) (bar addr : Nat) (w : Bool) (src : RegSrc) : (s.violog v bar addr w src).time = s.time := by
  unfold State.violog; cases src <;> simp <;> split_ifs <;> simp
@[simp] theorem violog_dram (s : State) (v : Viol) (bar addr : Nat) (w : Bool) (src : RegSrc) : (s.violog v bar addr w src).dram = s.dram := by
  unfold State.violog; cases src <;> simp <;> split_ifs <;> simp
@[simp] theorem violog_segs (s : State) (v : Viol) (bar addr : Nat) (w : Bool) (src : RegSrc) : (s.violog v bar addr w src).segs = s.segs := by
  unfold State.violog; cases src <;> simp <;> split_ifs <;> simp
@[simp] theorem violog_cache (s : State) (v : Viol) (bar addr : Nat) (w : Bool) (src : RegSrc) : (s.violog v bar addr w src).cache = s.cache := by
  unfold State.violog; cases src <;> simp <;> split_ifs <;> simp
@[simp] theorem violog_ras (s : State) (v : Viol) (bar addr : Nat) (w : Bool) (src : RegSrc) : (s.violog v bar addr w src).ras = s.ras := by
  unfold State.violog; cases src <;> simp <;> split_ifs <;> simp
@[simp] theorem violog_bench (s : State) (v : Viol) (bar addr : Nat) (w : Bool) (src : RegSrc) : (s.violog v bar addr w src).bench = s.bench := by
  unfold State.violog; cases src <;> simp <;> split_ifs <;> simp
@[simp] theorem violog_shaft (s : State) (v : Viol) (bar addr : Nat) (w : Bool) (src : RegSrc) : (s.violog v bar addr w src).shaft = s.shaft := by
  unfold State.violog; cases src <;> simp <;> split_ifs <;> simp
@[simp] theorem violog_haul (s : State) (v : Viol) (bar addr : Nat) (w : Bool) (src : RegSrc) : (s.violog v bar addr w src).haul = s.haul := by
  unfold State.violog; cases src <;> simp <;> split_ifs <;> simp
@[simp] theorem violog_coding (s : State) (v : Viol) (bar addr : Nat) (w : Bool) (src : RegSrc) : (s.violog v bar addr w src).coding = s.coding := by
  unfold State.violog; cases src <;> simp <;> split_ifs <;> simp
@[simp] theorem violog_regul (s : State) (v : Viol) (bar addr : Nat) (w : Bool) (src : RegSrc) : (s.violog v bar addr w src).regul = s.regul := by
  unfold State.violog; cases src <;> simp <;> split_ifs <;> simp
@[simp] theorem violog_power (s : State) (v : Viol) (bar addr : Nat) (w : Bool) (src : RegSrc) : (s.violog v bar addr w src).power = s.power := by
  unfold State.violog; cases src <;> simp <;> split_ifs <;> simp
@[simp] theorem violog_thermal (s : State) (v : Viol) (bar addr : Nat) (w : Bool) (src : RegSrc) : (s.violog v bar addr w src).thermal = s.thermal := by
  unfold State.violog; cases src <;> simp <;> split_ifs <;> simp
@[simp] theorem violog_fault (s : State) (v : Viol) (bar addr : Nat) (w : Bool) (src : RegSrc) : (s.violog v bar addr w src).fault = s.fault := by
  unfold State.violog; cases src <;> simp <;> split_ifs <;> simp
@[simp] theorem violog_test (s : State) (v : Viol) (bar addr : Nat) (w : Bool) (src : RegSrc) : (s.violog v bar addr w src).test = s.test := by
  unfold State.violog; cases src <;> simp <;> split_ifs <;> simp
@[simp] theorem violog_fuse (s : State) (v : Viol) (bar addr : Nat) (w : Bool) (src : RegSrc) : (s.violog v bar addr w src).fuse = s.fuse := by
  unfold State.violog; cases src <;> simp <;> split_ifs <;> simp
@[simp] theorem violog_mgmt (s : State) (v : Viol) (bar addr : Nat) (w : Bool) (src : RegSrc) : (s.violog v bar addr w src).mgmt = s.mgmt := by
  unfold State.violog; cases src <;> simp <;> split_ifs <;> simp
@[simp] theorem violog_dict (s : State) (v : Viol) (bar addr : Nat) (w : Bool) (src : RegSrc) : (s.violog v bar addr w src).dict = s.dict := by
  unfold State.violog; cases src <;> simp <;> split_ifs <;> simp
@[simp] theorem violog_wake (s : State) (v : Viol) (bar addr : Nat) (w : Bool) (src : RegSrc) : (s.violog v bar addr w src).wake = s.wake := by
  unfold State.violog; cases src <;> simp <;> split_ifs <;> simp
@[simp] theorem violog_rack (s : State) (v : Viol) (bar addr : Nat) (w : Bool) (src : RegSrc) : (s.violog v bar addr w src).rack = s.rack := by
  unfold State.violog; cases src <;> simp <;> split_ifs <;> simp
@[simp] theorem violog_pins (s : State) (v : Viol) (bar addr : Nat) (w : Bool) (src : RegSrc) : (s.violog v bar addr w src).pins = s.pins := by
  unfold State.violog; cases src <;> simp <;> split_ifs <;> simp
@[simp] theorem violog_fresh (s : State) (v : Viol) (bar addr : Nat) (w : Bool) (src : RegSrc) : (s.violog v bar addr w src).fresh = s.fresh := by
  unfold State.violog; cases src <;> simp <;> split_ifs <;> simp
@[simp] theorem violog_pending (s : State) (v : Viol) (bar addr : Nat) (w : Bool) (src : RegSrc) : (s.violog v bar addr w src).pending = s.pending := by
  unfold State.violog; cases src <;> simp <;> split_ifs <;> simp

/-! ### An event-log entry -/

@[simp] theorem log_time (s : State) (source unit code : Nat) (data : List Byte) : (s.log source unit code data).time = s.time := by
  unfold State.log
  split_ifs
  · rfl
  · dsimp only
    split
    · simp
    · split_ifs <;> simp
@[simp] theorem log_dram (s : State) (source unit code : Nat) (data : List Byte) : (s.log source unit code data).dram = s.dram := by
  unfold State.log
  split_ifs
  · rfl
  · dsimp only
    split
    · simp
    · split_ifs <;> simp
@[simp] theorem log_segs (s : State) (source unit code : Nat) (data : List Byte) : (s.log source unit code data).segs = s.segs := by
  unfold State.log
  split_ifs
  · rfl
  · dsimp only
    split
    · simp
    · split_ifs <;> simp
@[simp] theorem log_cache (s : State) (source unit code : Nat) (data : List Byte) : (s.log source unit code data).cache = s.cache := by
  unfold State.log
  split_ifs
  · rfl
  · dsimp only
    split
    · simp
    · split_ifs <;> simp
@[simp] theorem log_ras (s : State) (source unit code : Nat) (data : List Byte) : (s.log source unit code data).ras = s.ras := by
  unfold State.log
  split_ifs
  · rfl
  · dsimp only
    split
    · simp
    · split_ifs <;> simp
@[simp] theorem log_bench (s : State) (source unit code : Nat) (data : List Byte) : (s.log source unit code data).bench = s.bench := by
  unfold State.log
  split_ifs
  · rfl
  · dsimp only
    split
    · simp
    · split_ifs <;> simp
@[simp] theorem log_shaft (s : State) (source unit code : Nat) (data : List Byte) : (s.log source unit code data).shaft = s.shaft := by
  unfold State.log
  split_ifs
  · rfl
  · dsimp only
    split
    · simp
    · split_ifs <;> simp
@[simp] theorem log_haul (s : State) (source unit code : Nat) (data : List Byte) : (s.log source unit code data).haul = s.haul := by
  unfold State.log
  split_ifs
  · rfl
  · dsimp only
    split
    · simp
    · split_ifs <;> simp
@[simp] theorem log_coding (s : State) (source unit code : Nat) (data : List Byte) : (s.log source unit code data).coding = s.coding := by
  unfold State.log
  split_ifs
  · rfl
  · dsimp only
    split
    · simp
    · split_ifs <;> simp
@[simp] theorem log_regul (s : State) (source unit code : Nat) (data : List Byte) : (s.log source unit code data).regul = s.regul := by
  unfold State.log
  split_ifs
  · rfl
  · dsimp only
    split
    · simp
    · split_ifs <;> simp
@[simp] theorem log_power (s : State) (source unit code : Nat) (data : List Byte) : (s.log source unit code data).power = s.power := by
  unfold State.log
  split_ifs
  · rfl
  · dsimp only
    split
    · simp
    · split_ifs <;> simp
@[simp] theorem log_thermal (s : State) (source unit code : Nat) (data : List Byte) : (s.log source unit code data).thermal = s.thermal := by
  unfold State.log
  split_ifs
  · rfl
  · dsimp only
    split
    · simp
    · split_ifs <;> simp
@[simp] theorem log_fault (s : State) (source unit code : Nat) (data : List Byte) : (s.log source unit code data).fault = s.fault := by
  unfold State.log
  split_ifs
  · rfl
  · dsimp only
    split
    · simp
    · split_ifs <;> simp
@[simp] theorem log_test (s : State) (source unit code : Nat) (data : List Byte) : (s.log source unit code data).test = s.test := by
  unfold State.log
  split_ifs
  · rfl
  · dsimp only
    split
    · simp
    · split_ifs <;> simp
@[simp] theorem log_fuse (s : State) (source unit code : Nat) (data : List Byte) : (s.log source unit code data).fuse = s.fuse := by
  unfold State.log
  split_ifs
  · rfl
  · dsimp only
    split
    · simp
    · split_ifs <;> simp
@[simp] theorem log_dict (s : State) (source unit code : Nat) (data : List Byte) : (s.log source unit code data).dict = s.dict := by
  unfold State.log
  split_ifs
  · rfl
  · dsimp only
    split
    · simp
    · split_ifs <;> simp
@[simp] theorem log_wake (s : State) (source unit code : Nat) (data : List Byte) : (s.log source unit code data).wake = s.wake := by
  unfold State.log
  split_ifs
  · rfl
  · dsimp only
    split
    · simp
    · split_ifs <;> simp
@[simp] theorem log_rack (s : State) (source unit code : Nat) (data : List Byte) : (s.log source unit code data).rack = s.rack := by
  unfold State.log
  split_ifs
  · rfl
  · dsimp only
    split
    · simp
    · split_ifs <;> simp
@[simp] theorem log_pins (s : State) (source unit code : Nat) (data : List Byte) : (s.log source unit code data).pins = s.pins := by
  unfold State.log
  split_ifs
  · rfl
  · dsimp only
    split
    · simp
    · split_ifs <;> simp
@[simp] theorem log_fresh (s : State) (source unit code : Nat) (data : List Byte) : (s.log source unit code data).fresh = s.fresh := by
  unfold State.log
  split_ifs
  · rfl
  · dsimp only
    split
    · simp
    · split_ifs <;> simp
@[simp] theorem log_pending (s : State) (source unit code : Nat) (data : List Byte) : (s.log source unit code data).pending = s.pending := by
  unfold State.log
  split_ifs
  · rfl
  · dsimp only
    split
    · simp
    · split_ifs <;> simp

/-! ### Reading after an update of another kind -/

@[simp] theorem file_emit (s : State) (o : Output) (h : Held) : (s.emit o).file h = s.file h := by cases h <;> rfl
@[simp] theorem rd_emit (s : State) (o : Output) (f : Fam) (i : List Nat) : (s.emit o).rd f i = s.rd f i := by simp [State.rd]
@[simp] theorem file_draw (s : State) (h : Held) : s.draw.2.file h = s.file h := by cases h <;> rfl
@[simp] theorem rd_draw (s : State) (f : Fam) (i : List Nat) : s.draw.2.rd f i = s.rd f i := by simp [State.rd]
@[simp] theorem file_msix (s : State) (v : Nat) (h : Held) : (s.msix v).file h = s.file h := by
  cases h <;> simp [State.file]
@[simp] theorem rd_msix (s : State) (v : Nat) (f : Fam) (i : List Nat) : (s.msix v).rd f i = s.rd f i := by simp [State.rd]
@[simp] theorem file_modBench (s : State) (b : Nat) (g : BenchSt → BenchSt) (h : Held) : (s.modBench b g).file h = s.file h := by
  cases h <;> rfl
@[simp] theorem rd_modBench (s : State) (b : Nat) (g : BenchSt → BenchSt) (f : Fam) (i : List Nat) :
    (s.modBench b g).rd f i = s.rd f i := by simp [State.rd]
@[simp] theorem file_modShaft (s : State) (b : Nat) (g : ShaftSt → ShaftSt) (h : Held) : (s.modShaft b g).file h = s.file h := by
  cases h <;> rfl
@[simp] theorem rd_modShaft (s : State) (b : Nat) (g : ShaftSt → ShaftSt) (f : Fam) (i : List Nat) :
    (s.modShaft b g).rd f i = s.rd f i := by simp [State.rd]

/-- What raising an event does to the registers: its EVENTS bit may be set, nothing else. -/
theorem rd_raise_ne (s : State) (e : Ev) (i : List Nat) (g : Fam) (j : List Nat)
    (h : ¬ (g.held = e.bit.held ∧ g.key j = e.bit.key i)) : (s.raise e i).rd g j = s.rd g j := by
  unfold State.raise
  split_ifs
  · rfl
  · simp [State.set, rd_wr_ne s e.bit g 1 i j h]
  · simp [State.set, rd_wr_ne s e.bit g 1 i j h]

/-- An event raised in a block that is on shows its bit. -/
theorem rd_raise_same (s : State) (e : Ev) (i : List Nat) (hw : 0 < e.bit.width)
    (hl : s.live (blockDom (e.bit.off + Fam.rel e.bit.dims i / 8)) = true) : (s.raise e i).rd e.bit i = 1 := by
  unfold State.raise
  split_ifs with h1 h2
  · simp only [hl, Bool.not_true, Bool.false_or, State.is, beq_iff_eq] at h1
    exact h1
  · simp [rd_set_same s e.bit i hw]
  · exact rd_set_same s e.bit i hw

end Sys2Proof.Machine
end

