-- ==== Sys2Proof/Laws/React.lean ====
section
/-! SUPPORT. The fault collector with sources that react with NOTE at most: everything that detecting them can do. -/
namespace Sys2Proof.Machine
open Sys2Proof.Safety

/-- `t` is `s` but for base-die and lantern registers, the reactions apart, pending messages, the event-log ring, the three pins
that follow the state and what has left the device. -/
def Quiet (s t : State) : Prop :=
  t = { s with
    regs := t.regs, lregs := t.lregs, host := { s.host with pba := t.host.pba }, mgmt := { s.mgmt with ring := t.mgmt.ring }
    pins := { s.pins with fault := t.pins.fault, alert := t.pins.alert, thermtrip := t.pins.thermtrip }, sent := t.sent } ∧
  ∀ n, n < 128 → t.rd R.FAULT_REACT_REACTION [n] = s.rd R.FAULT_REACT_REACTION [n]

theorem Quiet.refl (s : State) : Quiet s s := ⟨rfl, fun _ _ => rfl⟩

theorem Quiet.trans {s t u : State} (h : Quiet s t) (k : Quiet t u) : Quiet s u := by
  refine ⟨?_, fun n hn => (k.2 n hn).trans (h.2 n hn)⟩
  obtain ⟨h, -⟩ := h
  obtain ⟨k, -⟩ := k
  rw [k]
  conv_lhs => rw [h]

theorem Quiet.foldl {α : Type} (g : State → α → State) (l : List α) (hg : ∀ s, ∀ a ∈ l, Quiet s (g s a)) (s : State) :
    Quiet s (l.foldl g s) := by
  induction l generalizing s with
  | nil => exact Quiet.refl s
  | cons a l ih =>
    exact (hg s a (by simp)).trans (ih (fun s b hb => hg s b (List.mem_cons_of_mem _ hb)) (g s a))

/-- A register outside the bench cores that is no reaction. -/
theorem quiet_wr (s : State) (f : Fam) (v : Nat) (i : List Nat) (hb : f.held ≠ .bench)
    (hk : f.held = .lantern → ∀ n, n < 128 → R.FAULT_REACT_REACTION.key [n] ≠ f.key i) : Quiet s (s.wr f v i) := by
  constructor
  · unfold State.wr
    cases h : f.held
    · rfl
    · rfl
    · exact absurd h hb
  · intro n hn
    refine rd_wr_ne s f R.FAULT_REACT_REACTION v i [n] fun e => ?_
    exact hk e.1.symm n hn e.2

theorem quiet_base (s : State) (f : Fam) (v : Nat) (i : List Nat) (h : f.held = .base) : Quiet s (s.wr f v i) :=
  quiet_wr s f v i (by simp [h]) (by simp [h])

theorem quiet_emit (s : State) (o : Output) : Quiet s (s.emit o) := ⟨rfl, fun _ _ => rd_emit s o _ _⟩

theorem quiet_tlp (s : State) (o : Output) : Quiet s (s.tlp o) := by
  unfold State.tlp
  dsimp only
  split_ifs
  · exact (quiet_emit s o).trans (quiet_emit _ _)
  · exact quiet_emit s o

theorem quiet_msix (s : State) (v : Nat) : Quiet s (s.msix v) := by
  unfold State.msix
  split_ifs
  · exact quiet_tlp s _
  · exact Quiet.refl s
  · exact ⟨rfl, fun _ _ => rfl⟩

/-- An event of a base-die block. -/
theorem quiet_raise (s : State) (e : Ev) (i : List Nat) (h : e.bit.held = .base) : Quiet s (s.raise e i) := by
  unfold State.raise
  split_ifs
  · exact Quiet.refl s
  · exact (quiet_base s e.bit 1 i h).trans (quiet_msix _ _)
  · exact quiet_base s e.bit 1 i h

theorem quiet_ring (s : State) (l : List LogEntry) : Quiet s { s with mgmt := { s.mgmt with ring := l } } :=
  ⟨rfl, fun _ _ => by simp only [State.rd, State.file]⟩

theorem quiet_log (s : State) (source unit code : Nat) (data : List Byte) : Quiet s (s.log source unit code data) := by
  unfold State.log
  split_ifs
  · exact Quiet.refl s
  · dsimp only
    split
    · exact (quiet_base s R.MGMT_LOG_SEQ_SEQ _ _ rfl).trans (quiet_ring _ _)
    · split_ifs
      · exact (quiet_base s R.MGMT_LOG_SEQ_SEQ _ _ rfl).trans (quiet_ring _ _)
      · refine Quiet.trans ?_ (quiet_raise _ E.MGMT_LOG_LOST [] rfl)
        refine Quiet.trans ?_ (quiet_base _ R.MGMT_LOG_PERSISTED_SEQ_SEQ _ [] rfl)
        refine Quiet.trans ?_ (quiet_base _ R.MGMT_LOG_LOST_COUNT _ [] rfl)
        exact (quiet_base s R.MGMT_LOG_SEQ_SEQ _ _ rfl).trans (quiet_ring _ _)
      · exact (quiet_base s R.MGMT_LOG_SEQ_SEQ _ _ rfl).trans (quiet_ring _ _)

theorem quiet_drivePins (s : State) : Quiet s s.drivePins := ⟨rfl, fun _ _ => by simp only [State.rd, State.file, State.drivePins]⟩

theorem quiet_lantern (s : State) (f : Fam) (v : Nat) (i : List Nat) (h : f.held = .lantern)
    (hk : ∀ n, n < 128 → R.FAULT_REACT_REACTION.key [n] ≠ f.key i) : Quiet s (s.wr f v i) :=
  quiet_wr s f v i (by simp [h]) fun _ => hk

/-- The key of a reaction is at BAR0 offset 0x44_0200 or above. -/
theorem react_key (n : Nat) : R.FAULT_REACT_REACTION.key [n] = 0x440200 * 8 + 4 * n := by
  show 0x440200 * 8 + 0 + (n * 4 + 0) = _
  omega

theorem quiet_capture (s : State) (n reaction : Nat) (hn : n < 128) : Quiet s (s.capture n reaction).1 := by
  have hs : Quiet s (s.set R.FAULT_STICKY_SOURCES [n]) := by
    refine quiet_lantern s _ 1 _ rfl fun k _ => ?_
    rw [react_key]
    show _ ≠ 0x440100 * 8 + 0 + (n * 1 + 0)
    omega
  have hf : ∀ (t : State) (f : Fam) (v : Nat), f.held = .lantern → f.key [] < 0x440200 * 8 → Quiet t (t.wr f v) := by
    intro t f v h1 h2
    refine quiet_lantern t f v [] h1 fun k _ => ?_
    rw [react_key]
    omega
  unfold State.capture
  dsimp only
  refine Quiet.trans (hs.trans ?_) (quiet_drivePins _)
  split_ifs
  · exact Quiet.refl _
  · exact ((hf _ _ _ rfl (by decide)).trans (hf _ _ _ rfl (by decide))).trans ((hf _ _ _ rfl (by decide)).trans
      (hf _ _ _ rfl (by decide)))

theorem quiet_raiseFault (s : State) (note fence shadow : Bool) : Quiet s (s.raiseFault note fence shadow) := by
  unfold State.raiseFault
  dsimp only
  have hb : ∀ (f : Fam) (b : Bool) (t : State), f.held = .base → Quiet t (if b = true then t.set f else t) := by
    intro f b t h
    cases b
    · exact Quiet.refl t
    · exact quiet_base t f 1 [] h
  have h3 : ∀ n f h : Bool, Quiet s _ := fun n f h =>
    ((hb R.FAULT_EVENTS_NOTE n s rfl).trans (hb R.FAULT_EVENTS_FENCE f _ rfl)).trans (hb R.FAULT_EVENTS_SHADOWED h _ rfl)
  split
  · exact (h3 _ _ _).trans (quiet_msix _ _)
  · exact h3 _ _ _

theorem quiet_shadowed (s : State) (n : Nat) (hn : n < 128) :
    Quiet s ((s.set R.FAULT_SHADOW_STICKY_SOURCES [n]).incSat R.FAULT_SHADOW_COUNT_COUNT) := by
  refine Quiet.trans ?_ (quiet_base _ R.FAULT_SHADOW_COUNT_COUNT _ [] rfl)
  refine quiet_lantern s _ 1 _ rfl fun k _ => ?_
  rw [react_key]
  show _ ≠ 0x440120 * 8 + 0 + (n * 1 + 0)
  omega

/-- The end of a clock whose sources react with NOTE at most. -/
theorem clock_tail (s u : State) (plain : List Nat) (note shadow : Bool) (q : Quiet s u) (hp : ∀ n ∈ plain, n < 128 ∧ Mild s n) :
    let code : Nat → Nat := fun n => u.rd R.FAULT_REACT_REACTION [n]
    let fences := plain.filterMap fun n => if code n = 2 then fenceTarget n else none
    let fresh := fences.any fun t => !(u.rd R.FAULT_FENCED_TARGETS).testBit t
    let safe := plain.any fun n => code n == 3
    let trip := plain.any fun n => code n == 4
    let v := u.raiseFault note fresh shadow
    let r := fences.foldl (fun (a : State × Later) t =>
      let f := a.1.fenceAct t
      (f.1, ⟨a.2.srcs ++ f.2.srcs, a.2.opens ++ f.2.opens⟩)) (v, ⟨[], []⟩)
    let r := if safe then
        let f := r.1.safeAct
        (f.1, ⟨r.2.srcs ++ f.2.srcs, r.2.opens⟩)
      else r
    let w := if trip then (r.1.tripAct, ⟨[], []⟩) else r
    Quiet s w.1 ∧ w.2 = ⟨[], []⟩ := by
  intro code fences fresh safe trip v r0 r w
  have hcode : ∀ n ∈ plain, code n ≤ 1 := by
    intro n hn
    show u.rd R.FAULT_REACT_REACTION [n] ≤ 1
    rw [q.2 n (hp n hn).1]
    exact (hp n hn).2
  have hf : fences = [] := by
    refine List.filterMap_eq_nil_iff.2 fun n hn => ?_
    rw [if_neg (by have := hcode n hn; omega)]
  have hany : ∀ k, 2 ≤ k → (plain.any fun n => code n == k) = false := by
    intro k hk
    rw [List.any_eq_false]
    intro n hn
    have := hcode n hn
    simp only [beq_iff_eq]
    omega
  have hr0 : r0 = (v, ⟨[], []⟩) := by
    show fences.foldl _ _ = _
    rw [hf]
    rfl
  have hsafe : safe = false := hany 3 (by omega)
  have htrip : trip = false := hany 4 (by omega)
  have hr : r = r0 := by
    show (if safe = true then _ else _) = _
    rw [hsafe]
    rfl
  have hw : w = r := by
    show (if trip = true then _ else _) = _
    rw [htrip]
    rfl
  rw [hw, hr, hr0]
  exact ⟨q.trans (quiet_raiseFault _ _ _ _), rfl⟩

/-- One clock with mild sources and no shadow to open: quiet, and nothing is left for the next. -/
theorem detectClock_mild (s : State) (srcs : List Nat) (h : ∀ n ∈ srcs, Mild s n) :
    Quiet s (s.detectClock ⟨srcs, []⟩).1 ∧ (s.detectClock ⟨srcs, []⟩).2 = ⟨[], []⟩ := by
  have hsrc : ∀ n ∈ (List.range 128).filter fun n => srcs.contains n && s.srcLive n, n < 128 ∧ Mild s n := by
    intro n hn
    have := List.mem_filter.1 hn
    simp only [List.mem_range, Bool.and_eq_true, List.contains_iff_mem] at this
    exact ⟨this.1, h n this.2.1⟩
  have q2 : ∀ (ps : List Nat) (a : State × List Nat), (∀ n ∈ ps, n < 128) →
      Quiet a.1 (ps.foldl (fun (a : State × List Nat) n =>
        ((a.1.capture n (a.1.rd R.FAULT_REACT_REACTION [n])).1,
          if (a.1.capture n (a.1.rd R.FAULT_REACT_REACTION [n])).2 && decide (1 ≤ a.1.rd R.FAULT_REACT_REACTION [n])
          then a.2 ++ [n] else a.2)) a).1 := by
    intro ps
    induction ps with
    | nil => intro a _; exact Quiet.refl _
    | cons n ps ih =>
      intro a hps
      rw [List.foldl_cons]
      exact (quiet_capture a.1 n _ (hps n (by simp))).trans (ih _ fun k hk => hps k (List.mem_cons_of_mem _ hk))
  refine clock_tail s _ _ _ _ (Quiet.trans (Quiet.trans ?_ (q2 _ (_, []) ?_)) (Quiet.foldl _ _ ?_ _)) ?_
  · exact Quiet.foldl _ _ (fun t n hn => quiet_shadowed t n (hsrc n (List.mem_of_mem_filter hn)).1) s
  · exact fun n hn => (hsrc n (List.mem_of_mem_filter hn)).1
  · exact fun t n _ => quiet_log t _ _ _ _
  · exact fun n hn => hsrc n (List.mem_of_mem_filter hn)

/-- Mild sources detected with no shadow to open do nothing but what `Quiet` says. -/
theorem detect_mild (s : State) (srcs : List Nat) (h : ∀ n ∈ srcs, Mild s n) : Quiet s (s.detect srcs) := by
  have key : ∀ k t, State.detectGo k t ⟨[], []⟩ = t := by
    intro k t
    cases k <;> rfl
  unfold State.detect State.detectGo
  split
  · exact Quiet.refl s
  · obtain ⟨h1, h2⟩ := detectClock_mild s srcs h
    dsimp only
    rw [h2, key]
    exact h1

theorem quiet_violog (s : State) (v : Viol) (bar addr : Nat) (w : Bool) (src : RegSrc) : Quiet s (s.violog v bar addr w src) := by
  have hb : ∀ (t : State) (f : Fam) (x : Nat) (i : List Nat), f.held = .base → Quiet t (t.wr f x i) := quiet_base
  unfold State.violog
  dsimp only
  refine Quiet.trans ?_ (quiet_raise _ E.HOST_VIOLATION [] rfl)
  refine Quiet.trans ?_ (hb _ R.HOST_VIOLOG_STATUS_NEXT _ [] rfl)
  refine Quiet.trans ?_ (hb _ R.HOST_VIOLOG_TICK_TICK _ _ rfl)
  have h5 : ∀ (t : State) (k : List Nat),
      Quiet t (match src with
        | .host rid => (t.wr R.HOST_VIOLOG_INFO_SOURCE 0 k).wr R.HOST_VIOLOG_INFO_REQUESTER_ID rid k
        | _ => (t.wr R.HOST_VIOLOG_INFO_SOURCE 1 k).wr R.HOST_VIOLOG_INFO_REQUESTER_ID 0 k) := by
    intro t k
    cases src <;> exact (hb _ R.HOST_VIOLOG_INFO_SOURCE _ _ rfl).trans (hb _ R.HOST_VIOLOG_INFO_REQUESTER_ID _ _ rfl)
  refine Quiet.trans ?_ (h5 _ _)
  refine Quiet.trans ?_ (hb _ R.HOST_VIOLOG_INFO_BAR _ _ rfl)
  refine Quiet.trans ?_ (hb _ R.HOST_VIOLOG_INFO_WRITE _ _ rfl)
  refine Quiet.trans ?_ (hb _ R.HOST_VIOLOG_INFO_TYPE _ _ rfl)
  refine Quiet.trans ?_ (hb _ R.HOST_VIOLOG_ADDR_HI_ADDR _ _ rfl)
  refine Quiet.trans ?_ (hb _ R.HOST_VIOLOG_ADDR_LO_ADDR _ _ rfl)
  split_ifs
  · exact (hb _ R.HOST_VIOLOG_OVERFLOW_COUNT _ [] rfl).trans (quiet_raise _ E.HOST_VIOLOG_OVERFLOW [] rfl)
  · exact hb _ R.HOST_VIOLOG_STATUS_COUNT _ [] rfl

/-- R177, R178: a register write refused while FS084 reacts with NOTE at most does nothing but what `Quiet` says. -/
theorem refuse_mild (s : State) (src : RegSrc) (off : Nat) (h : Mild s 84) : Quiet s (s.refuse src off) := by
  have q := quiet_violog s .regRule 0 off true src
  refine q.trans (detect_mild _ [84] fun n hn => ?_)
  obtain rfl := List.mem_singleton.1 hn
  unfold Mild
  rw [q.2 84 (by omega)]
  exact h

end Sys2Proof.Machine
end

