-- ==== Sys2Proof/Tests/Slice0.lean ====
section
/-! SUPPORT. Tests: the well-formedness checks refuse ill-formed commands, the spec's worked examples come out, and the hypotheses
of every obligation are met, clause by clause, by a state and operands written here. -/
open Sys2Proof Sys2Proof.Machine Sys2Proof.Safety
set_option Elab.async false
namespace Sys2Proof.Tests

/-! ### Small states -/

/-- Registers given values. -/
def put (s : State) (l : List (Fam × List Nat × Nat)) : State := l.foldl (fun s p => s.wr p.1 p.2.2 p.2.1) s

/-- The device as it runs: every domain on, every link in service, firmware running. -/
def on : State :=
  put { State.reset with
    time := { State.reset.time with now := 5000, lastTick := 100000, lastEdge := 100000 }
    power := { State.reset.power with domOn := 2 ^ 78 - 1, inReset := false, fromOff := false }
    pins := { State.reset.pins with core := true, rails := true, refclk := true, perst := false }
    host := { HostSt.reset with memEnable := true, busMaster := true, msixEnable := true, masked := [] }
    thermal := { ThermalSt.reset with released := true }
    mgmt := { MgmtSt.reset with loaded := true } }
    ([(R.HOST_STATUS_LINK_UP, [], 1), (R.HOST_STATUS_STACK_READY, [], 1), (R.MGMT_STATUS_FW_STATE, [], 2),
      (R.FUSE_STATUS_SENSED, [], 1), (R.TIME_STATUS_SOURCE, [], 0)] ++
     (List.range 9).flatMap fun b => [(R.SHAFT_LINK_STATUS_STATE, [b], 2), (R.BENCH_STATUS_LINK_UP, [b], 1)])

def withTime (s : State) (f : TimeSt → TimeSt) : State := { s with time := f s.time }
def withPower (s : State) (f : PowerSt → PowerSt) : State := { s with power := f s.power }

/-- One tick's readings: every diode at 25 °C. -/
def env : TickEnv := ⟨List.replicate 44 0x3B8, List.replicate 44 false, List.replicate 69 1000, true, []⟩

def flying : State := withTime (put on [(R.TIME_STATUS_SOURCE, [], 2)]) fun x => { x with nextFly := 100000, pinSilent := 1000 }
def beaconed : State := withTime (put on [(R.TIME_STATUS_SOURCE, [], 1)]) fun x =>
  { x with nextFly := 100000, pinSilent := 1000, beaconSilent := 3000 }

/-- Entry `i` is due with an action. -/
def due (s : State) (i act arg : Nat) : State :=
  put s [(R.TIME_SCHED_ARM, [i], 1), (R.TIME_SCHED_ACTION, [i], act), (R.TIME_SCHED_ARG, [i], arg)]
/-- The device in a power state. -/
def inState (k : Nat) : State := put on [(R.POWER_STATUS_STATE, [], k)]
def ember : State := put (inState 3) [(R.POWER_WAKE_EN_EN, [], 31)]
/-- A shift in a state, announced from tick `a` to tick `b`. -/
def shift (k a b : Nat) : State :=
  put on [(R.TIME_SHIFT_STATUS_STATE, [], k), (R.TIME_SHIFT_START_LO, [], a), (R.TIME_SHIFT_END_LO, [], b),
    (R.TIME_DRAIN_LEAD_LEAD, [], 100)]
/-- A drain that writes back what is left (R39). -/
def drained (a b : Nat) : State := withTime (shift 3 a b) fun x => { x with flushing := true }
/-- The entry sequencer at work. -/
def seqAt (s : State) (p : SeqPhase) (target : Nat) : State :=
  withPower (put s [(R.POWER_STATUS_SEQ_BUSY, [], 1)]) fun x => { x with seq := p, target := target }
/-- A base die in reset, PERST# released. -/
def inReset : State := withPower { on with pins := { on.pins with core := false } } fun x => { x with inReset := true }
def lanternOff : State := withPower on fun x => { x with lanternUp := false }
def notReady : State := put on [(R.HOST_STATUS_STACK_READY, [], 0)]
def unloaded : State := { on with mgmt := { on.mgmt with loaded := false } }
def tested : State := { notReady with test := { notReady.test with ran := (2, 0) :: (1, 0) :: (List.range 9).map (3, ·) } }
def exiting : State := withPower (put notReady [(R.POWER_STATUS_STATE, [], 2)]) fun x => { x with seq := .exiting }
def woken : State := put ember [(R.POWER_WAKE_LATCH_PENDING, [], 1)]
def faulty : State :=
  { put on [(R.FAULT_STICKY_SOURCES, [5], 1), (R.FAULT_STICKY_SOURCES, [40], 1), (R.FAULT_FIRST_VALID, [], 1),
      (R.FAULT_FENCED_TARGETS, [], 0x3FFF)] with fault := { on.fault with shadows := [(3, 0), (4, 2)] } }
def hot : State :=
  { put on [(R.THERMAL_SUSPECT_SENSORS, [43], 1), (R.THERMAL_STATUS_GUARD, [], 1), (R.THERMAL_STATUS_START_HOLD, [], 1),
      (R.THERMAL_STATUS_THROTTLE, [], 1), (R.THERMAL_STATUS_THROTTLE_LIMIT, [], 1)] with
    thermal := { on.thermal with
      away := List.replicate 44 8, near := List.replicate 44 1000, guardAge := 1000, holdAge := 100, rise := 100, riseTo := 1
      low := 32, limitAge := 100 } }
def cool : State := put hot [(R.THERMAL_STATUS_THROTTLE, [], 0), (R.THERMAL_STATUS_THROTTLE_LIMIT, [], 1)]
def withCache (s : State) (f : CacheSt → CacheSt) : State := { s with cache := f s.cache }
def withRas (s : State) (f : RasSt → RasSt) : State := { s with ras := f s.ras }
def withHost (s : State) (f : HostSt → HostSt) : State := { s with host := f s.host }

/-- A fetch of a slab in flight. -/
def op (slab : Nat) (k : OpKind) : SlabOp := ⟨slab, k, 0, 0, 0, 0, 0, none, [], 0⟩
def fetching (s : State) (slab : Nat) (k : OpKind) : State := withCache s fun c => { c with ops := [op slab k] }
/-- The stack after a clear. -/
def cleared : State := put (on.clearedDram 0 slabCount) [(R.CODE_CODE_STATUS_EMPTY, [], 1)]
def safe : State := put on [(R.FAULT_STATUS_SAFE, [], 1)]
/-- Reset of the function, everything written back. -/
def resetting : State := withHost on fun h => { h with flr := some ⟨1, true⟩ }
/-- Layer 3 LOST, and layer 5 REJOINING with its sweep at an end. -/
def lost3 : State := put on [(R.CODE_LAYER_STATE_STATE, [3], 1), (R.CODE_LAYER_STATE_CAUSE, [3], 1)]
def rejoined : State :=
  withRas (put on [(R.CODE_LAYER_STATE_STATE, [5], 2), (R.CODE_CODE_STATUS_REJOIN_BUSY, [], 1)]) fun x =>
    { x with rejoinNext := some slabCount }
def clearing (p : Nat) : State :=
  withRas (put on [(R.CODE_CODE_STATUS_CLEAR_BUSY, [], 1)]) fun x => { x with clearNext := some p }
def marked : State := put on [(R.CODE_SUSPECT_MARKS, [2, 63], 1), (R.CODE_SUSPECT_MARKS, [3, 0], 1)]
def swept : State := withRas marked fun x => { x with sweeps := [(0, 0), (63, 2 ^ 21)] }
def allSectors32 : Nat := 2 ^ 32 - 1
def line (slab dirty : Nat) : Line := ⟨slab, 0, allSectors32, dirty, 0, 4, 0, List.replicate 2048 0x33#8⟩
def lined : State := withCache on fun c => { c with lines := [line 5 0, line 6 3] }
def rdReq : CReq := ⟨0, .pcie, 4, false, 5, 64, 32, [], false, none⟩
def wrReq : CReq := ⟨0, .pcie, 4, true, 5, 100, 0, [some 1#8, none, some 2#8], false, none⟩
def readWaits : State := withCache lined fun c => { c with
  port := [rdReq], nextId := 1, reads := [⟨⟨5 * 2048 + 64, 32, 9, 7, none, false⟩, 4, [(0, none)]⟩] }
def writeWaits : State := withCache lined fun c => { c with port := [wrReq], nextId := 1 }
def entry (slab age : Nat) (full closing : Bool) : MEntry :=
  ⟨slab, 4, 0, age, List.replicate 2047 (some 0x5A#8) ++ [if full then some 1#8 else none], [], 0, closing⟩
def merging (full : Bool) : State := withCache on fun c => { c with merge := [entry 11 200 full false] }
def flushed : State := withCache (put lined [(R.CACHE_FLUSH_CTRL_GO, [], 1)]) fun c => { c with flush := some ⟨1, [5], [], [5]⟩ }
def unflushed : State := put lined [(R.CACHE_SRMAP_STATUS_UNFLUSHED, [], 1), (R.CACHE_SRMAP_BITS, [4095], 1)]
def repairing (failed : Bool) : State := withRas on fun x => { x with
  repair := some ⟨4, 7, 100, 2, (List.range 8).map fun i => (i, [], 0), !failed, failed⟩
  watch := [⟨4, 7, 100, 3⟩, ⟨4, 7, 101, 3⟩] }
def recording : State := withRas on fun x => { x with recDue := [⟨1, 0, 3, 4, 5, 6⟩] }
def scrubbing : State := put on [(R.RAS_RAS_CTRL_SCRUB_EN, [], 1), (R.RAS_SCRUB_CTRL_INTERVAL, [], 100), (R.RAS_SCRUB_PTR_SLAB, [], 2 ^ 27 - 1)]
/-- The benches at work. -/
def working : State := { on with bench := on.bench.map fun x => { x with selfRefresh := false, warm := true, tokens := 4 } }
def withChan (s : State) (b ch : Nat) (f : ChanCtl → ChanCtl) : State := s.modCtl b ch f
def withLink (s : State) (b : Nat) (f : ShaftSt → ShaftSt) : State := { s with shaft := modAt f s.shaft b }
def withDir (s : State) (b : Nat) (down : Bool) (f : ShaftDir → ShaftDir) : State := s.modDir b down f
def indebted : State := withChan working 8 1 fun c => { c with debt := List.replicate 31 7 ++ [8] }
def breq (w : Bool) : BReq := ⟨77, w, 0, 3, 5, 0, 0, List.replicate 144 0x11#8, List.replicate 144 0x22#8⟩
def openAt (r : BReq) : List (Option Nat) := List.replicate 32 (some (rowOf r.loc))
def reading : State := withChan working 0 0 fun c => { c with reads := [breq false], openRow := openAt (breq false) }
def writing : State := withChan working 1 0 fun c => { c with writes := [breq true], openRow := openAt (breq true) }
def tasked : State := withChan working 1 1 fun c => { c with tasks := [⟨31, 5, 1, false⟩] }
def patrolled : State :=
  { put working [(R.BENCH_PATROL_CTRL_EN, [8], 1), (R.BENCH_PATROL_CTRL_INTERVAL, [8], 100)] with
    bench := working.bench.map fun x => { x with patrolLeft := 2, patrolPtr := 2 ^ 27 - 1 } }
/-- The same with eight tasks held, and every row-group at the threshold. -/
def crowded : State :=
  (List.range 2).foldl (fun s ch => withChan s 8 ch fun c => { c with
    tasks := List.replicate 8 ⟨31, 5, 1, false⟩, acts := (List.range 32).map fun k => (k, rowOf (2 ^ 27 - 1) / 64, 4095) }) patrolled
def levelling : State := put working [(R.THERMAL_GOV_CHOSEN, [], 3)]
def pausedOne : State := withPower (working.modBench 1 fun x => { x with paused := some 3, selfRefresh := true })
  fun x => { x with pauseTo := some 3 }
def retained : State := { on with bench := on.bench.map fun x => { x with retaining := true } }
def canarying : State := { working with bench := working.bench.map fun x => { x with canaryDue := true, canaryMode := true } }
/-- A frame's control word. -/
def frame (tag aux : Nat) : Frame := ⟨tag, aux, List.replicate 128 0x5A#8, []⟩
def naked (down : Bool) : State := withDir on 0 down fun d => { d with nak := true }
def askedReg : State := withLink on 8 fun l => { l with reg := some ⟨96, false, 0, .write⟩ }
def inRecovery (b : Nat) (t : Nat) : State := withLink (put on [(R.SHAFT_LINK_STATUS_STATE, [b], 3)]) b fun l => { l with recStart := t }
/-- A link at a training step. -/
def training (b step : Nat) (go : Nat) : State :=
  withLink (put { on with thermal := { on.thermal with released := true } }
    [(R.SHAFT_LINK_STATUS_STATE, [b], 1), (R.SHAFT_TRAIN_CTRL_GO, [b], go), (R.SHAFT_TRAIN_CTRL_STEP, [b], step)]) b fun l => { l with step := step }
def linkIn (b k : Nat) : State := put on [(R.SHAFT_LINK_STATUS_STATE, [b], k)]
def withHaul (s : State) (c : Nat) (f : HChan → HChan) : State := s.modChan c f
/-- A descriptor: CTRL, USER, two slots and ARGS. -/
def desc (ctrl : Nat) (src dst args : List Byte) : List Byte :=
  leBytes 4 ctrl ++ leBytes 4 0xAA55 ++ padTo 16 src ++ padTo 16 dst ++ padTo 24 args
def elem (addr len : Nat) : List Byte := leBytes 8 addr ++ leBytes 4 len
/-- ARGS of a coded descriptor of one data and `m` check fragments of 4 KiB. -/
def coded (m code mask : Nat) : List Byte := leBytes 2 1 ++ leBytes 1 1 ++ leBytes 1 m ++ leBytes 1 code ++ leBytes 1 0 ++ leBytes 1 mask
/-- A channel enabled, with a ring of 16 entries. -/
def haul (c : Nat) : State :=
  put (withHost on fun h => { h with maxPayload := 4096, maxRead := 4096 })
    [(R.HAUL_CTRL_EN, [c], 1), (R.HAUL_ACT_CFG_SIZE_LOG2, [c], 4), (R.HAUL_SH_CFG_SIZE_LOG2, [c], 4),
     (R.HAUL_ACT_COMP_BASE_LO_BASE, [c], 1), (R.HAUL_SH_COMP_BASE_LO_BASE, [c], 1), (R.HAUL_TAIL_INDEX, [c], 1)]
/-- The same with a descriptor fetched. -/
def fetched (c : Nat) (raw : List Byte) : State := withHaul (haul c) c fun h => { h with pre := [(0, raw, false)] }
def dNop : List Byte := desc 0 [] [] []
def dFence : List Byte := desc 7 [] [] []
def dCopy : List Byte := desc 1 (elem 0xF00 256) (elem 0x2000 256) []
def dFill : List Byte := desc 2 [] (elem 0x3000 4096) [1#8, 2#8, 3#8, 4#8, 5#8, 6#8, 7#8, 8#8]
def dDigest : List Byte := desc 3 (elem 0x10000 4096) [] (coded 0 0 0)
def dEncode : List Byte := desc 4 (elem 0x10000 4096) (elem 0x20000 4096) (coded 1 0 0)
def dVerify : List Byte := desc 5 (elem 0x10000 8192) [] (coded 1 7 0)
def dRebuild : List Byte := desc 6 (elem 0x10000 4096) (elem 0x20000 4096) (coded 1 0 2)
def ledger (s : State) : State := put s [(R.CODING_CTRL_LEDGER_EN, [], 1), (R.CODING_LEDGER_SIZE_GIB, [], 1)]
/-- The same descriptor with a ledger range. -/
def ledgered (raw : List Byte) : List Byte := raw.take 44 ++ leBytes 1 7 ++ raw.drop 45
/-- A descriptor fetched on channel 0 while an encode of the same ledger range runs on channel 63. -/
def ranged (raw : List Byte) : State :=
  let s := withHaul (ledger (fetched 0 raw)) 63 fun h => { h with run := some (Run.init 0 (ledgered dEncode) 4) }
  { s with coding := { s.coding with active := [63] } }
/-- A descriptor in execution. -/
def runs (c : Nat) (raw : List Byte) (f : Run → Run) : State := withHaul (haul c) c fun h => { h with run := some (f (Run.init 0 raw 4)) }
def page : List Byte := List.replicate 4096 0x5A#8
def ledgerRead : State := ledger (runs 0 dVerify fun r => { r with
  phase := .ledger, parts := [(0, List.replicate 32 1#8, [])], src := ⟨[⟨0x10000, 8192, false⟩], 8192, true, 0, false, 0, false⟩ })
def pass1 : State := runs 0 dDigest fun r => { r with phase := .reading, parts := [(0, page, [])] }
def pass2Run : Run := { Run.init 0 dRebuild 4 with
  phase := .pass2, rows := [0], parts := [(0, page, [])], rebuilds := [1]
  digests := [(0, crc64 (slice (assemble [(0, page, [])] 4096) 0 4096))]
  dst := ⟨[⟨0x20000, 4096, false⟩], 4096, true, 0, false, 0, false⟩ }
def pass2 : State := withHaul (put (haul 63) [(R.HAUL_TAIL_INDEX, [63], 0)]) 63 fun h => { h with run := some pass2Run }
def committed : State := put (haul 63) [(R.HAUL_COMMIT, [63], 1), (R.HAUL_SH_DESC_BASE_LO_BASE, [63], 2), (R.HAUL_TAIL_INDEX, [63], 0),
  (R.HAUL_COMP_INDEX, [63], 0)]
def uncommitted : State := put (haul 0) [(R.HAUL_SH_CFG_SIZE_LOG2, [0], 16)]
def disabled : State := put (haul 0) [(R.HAUL_CTRL_EN, [0], 0)]
def arrived : State := withHaul (haul 0) 0 fun h => { h with got := [(0, dNop, false)] }
def outstanding : State := { haul 0 with haul := { (haul 0).haul with np := [⟨3, 0, 0x1000, 64, .desc 5, []⟩] } }
def withTest (s : State) (f : TestSt → TestSt) : State := { s with test := f s.test }
def withFuse (s : State) (f : FuseSt → FuseSt) : State := { s with fuse := f s.fuse }
def withMgmt (s : State) (f : MgmtSt → MgmtSt) : State := { s with mgmt := f s.mgmt }
def withDict (s : State) (f : DictSt → DictSt) : State := { s with dict := f s.dict }
def samplesDue : State := put on [(R.TEST_CTRL_CS_MEM_EN, [], 1), (R.TEST_CTRL_CS_WAY_EN, [], 1), (R.TEST_CTRL_CS_LANE_EN, [], 1),
  (R.TEST_CS_MEM_INTERVAL_TICKS, [], 100), (R.TEST_CS_WAY_INTERVAL_TICKS, [], 1000), (R.TEST_CS_LANE_INTERVAL_TICKS, [], 5000)]
def marching (rebuilding : Bool) : State := withTest (put on [(R.CODE_PLANNED_ACTIVE, [], 1), (R.CODE_PLANNED_LAYER, [], 17),
  (R.TEST_CS_RECORD_VALID, [], 1), (R.TEST_CS_PROGRESS_REBUILD_PTR, [], 512)]) fun x => { x with mem := some ⟨17, 0, 0, rebuilding, [], false, some 0⟩ }
def marchAsked : State := withTest (marching false) fun x => { x with mem := x.mem.map fun m => { m with ord := none } }
def wayOut : State := withTest on fun x => { x with way := some 15 }
def laneOut : State := withTest on fun x => { x with lane := some ⟨8, true, 75, false⟩ }
def serviced : State := put on [(R.TEST_CTRL_SERVICE, [], 1), (R.TEST_STATUS_SERVICE_MODE, [], 1), (R.HOST_STATUS_STACK_READY, [], 0)]
def testing (code : Nat) : State := withTest serviced fun x => { x with test := some ⟨code, 0, 0, false⟩ }
def coolEnough (s : State) : State := put s [(R.THERMAL_STATUS_PROG_OK, [], 1)]
def calRunning : State := withTest on fun x => { x with run := some ⟨1, 0, false, 0⟩ }
def applying : State := withTest on fun x => { x with apply := some 4999, atTick := List.replicate 4096 9#8 }
def saving (k : Nat) : State := withTest on fun x => { x with save := some (k, false) }
def unsensed : State := put on [(R.FUSE_STATUS_SENSED, [], 0)]
/-- Burns are open, with data for a word. -/
def burnable (lo : Nat) : State :=
  withFuse (put on [(R.FUSE_STATUS_VPROG_OK, [], 1), (R.THERMAL_STATUS_PROG_OK, [], 1), (R.FUSE_STATUS_OPEN, [], 0x1FF),
    (R.FUSE_BURN_DATA_LO_DATA, [], lo)]) fun x => { x with unlocked := true, armed := some 6 }
/-- The check word of region 6, blank. -/
def sealCheck : Nat := regionCheck ((on.senseAll [] false).region 6)
def burning : State := withFuse (burnable 5) fun x => { x with burn := some ⟨false, 20, secEncode 5, none, false⟩ }
def persisting : State := withMgmt on fun x => { x with persistTo := some 3 }
def booting (second : Bool) : State := withMgmt (put on [(R.MGMT_STATUS_FW_STATE, [], 1), (R.FAULT_REACT_REACTION, [98], 1)]) fun x =>
  { x with second := second, bootAge := 10000, loading := 1 }
def trial : State := withMgmt (put on [(R.MGMT_STATUS_TRIAL, [], 1)]) fun x => { x with runAge := 6000000 }
def updating (k : Nat) : State := put on [(R.MGMT_STATUS_UPDATE_STATE, [], k), (R.MGMT_WDOG_CTRL_EN, [], 1), (R.FAULT_REACT_REACTION, [98], 2)]
/-- A dictionary message. -/
def msg (cmd txn index sub len pos : Nat) (data : List Byte) : List Byte :=
  leBytes 1 cmd ++ leBytes 1 txn ++ leBytes 2 index ++ leBytes 1 sub ++ leBytes 1 0 ++ leBytes 2 len ++ leBytes 4 pos ++ leBytes 4 0 ++ data
def mRead : List Byte := msg 1 1 0x1100 1 0 0 []
def mBadRead : List Byte := msg 1 1 0xFFFF 1 0 0 []
def mBudget : List Byte := msg 2 0x17 0x1301 6 4 0 (leBytes 4 4000)
def mRelease : List Byte := msg 2 2 0x1101 0 1 0 [0#8]
def mClaim (v : Byte) : List Byte := msg 2 3 0x1101 0 1 0 [v]
def mReadInit : List Byte := msg 3 4 0x1002 1 0 0 []
def mReadSeg : List Byte := msg 4 5 0x1002 1 16 0 []
def mWriteInit : List Byte := msg 5 6 0x1002 1 0 16 []
def mWriteSeg : List Byte := msg 6 7 0x1002 1 8 0 (List.replicate 8 0x41#8)
def mAbort : List Byte := msg 7 8 0 0 0 0 []
def held (h : Nat) : State := withDict on fun x => { x with holder := h }
def opened (s : State) (c : Nat) (w : Bool) : State :=
  s.modCarrier c fun x => { x with open_ := some ⟨w, 0x1002, 1, 16, if w then [] else List.replicate 16 0x42#8, 0, none, 100000⟩ }
def asked (c : Nat) (m : List Byte) : State :=
  on.modCarrier c fun x => { x with lastReq := some (reqKey c m), lastRsp := [1#8] }
def claimed (c h age : Nat) : State :=
  put (withDict on fun x => { x with holder := h, claims := [⟨c, mClaim (BitVec.ofNat 8 (tokenValue c))⟩] }) [(R.DICT_TOKEN_AGE_TICKS, [], age)]
def unsaved : State := withDict on fun x => { x with unsaved := some 0 }
/-- A privileged word burned in one copy alone. -/
def damaged : State := withFuse unsensed fun x => { x with words := [(8, ⟨0x3, 0⟩)] }
def overridden : State := withFuse (burnable 5) fun x => { x with overrides := [(20, 77), (126, 1)] }
def noImage : State := put on [(R.MGMT_STATUS_FW_STATE, [], 3)]
/-- A Rack Link header with its CRC16. -/
def hdr (dest src type len tick : Nat) : List Byte :=
  let h := [dest, src, type].map (BitVec.ofNat 8 ·) ++ leBytes 2 len ++ leBytes 2 tick
  h ++ leBytes 2 (crc16 h)
def withRack (s : State) (f : RackSt → RackSt) : State := { s with rack := f s.rack }
/-- A node with address 3 that may transmit, at a tick. -/
def node (s : State) (now : Nat) : State :=
  withTime (put s [(R.RL_STATUS_ADDRESS, [], 3), (R.RL_STATUS_ASSIGNED, [], 1), (R.RL_STATUS_TX_ALLOWED, [], 1), (R.RL_CTRL_TX_EN, [], 1),
    (R.RL_STATUS_BEACON_THIS_CYCLE, [], 1), (R.RL_GRANT_SLOTS, [], 8), (R.RL_STATUS_EC_CONVERGED, [], 1)]) fun x => { x with now := now }
def beaconOf (tick : Nat) : List Byte := padTo 16 (leBytes 6 tick ++ leBytes 4 0xFF)
def hBeacon : List Byte := hdr 0xFF 0x20 1 16 (6000 % 65536)
def hReq : List Byte := hdr 3 0x20 2 16 0
def hWake : List Byte := hdr 0x1F 0x20 4 0 0
def hAssign : List Byte := hdr 0xFF 0x20 7 9 0
def hBad : List Byte := hdr 3 0x20 9 16 0
def hOther : List Byte := hdr 4 0x20 2 16 0
def pAssign : List Byte := leBytes 8 (on.fuseWord 0) ++ [30#8]
def noLoad : State := put on [(R.TIME_CTRL_BEACON_LOAD, [], 0)]
def asleep : State := put ember [(R.POWER_CTRL_RL_LISTEN, [], 1)]
def restarting (n : Nat) : State := withRack (put (node on 5000) [(R.MGMT_STATUS_FW_STATE, [], 5)]) fun x =>
  { x with rx := List.replicate n ⟨2, 0x20, mRead⟩ }
def unassigned : State := put on [(R.RL_CTRL_ASSIGN_EN, [], 0)]
def rspFrame : TxFrame := ⟨true, 3, 0x20, List.replicate 16 1#8, 0, 3⟩
def queued : State := withRack (node on (5000 + 20 + 28 * 3)) fun x => { x with tx := [rspFrame] }
def sending (f : TxFrame) : State := withRack (node on 5104) fun x => { x with slot := [⟨f, [], 50, 300⟩], slotAge := 0 }
def silent : State := put (node on 5104) [(R.RL_STATUS_BEACON_THIS_CYCLE, [], 0)]
def assigning (k : AssignPhase) : State := withRack (put (node on 5916) [(R.RL_STATUS_ADDRESS, [], 31), (R.RL_CTRL_ASSIGN_EN, [], 1)]) fun x =>
  { x with assignOpen := true, assign := k }
def linkTest (a b : Nat) : State := withRack (node on (5000 + slotTick a)) fun x => { x with linkTest := true, testA := a, testB := b }
def newCycle (a : Option Nat) : State := withRack (node on 6000) fun x => { x with pendingAddr := a }

/-- What reaches the receiver of a frame: its sync, and its header and payload blocks. -/
def lineOf (h p : List Byte) : RxLine :=
  let l := frameLine (h ++ if p.isEmpty then [] else p ++ rackCrc p)
  ⟨[], ⟨(l.drop 32).take 48, List.replicate 48 400⟩, (l.drop 80).take 104, l.drop 184⟩
/-- A sync after which nothing can be told of a header. -/
def silence : RxLine := ⟨[], ⟨syncSymbols, List.replicate 48 400⟩, List.replicate 104 0, []⟩
def shortSync : RxLine := { silence with sync := ⟨syncSymbols.take 47, List.replicate 48 400⟩ }

/-! ### Well-formedness -/

/-- A well-formed command of each constructor that has a check. -/
theorem test_wf_admits : (
    [.tickEdge 0 env, .missingTick 0 env, .flywheelTick 0 env, .tickLoad .firmware 0, .loReadLatch ⟨.firmware, .bar0, 0, 1, 0⟩,
      .schedEntryWrite .firmware 0 0 0, .schedNone 0, .schedWake 0, .schedEnterState 0, .schedSetCap 0, .schedEvent 0,
      .schedScrubPause 0, .schedScrubResume 0, .shiftArm .firmware, .shiftWithdraw .firmware, .shiftEndEarly .firmware,
      .shiftTicksWrite .firmware 0 0, .slabFetchComplete 0 [], .portionTimeout 0 0, .bankHashWrite .firmware 0,
      .reqLost .firmware 0, .reqRejoin .firmware 0, .stackClear .firmware,
      .cacheRead ⟨0, .pcie, 0, false, 0, 0, 4, [], false, none⟩, .cacheWrite ⟨0, .pcie, 0, true, 0, 0, 4, [], false, none⟩,
      .mergeAgeExpiry 0, .flush .firmware 0 0, .flushInv .firmware 0 0, .inv .firmware 0 0, .srmapRelease .firmware,
      .benchCommandIssue 0 0, .bankRefresh 0 0 0, .pageIdleClose 0 0 0, .trTaskAged 0 0 0, .trWindowReset 0 0 0,
      .trWarmupEnd 0, .tempEstimateTimeout 0, .patrolReadDone 0 [], .levelPauseEnd [], .canaryEntryDone 0 [],
      .canaryExitCheck 0 [], .sweepPositionDone 0, .remapWrite .firmware 0 0, .idleFrame 0 false ⟨0, 0, [], []⟩,
      .replayFrame 0 false ⟨0, 0, [], []⟩, .reqFrame 0 ⟨0, 0, [], []⟩, .wdataL 0 ⟨0, 0, [], []⟩, .wdataU 0 ⟨0, 0, [], []⟩,
      .rdataL 0 ⟨0, 0, [], []⟩, .rdataU 0 ⟨0, 0, [], []⟩, .sideFrame 0 false ⟨0, 0, [], []⟩, .regRd 0 ⟨0, 0, [], []⟩, .regWr 0 ⟨0, 0, [], []⟩,
      .regRsp 0 ⟨0, 0, [], []⟩, .tempFrame 0 ⟨0, 0, [], []⟩, .tokensFrame 0 ⟨0, 0, [], []⟩, .grantFrame 0 ⟨0, 0, [], []⟩,
      .patrolRpt 0 ⟨0, 0, [], []⟩, .canaryFrame 0 ⟨0, 0, [], []⟩, .holdFrame 0 ⟨0, 0, [], []⟩, .pauseFrame 0 ⟨0, 0, [], []⟩,
      .retainFrame 0 ⟨0, 0, [], []⟩, .readyFrame 0 ⟨0, 0, [], []⟩, .shaftCrcFail 0 false, .reservedFrame 0 false 0,
      .replayTimeout 0 false, .recoveryDone 0 [] [], .recoveryTimeout 0, .lockLoss 0, .regAccessTimeout 0, .refLock 0 0,
      .prbsTx 0, .phaseSweep 0, .slip 0, .frameAlign 0, .scrSync 0, .prbsCheck 0, .enterService 0, .trainStepDone 0 [],
      .failedLanesWrite .firmware 0 0, .dspreadEnWrite .firmware 0, .bar2Read ⟨0, 4, 0, 0, none, false⟩,
      .bar2Write ⟨0, [some 0#8], 0, none, false, false⟩, .registerWrite .firmware .bar0 0 0 0 false,
      .unsupportedRequest 0 0 0 0 false, .viologClear .firmware, .haulCompletionRx 0 0 false [], .completionTimeout 0,
      .doorbell .firmware 0 0, .descriptorFetched 0, .nop 0, .copy 0, .fill 0, .digest 0, .encode 0, .verify 0, .rebuild 0,
      .fence 0, .ledgerReadDone 0, .pass1Done 0, .pass2Done 0, .commit .firmware 0, .handOver 0, .channelEnable .firmware 0,
      .channelDisable .firmware 0, .haulReset .firmware, .ledgerEnWrite .firmware 0, .ledgerRegionWrite .firmware 0 0,
      .labelCfgWrite .firmware 0 0, .ceilingWrite .firmware 0, .windowWrite .firmware 0, .reqDoze .firmware,
      .reqRest .firmware, .reqEmber .firmware, .perfLimitWrite .firmware 0, .sensorSuspect 0, .sensorRestored 0,
      .celogClear .firmware, .uelogClear .firmware, .stickyClear .firmware 0 0, .fenceRelease .firmware 0,
      .reactWrite .firmware 0 0, .faultLock .firmware, .shadowEnd 0, .injectShaftCrc .firmware 0 0 0,
      .injectInnerCrc .firmware 0 0, .injectSlabSyndrome .firmware 0, .injectSramEcc .firmware 0 false 0,
      .injectFuseEcc .firmware, .injectRlCrc .firmware 0, .csMemMarchDone [], .serviceEnter .firmware,
      .serviceExit .firmware, .lbistBase .firmware, .sramBase .firmware, .lbistBench .firmware 0, .marchFull .firmware,
      .marchBank .firmware 0 0, .shaftPrbs .firmware 0, .testDone [], .calSensors .firmware, .calMonitors .firmware,
      .calShaft .firmware 0, .calDriver .firmware 0, .calRunDone [], .calApply .firmware, .calReload .firmware,
      .calSave .firmware, .fuseSensingDone [], .fuseRead .firmware 0 [], .burnUnlock .firmware 0, .wordBurn .firmware 0,
      .sealBurn .firmware 0, .forceLock .firmware 0, .rollbackBurn .firmware 126, .burnDone 0 0, .forceArm .firmware 0,
      .overrideSet .firmware 0, .overrideClear .firmware 0, .coreReset .firmware, .logPersist .firmware, .read 0 [],
      .write 0 [], .readSegInit 0 [], .readSeg 0 [], .writeSegInit 0 [], .writeSeg 0 [], .abort 0 [],
      .dictportAbort .firmware, .transferTimeout 0, .wakePortPointer 0, .beacon 0 silence.note 0 silence.hdr silence.pay,
      .dictReq silence.note silence.hdr silence.pay, .wakeFrame silence.note silence.hdr silence.pay, .assign silence.note silence.hdr silence.pay, .rlCrcFail silence.note silence.hdr silence.pay, .linkTestSlot (some silence), .lanternPor 0, .baseReset .firmware 0,
      .eventEnWrite .firmware 0 0, .stuffingViolation 0 false 0, .benchReadyTimeout 0, .checkerFault 0 0 0, .dlUp 0 0 false,
      .rlDiscardedFrame silence.note silence.hdr silence.pay, .tapInstruction 0] : List Instr).all Instr.wf = true := by decide +kernel

/-- One operand at a time breaks its check. -/
theorem test_wf_refuses0 : (
    [.tickEdge 0 ⟨[], env.outside, env.monitors, true, []⟩, .tickEdge 0 ⟨env.sensors, [], env.monitors, true, []⟩,
      .tickEdge 0 ⟨env.sensors, env.outside, [], true, []⟩, .missingTick 0 ⟨[], env.outside, env.monitors, true, []⟩,
      .missingTick 0 ⟨env.sensors, [], env.monitors, true, []⟩, .missingTick 0 ⟨env.sensors, env.outside, [], true, []⟩,
      .flywheelTick 0 ⟨[], env.outside, env.monitors, true, []⟩, .flywheelTick 0 ⟨env.sensors, [], env.monitors, true, []⟩,
      .flywheelTick 0 ⟨env.sensors, env.outside, [], true, []⟩, .tickLoad (.host (2 ^ 16)) 0, .tickLoad (.dict 2) 0,
      .tickLoad .firmware (2 ^ 32), .loReadLatch ⟨.host (2 ^ 16), .bar0, 0, 1, 0⟩,
      .loReadLatch ⟨.firmware, .bar0, 2 ^ 26, 1, 0⟩, .loReadLatch ⟨.firmware, .bar0, 0, 1025, 0⟩,
      .loReadLatch ⟨.firmware, .bar0, 0, 1, 2 ^ 14⟩, .schedEntryWrite (.host (2 ^ 16)) 0 0 0,
      .schedEntryWrite (.dict 2) 0 0 0, .schedEntryWrite .firmware 64 0 0, .schedEntryWrite .firmware 0 4 0,
      .schedEntryWrite .firmware 0 0 (2 ^ 32), .schedNone 64, .schedWake 64, .schedEnterState 64, .schedSetCap 64,
      .schedEvent 64, .schedScrubPause 64, .schedScrubResume 64, .shiftArm (.host (2 ^ 16)), .shiftArm (.dict 2),
      .shiftWithdraw (.host (2 ^ 16)), .shiftWithdraw (.dict 2), .shiftEndEarly (.host (2 ^ 16)), .shiftEndEarly (.dict 2),
      .shiftTicksWrite (.host (2 ^ 16)) 0 0, .shiftTicksWrite (.dict 2) 0 0, .shiftTicksWrite .firmware (2 ^ 26) 0,
      .shiftTicksWrite .firmware 2 0, .shiftTicksWrite .firmware 0 (2 ^ 32), .slabFetchComplete (2 ^ 27) [],
      .slabFetchComplete 0 [⟨18, none⟩], .slabFetchComplete 0 [⟨0, some []⟩], .portionTimeout (2 ^ 27) 0,
      .portionTimeout 0 18, .bankHashWrite (.host (2 ^ 16)) 0, .bankHashWrite (.dict 2) 0,
      .bankHashWrite .firmware (2 ^ 32), .reqLost (.host (2 ^ 16)) 0, .reqLost (.dict 2) 0, .reqLost .firmware 18,
      .reqRejoin (.host (2 ^ 16)) 0, .reqRejoin (.dict 2) 0, .reqRejoin .firmware 18, .stackClear (.host (2 ^ 16)),
      .stackClear (.dict 2), .cacheRead ⟨0, .pcie, 0, false, 2 ^ 27, 0, 4, [], false, none⟩,
      .cacheRead ⟨0, .pcie, 64, false, 0, 0, 4, [], false, none⟩, .cacheRead ⟨0, .pcie, 0, false, 0, 2045, 4, [], false, none⟩,
      .cacheRead ⟨0, .pcie, 0, true, 0, 0, 4, [], false, none⟩, .cacheWrite ⟨0, .pcie, 0, true, 2 ^ 27, 0, 4, [], false, none⟩,
      .cacheWrite ⟨0, .pcie, 64, true, 0, 0, 4, [], false, none⟩, .cacheWrite ⟨0, .pcie, 0, true, 0, 2045, 4, [], false, none⟩,
      .cacheWrite ⟨0, .pcie, 0, false, 0, 0, 4, [], false, none⟩, .mergeAgeExpiry (2 ^ 27), .flush (.host (2 ^ 16)) 0 0,
      .flush (.dict 2) 0 0, .flush .firmware 3 0, .flush .firmware 0 64, .flushInv (.host (2 ^ 16)) 0 0] : List Instr).all (fun i => !i.wf) = true := by decide +kernel

/-- One operand at a time breaks its check. -/
theorem test_wf_refuses1 : (
    [.flushInv (.dict 2) 0 0, .flushInv .firmware 3 0, .flushInv .firmware 0 64, .inv (.host (2 ^ 16)) 0 0,
      .inv (.dict 2) 0 0, .inv .firmware 3 0, .inv .firmware 0 64, .srmapRelease (.host (2 ^ 16)), .srmapRelease (.dict 2),
      .benchCommandIssue 9 0, .benchCommandIssue 0 2, .bankRefresh 9 0 0, .bankRefresh 0 2 0, .bankRefresh 0 0 32,
      .pageIdleClose 9 0 0, .pageIdleClose 0 2 0, .pageIdleClose 0 0 32, .trTaskAged 9 0 0, .trTaskAged 0 2 0,
      .trTaskAged 0 0 32, .trWindowReset 9 0 0, .trWindowReset 0 2 0, .trWindowReset 0 0 32, .trWarmupEnd 9,
      .tempEstimateTimeout 9, .patrolReadDone 9 [], .patrolReadDone 0 [⟨18, none⟩], .patrolReadDone 0 [⟨0, some []⟩],
      .levelPauseEnd [9], .canaryEntryDone 9 [], .canaryEntryDone 0 [256 * 9216], .canaryExitCheck 9 [],
      .canaryExitCheck 0 [256 * 9216], .sweepPositionDone 64, .remapWrite (.host (2 ^ 16)) 0 0,
      .remapWrite (.dict 2) 0 0, .remapWrite .firmware 9 0, .remapWrite .firmware 0 (2 ^ 32), .idleFrame 9 false ⟨0, 0, [], []⟩,
      .idleFrame 0 false ⟨2 ^ 16, 0, [], []⟩, .idleFrame 0 false ⟨0, 2 ^ 24, [], []⟩,
      .idleFrame 0 false ⟨0, 0, List.replicate 129 0#8, []⟩, .replayFrame 9 false ⟨0, 0, [], []⟩,
      .replayFrame 0 false ⟨2 ^ 16, 0, [], []⟩, .replayFrame 0 false ⟨0, 2 ^ 24, [], []⟩,
      .replayFrame 0 false ⟨0, 0, List.replicate 129 0#8, []⟩, .reqFrame 9 ⟨0, 0, [], []⟩, .reqFrame 0 ⟨2 ^ 16, 0, [], []⟩,
      .reqFrame 0 ⟨0, 2 ^ 24, [], []⟩, .reqFrame 0 ⟨0, 0, List.replicate 129 0#8, []⟩, .wdataL 9 ⟨0, 0, [], []⟩,
      .wdataL 0 ⟨2 ^ 16, 0, [], []⟩, .wdataL 0 ⟨0, 2 ^ 24, [], []⟩, .wdataL 0 ⟨0, 0, List.replicate 129 0#8, []⟩, .wdataU 9 ⟨0, 0, [], []⟩,
      .wdataU 0 ⟨2 ^ 16, 0, [], []⟩, .wdataU 0 ⟨0, 2 ^ 24, [], []⟩, .wdataU 0 ⟨0, 0, List.replicate 129 0#8, []⟩, .rdataL 9 ⟨0, 0, [], []⟩,
      .rdataL 0 ⟨2 ^ 16, 0, [], []⟩, .rdataL 0 ⟨0, 2 ^ 24, [], []⟩, .rdataL 0 ⟨0, 0, List.replicate 129 0#8, []⟩, .rdataU 9 ⟨0, 0, [], []⟩,
      .rdataU 0 ⟨2 ^ 16, 0, [], []⟩, .rdataU 0 ⟨0, 2 ^ 24, [], []⟩, .rdataU 0 ⟨0, 0, List.replicate 129 0#8, []⟩,
      .sideFrame 9 false ⟨0, 0, [], []⟩] : List Instr).all (fun i => !i.wf) = true := by decide +kernel

/-- One operand at a time breaks its check. -/
theorem test_wf_refuses2 : (
    [.sideFrame 0 false ⟨2 ^ 16, 0, [], []⟩, .sideFrame 0 false ⟨0, 2 ^ 24, [], []⟩,
      .sideFrame 0 false ⟨0, 0, List.replicate 129 0#8, []⟩, .regRd 9 ⟨0, 0, [], []⟩, .regRd 0 ⟨2 ^ 16, 0, [], []⟩,
      .regRd 0 ⟨0, 2 ^ 24, [], []⟩, .regRd 0 ⟨0, 0, List.replicate 129 0#8, []⟩, .regWr 9 ⟨0, 0, [], []⟩, .regWr 0 ⟨2 ^ 16, 0, [], []⟩,
      .regWr 0 ⟨0, 2 ^ 24, [], []⟩, .regWr 0 ⟨0, 0, List.replicate 129 0#8, []⟩, .regRsp 9 ⟨0, 0, [], []⟩, .regRsp 0 ⟨2 ^ 16, 0, [], []⟩,
      .regRsp 0 ⟨0, 2 ^ 24, [], []⟩, .regRsp 0 ⟨0, 0, List.replicate 129 0#8, []⟩, .tempFrame 9 ⟨0, 0, [], []⟩,
      .tempFrame 0 ⟨2 ^ 16, 0, [], []⟩, .tempFrame 0 ⟨0, 2 ^ 24, [], []⟩, .tempFrame 0 ⟨0, 0, List.replicate 129 0#8, []⟩,
      .tokensFrame 9 ⟨0, 0, [], []⟩, .tokensFrame 0 ⟨2 ^ 16, 0, [], []⟩, .tokensFrame 0 ⟨0, 2 ^ 24, [], []⟩,
      .tokensFrame 0 ⟨0, 0, List.replicate 129 0#8, []⟩, .grantFrame 9 ⟨0, 0, [], []⟩, .grantFrame 0 ⟨2 ^ 16, 0, [], []⟩,
      .grantFrame 0 ⟨0, 2 ^ 24, [], []⟩, .grantFrame 0 ⟨0, 0, List.replicate 129 0#8, []⟩, .patrolRpt 9 ⟨0, 0, [], []⟩,
      .patrolRpt 0 ⟨2 ^ 16, 0, [], []⟩, .patrolRpt 0 ⟨0, 2 ^ 24, [], []⟩, .patrolRpt 0 ⟨0, 0, List.replicate 129 0#8, []⟩,
      .canaryFrame 9 ⟨0, 0, [], []⟩, .canaryFrame 0 ⟨2 ^ 16, 0, [], []⟩, .canaryFrame 0 ⟨0, 2 ^ 24, [], []⟩,
      .canaryFrame 0 ⟨0, 0, List.replicate 129 0#8, []⟩, .holdFrame 9 ⟨0, 0, [], []⟩, .holdFrame 0 ⟨2 ^ 16, 0, [], []⟩,
      .holdFrame 0 ⟨0, 2 ^ 24, [], []⟩, .holdFrame 0 ⟨0, 0, List.replicate 129 0#8, []⟩, .pauseFrame 9 ⟨0, 0, [], []⟩,
      .pauseFrame 0 ⟨2 ^ 16, 0, [], []⟩, .pauseFrame 0 ⟨0, 2 ^ 24, [], []⟩, .pauseFrame 0 ⟨0, 0, List.replicate 129 0#8, []⟩,
      .retainFrame 9 ⟨0, 0, [], []⟩, .retainFrame 0 ⟨2 ^ 16, 0, [], []⟩, .retainFrame 0 ⟨0, 2 ^ 24, [], []⟩,
      .retainFrame 0 ⟨0, 0, List.replicate 129 0#8, []⟩, .readyFrame 9 ⟨0, 0, [], []⟩, .readyFrame 0 ⟨2 ^ 16, 0, [], []⟩,
      .readyFrame 0 ⟨0, 2 ^ 24, [], []⟩, .readyFrame 0 ⟨0, 0, List.replicate 129 0#8, []⟩, .shaftCrcFail 9 false,
      .reservedFrame 9 false 0, .reservedFrame 0 false 256, .replayTimeout 9 false, .recoveryDone 9 [] [],
      .recoveryDone 0 [76] [], .recoveryDone 0 [] [76], .recoveryTimeout 9, .lockLoss 9, .regAccessTimeout 9, .refLock 9 0,
      .refLock 0 4, .prbsTx 9, .phaseSweep 9, .slip 9, .frameAlign 9] : List Instr).all (fun i => !i.wf) = true := by decide +kernel

/-- One operand at a time breaks its check. -/
theorem test_wf_refuses3 : (
    [.scrSync 9, .prbsCheck 9, .enterService 9, .trainStepDone 9 [], .trainStepDone 0 [(153, 0)],
      .failedLanesWrite (.host (2 ^ 16)) 0 0, .failedLanesWrite (.dict 2) 0 0, .failedLanesWrite .firmware (2 ^ 26) 0,
      .failedLanesWrite .firmware 2 0, .failedLanesWrite .firmware 0 (2 ^ 32), .dspreadEnWrite (.host (2 ^ 16)) 0,
      .dspreadEnWrite (.dict 2) 0, .dspreadEnWrite .firmware (2 ^ 32), .bar2Read ⟨0, 4097, 0, 0, none, false⟩,
      .bar2Read ⟨0, 4, 2 ^ 16, 0, none, false⟩, .bar2Read ⟨0, 4, 0, 2 ^ 14, none, false⟩,
      .bar2Write ⟨0, List.replicate 4097 none, 0, none, false, false⟩, .bar2Write ⟨0, [], 2 ^ 16, none, false, false⟩,
      .registerWrite (.host (2 ^ 16)) .bar0 0 0 0 false, .registerWrite (.dict 2) .bar0 0 0 0 false,
      .registerWrite .firmware .bar0 (2 ^ 26) 0 0 false, .registerWrite .firmware .bar0 2 0 0 false,
      .registerWrite .firmware .bar0 0 (2 ^ 64) 0 false, .registerWrite .firmware .bar0 0 0 256 false,
      .unsupportedRequest 4 0 0 0 false, .unsupportedRequest 0 (2 ^ 64) 0 0 false, .unsupportedRequest 0 0 (2 ^ 16) 0 false,
      .unsupportedRequest 0 0 0 (2 ^ 14) false, .viologClear (.host (2 ^ 16)), .viologClear (.dict 2),
      .haulCompletionRx (2 ^ 14) 0 false [], .haulCompletionRx 0 8 false [],
      .haulCompletionRx 0 0 false (List.replicate 4097 0#8), .completionTimeout (2 ^ 14), .doorbell (.host (2 ^ 16)) 0 0,
      .doorbell (.dict 2) 0 0, .doorbell .firmware 64 0, .doorbell .firmware 0 (2 ^ 32), .descriptorFetched 64, .nop 64,
      .copy 64, .fill 64, .digest 64, .encode 64, .verify 64, .rebuild 64, .fence 64, .ledgerReadDone 64, .pass1Done 64,
      .pass2Done 64, .commit (.host (2 ^ 16)) 0, .commit (.dict 2) 0, .commit .firmware 64, .handOver 64,
      .channelEnable (.host (2 ^ 16)) 0, .channelEnable (.dict 2) 0, .channelEnable .firmware 64,
      .channelDisable (.host (2 ^ 16)) 0, .channelDisable (.dict 2) 0, .channelDisable .firmware 64,
      .haulReset (.host (2 ^ 16)), .haulReset (.dict 2), .ledgerEnWrite (.host (2 ^ 16)) 0, .ledgerEnWrite (.dict 2) 0,
      .ledgerEnWrite .firmware (2 ^ 32), .ledgerRegionWrite (.host (2 ^ 16)) 0 0, .ledgerRegionWrite (.dict 2) 0 0] : List Instr).all (fun i => !i.wf) = true := by decide +kernel

/-- One operand at a time breaks its check. -/
theorem test_wf_refuses4 : (
    [.ledgerRegionWrite .firmware (2 ^ 26) 0, .ledgerRegionWrite .firmware 2 0, .ledgerRegionWrite .firmware 0 (2 ^ 32),
      .labelCfgWrite (.host (2 ^ 16)) 0 0, .labelCfgWrite (.dict 2) 0 0, .labelCfgWrite .firmware 64 0,
      .labelCfgWrite .firmware 0 (2 ^ 32), .ceilingWrite (.host (2 ^ 16)) 0, .ceilingWrite (.dict 2) 0,
      .ceilingWrite .firmware (2 ^ 32), .windowWrite (.host (2 ^ 16)) 0, .windowWrite (.dict 2) 0,
      .windowWrite .firmware (2 ^ 32), .reqDoze (.host (2 ^ 16)), .reqDoze (.dict 2), .reqRest (.host (2 ^ 16)),
      .reqRest (.dict 2), .reqEmber (.host (2 ^ 16)), .reqEmber (.dict 2), .perfLimitWrite (.host (2 ^ 16)) 0,
      .perfLimitWrite (.dict 2) 0, .perfLimitWrite .firmware (2 ^ 32), .sensorSuspect 44, .sensorRestored 44,
      .celogClear (.host (2 ^ 16)), .celogClear (.dict 2), .uelogClear (.host (2 ^ 16)), .uelogClear (.dict 2),
      .stickyClear (.host (2 ^ 16)) 0 0, .stickyClear (.dict 2) 0 0, .stickyClear .firmware 4 0,
      .stickyClear .firmware 0 (2 ^ 32), .fenceRelease (.host (2 ^ 16)) 0, .fenceRelease (.dict 2) 0,
      .fenceRelease .firmware (2 ^ 32), .reactWrite (.host (2 ^ 16)) 0 0, .reactWrite (.dict 2) 0 0,
      .reactWrite .firmware 16 0, .reactWrite .firmware 0 (2 ^ 32), .faultLock (.host (2 ^ 16)), .faultLock (.dict 2),
      .shadowEnd 14, .injectShaftCrc (.host (2 ^ 16)) 0 0 0, .injectShaftCrc (.dict 2) 0 0 0,
      .injectShaftCrc .firmware 9 0 0, .injectShaftCrc .firmware 0 2 0, .injectShaftCrc .firmware 0 0 256,
      .injectInnerCrc (.host (2 ^ 16)) 0 0, .injectInnerCrc (.dict 2) 0 0, .injectInnerCrc .firmware 18 0,
      .injectInnerCrc .firmware 0 256, .injectSlabSyndrome (.host (2 ^ 16)) 0, .injectSlabSyndrome (.dict 2) 0,
      .injectSlabSyndrome .firmware 256, .injectSramEcc (.host (2 ^ 16)) 0 false 0, .injectSramEcc (.dict 2) 0 false 0,
      .injectSramEcc .firmware 32 false 0, .injectSramEcc .firmware 0 false 256, .injectFuseEcc (.host (2 ^ 16)),
      .injectFuseEcc (.dict 2), .injectRlCrc (.host (2 ^ 16)) 0, .injectRlCrc (.dict 2) 0, .injectRlCrc .firmware 256,
      .csMemMarchDone [2 ^ 18], .serviceEnter (.host (2 ^ 16)), .serviceEnter (.dict 2), .serviceExit (.host (2 ^ 16))] : List Instr).all (fun i => !i.wf) = true := by decide +kernel

/-- One operand at a time breaks its check. -/
theorem test_wf_refuses5 : (
    [.serviceExit (.dict 2), .lbistBase (.host (2 ^ 16)), .lbistBase (.dict 2), .sramBase (.host (2 ^ 16)),
      .sramBase (.dict 2), .lbistBench (.host (2 ^ 16)) 0, .lbistBench (.dict 2) 0, .lbistBench .firmware 9,
      .marchFull (.host (2 ^ 16)), .marchFull (.dict 2), .marchBank (.host (2 ^ 16)) 0 0, .marchBank (.dict 2) 0 0,
      .marchBank .firmware 18 0, .marchBank .firmware 0 64, .shaftPrbs (.host (2 ^ 16)) 0, .shaftPrbs (.dict 2) 0,
      .shaftPrbs .firmware 9, .testDone [(2 ^ 18, 0, 0)], .testDone [] (some 9), .calSensors (.host (2 ^ 16)), .calSensors (.dict 2),
      .calMonitors (.host (2 ^ 16)), .calMonitors (.dict 2), .calShaft (.host (2 ^ 16)) 0, .calShaft (.dict 2) 0,
      .calShaft .firmware 9, .calDriver (.host (2 ^ 16)) 0, .calDriver (.dict 2) 0, .calDriver .firmware 9,
      .calRunDone [(4096, 0#8)], .calApply (.host (2 ^ 16)), .calApply (.dict 2), .calReload (.host (2 ^ 16)),
      .calReload (.dict 2), .calSave (.host (2 ^ 16)), .calSave (.dict 2), .fuseSensingDone [⟨137, 0, 0, 0⟩],
      .fuseSensingDone [⟨0, 2, 0, 0⟩], .fuseSensingDone [⟨0, 0, 3, 0⟩], .fuseSensingDone [⟨0, 0, 0, 2 ^ 72⟩],
      .fuseRead (.host (2 ^ 16)) 0 [], .fuseRead (.dict 2) 0 [], .fuseRead .firmware (2 ^ 32) [], .fuseRead .firmware 0 [⟨137, 0, 0, 0⟩], .burnUnlock (.host (2 ^ 16)) 0,
      .burnUnlock (.dict 2) 0, .burnUnlock .firmware (2 ^ 32), .wordBurn (.host (2 ^ 16)) 0, .wordBurn (.dict 2) 0,
      .wordBurn .firmware 126, .sealBurn (.host (2 ^ 16)) 0, .sealBurn (.dict 2) 0, .sealBurn .firmware 9,
      .forceLock (.host (2 ^ 16)) 0, .forceLock (.dict 2) 0, .forceLock .firmware 9, .rollbackBurn (.host (2 ^ 16)) 126,
      .rollbackBurn (.dict 2) 126, .rollbackBurn .firmware 125, .rollbackBurn .firmware 128, .burnDone (2 ^ 72) 0,
      .burnDone 0 (2 ^ 72), .forceArm (.host (2 ^ 16)) 0, .forceArm (.dict 2) 0, .forceArm .firmware 9,
      .overrideSet (.host (2 ^ 16)) 0, .overrideSet (.dict 2) 0, .overrideSet .firmware 128,
      .overrideClear (.host (2 ^ 16)) 0] : List Instr).all (fun i => !i.wf) = true := by decide +kernel

/-- One operand at a time breaks its check. -/
theorem test_wf_refuses6 : (
    [.overrideClear (.dict 2) 0, .overrideClear .firmware 128, .coreReset (.host (2 ^ 16)), .coreReset (.dict 2),
      .logPersist (.host (2 ^ 16)), .logPersist (.dict 2), .read 2 [], .read 0 (List.replicate 4113 0#8),
      .read 1 (List.replicate 257 0#8), .write 2 [], .write 0 (List.replicate 4113 0#8), .write 1 (List.replicate 257 0#8),
      .readSegInit 2 [], .readSegInit 0 (List.replicate 4113 0#8), .readSegInit 1 (List.replicate 257 0#8), .readSeg 2 [],
      .readSeg 0 (List.replicate 4113 0#8), .readSeg 1 (List.replicate 257 0#8), .writeSegInit 2 [],
      .writeSegInit 0 (List.replicate 4113 0#8), .writeSegInit 1 (List.replicate 257 0#8), .writeSeg 2 [],
      .writeSeg 0 (List.replicate 4113 0#8), .writeSeg 1 (List.replicate 257 0#8), .abort 2 [],
      .abort 0 (List.replicate 4113 0#8), .abort 1 (List.replicate 257 0#8), .dictportAbort (.host (2 ^ 16)),
      .dictportAbort (.dict 2), .transferTimeout 2, .wakePortPointer 256, .beacon 0 shortSync.note 0 shortSync.hdr shortSync.pay, .dictReq shortSync.note shortSync.hdr shortSync.pay, .wakeFrame shortSync.note shortSync.hdr shortSync.pay,
      .assign shortSync.note shortSync.hdr shortSync.pay, .rlCrcFail shortSync.note shortSync.hdr shortSync.pay, .linkTestSlot (some shortSync), .rlDiscardedFrame shortSync.note shortSync.hdr shortSync.pay,
      .rlCrcFail ⟨[], ⟨syncSymbols, []⟩⟩ silence.hdr, .rlCrcFail ⟨[], ⟨List.replicate 48 2, List.replicate 48 0⟩⟩ silence.hdr,
      .rlCrcFail silence.note (List.replicate 103 0), .rlCrcFail silence.note (List.replicate 104 2),
      .rlCrcFail silence.note silence.hdr (List.replicate 2783 0), .rlCrcFail silence.note silence.hdr [2],
      .rlCrcFail ⟨[⟨shortSync.sync, []⟩], silence.sync⟩ silence.hdr,
      .rlCrcFail ⟨[⟨silence.sync, List.replicate 105 0⟩], silence.sync⟩ silence.hdr, .lanternPor 8,
      .baseReset (.host (2 ^ 16)) 0, .baseReset (.dict 2) 0, .baseReset .firmware (2 ^ 32),
      .eventEnWrite (.host (2 ^ 16)) 0 0, .eventEnWrite (.dict 2) 0 0, .eventEnWrite .firmware (2 ^ 26) 0,
      .eventEnWrite .firmware 2 0, .eventEnWrite .firmware 0 (2 ^ 32), .regRd 0 ⟨0, 0, [], [(76, [])]⟩, .idleFrame 0 false ⟨0, 0, [], [(76, [])]⟩, .stuffingViolation 9 false 0,
      .stuffingViolation 0 false 76, .benchReadyTimeout 9, .checkerFault 128 0 0,
      .checkerFault 0 (2 ^ 27) 0, .checkerFault 0 0 (2 ^ 32), .dlUp 8 0 false, .dlUp 0 17 false,
      .tapInstruction 256] : List Instr).all (fun i => !i.wf) = true := by decide +kernel

/-! ### The spec's worked examples

Every value on the right of a test below is one the spec prints. -/

/-- R54: columns 0 and 1 of slab 22, whose data portions 0 and 1 begin 48 53 and 16 28: P begins E4 56 and Q begins BA 2D. -/
theorem test_slab22_checks :
    checkCols ([0x48, 0x53] :: [0x16, 0x28] :: List.replicate 14 [0#8, 0#8]) = ([0xE4, 0x56], [0xBA, 0x2D]) := by decide +kernel

/-- R55, R57: side bytes 4 to 15 of slab 22 on ML0, on ML8 (P) and on ML9 (Q). -/
theorem test_slab22_sides :
    slice (portion 0 22 (codePos 9 22 0) [] 0 0x12C4A 0) 4 12 =
      [0, 0, 0, 0, 0x4A, 0x2C, 0x01, 0x00, 0x36, 0x75, 0xC4, 0x98] ∧
    slice (portion 8 22 (codePos 9 22 8) [] 0 0x12C4A 0) 4 12 =
      [0, 0, 0, 0, 0x4A, 0x2C, 0x01, 0x01, 0x36, 0x75, 0xC4, 0xD8] ∧
    slice (portion 9 22 (codePos 9 22 9) [] 0 0x12C4A 0) 4 12 =
      [0, 0, 0, 0, 0x4A, 0x2C, 0x01, 0x03, 0x36, 0x75, 0xC4, 0x60] := by decide +kernel

/-- The syndromes of columns 0 and 1 of slab 22 with positions 2 and 3 erased. -/
theorem test_slab22_syndromes :
    let word := [[0xE4, 0x56], [0xBA, 0x2D]] ++ List.replicate 16 [0#8, 0#8]
    sumCols word = [0x5E, 0x7B] ∧ wsumCols word = [0x8D, 0x0C] := by decide +kernel

/-- The host-access example: the place of slab 0x0246_8ACF, its check bench and its data portion 1. -/
theorem test_slab_location :
    let l := locOf false 0x02468ACF
    colOf l = 7 ∧ field l 3 1 = 1 ∧ field l 4 2 = 0 ∧ field l 6 3 = 3 ∧ rowOf l = 0x12345 ∧ checkBench 9 0x02468ACF = 0 ∧
      layerAt 9 0x02468ACF 3 = 3 := by decide +kernel

/-- The canary example: the data portions that ML0, ML5 and ML12 carry of slabs 152 and 153. -/
theorem test_canary_places :
    [0, 5, 12].map (codePos 9 152) = [2, 7, 14] ∧ [0, 5, 12].map (codePos 9 153) = [0, 5, 12] := by decide +kernel

/-- The coding examples: the stripe of three data and two check fragments. -/
def frag (a b c d : Byte) : List Byte := [a, b, c, d, 0#8, 0#8]
def stripe : List (List Byte) := [frag 0x01 0x02 0x04 0x08, frag 0x10 0x20 0x03 0x00, frag 0x00 0x01 0x05 0x02]

/-- R215: the check fragments. -/
theorem test_check_fragments :
    checkFrags 3 2 6 stripe = [frag 0x75 0xAD 0x45 0x8A, frag 0xFC 0x42 0x79 0xA0] := by decide +kernel

/-- D0 and D2 rebuilt from D1, P0 and P1. -/
theorem test_rebuild :
    let data := rebuildData 3 2 6 [1, 3, 4] [frag 0x10 0x20 0x03 0x00, frag 0x75 0xAD 0x45 0x8A, frag 0xFC 0x42 0x79 0xA0]
    rebuildFrag 3 2 6 0 data = frag 0x01 0x02 0x04 0x08 ∧ rebuildFrag 3 2 6 2 data = frag 0x00 0x01 0x05 0x02 := by decide +kernel

/-- R353: the check of a region over "123456789", here through the Rack Link's CRC-32 of the same parameters. -/
theorem test_crc32_check : rackCrc [0x31, 0x32, 0x33, 0x34, 0x35, 0x36, 0x37, 0x38, 0x39] = leBytes 4 0xCBF43926 := by decide +kernel

/-- The FIELD word of the fuse example, whose low 48 bits name the repair of ML7, bank 1, row 565, spare 2. -/
theorem test_field_word :
    let w := 0x00010046A81D + 2 ^ 48 * crc16 (leBytes 6 0x00010046A81D)
    (fieldRecord w).map (fun r => (r.unit, r.remap)) = some (7, ⟨7, 1, 2, 565⟩) := by decide +kernel

/-- Bytes 4 to 9 of the ROW record of the repair example. -/
theorem test_row_record :
    ((fieldRecord (0x00010046A81D + 2 ^ 48 * crc16 (leBytes 6 0x00010046A81D))).map fun r =>
      leBytes 1 r.unit ++ leBytes 1 r.a ++ leBytes 3 r.b ++ leBytes 1 r.spare) = some [0x07, 0x10, 0x35, 0x02, 0x00, 0x02] := by
  decide +kernel

/-- Regulation and the governor as the cap example sets them. -/
def capped (target : Nat) : State :=
  put { on with regul := { RegulSt.reset with
      first := false, started := 5000
      budgets := (List.range 64).map fun l =>
        if l = 5 then 4000 else if l = 7 then 8000 else if l = 20 then 12000 else if l = 62 then 8 else 0 } } ([(R.REG_CTRL_WINDOW, [], 1), (R.REG_FIXED_PREV_UNITS, [], 1000), (R.THERMAL_TARGET, [], target),
    (R.REG_LABEL_CFG_BUDGET, [5], 4000), (R.REG_LABEL_CFG_BUDGET, [7], 8000), (R.REG_LABEL_CFG_BUDGET, [20], 12000),
    (R.REG_LABEL_CFG_BUDGET, [62], 8)] ++ [1, 40].map fun l => (R.REG_LABEL_CFG_FIXED, [l], 1))

/-- R286, R288: D of P0 to P3 at 30 W and at 15 W, and the level chosen. -/
theorem test_governor_d :
    (List.range 4).map (capped 300).levelD = [30000, 42400, 33875, 16438] ∧ (capped 300).levelChoice 0 = 0 ∧
    (List.range 4).map (capped 150).levelD = [3750, 10150, 18000, 16438] ∧ (capped 150).levelChoice 0 = 2 := by decide +kernel

/-- R241: label 20's share of a window of D = 18,000 against G = 24,008. -/
theorem test_proration :
    (({ capped 150 with regul := { (capped 150).regul with prevD := 18000, first := true } } : State).newWindow.rd
      R.REG_LABEL_EFF_UNITS [20]) = 8997 := by decide +kernel

/-- R391: the header of the budget write and of its response, as the port's registers show them. -/
theorem test_dictionary_headers :
    mBudget.take 8 = [0x02, 0x17, 0x01, 0x13, 0x06, 0x00, 0x04, 0x00] ∧
    leNat ((drspOk (dreqOf mBudget) 4 0 []).take 4) = 0x13011782 ∧
    leNat (slice (drspOk (dreqOf mBudget) 4 0 []) 4 4) = 0x0406 := by decide +kernel

/-- Table 17.2: the bytes of a boot header with SEQ 5 and image B on trial, which read back; one byte changed, it is not valid. -/
theorem test_boot_header :
    let b := (⟨5, 1, true, 0⟩ : BootHdr).bytes
    b.take 12 = [0x48, 0x42, 0x4C, 0x54, 5, 0, 0, 0, 1, 1, 0, 0] ∧ bootHdrOf b = some ⟨5, 1, true, 0⟩ ∧
      bootHdrOf (b.set 8 0#8) = none := by decide +kernel

/-- Table 18.7: a saved-values copy with SEQ 9 and 0x1301:06 at 4,000, which reads back. -/
theorem test_saved_copy :
    let c : SavedCopy := ⟨9, [⟨0x1301, 6, 4, [0xA0, 0x0F, 0, 0]⟩]⟩
    c.bytes.take 12 = [0x54, 0x4C, 0x44, 0x56, 9, 0, 0, 0, 1, 0, 1, 0].map (BitVec.ofNat 8) ∧ c.bytes.drop 16 =
      [0x01, 0x13, 6, 4, 4, 0, 0, 0, 0xA0, 0x0F, 0, 0, 0, 0, 0, 0] ∧ savedCopyOf c.bytes = some c := by decide +kernel

/-- R389: a holder of 19,991 ticks keeps the token against a claim; one of 20,001 loses it. -/
theorem test_seizure :
    ((claimed 0 2 19991).claimDecision).dict.holder = 2 ∧ ((claimed 0 2 20001).claimDecision).dict.holder = 1 := by decide +kernel

/-- A tie goes to the rack manager. -/
theorem test_tie :
    (withDict (held 0) fun x => { x with claims := [⟨0, mClaim 1#8⟩, ⟨1, mClaim 2#8⟩] }).claimDecision.dict.holder = 2 := by
  decide +kernel

/-- The split of a 256-byte read whose first sector is poisoned. -/
theorem test_read_split :
    (readCompletions 512 ⟨0xB000, 256, 0, 0, none, false⟩ (List.replicate 256 7#8) (· == 0xB000 / 64)).map
      (fun c => (c.addr, c.byteCount, c.ep, c.data.length)) = [(0xB000, 256, true, 64), (0xB040, 192, false, 192)] := by decide +kernel

/-- Frame lengths in symbols: BEACON, a response of 18 bytes and STATUS. -/
theorem test_frame_lengths : [16, 18, 8].map frameSymbols = [406, 428, 320] := by decide +kernel

/-- The response of node 4: its header's first seven bytes, with LEN 18 and tick 6,000,132. -/
theorem test_rack_response_header :
    (frameBytes 0x20 4 3 (6000132 % 65536) (List.replicate 18 0#8)).take 7 = [0x20, 0x04, 0x03, 0x12, 0x00, 0x04, 0x8E] := by
  decide +kernel

/-- The link recovery example, bench 5 upward: with lanes 40 and 7 failed, logical 0 to 6 are on physical 0 to 6, 7 to 38 on 8 to
39, 39 to 67 on 41 to 69, and six spares are left. -/
theorem test_shaft_lane_map :
    let s := (put on [(R.SHAFT_FAILED_UP_LANES, [5, 7], 1), (R.SHAFT_FAILED_UP_LANES, [5, 40], 1)]).applyMap 5
    [6, 8, 39, 41, 69].map (fun l => s.rd R.SHAFT_LANE_LOGICAL [5, 1, l]) = [6, 7, 38, 39, 67] ∧
      [7, 40, 69, 70].map (fun l => s.rd R.SHAFT_LANE_MAPPED [5, 1, l]) = [0, 0, 1, 0] ∧
      s.rd R.SHAFT_LINK_STATUS_SPARES_UP [5] = 6 := by decide +kernel

/-- The same example: 68 good lanes still run at width 64, 67 at width 32. -/
theorem test_width_codes : [74, 68, 67].map widthCode = [0, 0, 1] := by decide +kernel

/-- A shift that ends in DRAINED returns to IDLE with ARM clear. -/
theorem test_shift_end :
    Leads .shiftEnd (put (shift 4 0 5000) [(R.TIME_SHIFT_CTRL_ARM, [], 1)]) fun t =>
      t.rd R.TIME_SHIFT_STATUS_STATE = 0 ∧ t.rd R.TIME_SHIFT_CTRL_ARM = 0 := by
  exact ⟨_, rfl, by decide +kernel⟩

/-! ### Hypotheses met: the statements about every step and every slab -/

/-- A state with a command in front. -/
def asking (c : Instr) : State := { on with pending := [c, .flushDone] }

theorem witness_StepTakesFront : ∃ (s : State) (c : Instr) (cs : List Instr), s.pending = c :: cs :=
  ⟨asking .shiftStart, _, _, rfl⟩

theorem witness_EveryStepGoesOn : ∃ s : State, s.pending = [] := ⟨State.reset, rfl⟩

theorem witness_CommandKeepsQueue : ∃ (c : Instr) (s t : State), exec c s = .next t ∧ s.pending = [.flushDone] :=
  ⟨.faultLock .firmware, { on with pending := [.flushDone] }, _, rfl, rfl⟩

theorem witness_ReactionsStayLegal :
    ∃ s t : State, ReactLegal s ∧ step s = .next t ∧ s.rd R.FAULT_REACT_REACTION [5] ≠ t.rd R.FAULT_REACT_REACTION [5] := by
  refine ⟨asking (.reactWrite .firmware 0 0), _, ?_, rfl, by decide +kernel⟩
  unfold ReactLegal
  decide +kernel

theorem witness_EncodedSlabsAreCodewords :
    ∃ ds : List (List Byte), ds.length = 16 ∧ ∀ d ∈ ds, d.length = 128 :=
  ⟨List.replicate 16 (List.replicate 128 7#8), rfl, by decide +kernel⟩

theorem witness_AchkTellsPlacesApart :
    ∃ l s l' s' : Nat, l < 18 ∧ s < 2 ^ 27 ∧ l' < 18 ∧ s' < 2 ^ 27 ∧ achk l s = achk l' s' := by
  refine ⟨17, 2 ^ 27 - 1, 17, 2 ^ 27 - 1, ?_⟩
  decide +kernel

theorem witness_SlabsSurviveTwoErasures :
    ∃ (nb slab : Nat) (data : List Byte), (nb = 7 ∨ nb = 9) ∧ slab < 2 ^ 27 ∧ data.length = 128 * (2 * nb - 2) :=
  ⟨9, 2 ^ 27 - 1, List.replicate 2048 7#8, .inr rfl, by decide +kernel, by decide +kernel⟩

theorem witness_OtpBitsOnlyGain :
    ∃ (s t : State) (e copy i : Nat), step s = .next t ∧ (s.fuseCell e copy).testBit i = true := by
  refine ⟨{ burning with pending := [.burnDone 0xFF 0xFF] }, _, 1, 0, 16, rfl, ?_⟩
  decide +kernel

theorem witness_MemoryStaysCanonical :
    ∃ s t : State, Memory.wf s = true ∧ step s = .next t ∧ s.dram ≠ [] := by
  refine ⟨{ asking .clearDone with dram := [(5, 1#8), (7, 2#8)] }, _, ?_, rfl, by decide⟩
  decide +kernel

/-! ### Hypotheses met, statement by statement -/

/-- The hypotheses of TicksAreCounted are met, clause by clause. -/
theorem witness_TicksAreCounted :
    (∃ (s : State) (t : Nat), s.power.lanternUp = true ∧ s.rd R.TIME_STATUS_SOURCE = 0 ∧ s.time.lastEdge ≤ t ∧ s.time.lastTick
      + 9800 ≤ t ∧ t ≤ s.time.lastTick + 15000) ∧
    (∃ (s : State) (t : Nat), s.power.lanternUp = true ∧ s.rd R.TIME_STATUS_SOURCE = 0 ∧ s.time.lastEdge ≤ t ∧ s.time.lastTick
      ≤ t ∧ t < s.time.lastTick + 9800) ∧
    (∃ (s : State) (t : Nat), s.power.lanternUp = true ∧ s.rd R.TIME_STATUS_SOURCE = 0 ∧ s.time.lastTick + 15000 ≤ t) ∧
    (∃ (s : State) (t : Nat), s.power.lanternUp = true ∧ s.rd R.TIME_STATUS_SOURCE ≠ 0 ∧ s.time.train ≠ 8 ∧ s.time.nextFly ≤ t
      ∧ s.time.lastTick ≤ t) ∧
    (let Free := fun (s : State) (t : Nat) => s.power.lanternUp = true ∧ s.rd R.TIME_STATUS_SOURCE ≠ 0 ∧
      s.rd R.TIME_CTRL_PIN_EN = 1 ∧ s.time.lastEdge ≤ t ∧ s.time.lastTick ≤ t
     (∃ (s : State) (t : Nat), Free s t ∧ s.time.train < 7 ∧ t ≤ s.time.nextFly ∧ s.time.nextFly ≤ t + 2000) ∧
     (∃ (s : State) (t : Nat), Free s t ∧ s.time.train < 7 ∧ ¬ (t ≤ s.time.nextFly ∧ s.time.nextFly ≤ t + 2000)) ∧
     (∃ (s : State) (t : Nat), Free s t ∧ s.time.train = 8 ∧ s.time.lastTick + 5000 ≤ t ∧ t ≤ s.time.lastTick + 15000) ∧
     ∃ (s : State) (t : Nat), s.power.lanternUp = true ∧ s.time.train = 8 ∧ s.time.lastTick + 15000 ≤ t) := by
  refine ⟨⟨on, 109800, ?_⟩, ⟨on, 100000, ?_⟩, ⟨on, 115000, ?_⟩, ⟨flying, 100000, ?_⟩, ⟨flying, 100000, ?_⟩,
    ⟨flying, 102001, ?_⟩, ⟨withTime flying fun x => { x with train := 8 }, 105000, ?_⟩,
    ⟨withTime flying fun x => { x with train := 8 }, 115000, ?_⟩⟩ <;> decide +kernel

/-- The hypotheses of TimeSourceAndLoad are met, clause by clause. -/
theorem witness_TimeSourceAndLoad :
    (∃ (s : State), s.power.lanternUp = true ∧ s.rd R.TIME_STATUS_SOURCE ≠ 0 ∧ 1000 ≤ s.time.pinSilent) ∧
    (∃ (s : State), s.power.lanternUp = true ∧ s.rd R.TIME_STATUS_SOURCE = 1 ∧ 3000 ≤ s.time.beaconSilent) ∧
    (∃ (s : State) (src : RegSrc), (s.inbound src).live 3 = true) := by
  refine ⟨⟨(flying), ?_⟩, ⟨(beaconed), ?_⟩, ⟨(on), (.host 7), ?_⟩⟩ <;> decide +kernel

/-- The hypotheses of ScheduleActs are met, clause by clause. -/
theorem witness_ScheduleActs :
    (∃ (s : State) (i : Nat), i < 64 ∧ s.power.lanternUp = true ∧ s.schedDue i = true ∧ (∀ j, j < i → s.schedDue j = false) ∧
      (s.rd R.TIME_SCHED_ACTION [i]) = 0 ∧ s.pstate < 2 ∧ s.power.granted.contains 1 = false) ∧
    (∃ (s : State) (i : Nat), i < 64 ∧ s.power.lanternUp = true ∧ s.schedDue i = true ∧ (∀ j, j < i → s.schedDue j = false) ∧
      (s.rd R.TIME_SCHED_ACTION [i]) = 1 ∧ s.pstate = 3 ∧ s.power.seq = .idle ∧ s.thermal.trip = none ∧ (s.rd
      R.POWER_WAKE_EN_EN).testBit 2 = true) ∧
    (∃ (s : State) (i : Nat), i < 64 ∧ s.power.lanternUp = true ∧ s.schedDue i = true ∧ (∀ j, j < i → s.schedDue j = false) ∧
      (s.rd R.TIME_SCHED_ACTION [i]) = 2 ∧ (s.rd R.TIME_SCHED_ARG [i]) = 1 ∧ s.power.granted.contains 1 = false ∧ s.pstate = 0 ∧ s.power.seq = .idle ∧ s.shiftState
      ≠ 3 ∧ s.haulBusy = false) ∧
    (∃ (s : State) (i : Nat), i < 64 ∧ s.power.lanternUp = true ∧ s.schedDue i = true ∧ (∀ j, j < i → s.schedDue j = false) ∧
      (s.rd R.TIME_SCHED_ACTION [i]) = 3 ∧ (s.rd R.TIME_SCHED_ARG [i]) < 512 ∧ s.pstate < 2 ∧ s.power.granted.contains 1 = false) ∧
    (∃ (s : State) (i : Nat), i < 64 ∧ s.power.lanternUp = true ∧ s.schedDue i = true ∧ (∀ j, j < i → s.schedDue j = false) ∧
      (s.rd R.TIME_SCHED_ACTION [i]) = 4 ∧ s.live 3 = true ∧ s.pstate < 2) ∧
    (∃ (s : State) (i : Nat), i < 64 ∧ s.power.lanternUp = true ∧ s.schedDue i = true ∧ (∀ j, j < i → s.schedDue j = false) ∧
      (s.rd R.TIME_SCHED_ACTION [i]) = 5 ∧ s.pstate < 2 ∧ s.power.granted.contains 1 = false) ∧
    (∃ (s : State) (i : Nat), i < 64 ∧ s.power.lanternUp = true ∧ s.schedDue i = true ∧ (∀ j, j < i → s.schedDue j = false) ∧
      (s.rd R.TIME_SCHED_ACTION [i]) = 6 ∧ s.pstate < 2 ∧ s.power.granted.contains 1 = false) ∧
    (∃ (s : State) (i : Nat), i < 64 ∧ s.power.lanternUp = true ∧ s.schedDue i = true ∧ (∀ j, j < i → s.schedDue j = false) ∧
      (2 ≤ s.pstate ∨ s.power.granted.contains 1 = true) ∧ s.rd R.TIME_SCHED_ACTION [i] = 0) ∧
    (∃ (s : State) (i : Nat), i < 64 ∧ s.power.lanternUp = true ∧ s.schedDue i = true ∧ (∀ j, j < i → s.schedDue j = false) ∧
      (2 ≤ s.pstate ∨ s.power.granted.contains 1 = true) ∧ s.rd R.TIME_SCHED_ACTION [i] = 2) ∧
    (∃ (s : State) (i : Nat), i < 64 ∧ s.power.lanternUp = true ∧ s.schedDue i = true ∧ (∀ j, j < i → s.schedDue j = false) ∧
      (2 ≤ s.pstate ∨ s.power.granted.contains 1 = true) ∧ s.rd R.TIME_SCHED_ACTION [i] = 3) ∧
    (∃ (s : State) (i : Nat), i < 64 ∧ s.power.lanternUp = true ∧ s.schedDue i = true ∧ (∀ j, j < i → s.schedDue j = false) ∧
      (2 ≤ s.pstate ∨ s.power.granted.contains 1 = true) ∧ s.rd R.TIME_SCHED_ACTION [i] = 5) ∧
    (∃ (s : State) (i : Nat), i < 64 ∧ s.power.lanternUp = true ∧ s.schedDue i = true ∧ (∀ j, j < i → s.schedDue j = false) ∧
      (2 ≤ s.pstate ∨ s.power.granted.contains 1 = true) ∧ s.rd R.TIME_SCHED_ACTION [i] = 6) := by
  refine ⟨⟨(due on 0 0 0), 0, ?_⟩, ⟨(due ember 1 1 0), 1, ?_⟩, ⟨(due on 2 2 1), 2, ?_⟩, ⟨(due on 3 3 511), 3, ?_⟩, ⟨(due on 63
    4 7), 63, ?_⟩, ⟨(due on 5 5 0), 5, ?_⟩, ⟨(due on 6 6 0), 6, ?_⟩, ⟨(due ember 0 0 1), 0, ?_⟩, ⟨(due ember 2 2 1), 2, ?_⟩,
    ⟨(due ember 3 3 1), 3, ?_⟩, ⟨(due ember 5 5 1), 5, ?_⟩, ⟨(due ember 6 6 1), 6, ?_⟩⟩ <;> decide +kernel

/-- The hypotheses of ArmedWritesAreGuarded are met, clause by clause. -/
theorem witness_ArmedWritesAreGuarded :
    (∃ (s : State) (src : RegSrc) (n : Nat), n < 64 ∧ (s.inbound src).live 3 = true ∧ (s.inbound src).rd R.TIME_SCHED_ARM [n]
      ≠ 1) ∧
    (∃ (s : State) (src : RegSrc) (n : Nat) (data : Nat), n < 64 ∧ (s.inbound src).live 3 = true ∧ (s.inbound src).rd
      R.TIME_SCHED_ARM [n] ≠ 1 ∧ schedLegal (data % 16) (data / 2 ^ 16 % 2 ^ 16) = true) ∧
    (∃ (s : State) (src : RegSrc) (n : Nat), n < 64 ∧ (s.inbound src).live 3 = true ∧ (s.inbound src).rd R.TIME_SCHED_ARM [n]
      = 1) ∧
    (∃ (s : State) (src : RegSrc), (s.inbound src).live 3 = true ∧ (s.inbound src).shiftState < 3) ∧
    (∃ (s : State) (src : RegSrc) (data : Nat), (s.inbound src).live 3 = true ∧ (s.inbound src).shiftState < 3 ∧ 10 ≤ data % 2
      ^ 14 ∧ data % 2 ^ 14 ≤ 10000) ∧
    (∃ (s : State) (src : RegSrc), (s.inbound src).live 3 = true ∧ 3 ≤ (s.inbound src).shiftState) := by
  refine ⟨⟨(on), (.host 7), 0, ?_⟩, ⟨(on), (.host 7), 0, 0, ?_⟩, ⟨(due on 0 0 0), (.host 7), 0, ?_⟩, ⟨(on), (.host 7), ?_⟩,
    ⟨(on), (.host 7), 63, ?_⟩, ⟨(shift 3 7 8), (.host 7), ?_⟩⟩ <;> decide +kernel

/-- The hypotheses of ShiftMoves are met, clause by clause. -/
theorem witness_ShiftMoves :
    (∃ (s : State) (src : RegSrc), ReactLegal s ∧ ReactLegal (s.inbound src) ∧ (s.inbound src).live 3 = true ∧ (s.inbound
      src).shiftState = 0 ∧ (s.inbound src).lead + 10 ≤ tickSub (s.inbound src).shiftEnd? (s.inbound src).shiftStart? ∧
      tickSub (s.inbound src).shiftEnd? (s.inbound src).shiftStart? < 2 ^ 47) ∧
    (∃ (s : State) (src : RegSrc), ReactLegal s ∧ ReactLegal (s.inbound src) ∧ (s.inbound src).live 3 = true ∧ (s.inbound
      src).shiftState = 1) ∧
    (∃ (s : State) (src : RegSrc), ReactLegal s ∧ ReactLegal (s.inbound src) ∧ (s.inbound src).live 3 = true ∧ (s.inbound
      src).shiftState = 2) ∧
    (∃ (s : State), ReactLegal s ∧ s.shiftState = 1 ∧ s.time.freshShift = false ∧ reached s.time.now s.shiftStart? = true ∧
      s.power.lanternUp = true ∧ (2 ≤ s.pstate ∨ s.power.seq ≠ .idle)) ∧
    (∃ (s : State), ReactLegal s ∧ s.shiftState = 1 ∧ s.time.freshShift = false ∧ reached s.time.now s.shiftStart? = true ∧
      s.power.lanternUp = true ∧ s.pstate < 2 ∧ s.power.seq = .idle ∧ s.live 3 = true ∧ s.rd R.TEST_CTRL_SERVICE = 0 ∧ (if
      s.dozeExit.cacheOn then s.dozeExit.closeAll.cacheSettle else s.dozeExit).startReady = true) ∧
    (∃ (s : State), ReactLegal s ∧ s.shiftState = 1 ∧ s.time.freshShift = false ∧ reached s.time.now s.shiftStart? = true ∧
      s.power.lanternUp = true ∧ s.pstate < 2 ∧ s.power.seq = .idle ∧ s.live 3 = true ∧ s.rd R.TEST_CTRL_SERVICE = 0 ∧ (if
      s.dozeExit.cacheOn then s.dozeExit.closeAll.cacheSettle else s.dozeExit).startReady = false) ∧
    (∃ (s : State), ReactLegal s ∧ s.shiftState = 2 ∧ s.time.freshShift = false ∧ s.live 3 = true ∧ reached s.time.now (tickSub
      s.shiftEnd? s.lead) = true ∧ s.test.mem = none ∧ ∀ c, c < 64 → (s.chan c).run = none ∧ s.rd R.HAUL_CTRL_EN [c] ≠ 1 ∧
      s.chanPosted c = false) ∧
    (∃ (s : State), ReactLegal s ∧ s.shiftState = 3 ∧ s.live 3 = true ∧ s.channelsQuiet = true ∧ s.test.mem = none ∧
      s.time.flushing = false) ∧
    (∃ (s : State), ReactLegal s ∧ s.shiftState = 3 ∧ s.live 3 = true ∧ s.channelsQuiet = true ∧ s.test.mem = none ∧
      s.time.flushing = true ∧ s.cacheQuiet = true) ∧
    (∃ (s : State), ReactLegal s ∧ Mild s 118 ∧ s.shiftState = 3 ∧ s.time.overran = false ∧ s.time.freshShift = false ∧ s.live 3
      = true ∧ reached s.time.now s.shiftEnd? = true) ∧
    (∃ (s : State), ReactLegal s ∧ s.shiftState = 4 ∧ s.time.freshShift = false ∧ s.power.lanternUp = true ∧ reached s.time.now
      s.shiftEnd? = true) := by
  refine ⟨⟨shift 0 6000 6110, .host 7, ?_⟩, ⟨shift 1 5000 7000, .host 7, ?_⟩, ⟨shift 2 4000 5100, .host 7, ?_⟩, ⟨put (shift 1
    5000 7000) [(R.POWER_STATUS_STATE, [], 2)], ?_⟩, ⟨shift 1 5000 7000, ?_⟩, ⟨withCache (shift 1 5000 7000) fun c => { c
    with merge := [entry 11 0 false false] }, ?_⟩, ⟨shift 2 4000 5100, ?_⟩, ⟨shift 3 4000 5050, ?_⟩, ⟨drained 4000 5050,
    ?_⟩, ⟨shift 3 4000 5000, ?_⟩, ⟨shift 4 4000 5000, ?_⟩⟩ <;> decide +kernel

/-- The hypotheses of DrainOverrunIsReported are met, clause by clause. -/
theorem witness_DrainOverrunIsReported :
    (∃ (s : State), s.shiftState = 3 ∧ s.live 3 = true ∧ s.time.freshShift = false ∧ reached s.time.now s.shiftEnd? = true ∧
      s.time.overran = false ∧ Mild s 118) ∧
    (∃ (s : State), s.shiftState = 3 ∧ s.live 3 = true ∧ s.time.freshShift = false ∧ reached s.time.now s.shiftEnd? = true) ∧
    (∃ (s : State), s.shiftState = 3 ∧ s.live 3 = true ∧ s.time.freshShift = false ∧ reached s.time.now s.shiftEnd? = true ∧
      s.channelsQuiet = true ∧ s.time.flushing = true ∧ s.cacheQuiet = true ∧ s.test.mem = none ∧ ReactLegal s) ∧
    (∃ (s s4 : State), s.shiftState = 3 ∧ s.live 3 = true ∧ s.time.freshShift = false ∧ reached s.time.now s.shiftEnd? = true ∧
      ReactLegal s4 ∧ s4.shiftState = 4 ∧ s4.time.freshShift = false ∧ s4.power.lanternUp = true ∧ reached s4.time.now
      s4.shiftEnd? = true) := by
  refine ⟨⟨shift 3 4000 5000, ?_⟩, ⟨shift 3 4000 5000, ?_⟩, ⟨drained 4000 5000, ?_⟩, ⟨shift 3 4000 5000, shift 4 4000 5000,
    ?_⟩⟩ <;> decide +kernel

/-- The hypotheses of StateRequestsStart are met, clause by clause. -/
theorem witness_StateRequestsStart :
    (∃ (s : State) (src : RegSrc), (s.inbound src).live 3 = true ∧ (s.inbound src).power.seq = .idle ∧ (s.inbound src).pstate
      = 0 ∧ (s.inbound src).shiftState ≠ 3 ∧ (s.inbound src).haulBusy = false) ∧
    (∃ (s : State) (src : RegSrc), (s.inbound src).live 3 = true ∧ (s.inbound src).power.seq = .idle ∧ (s.inbound src).pstate
      = 0 ∧ (s.inbound src).shiftState ≠ 2 ∧ (s.inbound src).shiftState ≠ 3) ∧
    (∃ (s : State) (src : RegSrc), (s.inbound src).live 3 = true ∧ (s.inbound src).power.seq = .idle ∧ (s.inbound src).pstate
      = 2 ∧ (s.inbound src).blockRefuses 4 3 = none) ∧
    (∃ (s : State), s.live 3 = true ∧ s.pstate = 0 ∧ s.power.seq = .idle ∧ s.rd R.POWER_CTRL_DOZE_IDLE ≠ 0 ∧ s.rd
      R.POWER_CTRL_DOZE_IDLE ≤ s.power.idleTicks ∧ s.shiftState ≠ 3 ∧ s.haulBusy = false) ∧
    (∃ (s : State) (src : RegSrc) (v : Nat), (s.inbound src).live 3 = true ∧ v < 4) := by
  refine ⟨⟨(on), (.host 7), ?_⟩, ⟨(on), (.host 7), ?_⟩, ⟨(inState 2), (.host 7), ?_⟩, ⟨(withPower (put on
    [(R.POWER_CTRL_DOZE_IDLE,[],5)]) (fun p => {p with idleTicks := 5})), ?_⟩, ⟨(on), (.host 7), 0, ?_⟩⟩ <;> decide +kernel

/-- The hypotheses of EntrySequenceProceeds are met, clause by clause. -/
theorem witness_EntrySequenceProceeds :
    (∃ (s : State), s.rd R.POWER_WAKE_LATCH_PENDING = 0 ∧ s.power.seq = .asking 5 ∧ s.blockQuiet 5 = false) ∧
    (∃ (s : State) (b : Nat), s.rd R.POWER_WAKE_LATCH_PENDING = 0 ∧ s.power.seq = .asking b ∧ s.blockQuiet b = true ∧ s.pstate =
      0 ∧ b ∈ [1, 2, 3, 5, 6] ∧ s.rd R.TEST_CTRL_SERVICE = 0 ∧ (s.blockGrants b).blockRefuses (b + 1) s.power.target = none) ∧
    (∃ (s : State) (b : Nat), s.rd R.POWER_WAKE_LATCH_PENDING = 0 ∧ s.power.seq = .asking b ∧ s.blockQuiet b = true ∧ s.pstate =
      0 ∧ b ∈ [1, 2, 3, 5, 6] ∧ s.rd R.TEST_CTRL_SERVICE = 0 ∧ (s.blockGrants b).blockRefuses (b + 1) s.power.target = none) ∧
    (∃ (s : State), s.rd R.POWER_WAKE_LATCH_PENDING = 0 ∧ s.power.seq = .asking 4 ∧ s.blockQuiet 4 = true ∧ s.pstate = 0 ∧
      s.cache.lines = [] ∧ s.cache.merge = []) ∧
    (∃ (s : State), s.rd R.POWER_WAKE_LATCH_PENDING = 0 ∧ s.power.seq = .asking 7 ∧ s.pstate = 0 ∧ s.power.target = 2) ∧
    (∃ (s : State), s.rd R.POWER_WAKE_LATCH_PENDING = 0 ∧ s.pstate = 2 ∧ s.power.target = 3 ∧ s.power.seq = .asking 4 ∧
      s.blockQuiet 4 = true ∧ s.blockRefuses 7 3 = none) ∧
    (∃ (s : State), s.rd R.POWER_WAKE_LATCH_PENDING = 0 ∧ s.pstate = 2 ∧ s.power.target = 3 ∧ s.power.seq = .asking 7 ∧ s.fwRuns
      = false) ∧
    (∃ (s : State), s.rd R.POWER_WAKE_LATCH_PENDING = 0 ∧ s.pstate = 2 ∧ s.power.target = 3 ∧ s.power.seq = .preparing ∧
      s.allTrained = true) ∧
    (∃ (s : State), s.rd R.POWER_WAKE_LATCH_PENDING = 0 ∧ s.pstate = 2 ∧ s.power.target = 3 ∧ s.power.seq = .preparing ∧
      s.allTrained = false) ∧
    (∃ (s : State), s.rd R.POWER_WAKE_LATCH_PENDING = 0 ∧ s.power.seq = .asking 8 ∧ s.power.waitReady = []) ∧
    (∃ (s : State), s.rd R.POWER_WAKE_LATCH_PENDING = 0 ∧ s.power.seq = .switching ∧ (s.power.target = 2 ∨ s.power.target = 3)) ∧
    (∃ (s : State) (b : Nat), b < s.nBench ∧ b ∈ s.power.waitReady ∧ s.live 3 = true ∧ ReactLegal s) := by
  refine ⟨⟨seqAt (fetching on 7 .fill) (.asking 5) 2, ?_⟩, ⟨seqAt on (.asking 1) 2, 1, ?_⟩, ⟨seqAt on (.asking 6) 3, 6, ?_⟩,
    ⟨seqAt on (.asking 4) 3, ?_⟩, ⟨seqAt on (.asking 7) 2, ?_⟩, ⟨seqAt (inState 2) (.asking 4) 3, ?_⟩, ⟨put (seqAt (inState
    2) (.asking 7) 3) [(R.MGMT_STATUS_FW_STATE, [], 3)], ?_⟩, ⟨seqAt (inState 2) .preparing 3, ?_⟩, ⟨put (seqAt (inState 2)
    .preparing 3) [(R.SHAFT_LINK_STATUS_STATE, [8], 1)], ?_⟩, ⟨seqAt on (.asking 8) 3, ?_⟩, ⟨seqAt on .switching 2, ?_⟩,
    ⟨withPower (seqAt on (.asking 8) 2) (fun p => { p with waitReady := [0, 8] }), 8, ?_⟩⟩ <;> decide +kernel

/-- The hypotheses of BaseDieResets are met, clause by clause. -/
theorem witness_BaseDieResets :
    (∃ (s : State), s.power.lanternUp = true ∧ s.thermal.trip = none ∧ s.power.inReset = false ∧ s.live 2 = true ∧ s.rd
      R.HOST_STATUS_LINK_UP < 2) ∧
    (∃ (s : State), s.power.lanternUp = true ∧ s.thermal.trip = none ∧ s.power.inReset = false ∧ s.pstate ≠ 3) ∧
    (∃ (s : State) (rid : Nat) (key : Nat), key % 65536 = 0xB5E7 ∧ (s.inbound (.host rid)).live 3 = true ∧ (s.inbound (.host
      rid)).host.flr = none ∧ (s.inbound (.host rid)).power.resetReq = none) ∧
    (∃ (s : State), s.power.resetReq = none ∧ s.power.lanternUp = true ∧ s.power.inReset = true ∧ s.pins.perst = false ∧
      s.thermal.trip = none ∧ s.pstate ≠ 3 ∧ s.fuse.hold = false ∧ Mild s 45) := by
  refine ⟨⟨(on), ?_⟩, ⟨(on), ?_⟩, ⟨(on), 0, 46567, ?_⟩, ⟨(inReset), ?_⟩⟩ <;> decide +kernel

/-- The hypotheses of KeysAndLocksGuard are met, clause by clause. -/
theorem witness_KeysAndLocksGuard :
    (∃ (s : State) (src : RegSrc) (key : Nat), (s.inbound src).power.inReset = false ∧ (s.inbound src).power.resetReq = none ∧
      (key % 65536 ≠ 0xB5E7 ∨ fromHost src = false)) ∧
    (∃ (s : State), s.pins.aon = true ∧ s.pins.core = true) ∧
    (∃ (s : State) (src : RegSrc), (s.inbound src).live 3 = true ∧ (s.inbound src).mgmt.loaded = true) ∧
    (∃ (s : State) (src : RegSrc), (s.inbound src).live 3 = true ∧ (s.inbound src).mgmt.loaded = false) := by
  refine ⟨⟨(on), (.host 7), 0, ?_⟩, ⟨(on), ?_⟩, ⟨on, .host 7, ?_⟩, ⟨unloaded, .host 7, ?_⟩⟩ <;> decide +kernel

/-- The hypotheses of StartUpProceeds are met, clause by clause. -/
theorem witness_StartUpProceeds :
    (∃ (s : State), s.power.lanternUp = false) ∧
    (∃ (s : State), (s.restoreSettle.releaseSettle).rd R.HOST_STATUS_STACK_READY = 0 ∧
      (s.restoreSettle.releaseSettle).stackDone = true ∧ (s.restoreSettle.releaseSettle).live 2 = true ∧
      (s.restoreSettle.releaseSettle).power.perstHeld = false ∧ ReactLegal (s.restoreSettle.releaseSettle)) ∧
    (∃ (s : State), s.power.lanternUp = true ∧ s.pstate = 3 ∧ s.power.seq = .idle ∧ s.rd R.POWER_WAKE_LATCH_PENDING = 1 ∧
      s.pins.perst = false ∧ s.thermal.trip = none ∧ Mild s 45) := by
  refine ⟨⟨(lanternOff), ?_⟩, ⟨put tested [(R.CODE_CODE_STATUS_EMPTY, [], 1)], ?_⟩, ⟨(woken), ?_⟩⟩ <;> decide +kernel

/-- The hypotheses of FaultRecordsClear are met, clause by clause. -/
theorem witness_FaultRecordsClear :
    (∃ (s : State) (src : RegSrc) (w : Nat), w < 4 ∧ (s.inbound src).live 3 = true) ∧
    (∃ (s : State) (src : RegSrc), (s.inbound src).live 3 = true) ∧
    (∃ (s : State) (target : Nat), (target, 0) ∈ s.fault.shadows) := by
  refine ⟨⟨(on), (.host 7), 0, ?_⟩, ⟨(on), (.host 7), ?_⟩, ⟨(faulty), 3, ?_⟩⟩ <;> decide +kernel

/-- The hypotheses of ReactionsAreGuarded are met, clause by clause. -/
theorem witness_ReactionsAreGuarded :
    ∃ (s : State) (src : RegSrc) (w : Nat), w < 16 ∧ (s.inbound src).live 3 = true ∧ (s.inbound src).fault.inj = none := by
  refine ⟨(on), (.host 7), 0, ?_⟩
  decide +kernel

/-- The hypotheses of ChecksAndInjections are met, clause by clause. -/
theorem witness_ChecksAndInjections :
    (∃ (s : State) (src : RegSrc) (count : Nat) (b : Nat), (s.inbound src).live 3 = true ∧ count < 256 ∧ (s.inbound
      src).injRefused 1 b false count = false) ∧
    (∃ (s : State) (src : RegSrc) (count : Nat) (layer : Nat), (s.inbound src).live 3 = true ∧ count < 256 ∧ (s.inbound
      src).injRefused 2 layer false count = false) ∧
    (∃ (s : State) (src : RegSrc) (count : Nat), (s.inbound src).live 3 = true ∧ count < 256 ∧ (s.inbound src).injRefused 3 0
      false count = false) ∧
    (∃ (s : State) (src : RegSrc) (count : Nat) (array : Nat) (double : Bool), (s.inbound src).live 3 = true ∧ count < 256 ∧
      (s.inbound src).injRefused 4 array double count = false) ∧
    (∃ (s : State) (src : RegSrc) (count : Nat), (s.inbound src).live 3 = true ∧ count < 256 ∧ (s.inbound src).injRefused 5 0
      false 1 = false) ∧
    (∃ (s : State) (src : RegSrc) (count : Nat), (s.inbound src).live 3 = true ∧ count < 256 ∧ (s.inbound src).injRefused 6 0
      false count = false) ∧
    (∃ (s : State) (n : Nat), checkerSource n = true ∧ s.srcLive n = true ∧ (∀ p ∈ s.fault.shadows, shadowMask p.1 n = false)) ∧
    (∃ (s : State) (slab mask : Nat), ∃ l ∈ (s.lineOf slab).toList, l.dirty &&& (mask % 2 ^ s.sectors) ≠ 0 ∧ Mild s 42) ∧
    (∃ (s : State) (slab : Nat), ∃ e ∈ (s.entryOf slab).toList, Mild s 44) := by
  refine ⟨⟨(on), (.host 7), 1, 0, ?_⟩, ⟨(on), (.host 7), 1, 0, ?_⟩, ⟨(on), (.host 7), 1, ?_⟩, ⟨(on), (.host 7), 1, 0, true,
    ?_⟩, ⟨(on), (.host 7), 0, ?_⟩, ⟨(on), (.host 7), 1, ?_⟩, ⟨(on), 0, ?_⟩,
    ⟨lined, 6, 2, ?_⟩, ⟨merging false, 11, ?_⟩⟩ <;> decide +kernel

/-- The hypotheses of ThermalEvents are met, clause by clause. -/
theorem witness_ThermalEvents :
    (∃ (s : State) (n : Nat), s.live 3 = true ∧ n < 44 ∧ s.rd R.THERMAL_SUSPECT_SENSORS [n] = 0 ∧ 8 ≤ s.thermal.away.getD n 0
      ∧ Mild s 19) ∧
    (∃ (s : State) (n : Nat), s.live 3 = true ∧ n < 44 ∧ s.rd R.THERMAL_SUSPECT_SENSORS [n] = 1 ∧ 1000 ≤ s.thermal.near.getD n
      0) ∧
    (∃ (s : State), s.live 3 = true ∧ s.rd R.THERMAL_STATUS_GUARD = 1 ∧ 1000 ≤ s.thermal.guardAge) ∧
    (∃ (s : State), s.live 3 = true ∧ s.rd R.THERMAL_STATUS_START_HOLD = 1 ∧ 100 ≤ s.thermal.holdAge) ∧
    (∃ (s : State), s.live 3 = true ∧ s.levelFree = true ∧ 100 ≤ s.thermal.rise ∧ s.thermal.riseTo < s.rd R.POWER_STATUS_LEVEL
      ∧ s.thermal.riseTo < 4 ∧ s.levelLimit ≤ s.thermal.riseTo) ∧
    (∃ (s : State), s.live 3 = true ∧ s.levelFree = true ∧ 32 ≤ s.thermal.low ∧ s.rd R.POWER_STATUS_LEVEL < 3 ∧ Mild s 23) ∧
    (∃ (s : State), s.live 3 = true ∧ 100 ≤ s.thermal.limitAge ∧ s.rd R.THERMAL_STATUS_THROTTLE_LIMIT ≤ 3) := by
  refine ⟨⟨(hot), 0, ?_⟩, ⟨(hot), 43, ?_⟩, ⟨(hot), ?_⟩, ⟨(hot), ?_⟩, ⟨(hot), ?_⟩, ⟨(hot), ?_⟩, ⟨(hot), ?_⟩⟩ <;> decide +kernel

/-- The hypotheses of Bar2RequestsReachTheCache are met, clause by clause. -/
theorem witness_Bar2RequestsReachTheCache :
    (∃ (s : State) (r : HostRd), s.linkOn = true ∧ s.memOn = true ∧ s.fault.inj = none ∧ r.len ≤ 4096 ∧ 0 < r.len ∧ r.ecrcBad = false ∧ s.rxRoom
      false 0 = true ∧ (s.notIdle.dozeExit).bar2Refusal false false r.addr r.len = none) ∧
    (∃ (s : State) (w : HostWr), s.linkOn = true ∧ s.memOn = true ∧ s.fault.inj = none ∧ w.data.length ≤ s.host.maxPayload ∧ 0 <
      w.data.length ∧ w.ecrcBad = false ∧ s.rxRoom true w.data.length = true ∧ (s.notIdle.dozeExit).bar2Refusal true w.ep w.addr w.data.length =
      none ∧ s.rd R.FAULT_STATUS_SAFE = 0 ∧ (∀ b ∈ w.data, b.isSome = true)) ∧
    (∃ (s : State) (w : HostWr), s.linkOn = true ∧ s.memOn = true ∧ s.fault.inj = none ∧ s.rd R.FAULT_STATUS_SAFE = 1 ∧ s.rxRoom
      true w.data.length = true ∧ w.data.length ≤ s.host.maxPayload ∧ w.ecrcBad = false ∧ s.rd R.FAULT_SAFE_WRITES_COUNT < 2 ^ 32 - 1) := by
  refine ⟨⟨on, ⟨0, 4096, 9, 7, none, false⟩, ?_⟩, ⟨on, ⟨2047, [some 1#8, some 2#8], 9, none, false, false⟩, ?_⟩, ⟨safe, ⟨2047, [some 1#8,
    some 2#8], 9, none, true, false⟩, ?_⟩⟩ <;> decide +kernel

/-- The hypotheses of RegisterWritesLand are met, clause by clause. -/
theorem witness_RegisterWritesLand :
    (∃ (s : State) (k : Nat), s.linkOn = true ∧ s.up = true ∧ k < 4) ∧
    (∃ (s : State) (rid k : Nat), s.linkOn = true ∧ s.up = true ∧ k < 4 ∧ s.memOn = true ∧ s.rxRoom true 4 = true ∧ (s.inbound
      (.host rid)).up = true) ∧
    (∃ (s : State) (data k : Nat), s.linkOn = true ∧ s.up = true ∧ k < 4 ∧ data.testBit 2 = false ∧ s.rxRoom false 4 = true) ∧
    (∃ (off be : Nat), writeDws off be = 0) := by
  refine ⟨⟨on, 3, ?_⟩, ⟨on, 0, 0, ?_⟩, ⟨on, 2, 0, ?_⟩, ⟨0, 0, ?_⟩⟩ <;> decide +kernel

/-- The hypotheses of BadRequestsAreAnswered are met, clause by clause. -/
theorem witness_BadRequestsAreAnswered :
    (∃ (s : State) (r : HostRd) (v : Viol) (ca : Bool), s.linkOn = true ∧ s.rxRoom false 0 = true ∧ s.host.egress = [] ∧
      ReactLegal s ∧ s.memOn = true ∧ s.fault.inj = none ∧ r.len ≤ 4096 ∧ r.ecrcBad = false ∧ (s.notIdle.dozeExit).bar2Refusal false false
      r.addr r.len = some (v, ca)) ∧
    (∃ (s : State), s.linkOn = true ∧ s.rxRoom false 0 = true ∧ s.host.egress = [] ∧ ReactLegal s) ∧
    (∃ (s : State) (off n : Nat), s.linkOn = true ∧ s.rxRoom false 0 = true ∧ s.host.egress = [] ∧ ReactLegal s ∧ s.memOn = true
      ∧ readForm off n = false) ∧
    (∃ (s : State), s.linkOn = true ∧ Mild s 83) ∧
    (∃ (s : State) (src : RegSrc), (s.inbound src).live 2 = true) := by
  refine ⟨⟨on, ⟨2 ^ 38 - 1, 2, 0, 0, none, false⟩, .bar2Range, false, ?_⟩, ⟨on, ?_⟩, ⟨on, 4, 2, ?_⟩, ⟨on, ?_⟩, ⟨on, .host 7, ?_⟩⟩ <;>
    decide +kernel

/-- The hypotheses of LinkAndResetsFollow are met, clause by clause. -/
theorem witness_LinkAndResetsFollow :
    (∃ (s : State), ReactLegal s ∧ s.linkOn = true ∧ s.host.powerState ≠ 3) ∧
    (∃ (s : State), ReactLegal s ∧ s.linkOn = true) ∧
    (∃ (s : State) (speed : Nat) (width : Nat), ReactLegal s ∧ s.live 2 = true ∧ s.rd R.FUSE_STATUS_SENSED = 1 ∧ s.pins.perst = false ∧ 0 < speed ∧ speed ≤
      s.rd R.HOST_STATUS_SPEED_CEIL ∧ speed < 8 ∧ (width = 1 ∨ width = 4 ∨ width = 8 ∨ width = 16)) ∧
    (∃ (s : State), ReactLegal s ∧ s.live 2 = true ∧ s.rd R.HOST_STATUS_LINK_UP < 2 ∧ s.linkOn = true) ∧
    (∃ (s : State), ReactLegal s ∧ s.live 2 = true ∧ s.rd R.HOST_STATUS_LINK_UP < 2) ∧
    (∃ (s : State) (k : Nat), ReactLegal s ∧ s.live 2 = true ∧ s.rd R.HOST_STATUS_LINK_UP < 2 ∧ s.host.flr = some ⟨k, true⟩ ∧
      (s.rd R.CODE_CODE_STATUS_CLEAR_BUSY = 1 ∨ s.flushedOut = true)) := by
  refine ⟨⟨(on), ?_⟩, ⟨(on), ?_⟩, ⟨(on), 1, 1, ?_⟩, ⟨(on), ?_⟩, ⟨(on), ?_⟩, ⟨(resetting), 1, ?_⟩⟩ <;> decide +kernel

/-- The hypotheses of RegistersLatchAndEnable are met, clause by clause. -/
theorem witness_RegistersLatchAndEnable :
    (∃ (s : State), ∃ p ∈ pairs, s.readable p.2.1 p.1 = true ∧ s.host.regReads = []) ∧
    (∃ (s : State) (rid : Nat), ∃ p ∈ pairs, s.linkOn = true ∧ s.rxRoom false 0 = true ∧ s.memOn = true ∧ (s.inbound (.host
      rid)).readable p.2.1 p.1 = true ∧ (s.inbound (.host rid)).host.regReads = [] ∧ (s.inbound (.host rid)).host.egress =
      [] ∧ (s.inbound (.host rid)).rd R.HOST_STATUS_LINK_UP = 1) ∧
    (∃ (s : State) (src : RegSrc), s.up = true ∧ ∃ f ∈ [R.TIME_EVENT_EN_EN, R.CODE_CODE_EVENT_EN_EN, R.RAS_RAS_EVENT_EN_EN,
      R.CACHE_EVENT_EN_EN, R.HOST_EVENT_EN_EN, R.CODING_EVENT_EN_EN, R.REG_EVENT_EN_EN, R.POWER_EVENT_EN_EN,
      R.THERMAL_EVENT_EN_EN, R.FAULT_EVENT_EN_EN, R.TEST_EVENT_EN_EN, R.FUSE_EVENT_EN_EN, R.MGMT_EVENT_EN_EN,
      R.DICT_EVENT_EN_EN, R.RL_EVENT_EN_EN], (s.inbound src).blockOn f.off = true) := by
  refine ⟨⟨on, ?_⟩, ⟨on, 7, ?_⟩, ⟨on, .host 7, ?_⟩⟩ <;> decide +kernel

/-- The hypotheses of FetchesAreJudged are met, clause by clause. -/
theorem witness_FetchesAreJudged :
    (∃ (s : State) (slab layer : Nat), layer < s.nLayer ∧ ∃ o ∈ s.cache.ops, o.slab = slab ∧ o.mapped.testBit layer = false) ∧
    (∃ (s : State) (slab : Nat), ∃ op ∈ (s.fetching slab).toList, s.unsent op = false ∧ s.cacheOn = true ∧ ReactLegal s ∧
      s.power.seq = .idle) := by
  refine ⟨⟨fetching cleared 7 .fill, 7, 0, ?_⟩, ⟨fetching cleared 7 .fill, 7, ?_⟩⟩ <;> decide +kernel

/-- The hypotheses of LayersAreManaged are met, clause by clause. -/
theorem witness_LayersAreManaged :
    (∃ (s : State) (src : RegSrc), (s.inbound src).live 8 = true ∧ Mild (s.inbound src) 84) ∧
    (∃ (s : State) (src : RegSrc) (n : Nat), n < 18 ∧ (s.inbound src).live 8 = true ∧ (s.inbound src).layer n = 0 ∧ (s.inbound
      src).offline + 1 ≤ 2 ∧ Mild (s.inbound src) 32 ∧ CacheIdle (s.inbound src)) ∧
    (∃ (s : State) (src : RegSrc) (n : Nat), n < 18 ∧ (s.inbound src).live 8 = true ∧ (s.inbound src).layer n = 1 ∧ (s.inbound
      src).rd R.CODE_LAYER_STATE_CAUSE [n] ≠ 5 ∧ (s.inbound src).linkState (n / 2) = linkActive ∧ (s.inbound src).protection ≠
      3 ∧ Mild (s.inbound src) 32 ∧ CacheIdle (s.inbound src)) ∧
    (∃ (s : State), s.ras.rejoinNext = some slabCount ∧ s.live 8 = true ∧ Mild s 32) ∧
    (∃ (s : State) (src : RegSrc), CacheIdle (s.inbound src) ∧ (s.inbound src).rd R.CODE_CODE_CTRL_CLEAR ≠ 1 ∧ (s.inbound
      src).clearRefused = false) ∧
    (∃ (s : State) (p : Nat), s.live 8 = true ∧ s.rd R.CODE_CODE_STATUS_CLEAR_BUSY = 1 ∧ Mild s 32 ∧ s.ras.clearNext = some p ∧
      p ≤ slabCount ∧ s.noWrites = false ∧ (∀ o ∈ s.cache.ops, o.slab < p) ∧ (∀ k ∈ s.landBenches.writesWaiting, k < p) ∧ (∀ c, c < 64 → (s.chan c).run = none ∧
      s.chanPosted c = false ∧ s.rd R.HAUL_CTRL_EN [c] ≠ 1)) ∧
    (∃ (s : State), s.live 8 = true ∧ CacheIdle s ∧ s.rd R.HOST_STATUS_STACK_READY = 1 ∧ s.ras.sweeps = [] ∧ s.markedPos ≠ []) ∧
    (∃ (s : State) (pos : Nat), pos < 64 ∧ s.live 8 = true ∧ CacheIdle s ∧ (pos, 2 ^ 21) ∈ s.ras.sweeps) := by
  refine ⟨⟨(on), (.host 7), ?_⟩, ⟨(on), (.host 7), 0, ?_⟩, ⟨(lost3), (.host 7), 3, ?_⟩, ⟨(rejoined), ?_⟩, ⟨(on), (.host 7),
    ?_⟩, ⟨clearing slabCount, slabCount, ?_⟩, ⟨(marked), ?_⟩, ⟨(swept), 63, ?_⟩⟩ <;> decide +kernel

/-- The hypotheses of ClearWritesZeroSlabs are met, clause by clause. -/
theorem witness_ClearWritesZeroSlabs :
    ∃ (s : State) (p q layer slab : Nat), RemapsOk s ∧ layer < s.nLayer ∧ p ≤ slab ∧ slab < q ∧ q ≤ slabCount ∧
      (s.layer layer = 0 ∨ s.layer layer = 2) := by
  refine ⟨on, 0, slabCount, 17, slabCount - 1, ?_⟩
  decide +kernel

/-- The hypotheses of CacheServes are met, clause by clause. -/
theorem witness_CacheServes :
    (∃ (s : State) (r : CReq) (q : HostRd), CacheIdle s ∧ r.src = .pcie ∧ r.job = none ∧ s.portPick 0 = some r ∧ s.txnFree r = true ∧ r.slab <
      2 ^ 27 ∧ ∃ l ∈ (s.lineOf r.slab).toList, l.poison = 0 ∧ l.data.length = s.slabBytes ∧ r.off + max r.len r.data.length
      ≤ s.slabBytes ∧ r.write = false ∧ 0 < r.len ∧ s.cache.reads = [⟨q, 4, [(r.id, none)]⟩] ∧ q.len = r.len ∧ q.addr % 64 +
      r.len ≤ 64 ∧ minus (reqTouched r s.sectors) l.valid = 0 ∧ s.host.egress = [] ∧ s.rd R.HOST_STATUS_LINK_UP = 1) ∧
    (∃ (s : State) (r : CReq), CacheIdle s ∧ r.src = .pcie ∧ r.job = none ∧ s.portPick 0 = some r ∧ s.txnFree r = true ∧ r.slab < 2 ^ 27 ∧ ∃ l
      ∈ (s.lineOf r.slab).toList, l.poison = 0 ∧ l.data.length = s.slabBytes ∧ r.off + max r.len r.data.length ≤ s.slabBytes
      ∧ r.write = true ∧ r.media = false ∧ s.noWrites = false ∧ s.wt = false ∧ minus (minus (reqTouched r s.sectors)
      (reqCovered r s.sectors)) l.valid = 0) := by
  refine ⟨⟨readWaits, rdReq, ⟨5 * 2048 + 64, 32, 9, 7, none, false⟩, ?_⟩, ⟨writeWaits, wrReq, ?_⟩⟩ <;> decide +kernel

/-- The hypotheses of MergeEntriesClose are met, clause by clause. -/
theorem witness_MergeEntriesClose :
    let Ages := fun (s : State) (slab : Nat) (P : MEntry → Prop) =>
      CacheIdle s ∧ s.nBench ≤ s.shaft.length ∧ s.cache.reqs = [] ∧ (∀ b, b < s.nBench → (s.link b).queue = []) ∧
        s.noWrites = false ∧ s.locked slab = false ∧ ∃ e ∈ (s.entryOf slab).toList, s.rd R.CACHE_CTRL_MERGE_AGE ≤ e.age ∧
          e.closing = false ∧ P e
    (∃ (s : State) (slab : Nat), Ages s slab fun e => e.bytes.all Option.isSome = true ∧ s.power.pauseTo = none ∧
      s.pauseSoon = false ∧ ∀ b, b < s.nBench → s.linkState b = linkActive → 0 < s.credits b (2 * field slab 3 1 + 1)) ∧
    (∃ (s : State) (slab : Nat), Ages s slab fun e => e.bytes.all Option.isSome = true ∧ s.power.pauseTo.isSome = true) ∧
    (∃ (s : State) (slab : Nat), Ages s slab fun e => e.bytes.all Option.isSome = false ∧ s.fetchHeld = false) := by
  refine ⟨⟨put (merging true) ((List.range 9).map fun b => (R.SHAFT_CREDITS_B_WR, [b], 1)), 11, ?_⟩,
    ⟨withPower (merging true) fun x => { x with pauseTo := some 3 }, 11, ?_⟩, ⟨merging false, 11, ?_⟩⟩ <;> decide +kernel

/-- The hypotheses of CacheMaintenance are met, clause by clause. -/
theorem witness_CacheMaintenance :
    (∃ (s : State) (src : RegSrc) (scope : Nat), CacheIdle (s.inbound src) ∧ (s.inbound src).cache.merge = [] ∧ (s.inbound
      src).cache.ops = [] ∧ (s.inbound src).noWrites = false ∧ (∀ l ∈ (s.inbound src).cache.lines, l.valid = (s.inbound
      src).allSectors) ∧ (s.inbound src).flushRefused 0 scope = false) ∧
    (∃ (s : State) (src : RegSrc) (scope : Nat), CacheIdle (s.inbound src) ∧ (s.inbound src).cache.merge = [] ∧ (s.inbound
      src).cache.ops = [] ∧ (s.inbound src).noWrites = false ∧ (∀ l ∈ (s.inbound src).cache.lines, l.valid = (s.inbound
      src).allSectors) ∧ (s.inbound src).flushRefused 1 scope = false) ∧
    (∃ (s : State) (src : RegSrc) (scope : Nat), CacheIdle (s.inbound src) ∧ (s.inbound src).cache.merge = [] ∧ (s.inbound
      src).cache.ops = [] ∧ (s.inbound src).noWrites = false ∧ (∀ l ∈ (s.inbound src).cache.lines, l.valid = (s.inbound
      src).allSectors) ∧ (s.inbound src).flushRefused 2 scope = false) ∧
    (∃ (s : State), CacheIdle s ∧ ∃ f ∈ (s.cache.flush).toList, s.flushHandled f = true) ∧
    (∃ (s : State) (src : RegSrc), (s.inbound src).cacheOn = true) := by
  refine ⟨⟨(on), (.host 7), 0, ?_⟩, ⟨(on), (.host 7), 0, ?_⟩, ⟨(on), (.host 7), 0, ?_⟩, ⟨(flushed), ?_⟩, ⟨(on), (.host 7),
    ?_⟩⟩ <;> decide +kernel

/-- The hypotheses of ScrubAndRepair are met, clause by clause. -/
theorem witness_ScrubAndRepair :
    (∃ (s : State) (src : RegSrc), (s.inbound src).live 8 = true) ∧
    (∃ (s : State), s.scrubRuns = true ∧ s.time.now % s.rd R.RAS_SCRUB_CTRL_INTERVAL = 0 ∧ s.sliced 0 = false ∧ s.ras.watch =
      [] ∧ s.ras.reports = [] ∧ s.scrubBusy = false ∧ CacheIdle s ∧ s.rd R.RAS_SCRUB_PTR_SLAB < 2 ^ 27) ∧
    (∃ (s : State), CacheIdle s ∧ s.ras.slice = none ∧ ∃ r ∈ (s.ras.repair).toList, r.remapped = true ∧ r.failed = false ∧ 8 ≤ r.got.length ∧
      s.layer r.layer ≠ 1 ∧ s.linkState (r.layer / 2) = linkActive) ∧
    (∃ (s : State), CacheIdle s ∧ ∃ r ∈ (s.ras.repair).toList, r.failed = true ∧ s.linkState (r.layer / 2) = linkActive ∧
      s.layer r.layer ≠ 1) ∧
    (∃ (s : State), ∃ r ∈ (s.ras.recDue).head?.toList, s.fwRuns = true ∧ s.live 12 = true ∧ s.activeHalf.length < halfRoom) := by
  refine ⟨⟨(on), (.host 7), ?_⟩, ⟨(scrubbing), ?_⟩, ⟨(repairing false), ?_⟩, ⟨(repairing true), ?_⟩, ⟨(recording), ?_⟩⟩ <;>
    decide +kernel

/-- The hypotheses of BenchesWork are met, clause by clause. -/
theorem witness_BenchesWork :
    let Slot := fun (s : State) (b ch : Nat) => s.benchOn b = true ∧ b < s.bench.length ∧ ch < 2
    let Free := fun (s : State) (b ch : Nat) => Slot s b ch ∧ s.live (benchDom b (1 + ch)) = true ∧
      (s.bn b).selfRefresh = false ∧ (s.bn b).paused = none ∧ s.fault.inj = none ∧ (s.bn b).drain = none
    let Demand := fun (s : State) (b ch : Nat) (r : BReq) => Free s b ch ∧ (∀ k, k < 32 → (s.ctl b ch).debt.getD k 0 < 8) ∧
      (s.ctl b ch).tasks = [] ∧ 0 < (s.bn b).tokens ∧ (s.ctl b ch).openRow.getD r.bank none = some (rowOf r.loc) ∧
      (s.link b).upQueue + 2 ≤ 64
    let Patrol := fun (s : State) (b : Nat) (P : Nat → Prop) => s.benchOn b = true ∧ b < s.bench.length ∧
      s.rd R.BENCH_PATROL_CTRL_EN [b] = 1 ∧ 2 ≤ (s.bn b).tokens ∧ (s.bn b).patrolLeft ≠ 0 ∧ (s.bn b).selfRefresh = false ∧
      (s.bn b).paused = none ∧ (s.ctl b (s.posOf (s.bn b).patrolPtr / 32)).bankIdle (s.posOf (s.bn b).patrolPtr % 32) = true ∧
      let pos := s.posOf (s.bn b).patrolPtr
      P (((s.fillTasks b (pos / 32)).ctl b (pos / 32)).act (pos % 32) (rowOf (s.bn b).patrolPtr / 64))
    (∃ (s : State) (b ch k : Nat), Free s b ch ∧ k < 32 ∧ 8 ≤ (s.ctl b ch).debt.getD k 0 ∧
      (∀ j, j < k → (s.ctl b ch).debt.getD j 0 < 8) ∧ (s.ctl b ch).openRow.getD k none = none) ∧
    (∃ (s : State) (b ch : Nat) (r : BReq), Demand s b ch r ∧ (s.ctl b ch).reads = [r] ∧ (s.ctl b ch).writes = [] ∧
      r.write = false) ∧
    (∃ (s : State) (b ch : Nat) (r : BReq), Demand s b ch r ∧ (s.ctl b ch).reads = [] ∧ (s.ctl b ch).writes = [r] ∧
      r.write = true ∧ r.lower.length = portionBytes ∧ r.upper.length = portionBytes ∧ RemapsOk s ∧ r.loc < 2 ^ 27) ∧
    (∃ (s : State) (b ch bank : Nat), Slot s b ch ∧ bank < 32 ∧ bank < (s.ctl b ch).debt.length ∧
      (s.bn b).selfRefresh = false ∧ Mild s 46) ∧
    (∃ (s : State) (b ch bank : Nat), Slot s b ch ∧ bank < 32 ∧ bank < (s.ctl b ch).debt.length ∧
      ∃ k ∈ (s.ctl b ch).tasks.head?.toList, k.bank = bank ∧ k.aged = false) ∧
    (∃ (s : State) (b ch : Nat), Slot s b ch ∧ s.patrolGrants = true ∧ s.sliced 1 = false ∧
      s.rd R.BENCH_PATROL_CTRL_EN [b] = 1 ∧ s.time.now % s.rd R.BENCH_PATROL_CTRL_INTERVAL [b] = 0 ∧ s.linkState b = linkActive ∧
      (s.dir b true).replay.length < 64 ∧ (s.dir b true).wait = [] ∧ (s.dir b true).group = []) ∧
    (∃ (s : State) (b : Nat), Patrol s b fun acts => acts < s.trThresh b) ∧
    (∃ (s : State) (b : Nat), (Patrol s b fun acts => s.trThresh b ≤ acts) ∧
      s.patrolled (2 * b) (s.bn b).patrolPtr = true ∧ Mild s 47) := by
  refine ⟨⟨indebted, 8, 1, 31, ?_⟩, ⟨reading, 0, 0, breq false, ?_⟩, ⟨writing, 1, 0, breq true, ?_⟩, ⟨working, 0, 0, 0, ?_⟩,
    ⟨tasked, 1, 1, 31, ?_⟩, ⟨patrolled, 8, 0, ?_⟩, ⟨patrolled, 8, ?_⟩, ⟨crowded, 8, ?_⟩⟩ <;> decide +kernel

/-- The hypotheses of LevelsCanariesRemaps are met, clause by clause. -/
theorem witness_LevelsCanariesRemaps :
    (∃ (s : State), s.live 3 = true ∧ s.fwDrives = true ∧ s.rd R.THERMAL_GOV_CHOSEN ≠ s.rd R.POWER_STATUS_LEVEL ∧
      s.power.pauseTo = none ∧ s.power.riseAt = none ∧ s.rd R.POWER_STATUS_STATE < 2) ∧
    (∃ (s : State) (locked : List Nat), ∃ l ∈ (s.power.pauseTo).toList, l < 4 ∧ CacheIdle s ∧ (∀ b, b < s.nBench →
      (s.bn b).paused.isSome = true ∨ (s.bn b).drain.isSome = true → b ∈ locked)) ∧
    (∃ (s : State) (b : Nat), s.benchOn b = true ∧ b < s.bench.length ∧ (s.bn b).retaining = true) ∧
    (∃ (s : State) (b : Nat) (bad : List Nat) (i : Nat), s.benchOn b = true ∧ b < s.bench.length ∧ (s.bn b).canaryDue = true ∧
      (s.bn b).selfRefresh = false ∧ i < 256 ∧ s.rd R.BENCH_CANARY_CTRL_TOL [b] < (s.canaryFlip b bad).canaryDiff b i) ∧
    (∃ (s : State) (b : Nat), s.benchOn b = true ∧ b < s.bench.length ∧ s.rd R.BENCH_STATUS_LINK_UP [b] = 1) ∧
    (∃ (s : State) (rid : Nat) (b : Nat), b < (s.inbound (.host rid)).nBench ∧ Mild (s.inbound (.host rid)) 84) := by
  refine ⟨⟨(levelling), ?_⟩, ⟨(pausedOne), [1], ?_⟩, ⟨(retained), 0, ?_⟩, ⟨(canarying), 8, (List.range 40).map (255 * 9216 + ·), 255, ?_⟩, ⟨(on), 0, ?_⟩, ⟨(on),
    0, 0, ?_⟩⟩ <;> decide +kernel

/-- The hypotheses of FramesAct are met, clause by clause. -/
theorem witness_FramesAct :
    let Takes := fun (s : State) (b : Nat) (down : Bool) => NoFence s ∧ Accepts s b down
    (∃ (s : State) (b : Nat) (down : Bool), Takes s b down) ∧
    (∃ (s : State) (b : Nat) (f : Frame) (down : Bool), NoFence s ∧ b < s.nBench ∧ b < s.shaft.length ∧
      s.linkState b = linkActive ∧ (s.dir b down).nak = true ∧ f.aux % 64 = (s.dir b down).rxSeq) ∧
    (∃ (s : State) (b : Nat), Takes s b true ∧ (s.bn b).drain = none) ∧
    (∃ (s : State) (b : Nat), Takes s b true ∧ (s.dir b false).replay.length < 64 ∧ (s.dir b false).wait = [] ∧
      (s.dir b false).group = []) ∧
    (∃ (s : State) (b : Nat) (f : Frame) (k : Nat), Takes s b true ∧ k < 24 ∧ field f.aux 16 8 = 96 + k) ∧
    (∃ (s : State) (b : Nat), Takes s b true ∧ s.benchOn b = true ∧ (s.bn b).paused = none ∧ (s.bn b).drain = none ∧
      s.drained b = true) ∧
    (∃ (s : State) (b : Nat), Takes s b true ∧ s.benchOn b = true ∧ (s.bn b).paused = none ∧ (s.bn b).drain = none ∧
      s.drained b = false) ∧
    (∃ (s : State) (b : Nat), Takes s b false) ∧
    (∃ (s : State) (b : Nat) (f : Frame), Takes s b false ∧ ∃ a ∈ (s.link b).reg.toList, a.word = field f.aux 16 8 ∧
      (s.link b).regq = [] ∧ s.ras.repair = none) ∧
    (∃ (s : State) (b : Nat) (f : Frame), Takes s b false ∧ s.live 8 = true ∧ s.ras.reports.length < 64 ∧
      ∀ r ∈ s.ras.reports, r.slab ≠ f.tag % 65536 + f.aux % 2048 * 65536) ∧
    (∃ (s : State) (b : Nat) (f : Frame), Takes s b false ∧ f.aux % 2 = 1) ∧
    (∃ (s : State) (b : Nat) (f : Frame), Takes s b false ∧ f.aux % 256 = 1 ∧ s.ras.repair = none) := by
  refine ⟨⟨on, 0, true, ?_⟩, ⟨naked true, 0, frame 0 0, true, ?_⟩, ⟨on, 0, ?_⟩, ⟨on, 0, ?_⟩, ⟨on, 0, frame 7 0x600001, 0, ?_⟩,
    ⟨on, 0, ?_⟩, ⟨reading, 0, ?_⟩, ⟨on, 0, ?_⟩, ⟨askedReg, 8, frame 7 0x600001, ?_⟩, ⟨on, 0, frame 0 0, ?_⟩,
    ⟨on, 0, frame 7 0x600001, ?_⟩, ⟨on, 0, frame 7 0x600001, ?_⟩⟩ <;> decide +kernel

/-- The hypotheses of LinkErrorsAct are met, clause by clause. -/
theorem witness_LinkErrorsAct :
    let Link := fun (s : State) (b : Nat) => b < s.nBench ∧ b < s.shaft.length ∧ s.ras.repair = none
    let Serves := fun (s : State) (b : Nat) => Link s b ∧ s.linkState b = linkActive ∧
      s.rd R.SHAFT_TRAIN_CFG_AUTO_RECOVER [b] = 1 ∧ Mild s (64 + b)
    (∃ (s : State) (b : Nat) (down : Bool), Serves s b ∧ (s.dir b down).crcRun < 15 ∧ (s.dir b down).nakRun < 7) ∧
    (∃ (s : State) (b : Nat) (down : Bool) (type : Nat), Serves s b ∧ type % 256 ∉ frameTypes down) ∧
    (∃ (s : State) (b : Nat) (down : Bool), Serves s b ∧ (s.dir b down).nak = true) ∧
    (∃ (s : State) (b : Nat) (lane : Nat), Serves s b ∧ lane < 76) ∧
    (∃ (s : State) (b : Nat), Link s b ∧ ∃ a ∈ (s.link b).reg.toList, (s.link b).regq = [] ∧ Mild s (64 + b) ∧
      (a.asker = .march → CacheIdle s)) ∧
    (∃ (s : State) (b : Nat), Link s b ∧ s.linkState b = linkRecovery ∧ s.tooFew b = false ∧
      (s.link b).recovered.length < 16 ∧ Mild s 75 ∧ NoFence s) ∧
    (∃ (s : State) (b : Nat), Link s b ∧ s.linkState b = linkRecovery ∧ (s.link b).mapping = false ∧ ReactLegal s ∧
      s.rd R.SHAFT_TRAIN_CFG_RECOVERY_LIMIT [b] ≤ tickSub s.time.now (s.link b).recStart) ∧
    (∃ (s : State) (b : Nat), Link s b ∧ (s.link b).mapping = true) := by
  refine ⟨⟨on, 0, true, ?_⟩, ⟨on, 0, true, 8, ?_⟩, ⟨naked true, 0, true, ?_⟩, ⟨on, 8, 75, ?_⟩, ⟨askedReg, 8, ?_⟩,
    ⟨inRecovery 0 5000, 0, ?_⟩, ⟨inRecovery 8 0, 8, ?_⟩,
    ⟨withLink (inRecovery 8 0) 8 fun l => { l with mapping := true }, 8, ?_⟩⟩ <;> decide +kernel

/-- The hypotheses of LinksTrain are met, clause by clause. -/
theorem witness_LinksTrain :
    let Link := fun (s : State) (b : Nat) => b < s.nBench ∧ b < s.shaft.length
    let Starts := fun (s : State) (b : Nat) => Link s b ∧ s.fwDrives = true ∧ s.live (13 + b) = true ∧
      s.rd R.SHAFT_TRAIN_CTRL_GO [b] = 0
    let Ends := fun (s : State) (b : Nat) => Link s b ∧ s.fwDrives = true ∧ s.linkState b = 1 ∧
      s.rd R.SHAFT_TRAIN_CTRL_GO [b] = 1 ∧ s.tooFew b = false ∧ s.ras.repair = none ∧ s.thermal.released = true ∧
      s.test.back.contains b = false ∧ NoFence s
    (∃ (s : State) (b : Nat), Starts s b ∧
      (s.linkState b = linkDown ∨ s.linkState b = 1 ∨ s.linkState b = linkHold) ∧ Mild s 73) ∧
    (∃ (s : State) (b : Nat), Starts s b ∧ s.linkState b = 1 ∧ Mild s 75 ∧ b < s.bench.length) ∧
    (∃ (s : State) (b : Nat), Ends s b ∧ (s.link b).step = 1) ∧
    (∃ (s : State) (b : Nat), Ends s b ∧ (s.link b).step = 8) ∧
    (∃ (s : State) (b : Nat) (src : RegSrc) (k : Nat), Link s b ∧ (s.inbound src).live 3 = true ∧ k < 3 ∧
      ((s.inbound src).linkState b = linkDown ∨ (s.inbound src).linkState b = linkOffline)) ∧
    (∃ (s : State) (b : Nat) (src : RegSrc) (k : Nat), Link s b ∧ (s.inbound src).live 3 = true ∧ k < 3 ∧
      (s.inbound src).linkState b ≠ linkDown ∧ (s.inbound src).linkState b ≠ linkOffline ∧ Mild (s.inbound src) 84) ∧
    (∃ (s : State) (b : Nat), Link s b ∧ s.live 3 = true) := by
  refine ⟨⟨linkIn 0 0, 0, ?_⟩, ⟨training 0 1 0, 0, ?_⟩, ⟨training 0 1 1, 0, ?_⟩, ⟨training 8 8 1, 8, ?_⟩,
    ⟨linkIn 0 0, 0, .host 7, 0, ?_⟩, ⟨on, 0, .host 7, 0, ?_⟩, ⟨on, 0, ?_⟩⟩ <;> decide +kernel

/-- The hypotheses of ChannelsAreRun are met, clause by clause. -/
theorem witness_ChannelsAreRun :
    (∃ (s : State) (c : Nat) (src : RegSrc) (data : Nat), c < 64 ∧ c < s.haul.chans.length ∧ s.live 9 = true ∧
      s.coding.waiting = [] ∧ (s.inbound src).live 9 = true ∧ (s.inbound src).coding.waiting = [] ∧ c < (s.inbound
      src).haul.chans.length ∧ ReactLegal (s.inbound src) ∧ data % 65536 < (s.inbound src).ringSize c) ∧
    (∃ (s : State) (c : Nat) (src : RegSrc) (data : Nat), c < 64 ∧ c < s.haul.chans.length ∧ s.live 9 = true ∧
      s.coding.waiting = [] ∧ (s.inbound src).live 9 = true ∧ (s.inbound src).coding.waiting = [] ∧ c < (s.inbound
      src).haul.chans.length ∧ ReactLegal (s.inbound src) ∧ (s.inbound src).ringSize c ≤ data % 65536) ∧
    (∃ (s : State) (c : Nat) (src : RegSrc), c < 64 ∧ c < s.haul.chans.length ∧ s.live 9 = true ∧ s.coding.waiting = [] ∧
      (s.inbound src).live 9 = true ∧ (s.inbound src).coding.waiting = [] ∧ c < (s.inbound src).haul.chans.length ∧ ReactLegal
      (s.inbound src) ∧ (s.inbound src).rd R.HAUL_COMMIT [c] = 0 ∧ 1 ≤ (s.inbound src).rd R.HAUL_SH_CFG_SIZE_LOG2 [c] ∧
      (s.inbound src).rd R.HAUL_SH_CFG_SIZE_LOG2 [c] ≤ 16 ∧ (s.inbound src).rd R.HAUL_SH_CFG_DESC_SPACE [c] = 0 ∧ (s.inbound
      src).rd R.HAUL_SH_CFG_COMP_SPACE [c] = 0) ∧
    (∃ (s : State) (c : Nat) (src : RegSrc), c < 64 ∧ c < s.haul.chans.length ∧ s.live 9 = true ∧ s.coding.waiting = [] ∧
      (s.inbound src).live 9 = true ∧ (s.inbound src).coding.waiting = [] ∧ c < (s.inbound src).haul.chans.length ∧ ReactLegal
      (s.inbound src) ∧ (s.inbound src).rd R.HAUL_CTRL_EN [c] = 0 ∧ (s.inbound src).rd R.HAUL_ACT_CFG_SIZE_LOG2 [c] ≠ 0 ∧
      (s.inbound src).rd R.HAUL_ACT_CFG_COMP_SPACE [c] = 0) ∧
    (∃ (s : State) (c : Nat) (src : RegSrc), c < 64 ∧ c < s.haul.chans.length ∧ s.live 9 = true ∧ s.coding.waiting = [] ∧
      (s.inbound src).live 9 = true ∧ (s.inbound src).coding.waiting = [] ∧ c < (s.inbound src).haul.chans.length ∧ ReactLegal
      (s.inbound src) ∧ (s.inbound src).rd R.HAUL_CTRL_EN [c] = 1) ∧
    (∃ (s : State) (c : Nat), c < 64 ∧ c < s.haul.chans.length ∧ s.live 9 = true ∧ s.coding.waiting = [] ∧ s.handReady c =
      true ∧ (s.chan c).pre = []) ∧
    (∃ (s : State) (c : Nat) (raw : List Byte), c < 64 ∧ c < s.haul.chans.length ∧ s.live 9 = true ∧ s.coding.waiting = [] ∧
      (s.chan c).run = none ∧ (s.chan c).pre = [] ∧ (s.chan c).got = [(s.nextIdx c, raw, false)] ∧ dOp raw ≤ 7
      ∧ s.gated = false) := by
  refine ⟨⟨(haul 0), 0, (.host 7), 0, ?_⟩, ⟨(haul 0), 0, (.host 7), 63, ?_⟩, ⟨(haul 0), 0, (.host 7), ?_⟩, ⟨(disabled), 0,
    (.host 7), ?_⟩, ⟨(haul 0), 0, (.host 7), ?_⟩, ⟨(committed), 63, ?_⟩, ⟨(arrived), 0, (dNop), ?_⟩⟩ <;> decide +kernel

/-- The hypotheses of HaulRequestsEnd are met, clause by clause. -/
theorem witness_HaulRequestsEnd :
    (∃ (s : State) (tag i : Nat) (data : List Byte), s.live 9 = true ∧ ∃ q ∈ (s.haul.np.find? (·.tag == tag)).toList, q.use =
      .desc i ∧ q.chan < s.haul.chans.length ∧ q.len ≤ (q.got ++ data).length ∧ s.issueCount = 0) ∧
    (∃ (s : State) (tag status : Nat), s.live 9 = true ∧ ∃ q ∈ (s.haul.np.find? (·.tag == tag)).toList, s.halted = false ∧ Mild
      s 80 ∧ Mild s 83 ∧ (∀ h ∈ s.haul.chans, ∀ r ∈ h.run.toList, s.runFinished h r = false) ∧ status ≠ 0) ∧
    (∃ (s : State) (tag : Nat), s.live 9 = true ∧ ∃ q ∈ (s.haul.np.find? (·.tag == tag)).toList, s.halted = false ∧ Mild s 80 ∧
      Mild s 83 ∧ (∀ h ∈ s.haul.chans, ∀ r ∈ h.run.toList, s.runFinished h r = false) ∧ s.timeoutsOn = true) ∧
    (∃ (s : State) (src : RegSrc), s.live 9 = true ∧ (s.inbound src).live 9 = true) := by
  refine ⟨⟨outstanding, 3, 5, List.replicate 64 9#8, ?_⟩, ⟨outstanding, 3, 3, ?_⟩, ⟨outstanding, 3, ?_⟩, ⟨on, .host 7, ?_⟩⟩
    <;> decide +kernel

/-- The hypotheses of DescriptorsStart are met, clause by clause. -/
theorem witness_DescriptorsStart :
    let Posted := fun (s : State) (c i : Nat) (raw : List Byte) => c < 64 ∧ c < s.haul.chans.length ∧
      (s.chan c).pre = [(i, raw, false)] ∧ s.mayStart c = true ∧ s.fault.inj = none ∧ s.coding.waiting = [] ∧
      ctrlBad raw = false ∧ s.host.busMaster = true ∧ s.rd R.HAUL_ACT_CFG_COMP_SPACE [c] = 0 ∧
      s.rd R.HAUL_ACT_CFG_SIZE_LOG2 [c] ≤ 16 ∧ s.cplOut c = 0 ∧ s.rd R.HOST_STATUS_LINK_UP = 1
    let Alone := fun (s : State) (c : Nat) => s.haul.turn < 64 ∧ s.rd R.HAUL_TAIL_INDEX [c] = s.rd R.HAUL_HEAD_INDEX [c] ∧
      ∀ h ∈ s.haul.chans, h.todo = [] ∧ h.run = none
    let Coded := fun (s : State) (c i : Nat) (raw : List Byte) (P : Run → Prop) => Posted s c i raw ∧ s.codingOn = true ∧
      (s.rd R.FAULT_FENCED_TARGETS).testBit 1 = false ∧ s.coding.active.length < 16 ∧
      (cArgs raw).bad (leNat (slice raw 45 1)) = false ∧ (dCtrl raw).testBit 16 = false ∧ (dCtrl raw).testBit 17 = false ∧
      let r := { Run.init i raw (s.descLabel c raw) with
        src := s.slotOf (slice raw 8 16) false false false
        dst := if (cArgs raw).slots.isEmpty then Slot.empty else s.slotOf (slice raw 24 16) false true false }
      s.codedCheck r = none ∧ P r
    let Held := fun (s : State) (c i : Nat) (raw : List Byte) =>
      (Coded s c i raw fun r => s.rangeHeld c r = true) ∧
      ∀ d ∈ s.coding.active, ∀ q ∈ (s.chan d).run.toList, q.phase ≠ .lists
    (∃ (s : State) (c i : Nat) (raw : List Byte), Posted s c i raw ∧ leNat (slice raw 40 24) = 0 ∧ dOp raw = 0) ∧
    (∃ (s : State) (c i : Nat) (raw : List Byte), Posted s c i raw ∧ leNat (slice raw 40 24) = 0 ∧ dOp raw = 7 ∧
      field (dCtrl raw) 13 2 = 0) ∧
    (∃ (s : State) (c i : Nat) (raw : List Byte), Posted s c i raw ∧ leNat (slice raw 40 24) = 0 ∧ dOp raw = 1 ∧
      (dCtrl raw).testBit 16 = false ∧ (dCtrl raw).testBit 17 = false ∧ elemFlags (slice raw 24 16) = 0 ∧
      elemFlags (slice raw 8 16) = 0 ∧ elemLen (slice raw 24 16) = elemLen (slice raw 8 16) ∧ 0 < elemLen (slice raw 8 16) ∧
      elemLen (slice raw 8 16) ≤ s.host.maxRead ∧ elemAddr (slice raw 8 16) % 4096 + elemLen (slice raw 8 16) ≤ 4096 ∧
      elemAddr (slice raw 8 16) + elemLen (slice raw 8 16) ≤ 2 ^ 64 ∧
      elemAddr (slice raw 24 16) + elemLen (slice raw 24 16) ≤ 2 ^ 64 ∧ Alone s c ∧ s.freeTag.isSome = true) ∧
    (∃ (s : State) (c i : Nat) (raw : List Byte), Posted s c i raw ∧ leNat (slice raw 48 16) = 0 ∧ dOp raw = 2 ∧
      (dCtrl raw).testBit 17 = false ∧ elemFlags (slice raw 24 16) = 0 ∧ 0 < elemLen (slice raw 24 16) ∧
      elemLen (slice raw 24 16) ≤ s.host.maxPayload ∧ elemAddr (slice raw 24 16) % 4096 + elemLen (slice raw 24 16) ≤ 4096 ∧
      elemAddr (slice raw 24 16) + elemLen (slice raw 24 16) ≤ 2 ^ 64 ∧ Alone s c) ∧
    (∃ (s : State) (c i : Nat) (raw : List Byte), (Coded s c i raw fun r => s.rangeHeld c r = false) ∧ dOp raw = 3) ∧
    (∃ (s : State) (c i : Nat) (raw : List Byte), (Coded s c i raw fun r => s.rangeHeld c r = false) ∧ dOp raw = 4) ∧
    (∃ (s : State) (c i : Nat) (raw : List Byte), (Coded s c i raw fun r => s.rangeHeld c r = false) ∧ dOp raw = 5) ∧
    (∃ (s : State) (c i : Nat) (raw : List Byte), (Coded s c i raw fun r => s.rangeHeld c r = false) ∧ dOp raw = 6) ∧
    (∃ (s : State) (c i : Nat) (raw : List Byte), Held s c i raw ∧ dOp raw = 3) ∧
    (∃ (s : State) (c i : Nat) (raw : List Byte), Held s c i raw ∧ dOp raw = 4) ∧
    (∃ (s : State) (c i : Nat) (raw : List Byte), Held s c i raw ∧ dOp raw = 5) ∧
    (∃ (s : State) (c i : Nat) (raw : List Byte), Held s c i raw ∧ dOp raw = 6) := by
  refine ⟨⟨fetched 0 dNop, 0, 0, dNop, ?_⟩, ⟨fetched 0 dFence, 0, 0, dFence, ?_⟩,
    ⟨put (fetched 0 dCopy) [(R.HAUL_TAIL_INDEX, [0], 0)], 0, 0, dCopy, ?_⟩,
    ⟨put (fetched 0 dFill) [(R.HAUL_TAIL_INDEX, [0], 0)], 0, 0, dFill, ?_⟩, ⟨fetched 0 dDigest, 0, 0, dDigest, ?_⟩,
    ⟨fetched 0 dEncode, 0, 0, dEncode, ?_⟩, ⟨ledger (fetched 63 dVerify), 63, 0, dVerify, ?_⟩,
    ⟨fetched 0 dRebuild, 0, 0, dRebuild, ?_⟩, ⟨ranged (ledgered dDigest), 0, 0, ledgered dDigest, ?_⟩,
    ⟨ranged (ledgered dEncode), 0, 0, ledgered dEncode, ?_⟩, ⟨ranged dVerify, 0, 0, dVerify, ?_⟩,
    ⟨ranged (ledgered dRebuild), 0, 0, ledgered dRebuild, ?_⟩⟩ <;> decide +kernel

/-- The hypotheses of CodedDescriptorsProceed are met, clause by clause. -/
theorem witness_CodedDescriptorsProceed :
    (∃ (s : State) (c : Nat), c < 64 ∧ c < s.haul.chans.length ∧ s.coding.waiting = [] ∧ s.halted = false ∧ ∃ r ∈ ((s.chan
      c).run).toList, r.phase = .ledger ∧ r.await = 0 ∧ opCoded (dOp r.raw) = true ∧ (∀ p ∈ r.parts, p.2.2 = [])) ∧
    (∃ (s : State) (c : Nat), c < 64 ∧ c < s.haul.chans.length ∧ s.coding.waiting = [] ∧ s.halted = false ∧ ∃ r ∈ ((s.chan
      c).run).toList, r.phase = .reading ∧ r.await = 0 ∧ dOp r.raw = 3 ∧ (cArgs r.raw).ledgered = false ∧ (∀ p ∈ r.parts,
      p.2.2 = []) ∧ r.status = none ∧ r.endStatus = none ∧ r.writes = [] ∧ r.lastPcie = none ∧ r.bytes = 0 ∧ r.stackWrote =
      false ∧ r.outcome = 0 ∧ s.host.busMaster = true ∧ s.rd R.HAUL_ACT_CFG_COMP_SPACE [c] = 0 ∧ s.cplOut c = 0 ∧ s.rd
      R.HOST_STATUS_LINK_UP = 1) ∧
    (∃ (s : State) (c : Nat) (src : RegSrc), c < 64 ∧ c < s.haul.chans.length ∧ s.coding.waiting = [] ∧ s.halted = false ∧
      (s.inbound src).codingOn = true ∧ Mild (s.inbound src) 84 ∧ (s.inbound
      src).coding.active = [] ∧ (s.inbound src).coding.waiting = [] ∧ (s.inbound src).rd R.CODING_LEDGER_BASE_GIB + (s.inbound
      src).rd R.CODING_LEDGER_SIZE_GIB ≤ (s.inbound src).capacity / 2 ^ 30) ∧
    (∃ (s : State) (c : Nat) (src : RegSrc), c < 64 ∧ c < s.haul.chans.length ∧ s.coding.waiting = [] ∧ s.halted = false ∧
      (s.inbound src).codingOn = true ∧ Mild (s.inbound src) 84 ∧ (s.inbound src).rd
      R.CODING_CTRL_LEDGER_EN = 1) ∧
    (∃ (s : State) (c : Nat) (src : RegSrc), c < 64 ∧ c < s.haul.chans.length ∧ s.coding.waiting = [] ∧ s.halted = false ∧
      (s.inbound src).codingOn = true ∧ Mild (s.inbound src) 84 ∧ (s.inbound src).rd
      R.CODING_CTRL_LEDGER_EN = 0) ∧
    (∃ (s : State) (c : Nat) (src : RegSrc) (data : Nat), c < 64 ∧ c < s.haul.chans.length ∧ s.coding.waiting = [] ∧ s.halted
      = false ∧ (s.inbound src).codingOn = true ∧ Mild (s.inbound src) 84 ∧ (s.inbound
      src).rd R.CODING_CTRL_LEDGER_EN = 0 ∧ 1 ≤ data % 128 ∧ data % 128 ≤ 64) := by
  refine ⟨⟨(ledgerRead), 0, ?_⟩, ⟨(pass1), 0, ?_⟩, ⟨(ledgerRead), 0, (.host 7), ?_⟩, ⟨(ledgerRead), 0, (.host 7), ?_⟩,
    ⟨(pass1), 0, (.host 7), ?_⟩, ⟨(pass1), 0, (.host 7), 1, ?_⟩⟩ <;> decide +kernel

/-- The hypotheses of RegulationActs are met, clause by clause. -/
theorem witness_RegulationActs :
    (∃ (s : State) (src : RegSrc) (l : Nat) (data : Nat), (s.inbound src).live 3 = true ∧ Mild (s.inbound src) 84 ∧ l < 64 ∧ l
      ≠ 1 ∧ data.testBit 20 = false) ∧
    (∃ (s : State) (src : RegSrc) (v : Nat), (s.inbound src).live 3 = true ∧ Mild (s.inbound src) 84 ∧ v < 65536 ∧ v ≠ 0) ∧
    (∃ (s : State) (src : RegSrc) (v : Nat), (s.inbound src).live 3 = true ∧ Mild (s.inbound src) 84 ∧ v < 128) ∧
    (∃ (s : State), s.windowDue = true ∧ s.live 3 = true) ∧
    (∃ (s : State) (id : Nat), ∃ l ∈ (s.waitLabel id).toList, s.classOf l = 2 ∧ id ∉ s.regul.aged) := by
  refine ⟨⟨(on), (.host 7), 0, 0, ?_⟩, ⟨(on), (.host 7), 1, ?_⟩, ⟨(on), (.host 7), 0, ?_⟩, ⟨(on), ?_⟩, ⟨(readWaits), 0, ?_⟩⟩
    <;> decide +kernel

/-- The hypotheses of CoreSamplesRun are met, clause by clause. -/
theorem witness_CoreSamplesRun :
    (∃ (s : State), s.csDue 2 R.TEST_CS_MEM_INTERVAL_TICKS = true ∧ s.csMay R.TEST_CTRL_CS_MEM_EN false = true ∧ s.test.mem =
      none ∧ s.test.lane = none ∧ s.csMemAdmits (s.rd R.TEST_CS_MEM_PTR_LAYER) = true) ∧
    (∃ (s : State), ∃ m ∈ (s.test.mem).toList, m.rebuilding = false ∧ s.marchBegun m = false) ∧
    (∃ (s : State), ∃ m ∈ (s.test.mem).toList, m.rebuilding = false ∧ s.marchBegun m = true ∧ CacheIdle s) ∧
    (∃ (s : State), ∃ m ∈ (s.test.mem).toList, m.rebuilding = true ∧ m.restoring = false ∧ m.fails = [] ∧ s.test.entering =
      false ∧ s.rd R.TEST_CS_PROGRESS_REBUILD_PTR = 512) ∧
    (∃ (s : State), s.csDue 3 R.TEST_CS_WAY_INTERVAL_TICKS = true ∧ s.csMay R.TEST_CTRL_CS_WAY_EN false = true ∧ s.test.way =
      none ∧ s.cacheOn = true ∧ s.protection ≠ 3 ∧ s.cache.flush = none ∧ s.wt = false ∧ s.rd R.CACHE_WAY_DISABLE_WAYS = 0) ∧
    (∃ (s : State) (w : Nat), w < 16 ∧ s.test.way = some w ∧ (∀ l ∈ s.cache.lines, l.way ≠ w) ∧ s.test.entering = false) ∧
    (∃ (s : State) (b : Nat) (up : Bool) (l : Nat), s.csDue 4 R.TEST_CS_LANE_INTERVAL_TICKS = true ∧ s.csMay
      R.TEST_CTRL_CS_LANE_EN false = true ∧ s.test.lane = none ∧ s.protection ≠ 3 ∧ s.laneNext = some (b, up, l) ∧ s.is
      R.SHAFT_LANE_MAPPED [b, b2n up, l] = false) ∧
    (∃ (s : State) (b : Nat) (up : Bool) (l : Nat), s.csDue 4 R.TEST_CS_LANE_INTERVAL_TICKS = true ∧ s.csMay
      R.TEST_CTRL_CS_LANE_EN false = true ∧ s.test.lane = none ∧ s.protection ≠ 3 ∧ s.laneNext = some (b, up, l) ∧ s.is
      R.SHAFT_LANE_MAPPED [b, b2n up, l] = true ∧ s.test.mem = none ∧ s.recalAdmits = true ∧ (∃ k ∈ s.goodLanes b up, s.is
      R.SHAFT_LANE_MAPPED [b, b2n up, k] = false) ∧ s.ras.repair = none) ∧
    (∃ (s : State) (n : Nat), ∃ c ∈ (s.test.lane).toList, c.used = false ∧ c.bench < 9 ∧ c.lane < 76 ∧ s.test.entering = false ∧
      n ≤ s.rd R.SHAFT_TRAIN_CFG_PRBS_LIMIT [c.bench]) ∧
    (∃ (s : State) (n : Nat), ∃ c ∈ (s.test.lane).toList, c.used = false ∧ c.bench < 9 ∧ c.lane < 76 ∧ s.test.entering = false ∧
      s.rd R.SHAFT_TRAIN_CFG_PRBS_LIMIT [c.bench] < n ∧ Mild s 74) := by
  refine ⟨⟨on, ?_⟩, ⟨marchAsked, ?_⟩, ⟨marching false, ?_⟩, ⟨marching true, ?_⟩, ⟨samplesDue, ?_⟩, ⟨wayOut, 15, ?_⟩, ⟨samplesDue, 0, false, 0,
    ?_⟩, ⟨put samplesDue [(R.SHAFT_LANE_MAPPED, [0, 0, 0], 1)], 0, false, 0, ?_⟩, ⟨laneOut, 0, ?_⟩, ⟨laneOut, 2 ^ 32, ?_⟩⟩
    <;> decide +kernel

/-- The hypotheses of ServiceAndTests are met, clause by clause. -/
theorem witness_ServiceAndTests :
    (∃ (s : State) (src : RegSrc), (s.inbound src).live 3 = true ∧ (s.inbound src).rd R.TEST_CTRL_SERVICE ≠ 1 ∧ (s.inbound
      src).rd R.POWER_STATUS_STATE = 0 ∧ ((s.inbound src).rd R.TIME_SHIFT_STATUS_STATE = 0 ∨ (s.inbound src).rd
      R.TIME_SHIFT_STATUS_STATE = 4) ∧ (s.inbound src).haulBusy = false ∧ (s.inbound src).rd R.CODE_CODE_STATUS_CLEAR_BUSY ≠ 1
      ∧ (s.inbound src).ras.rejoinNext = none ∧ (s.inbound src).ras.sweeps = [] ∧ (s.inbound src).ras.repair = none ∧
      (s.inbound src).sampling = false ∧ (s.inbound src).cache.flush = none ∧ (s.inbound src).anyDirty = false ∧ (s.inbound
      src).cache.ops = []) ∧
    (∃ (s : State) (src : RegSrc), (s.inbound src).live 3 = true ∧ (s.inbound src).rd R.TEST_CTRL_SERVICE = 1 ∧ (s.inbound
      src).rd R.TEST_STATUS_SERVICE_MODE = 1 ∧ (s.inbound src).test.test = none ∧ (s.inbound src).ras.rejoinNext = none ∧
      (s.inbound src).ras.sweeps = [] ∧ (s.inbound src).test.mem = none ∧ (∀ c, c < 64 → ((s.inbound src).chan c).run = none ∧
      (s.inbound src).chanPosted c = false ∧ (s.inbound src).rd R.HAUL_CTRL_EN [c] ≠ 1) ∧
      CacheIdle (s.inbound src)) ∧
    (∃ (s : State) (src : RegSrc), (s.inbound src).live 3 = true ∧ (s.inbound src).rd R.TEST_STATUS_SERVICE_MODE = 1 ∧
      (s.inbound src).startingUp = false ∧ (s.inbound src).test.test = none) ∧
    (∃ (s : State) (src : RegSrc) (b : Nat), (s.inbound src).live 3 = true ∧ (s.inbound src).rd R.TEST_STATUS_SERVICE_MODE = 1
      ∧ (s.inbound src).startingUp = false ∧ (s.inbound src).test.test = none ∧ b < (s.inbound src).nBench) ∧
    (∃ (s : State) (src : RegSrc), (s.inbound src).live 3 = true ∧ (s.inbound src).rd R.TEST_STATUS_SERVICE_MODE = 1 ∧
      (s.inbound src).startingUp = false ∧ (s.inbound src).test.test = none ∧
      ((s.inbound src).rd R.TIME_SHIFT_STATUS_STATE = 0 ∨ (s.inbound src).rd R.TIME_SHIFT_STATUS_STATE = 4)) ∧
    (∃ (s : State) (src : RegSrc) (layer : Nat) (pos : Nat), (s.inbound src).live 3 = true ∧ (s.inbound src).rd
      R.TEST_STATUS_SERVICE_MODE = 1 ∧ (s.inbound src).startingUp = false ∧ (s.inbound src).test.test = none ∧ layer < (s.inbound src).nLayer ∧ pos < 64 ∧
      (s.inbound src).protection = 0) ∧
    (∃ (s : State) (src : RegSrc) (b : Nat), (s.inbound src).live 3 = true ∧ (s.inbound src).rd R.TEST_STATUS_SERVICE_MODE ≠ 1
      ∧ (s.inbound src).startingUp = false ∧ (s.inbound src).test.test = none ∧ (s.inbound src).recalAdmits = true ∧ b <
      (s.inbound src).nBench ∧ (s.inbound src).live 8 = true ∧ (s.inbound src).layer (2 * b) = 0 ∧ (s.inbound src).layer (2 *
      b + 1) = 0 ∧ Mild (s.inbound src) 32 ∧ (s.inbound src).ras.rejoinNext = none ∧ (s.inbound src).ras.sweeps = [] ∧
      (s.inbound src).ras.repair = none ∧ (s.inbound src).test.mem = none ∧ CacheIdle (s.inbound src)) ∧
    (∃ (s : State) (src : RegSrc) (b : Nat), (s.inbound src).live 3 = true ∧ (s.inbound src).startingUp = true ∧
      b < (s.inbound src).nBench ∧ b ∉ (s.inbound src).test.lbist) ∧
    (∃ (s : State) (b : Nat), b ∈ s.test.lbist) ∧
    (∃ (s : State), ∃ r ∈ (s.test.test).toList, r.removed = false ∧ 1 ≤ r.code ∧ r.code ≤ 6 ∧ r.code ≠ 4 ∧
      s.test.lbist = []) ∧
    (∃ (s : State), ∃ r ∈ (s.test.test).toList, r.removed = false ∧ r.code = 4 ∧ CacheIdle s ∧ s.protection ≠ 3 ∧
      s.test.lbist = []) ∧
    (∃ (s : State), ∃ r ∈ (s.test.test).toList, r.removed = true ∧ r.code = 3 ∧ s.linkState r.target ≠ linkActive ∧
      s.test.lbist = []) := by
  refine ⟨⟨(on), (.host 7), ?_⟩, ⟨(serviced), (.host 7), ?_⟩, ⟨(serviced), (.host 7), ?_⟩, ⟨(serviced), (.host 7), 0, ?_⟩,
    ⟨(serviced), (.host 7), ?_⟩, ⟨(serviced), (.host 7), 0, 0, ?_⟩, ⟨(on), (.host 7), 0, ?_⟩, ⟨notReady, .host 7, 8, ?_⟩,
    ⟨withTest notReady fun x => { x with lbist := [8] }, 8, ?_⟩, ⟨testing 1, ?_⟩, ⟨testing 4, ?_⟩,
    ⟨withTest (linkIn 8 0) fun x => { x with test := some ⟨3, 8, 0, true⟩ }, ?_⟩⟩ <;> decide +kernel

/-- The hypotheses of CalibrationActs are met, clause by clause. -/
theorem witness_CalibrationActs :
    let Asks := fun (s : State) (src : RegSrc) => (s.inbound src).calOn = true
    (∃ (s : State) (src : RegSrc), Asks s src ∧ (s.inbound src).test.run = none) ∧
    (∃ (s : State) (src : RegSrc) (b : Nat), Asks s src ∧ (s.inbound src).test.run = none ∧ b < (s.inbound src).nBench ∧
      (s.inbound src).recalAdmits = false) ∧
    (∃ (s : State) (src : RegSrc) (b : Nat), Asks s src ∧ (s.inbound src).test.run = none ∧ b < (s.inbound src).nBench ∧
      (s.inbound src).recalAdmits = true) ∧
    (∃ (s : State) (src : RegSrc), Asks s src ∧ (s.inbound src).test.save = none ∧ (s.inbound src).updating = false ∧
      (s.inbound src).rd R.THERMAL_STATUS_PROG_OK = 1) ∧
    (∃ (s : State), ∃ r ∈ s.test.run.toList, r.kind < 3 ∧ r.removed = false) ∧
    (∃ (s : State), ∃ r ∈ s.test.run.toList, 3 ≤ r.kind ∧ r.removed = true ∧ s.linkState r.bench ≠ linkActive) ∧
    (∃ (s : State), ∃ t0 ∈ s.test.apply.toList, t0 ≠ s.time.now ∧ s.test.active.length = 4096 ∧
      s.test.atTick.length = 4096) ∧
    (∃ (s : State) (k : Nat), s.test.save = some (k, false)) := by
  refine ⟨⟨on, .host 7, ?_⟩, ⟨lost3, .host 7, 0, ?_⟩, ⟨on, .host 7, 0, ?_⟩, ⟨coolEnough on, .host 7, ?_⟩, ⟨calRunning, ?_⟩,
    ⟨withTest (linkIn 8 1) fun x => { x with run := some ⟨3, 8, true, 1⟩ }, ?_⟩, ⟨applying, ?_⟩, ⟨saving 0, 0, ?_⟩⟩ <;>
    decide +kernel

/-- The hypotheses of FuseControlsAct are met, clause by clause. -/
theorem witness_FuseControlsAct :
    (∃ (s : State), s.live 23 = true ∧ s.rd R.FUSE_STATUS_SENSED ≠ 1 ∧ s.power.seq ≠ .exiting ∧ Mild s 45 ∧ Mild s 96 ∧ Mild s 97) ∧
    (∃ (s : State) (src : RegSrc) (w : Nat), (s.inbound src).fuseOn = true ∧ w < 128) ∧
    (∃ (s : State) (src : RegSrc) (w : Nat), (s.inbound src).fuseOn = true ∧ w < 126 ∧
      secDecode ((s.inbound src).senseRead [⟨w, 1, 2, 1⟩] false w 1 2) = some (0, true)) ∧
    (∃ (s : State) (src : RegSrc), (s.inbound src).fuseOn = true) ∧
    (∃ (s : State) (src : RegSrc) (w : Nat), (s.inbound src).fuseOn = true ∧ w < 128 ∧ (privileged (fuseRegion w) = true ∨
      fuseRegion w = 8 ∨ ((s.inbound src).rd R.FUSE_STATUS_OPEN).testBit (fuseRegion w) = false)) ∧
    (∃ (s : State) (src : RegSrc) (w : Nat), (s.inbound src).fuseOn = true ∧ w < 128 ∧ privileged (fuseRegion w) = false ∧
      fuseRegion w ≠ 8 ∧ (s.inbound src).ras.repair = none ∧ ((s.inbound src).rd R.FUSE_STATUS_OPEN).testBit (fuseRegion w) = true) := by
  refine ⟨⟨(unsensed), ?_⟩, ⟨(burnable 5), (.host 7), 0, ?_⟩, ⟨burnable 5, .host 7, 125, ?_⟩,
    ⟨(burnable 5), (.host 7), ?_⟩, ⟨(burnable 5), (.host 7), 8, ?_⟩, ⟨(burnable 5), (.host 7), 0, ?_⟩⟩ <;> decide +kernel

/-- The hypotheses of BurnsAct are met, clause by clause. -/
theorem witness_BurnsAct :
    (∃ (s : State) (src : RegSrc) (w : Nat), w < 128 ∧ (s.inbound src).fuseOn = true ∧ Mild (s.inbound src) 22) ∧
    (∃ (s : State) (src : RegSrc) (w : Nat), w < 128 ∧ (s.inbound src).fuseOn = true ∧ Mild (s.inbound src) 22 ∧ w < 126 ∧
      (s.inbound src).burnCheck w false false = none) ∧
    (∃ (s : State) (src : RegSrc) (w : Nat), w < 128 ∧ (s.inbound src).fuseOn = true ∧ Mild (s.inbound src) 22 ∧ 126 ≤ w ∧
      (s.inbound src).burnCheck w false false = none) ∧
    (∃ (s : State) (src : RegSrc) (w : Nat), w < 128 ∧ (s.inbound src).fuseOn = true ∧ Mild (s.inbound src) 22 ∧ w < 9 ∧
      (s.inbound src).burnCheck w true false = none) ∧
    (∃ (s : State) (src : RegSrc) (w : Nat), w < 128 ∧ (s.inbound src).fuseOn = true ∧ Mild (s.inbound src) 22 ∧ w < 9 ∧
      (s.inbound src).burnCheck w true true = none) ∧
    (∃ (s : State), ∃ b ∈ (s.fuse.burn).toList, b.isSeal = false ∧ b.rollback = none ∧ b.word < 126 ∧ b.left = false ∧
      s.fuseCell b.word 0 = 0 ∧ s.fuseCell b.word 1 = 0 ∧ b.data < 2 ^ 72) := by
  refine ⟨⟨(on), (.host 7), 0, ?_⟩, ⟨(burnable 5), (.host 7), 0, ?_⟩, ⟨(burnable 5), (.host 7), 126, ?_⟩, ⟨(burnable
    sealCheck), (.host 7), 6, ?_⟩, ⟨(burnable 5), (.host 7), 6, ?_⟩, ⟨(burning), ?_⟩⟩ <;> decide +kernel

/-- The hypotheses of ManagementActs are met, clause by clause. -/
theorem witness_ManagementActs :
    (∃ (s : State) (src : RegSrc), (s.inbound src).live 11 = true) ∧
    (∃ (s : State) (src : RegSrc), (s.inbound src).fwRuns = true ∧ (s.inbound src).mgmt.persistTo = none) ∧
    (∃ (s : State) (src : RegSrc), (s.inbound src).fwRuns = false ∨ (s.inbound src).mgmt.persistTo.isSome = true) ∧
    (∃ (s : State), ∃ q ∈ (s.mgmt.persistTo).toList, s.mgmt.persistDue = false ∧ q = 3) ∧
    (∃ (s : State), s.booting = true ∧ s.mgmt.loading < 2 ∧ s.mgmt.loaded = true ∧ s.rack.rx = [] ∧ s.mgmt.second = false ∧
      Mild s 100) ∧
    (∃ (s : State), s.booting = true ∧ 10000 ≤ s.mgmt.bootAge ∧ Mild s 98 ∧ s.pins.bootsel = false ∧ s.mgmt.second = true) ∧
    (∃ (s : State), s.fwRuns = true ∧ s.rd R.MGMT_STATUS_TRIAL = 1 ∧ s.mgmt.confirmDelay ≠ 0 ∧ s.mgmt.confirmDelay ≤
      s.mgmt.runAge) ∧
    (∃ (s : State), s.fwRuns = true ∧ s.rd R.MGMT_STATUS_UPDATE_STATE = 1) ∧
    (∃ (s : State), s.fwRuns = true ∧ s.rd R.MGMT_STATUS_UPDATE_STATE = 3 ∧ s.rd R.MGMT_UPDATE_INFO_ACT_MODE ≠ 2) ∧
    (∃ (s : State), s.fwRuns = true ∧ s.rd R.MGMT_WDOG_CTRL_EN = 1 ∧ s.rd R.MGMT_WDOG_COUNT_TICKS = 0 ∧ s.rd R.FAULT_REACT_REACTION [98] = 2 ∧ s.fault.shadows =
      [] ∧ (s.rd R.FAULT_FENCED_TARGETS).testBit 2 = false) := by
  refine ⟨⟨(on), (.host 7), ?_⟩, ⟨(on), (.host 7), ?_⟩, ⟨persisting, .host 7, ?_⟩, ⟨(persisting), ?_⟩, ⟨(booting false), ?_⟩, ⟨(booting true), ?_⟩,
    ⟨(trial), ?_⟩, ⟨(updating 1), ?_⟩, ⟨(updating 3), ?_⟩, ⟨(updating 1), ?_⟩⟩ <;> decide +kernel

/-- The hypotheses of DictionaryServes are met, clause by clause. -/
theorem witness_DictionaryServes :
    let Serves := fun (s : State) (c : Nat) (m : List Byte) (k : Nat) => DictTakes s c ∧
      (dictBefore s c m).restarting c m = false ∧ ((dictBefore s c m).carrier c).lastReq ≠ some (reqKey c m) ∧
      (dictBefore s c m).dict.claims = [] ∧ (dreqOf m).cmd = k
    let Fails := fun (s : State) (c : Nat) (m : List Byte) (k : Nat) => Serves s c m k ∧
      ((dictBefore s c m).dictCheck c (dreqOf m)).1 ≠ 0
    let Passes := fun (s : State) (c : Nat) (m : List Byte) (k : Nat) (P : Obj → Prop) => Serves s c m k ∧
      ((dictBefore s c m).dictCheck c (dreqOf m)).1 = 0 ∧ ∃ o ∈ ((dictBefore s c m).dictCheck c (dreqOf m)).2.toList, P o
    let Value := fun (m : List Byte) => (dreqOf m).data.take (dreqOf m).len
    (∃ (s : State) (c : Nat), ∀ k, k < 8 → 1 ≤ k → let m := msg k 1 0x1100 1 0 0 []
      DictTakes s c ∧ (dictBefore s c m).restarting c m = true ∧ (dreqOf m).cmd = k) ∧
    (∃ (s : Nat → State) (c : Nat), ∀ k, k < 8 → 1 ≤ k → let m := msg k 1 0x1100 1 0 0 []
      DictTakes (s k) c ∧ (dictBefore (s k) c m).restarting c m = false ∧
        ((dictBefore (s k) c m).carrier c).lastReq = some (reqKey c m) ∧ (dreqOf m).cmd = k) ∧
    (∃ (s : State) (c : Nat) (m : List Byte), Fails s c m 1) ∧
    (∃ (s : State) (c : Nat) (m : List Byte), Passes s c m 1 fun o => o.index = 0x1100) ∧
    (∃ (s : State) (c : Nat) (m : List Byte), Fails s c m 2) ∧
    (∃ (s : State) (c : Nat) (m : List Byte), Passes s c m 2 fun o =>
      ∃ w ∈ ((dictBefore s c m).dictWrite c o (dreqOf m).sub (Value m)).toList, w.code = 0) ∧
    (∃ (s : State) (c : Nat) (m : List Byte), Passes s c m 2 fun o => o.index = 0x1101 ∧ leNat (Value m) = 0) ∧
    (∃ (s : State) (c : Nat) (m : List Byte), Passes s c m 2 fun o => o.index = 0x1101 ∧ leNat (Value m) ≠ 0 ∧
      (dictBefore s c m).dict.holder ≠ tokenValue c) ∧
    (∃ (s : State) (c : Nat) (m : List Byte), Fails s c m 3) ∧
    (∃ (s : State) (c : Nat) (m : List Byte), Passes s c m 3 fun o => o.index = 0x1002) ∧
    (∃ (s : State) (c : Nat) (m : List Byte), Fails s c m 4) ∧
    (∃ (s : State) (c : Nat) (m : List Byte), Passes s c m 4 fun _ => ((dictBefore s c m).carrier c).open_.isSome = true) ∧
    (∃ (s : State) (c : Nat) (m : List Byte), Fails s c m 5) ∧
    (∃ (s : State) (c : Nat) (m : List Byte), Passes s c m 5 fun o => o.index = 0x1002) ∧
    (∃ (s : State) (c : Nat) (m : List Byte), Fails s c m 6) ∧
    (∃ (s : State) (c : Nat) (m : List Byte), Passes s c m 6 fun _ =>
      ∃ q ∈ ((dictBefore s c m).carrier c).open_.toList, (dreqOf m).pos + (dreqOf m).len ≠ q.total) ∧
    (∃ (s : State) (c : Nat) (m : List Byte), Serves s c m 7 ∧ ((dictBefore s c m).carrier c).open_ = none) ∧
    (∃ (s : State) (c : Nat) (m : List Byte), Serves s c m 7 ∧ ((dictBefore s c m).carrier c).open_.isSome = true) := by
  refine ⟨⟨noImage, 1, ?_⟩, ⟨fun k => asked 0 (msg k 1 0x1100 1 0 0 []), 0, ?_⟩, ⟨on, 0, mBadRead, ?_⟩, ⟨on, 0, mRead, ?_⟩, ⟨on, 0, mBudget, ?_⟩,
    ⟨held 1, 0, mBudget, ?_⟩, ⟨held 1, 0, mRelease, ?_⟩, ⟨on, 0, mClaim 1#8, ?_⟩, ⟨on, 0, msg 3 1 0xFFFF 0 0 0 [], ?_⟩,
    ⟨on, 0, mReadInit, ?_⟩, ⟨on, 0, mReadSeg, ?_⟩, ⟨opened on 0 false, 0, mReadSeg, ?_⟩, ⟨on, 0, mWriteInit, ?_⟩,
    ⟨on, 1, mWriteInit, ?_⟩, ⟨on, 0, mWriteSeg, ?_⟩, ⟨opened on 1 true, 1, mWriteSeg, ?_⟩, ⟨on, 1, mAbort, ?_⟩,
    ⟨opened on 0 false, 0, mAbort, ?_⟩⟩ <;> decide +kernel

/-- The hypotheses of TokenAndTransfersEnd are met, clause by clause. -/
theorem witness_TokenAndTransfersEnd :
    (∃ (s : State) (c : Nat) (m : List Byte), c < 2 ∧ s.dict.claims = [⟨c, m⟩] ∧ s.live 3 = true ∧ s.fwRuns = true ∧ s.dict.holder = 0) ∧
    (∃ (s : State) (c : Nat) (m : List Byte), c < 2 ∧ s.dict.claims = [⟨c, m⟩] ∧ s.live 3 = true ∧ s.fwRuns = true ∧ s.dict.holder ≠ 0 ∧ s.rd
      R.DICT_TOKEN_AGE_TICKS < 20000) ∧
    (∃ (s : State) (c : Nat) (m : List Byte), c < 2 ∧ s.dict.claims = [⟨c, m⟩] ∧ s.live 3 = true ∧ s.fwRuns = true ∧ s.dict.holder ≠ 0 ∧
      s.dict.holder ≠ tokenValue c ∧ 20000 ≤ s.rd R.DICT_TOKEN_AGE_TICKS ∧ Mild s 120) ∧
    (∃ (s : State) (c : Nat), c < 2 ∧ ∃ q ∈ ((s.carrier c).open_).toList, True) ∧
    (∃ (s : State) (src : RegSrc), (s.inbound src).live 3 = true ∧ (s.inbound src).dict.port.open_.isSome = true) ∧
    (∃ (s : State), s.fwRuns = true ∧ s.dict.unsaved.isSome = true) ∧
    (∃ (s : State), s.fwRuns = true ∧ s.dict.unsaved.isSome = true ∧ Mild s 105) := by
  refine ⟨⟨(claimed 0 0 0), 0, (mClaim 1#8), ?_⟩, ⟨(claimed 0 2 19991), 0, (mClaim 1#8), ?_⟩, ⟨(claimed 1 1 20001), 1, (mClaim
    2#8), ?_⟩, ⟨(opened on 0 true), 0, ?_⟩, ⟨(opened on 0 true), (.host 7), ?_⟩, ⟨(unsaved), ?_⟩, ⟨(unsaved), ?_⟩⟩ <;> decide
    +kernel

/-- The hypotheses of WakePortAnswers are met, clause by clause. -/
theorem witness_WakePortAnswers :
    (∃ (s : State), (∀ b, s.wake.base = some b → b.length = 12)) ∧
    (∃ (s : State), s.power.lanternUp = true) ∧
    (∃ (s : State), s.power.lanternUp = true ∧ s.thermal.trip = none ∧ s.power.seq = .idle ∧ s.pstate = 3 ∧ (s.rd
      R.POWER_WAKE_EN_EN).testBit 0 = true) := by
  refine ⟨⟨(on), ?_⟩, ⟨(on), ?_⟩, ⟨(ember), ?_⟩⟩ <;> decide +kernel

/-- The lines of five frames decode to their headers and payloads (R411, R416). -/
theorem test_line_beacon : lineFrame (lineOf hBeacon (beaconOf 6000)) = some (hBeacon, beaconOf 6000) := by decide +kernel
theorem test_line_request : lineFrame (lineOf hReq mRead) = some (hReq, mRead) := by decide +kernel
theorem test_line_assign : lineFrame (lineOf hAssign pAssign) = some (hAssign, pAssign) := by decide +kernel
theorem test_line_wake : lineFrame (lineOf hWake []) = some (hWake, []) := by decide +kernel
theorem test_line_bad : lineFrame (lineOf hBad mRead) = some (hBad, mRead) := by decide +kernel
theorem test_line_other : lineFrame (lineOf hOther mRead) = some (hOther, mRead) := by decide +kernel

/-- A line is heard as its frame, with whatever else is known of the state. -/
theorem heard {s : State} {h p : List Byte} {k : RxKind} {P : Prop} (f : lineFrame (lineOf h p) = some (h, p))
    (d : Locks s (lineOf h p) ∧ s.rxKind h p = k ∧ hdrSrc h ≠ s.rackAddr ∧ s.inOwnSlot = false ∧ P) :
    Hears s (lineOf h p) h p k ∧ P :=
  ⟨⟨⟨d.1, f, d.2.1⟩, d.2.2.1, d.2.2.2.1⟩, d.2.2.2.2⟩

/-- The hypotheses of RackLinkHears are met, clause by clause. -/
theorem witness_RackLinkHears :
    (∃ (s : State) (l : RxLine) (h p : List Byte), Hears s l h p .beacon ∧ s.rd R.TIME_STATUS_SOURCE = 0 ∧ Room s ∧
      s.rd R.TIME_CTRL_BEACON_LOAD ≠ 1) ∧
    (∃ (s : State) (l : RxLine) (h p : List Byte), Hears s l h p .beacon ∧ ∃ t0, s.rd R.TIME_STATUS_SOURCE = 0 ∧ Room s ∧
      s.rd R.TIME_CTRL_BEACON_LOAD = 1 ∧ s.period ≤ 2 * (t0 - s.time.lastTick) ∧
      leNat (p.take 6) ≠ (s.time.now + 1) % tickMod) ∧
    (∃ (s : State) (l : RxLine) (h p : List Byte), Hears s l h p .beacon ∧ s.rd R.TIME_STATUS_SOURCE = 0 ∧ ¬ Room s) ∧
    (∃ (s : State) (l : RxLine) (h p : List Byte), Hears s l h p .dictReq ∧ s.pstate = 3) ∧
    (∃ (s : State) (l : RxLine) (h p : List Byte), Hears s l h p .dictReq ∧ s.pstate ≠ 3 ∧ s.rackTakes = true ∧
      s.live 3 = true ∧ s.dict.claims = [] ∧ (dreqOf p).cmd = 1) ∧
    (∃ (s : State) (l : RxLine) (h p : List Byte), Hears s l h p .dictReq ∧ s.pstate ≠ 3 ∧ s.rackTakes = false ∧
      s.rack.rx.length < 4) ∧
    (∃ (s : State) (l : RxLine) (h p : List Byte), Hears s l h p .dictReq ∧ ¬ Room s) ∧
    (∃ (s : State) (l : RxLine) (h p : List Byte), Hears s l h p .assign ∧ s.pstate ≠ 3 ∧ s.rackTakes = true ∧
      s.fwRuns = true ∧ s.rd R.RL_CTRL_ASSIGN_EN = 1 ∧ leNat (p.take 8) = s.fuseWord 0 ∧ isNode (leNat (slice p 8 1)) = true) ∧
    (∃ (s : State) (l : RxLine) (h p : List Byte), Hears s l h p .assign ∧ s.pstate ≠ 3 ∧ s.rackTakes = true ∧
      (s.rd R.RL_CTRL_ASSIGN_EN ≠ 1 ∨ leNat (p.take 8) ≠ s.fuseWord 0)) ∧
    (∃ (s : State) (l : RxLine) (h : List Byte), Hears s l h [] .wake ∧ s.thermal.trip = none ∧ s.power.seq = .idle ∧
      s.pstate = 3 ∧ (s.rd R.POWER_WAKE_EN_EN).testBit 3 = true ∧ s.rd R.POWER_CTRL_RL_LISTEN = 1) ∧
    (∃ (s : State) (l : RxLine) (h p : List Byte), Hears s l h p .bad ∧ s.fault.inj = none) ∧
    (∃ (s : State) (l : RxLine) (h p : List Byte), Hears s l h p .other ∧ s.fault.inj = none) ∧
    (∃ (s : State) (l : RxLine) (h p : List Byte), Frames s l h p .other ∧ Mild s 115 ∧ s.inOwnSlot = true) ∧
    (∃ (s : State) (l : RxLine), Locks s l ∧ s.inOwnSlot = false ∧ l.hdr.length = 104 ∧ Mild s 112 ∧
      hdrGood (headerOf l.hdr) = false) ∧
    (∃ (s : State) (l : RxLine), Locks s l ∧ s.inOwnSlot = false ∧ l.hdr.length = 104 ∧ Mild s 112 ∧
      hdrGood (headerOf l.hdr) = true ∧ hdrSrc (headerOf l.hdr) ≠ s.rackAddr ∧ lineFrame l = none ∧
      l.pay.length = paySymbols (hdrLen (headerOf l.hdr))) := by
  refine ⟨⟨noLoad, _, _, _, heard test_line_beacon ?_⟩, ⟨on, _, _, _, heard test_line_beacon ⟨?_, ?_, ?_, ?_, 108000, ?_⟩⟩,
    ⟨restarting 4, _, _, _, heard test_line_beacon ?_⟩, ⟨node ember 5000, _, _, _, heard test_line_request ?_⟩,
    ⟨node on 5000, _, _, _, heard test_line_request ?_⟩, ⟨restarting 3, _, _, _, heard test_line_request ?_⟩,
    ⟨restarting 4, _, _, _, heard test_line_request ?_⟩,
    ⟨put on [(R.RL_CTRL_ASSIGN_EN, [], 1)], _, _, _, heard test_line_assign ?_⟩, ⟨unassigned, _, _, _, heard test_line_assign ?_⟩,
    ⟨asleep, _, _, heard test_line_wake ?_⟩, ⟨on, _, _, _, heard test_line_bad ?_⟩, ⟨on, _, _, _, heard test_line_request ?_⟩,
    ⟨node on 5104, _, _, _, ⟨?_, test_line_other, ?_⟩, ?_⟩, ⟨on, silence, ?_⟩,
    ⟨node on 5000, { lineOf hReq mRead with pay := List.replicate (paySymbols 16) 0 }, ?_⟩⟩ <;> decide +kernel

/-- The hypotheses of RackLinkCycles are met, clause by clause. -/
theorem witness_RackLinkCycles :
    let Up := fun (s : State) => s.power.lanternUp = true ∧ s.live 22 = true
    let Slot := fun (s : State) (foreign : Bool) => Up s ∧ s.ownSlot = true ∧ (foreign = true → Mild s 115)
    let Sends := fun (s : State) (res : List Nat) (P : SlotTx → Prop) => Up s ∧ s.transmits = true ∧ Mild s 114 ∧
      ∃ f ∈ s.rack.slot.head?.toList, foreignSymbols s.collisionLimit res = true ∧ P f
    let Tests := fun (s : State) => Up s ∧ s.rack.linkTest = true ∧ s.rack.testA ≠ s.rack.testB ∧
      isNode s.rack.testA = true ∧ isNode s.rack.testB = true ∧ s.slotMay = true ∧ s.rd R.RL_STATUS_EC_CONVERGED = 1 ∧
      (s.rackAddr = s.rack.testA ∨ s.rackAddr = s.rack.testB) ∧ s.time.now % 1000 = slotTick s.rack.testA ∧
      s.rack.slot = [] ∧ s.pstate ≠ 3 ∧ Mild s 112
    (∃ (s : State), Up s ∧ s.time.now % 1000 = 0 ∧ s.rack.pendingAddr = none) ∧
    (∃ (s : State), Up s ∧ s.time.now % 1000 = 0 ∧ ∃ a ∈ s.rack.pendingAddr.toList, a < 31) ∧
    (∃ (s : State), Up s ∧ s.time.now % 1000 = 20 ∧ s.rd R.RL_STATUS_BEACON_THIS_CYCLE ≠ 1) ∧
    (∃ (s : State) (foreign : Bool), Slot s foreign ∧
      (s.slotMay = false ∨ (s.rd R.RL_GRANT_SLOTS).testBit s.rackAddr = false)) ∧
    (∃ (s : State) (foreign : Bool), Slot s foreign ∧ s.slotMay = true ∧ (s.rd R.RL_GRANT_SLOTS).testBit s.rackAddr = true ∧
      s.testSlot = false ∧ ∃ f ∈ ((s.rack.back ++ s.rack.tx).filter fun f => f.rsp && decide (3 ≤ f.age)).head?.toList,
        frameSymbols f.payload.length ≤ 3400) ∧
    (∃ (s : State) (res : List Nat), Sends s res fun f => f.frame.type ≠ 6 ∧ f.frame.retries < 3) ∧
    (∃ (s : State) (res : List Nat), Sends s res fun f => f.frame.type ≠ 6 ∧ 3 ≤ f.frame.retries) ∧
    (∃ (s : State) (res : List Nat), Sends s res fun f => f.frame.type = 6) ∧
    (∃ (s : State) (res : List Nat), Up s ∧ s.transmits = true ∧ Mild s 114 ∧ s.rack.slot ≠ [] ∧
      foreignSymbols s.collisionLimit res = false) ∧
    (∃ (s : State), Up s ∧ s.isAssigned = false ∧ s.rd R.RL_CTRL_ASSIGN_EN = 1 ∧ s.fwRuns = true ∧ s.rackMay = true ∧
      s.rd R.RL_STATUS_BEACON_THIS_CYCLE = 1 ∧ s.rack.assignOpen = true ∧ s.rack.assign = .ready ∧ s.rack.slot = [] ∧
      s.time.now % 1000 = 916 ∧ s.rack.pendingAddr = none) ∧
    (∃ (s : State) (n : Nat), Up s ∧ s.rack.assign = .sent n ∧ 4 ≤ n) ∧
    (∃ (s : State) (n : Nat), Up s ∧ s.rack.assign = .sent n ∧ n < 4) ∧
    (∃ (s : State), Tests s ∧ s.fault.inj = none ∧ Room s) := by
  refine ⟨⟨on, ?_⟩, ⟨newCycle (some 30), ?_⟩, ⟨withTime silent fun x => { x with now := 5020 }, ?_⟩, ⟨silent, true, ?_⟩,
    ⟨queued, true, ?_⟩, ⟨sending rspFrame, List.replicate 8 351, ?_⟩,
    ⟨sending { rspFrame with retries := 3 }, List.replicate 8 351, ?_⟩,
    ⟨sending { rspFrame with type := 6 }, List.replicate 8 351, ?_⟩, ⟨sending rspFrame, List.replicate 16 350, ?_⟩,
    ⟨assigning .ready, ?_⟩, ⟨assigning (.sent 4), 4, ?_⟩, ⟨assigning (.sent 3), 3, ?_⟩, ⟨linkTest 3 4, ?_⟩⟩ <;> decide +kernel

/-- The hypotheses of GuardedWritesLeaveTheRest are met, clause by clause. -/
theorem witness_GuardedWritesLeaveTheRest :
    (∃ (s : State) (src : RegSrc), Mild (s.inbound src) 84) ∧
    (∃ (s : State) (src : RegSrc), Mild (s.inbound src) 84 ∧ (s.inbound src).fault.inj = none) := by
  refine ⟨⟨(on), (.host 7), ?_⟩, ⟨(on), (.host 7), ?_⟩⟩ <;> decide +kernel

/-- The row that pass 2 has read answers to its digest. -/
theorem pass2_digests : ∀ p ∈ fragsRead pass2Run pass2Run.rows,
    (pass2Run.digests.find? (·.1 == p.1)).map (·.2) = some (crc64 p.2) := by
  intro p hp
  have h : fragsRead pass2Run pass2Run.rows = [(0, slice (assemble [(0, page, [])] 4096) 0 4096)] := rfl
  rw [h] at hp
  cases List.mem_singleton.1 hp
  have key : ∀ d : Nat, (([(0, d)] : List (Nat × Nat)).find? (·.1 == 0)).map (·.2) = some d := fun _ => rfl
  exact key _

/-- No other channel runs a descriptor. -/
theorem pass2_alone : ∀ d, d ≠ 63 → (pass2.chan d).run = none := by
  intro d hd
  rcases Nat.lt_or_ge d 64 with h | h
  · exact (by decide +kernel : ∀ d, d < 64 → d ≠ 63 → (pass2.chan d).run = none) d h hd
  · have hl : pass2.haul.chans.length ≤ d := Nat.le_trans (by decide +kernel) h
    rw [State.chan, List.getD_eq_getElem?_getD, List.getElem?_eq_none hl]
    rfl

/-- The clause of CodedDescriptorsProceed for the end of pass 2 of a rebuild. -/
theorem witness_PassTwo :
    ∃ (s : State) (c f addr : Nat), c < 64 ∧ c < s.haul.chans.length ∧ s.coding.waiting = [] ∧ s.halted = false ∧
      ∃ r ∈ ((s.chan c).run).toList, r.phase = .pass2 ∧ r.await = 0 ∧ opCoded (dOp r.raw) = true ∧
        (∀ p ∈ fragsRead r r.rows, (r.digests.find? (·.1 == p.1)).map (·.2) = some (crc64 p.2)) ∧ r.rebuilds = [f] ∧
        (cArgs r.raw).slots = [f] ∧
        ∃ n, n = (rebuildFrag (cArgs r.raw).k (cArgs r.raw).m (cArgs r.raw).size f (rebuildData (cArgs r.raw).k (cArgs r.raw).m
          (cArgs r.raw).size r.rows ((fragsRead r r.rows).map (·.2)))).length ∧
        r.dst.elems = [⟨addr, n, false⟩] ∧ 0 < n ∧ n ≤ s.host.maxPayload ∧ addr % 4096 + n ≤ 4096 ∧ s.host.busMaster = true ∧
        s.rd R.HOST_STATUS_LINK_UP = 1 ∧ s.haul.turn < 64 ∧ s.rd R.HAUL_TAIL_INDEX [c] = s.rd R.HAUL_HEAD_INDEX [c] ∧
        (∀ h ∈ s.haul.chans, h.todo = []) ∧ ∀ d, d ≠ c → (s.chan d).run = none := by
  refine ⟨pass2, 63, 1, 0x20000, ?_, ?_, ?_, ?_, pass2Run, Option.mem_toList.2 rfl, ?_, ?_, ?_, ?_, ?_, ?_, 4096, ?_⟩
  case refine_8 => exact pass2_digests
  case refine_11 => refine ⟨?_, ?_, ?_, ?_, ?_, ?_, ?_, ?_, ?_, ?_, pass2_alone⟩ <;> decide +kernel
  all_goals decide +kernel

end Sys2Proof.Tests
end

section
/-! SUPPORT. The SCRATCH registers under the basic register updates: a field above BAR0 offset 0x50 leaves them (Table 22.2). -/
namespace Sys2Proof.Machine

/-! ### What the SCRATCH statements see of a state -/

/-- The listed SCRATCH words of a base-die register file (Table 22.2), and whether PD03 runs by the power state's `domOn` and
`inReset`: all that decides whether a request has left SCRATCH alone. -/
def scratchOf (regs : List (Nat × Nat)) (domOn : Nat) (inReset : Bool) : List (Option Nat) × Bool :=
  ((List.range 4).map fun k => kvGet (R.GLOBAL_SCRATCH_DATA.key [k]) regs, domOn.testBit 3 && !inReset)

/-- `scratchOf` of a state. -/
@[simp] abbrev State.scratchView (s : State) : List (Option Nat) × Bool := scratchOf s.regs s.power.domOn s.power.inReset

theorem live3_eq_of_scratchView {s t : State} (h : t.scratchView = s.scratchView) : t.live 3 = s.live 3 := by
  simpa [State.live, scratchOf] using congrArg Prod.snd h

theorem rd_scratch_of_scratchView {s t : State} (h : t.scratchView = s.scratchView) {k : Nat} (hk : k < 4) :
    t.rd R.GLOBAL_SCRATCH_DATA [k] = s.rd R.GLOBAL_SCRATCH_DATA [k] := by
  have hmap : (List.range 4).map (fun k => kvGet (R.GLOBAL_SCRATCH_DATA.key [k]) t.regs) =
      (List.range 4).map fun k => kvGet (R.GLOBAL_SCRATCH_DATA.key [k]) s.regs := congrArg Prod.fst h
  exact congrArg (·.getD 0) (List.map_inj_left.1 hmap k (List.mem_range.2 hk))

/-- The SCRATCH words end at BAR0 offset 0x50. -/
theorem scratch_key_lt {k : Nat} (hk : k < 4) : R.GLOBAL_SCRATCH_DATA.key [k] < 0x50 * 8 := by
  show 0x40 * 8 + 0 + (k * 32 + 0) < _
  omega

/-- Register files that list the same below BAR0 offset 0x50 hold the same SCRATCH words. -/
theorem scratchOf_congr {l m : List (Nat × Nat)} (h : ∀ k, k < 0x50 * 8 → kvGet k l = kvGet k m) (d : Nat) (r : Bool) :
    scratchOf l d r = scratchOf m d r := by
  refine congrArg (·, _) (List.map_congr_left fun k hk => ?_)
  exact h _ (scratch_key_lt (List.mem_range.1 hk))

/-! ### Register updates above SCRATCH -/

@[simp] theorem scratchOf_wr (s : State) (f : Fam) (v : Nat) (i : List Nat) (d : Nat) (r : Bool) (h : 0x50 ≤ f.off) :
    scratchOf (s.wr f v i).regs d r = scratchOf s.regs d r := by
  refine scratchOf_congr (fun k hk => ?_) d r
  refine kvGet_wr_ne s f v i (h := .base) fun e => ?_
  have : f.off * 8 ≤ f.key i := by
    show _ ≤ f.off * 8 + f.lsb + Fam.rel f.dims i
    omega
  omega

@[simp] theorem scratchOf_set (s : State) (f : Fam) (i : List Nat) (d : Nat) (r : Bool) (h : 0x50 ≤ f.off) :
    scratchOf (s.set f i).regs d r = scratchOf s.regs d r := scratchOf_wr s f _ i d r h

@[simp] theorem scratchOf_clr (s : State) (f : Fam) (i : List Nat) (d : Nat) (r : Bool) (h : 0x50 ≤ f.off) :
    scratchOf (s.clr f i).regs d r = scratchOf s.regs d r := scratchOf_wr s f _ i d r h

@[simp] theorem scratchOf_wrB (s : State) (f : Fam) (b : Bool) (i : List Nat) (d : Nat) (r : Bool) (h : 0x50 ≤ f.off) :
    scratchOf (s.wrB f b i).regs d r = scratchOf s.regs d r := scratchOf_wr s f _ i d r h

@[simp] theorem scratchOf_incSat (s : State) (f : Fam) (i : List Nat) (d : Nat) (r : Bool) (h : 0x50 ≤ f.off) :
    scratchOf (s.incSat f i).regs d r = scratchOf s.regs d r := scratchOf_wr s f _ i d r h

@[simp] theorem scratchOf_inc (s : State) (f : Fam) (i : List Nat) (d : Nat) (r : Bool) (h : 0x50 ≤ f.off) :
    scratchOf (s.inc f i).regs d r = scratchOf s.regs d r := scratchOf_wr s f _ i d r h

@[simp] theorem scratchOf_raise (s : State) (e : Ev) (i : List Nat) (d : Nat) (r : Bool) (h : 0x50 ≤ e.bit.off) :
    scratchOf (s.raise e i).regs d r = scratchOf s.regs d r := by
  unfold State.raise
  split_ifs <;> simp [h]

@[simp] theorem scratchOf_log (s : State) (source unit code : Nat) (data : List Byte) (d : Nat) (r : Bool) :
    scratchOf (s.log source unit code data).regs d r = scratchOf s.regs d r := by
  unfold State.log
  split_ifs
  · rfl
  · dsimp only
    split
    · simp (disch := decide)
    · split_ifs <;> simp (disch := decide)

theorem kvGet_filter {p : Nat × Nat → Bool} {k : Nat} (h : ∀ v, p (k, v) = true) (l : List (Nat × Nat)) :
    kvGet k (l.filter p) = kvGet k l := by
  induction l with
  | nil => rfl
  | cons q l ih =>
    obtain ⟨a, v⟩ := q
    by_cases e : k = a
    · subst e
      simp [kvGet, h]
    · by_cases hq : p (a, v) <;> simp [kvGet, hq, e, ih]

/-- A block put back to reset above BAR0 offset 0x50. -/
@[simp] theorem scratchOf_resetBlock (s : State) (lo hi d : Nat) (r : Bool) (h : 0x50 ≤ lo) :
    scratchOf (s.resetBlock lo hi).regs d r = scratchOf s.regs d r := by
  refine scratchOf_congr (fun k hk => kvGet_filter (fun v => ?_) _) d r
  have : k < lo * 8 := by omega
  simp [this]

end Sys2Proof.Machine
end

section
/-! SUPPORT. What the fault collector and its reactions leave of the SCRATCH registers: all of them while PD03 stays on
(R317 to R324). -/
namespace Sys2Proof.Machine

/-! ### The operations of a reaction that leave SCRATCH and PD03 alone -/

theorem foldl_scratchView {α : Type} (g : State → α → State) (hg : ∀ s a, (g s a).scratchView = s.scratchView) (l : List α)
    (s : State) : (l.foldl g s).scratchView = s.scratchView := foldl_keeps State.scratchView g hg l s

@[simp] theorem scratchView_logPower (s : State) : s.logPower.scratchView = s.scratchView := by simp [State.logPower]

@[simp] theorem scratchView_logShaft (s : State) (b bit : Nat) : (s.logShaft b bit).scratchView = s.scratchView := by
  simp [State.logShaft]

@[simp] theorem scratchView_dozeExit (s : State) : s.dozeExit.scratchView = s.scratchView := by
  unfold State.dozeExit
  split_ifs <;> simp (disch := decide)

@[simp] theorem scratchView_heldUpdate (s : State) : s.heldUpdate.scratchView = s.scratchView := by
  unfold State.heldUpdate
  dsimp only
  split_ifs <;> simp (disch := decide)

@[simp] theorem scratchView_setLayer (s : State) (n st cause : Nat) : (s.setLayer n st cause).scratchView = s.scratchView := by
  unfold State.setLayer State.recordDue
  dsimp only
  split_ifs <;> simp (disch := decide)

@[simp] theorem scratchView_stopMarch (s : State) : s.stopMarch.scratchView = s.scratchView := by
  unfold State.stopMarch
  split
  · split_ifs <;> simp (disch := decide)
  · rfl

@[simp] theorem scratchView_sweepCheck (s : State) : s.sweepCheck.scratchView = s.scratchView := by
  unfold State.sweepCheck
  split_ifs <;> simp (disch := decide)

@[simp] theorem scratchView_loseLayer (s : State) (n cause : Nat) : (s.loseLayer n cause).scratchView = s.scratchView := by
  unfold State.loseLayer
  split_ifs <;> simp

@[simp] theorem scratchView_protUpdate (s : State) : s.protUpdate.1.scratchView = s.scratchView := by
  unfold State.protUpdate
  dsimp only
  split_ifs <;> simp (disch := decide)

@[simp] theorem scratchView_dropUpdate (s : State) : s.dropUpdate.scratchView = s.scratchView := by
  unfold State.dropUpdate
  dsimp only
  split_ifs <;> simp (disch := decide)

/-! ### The haul engine's halt and the management core's restart -/

@[simp] theorem scratchView_setEnabled (s : State) (code : Nat) : (s.setEnabled code).scratchView = s.scratchView := by
  unfold State.setEnabled
  refine foldl_scratchView _ (fun t c => ?_) _ s
  split_ifs <;> simp (disch := decide)

@[simp] theorem scratchView_haltWork (s : State) : s.haltWork.scratchView = s.scratchView := rfl

@[simp] theorem scratchView_haulHalt (s : State) (type kind addr : Nat) :
    (s.haulHalt type kind addr).scratchView = s.scratchView := by
  unfold State.haulHalt
  dsimp only
  split_ifs
  · simp
  · simp (disch := decide)
  · simp (disch := decide)
  · simp (disch := decide)
  · refine (foldl_scratchView _ (fun t c => ?_) _ _).trans (by simp (disch := decide))
    split_ifs <;> simp

@[simp] theorem scratchView_writeHeader (s : State) (active : Nat) (trial : Bool) (boots : Nat) :
    (s.writeHeader active trial boots).scratchView = s.scratchView := by
  unfold State.writeHeader
  split <;> rfl

@[simp] theorem scratchView_logSlot (s : State) (k code : Nat) : (s.logSlot k code).scratchView = s.scratchView := by
  simp [State.logSlot, State.logImage]

@[simp] theorem scratchView_persistAll (s : State) : s.persistAll.scratchView = s.scratchView := by
  unfold State.persistAll State.persistBefore
  dsimp only
  split_ifs <;> simp (disch := decide)

theorem scratchView_activate (s : State) : s.activate.scratchView = s.scratchView := by
  have hset : ∀ t : State,
      ({ t.wr R.MGMT_STATUS_UPDATE_STATE 0 with mgmt := { t.mgmt with activating := true } } : State).scratchView =
        t.scratchView := fun t => by simp (disch := decide)
  calc s.activate.scratchView
    _ = _ := hset _
    _ = _ := scratchView_writeHeader _ _ true 0
    _ = _ := scratchView_logSlot _ _ 0
    _ = _ := scratchView_persistAll s

@[simp] theorem scratchView_bootStart (s : State) (bootsel : Bool) : (s.bootStart bootsel).scratchView = s.scratchView := by
  unfold State.bootStart
  dsimp only
  split_ifs
  · simp (disch := decide)
  · split
    · simp (disch := decide)
    · split_ifs <;> simp (disch := decide)
  · split
    · simp (disch := decide)
    · split_ifs <;> simp (disch := decide)

/-- What `mgmtRestart` does once the update has been activated or dropped (R379). -/
def State.restartCore (s : State) : State :=
  let s := (s.wr R.MGMT_STATUS_FW_STATE 5).incSat R.MGMT_MGMT_RESETS_COUNT
  let s := (s.clr R.MGMT_WDOG_CTRL_EN).wr R.MGMT_WDOG_COUNT_TICKS 0
  let s : State := { s with
    mgmt := { s.mgmt with persistTo := none, persistDue := s.mgmt.persistDue || s.mgmt.persistTo.isSome, updTotal := 0 }
    dict := { s.dict with port := { s.dict.port with open_ := none }, rack := { s.dict.rack with open_ := none } } }
  (s.clr R.MGMT_CTRL_LOG_PERSIST).bootStart s.pins.bootsel

theorem mgmtRestart_of_live {s : State} (h : s.live 11 = true) :
    s.mgmtRestart = (if s.rd R.MGMT_STATUS_UPDATE_STATE = 4 ∧ s.rd R.MGMT_UPDATE_INFO_ACT_MODE = 0 then s.activate
      else s.dropUpdate).restartCore := if_neg (by simp [h])

theorem scratchView_restartCore (s : State) : s.restartCore.scratchView = s.scratchView := by
  simp (disch := decide) [State.restartCore]

theorem scratchView_ite {c : Prop} [Decidable c] {s t u : State} (ht : t.scratchView = s.scratchView)
    (hu : u.scratchView = s.scratchView) : (if c then t else u).scratchView = s.scratchView := by
  split_ifs <;> assumption

@[simp] theorem scratchView_mgmtRestart (s : State) : s.mgmtRestart.scratchView = s.scratchView := by
  by_cases h : s.live 11 = true
  · rw [mgmtRestart_of_live h]
    exact (scratchView_restartCore _).trans (scratchView_ite (scratchView_activate s) (scratchView_dropUpdate s))
  · rw [State.mgmtRestart, if_pos (by simpa using h)]

/-! ### Domains other than PD03 -/

/-- A bit that `n - 2 ^ i` takes off leaves the others. -/
theorem testBit_sub_two_pow_ne {n i j : Nat} (hij : i ≠ j) (h : n.testBit i = true) : (n - 2 ^ i).testBit j = n.testBit j := by
  induction i generalizing n j with
  | zero =>
    obtain ⟨j, rfl⟩ := Nat.exists_eq_succ_of_ne_zero hij.symm
    have hn : n % 2 = 1 := by simpa [Nat.testBit_zero] using h
    rw [Nat.testBit_succ, Nat.testBit_succ]
    congr 1
    omega
  | succ i ih =>
    have hle : 2 ^ (i + 1) ≤ n := Nat.ge_two_pow_of_testBit h
    rw [pow_succ] at hle ⊢
    cases j with
    | zero =>
      simp only [Nat.testBit_zero]
      congr 2
      omega
    | succ j =>
      rw [Nat.testBit_succ] at h
      rw [Nat.testBit_succ, Nat.testBit_succ, ← ih (by omega) h]
      congr 1
      omega

theorem testBit_setBit_ne {i j : Nat} (n : Nat) (b : Bool) (h : i ≠ j) : (setBit n i b).testBit j = n.testBit j := by
  unfold setBit
  split_ifs with hb hn
  · simp [Nat.testBit_or, Nat.one_shiftLeft, Nat.testBit_two_pow_of_ne h]
  · rw [Nat.one_shiftLeft, testBit_sub_two_pow_ne h hn]
  · rfl

theorem scratchOf_setBit (regs : List (Nat × Nat)) (n d : Nat) (b r : Bool) (h : d ≠ 3) :
    scratchOf regs (setBit n d b) r = scratchOf regs n r := by
  simp only [scratchOf, testBit_setBit_ne n b h]

theorem scratchView_loseDomain (s : State) (d : Nat) (h : d ≠ 3) : (s.loseDomain d).scratchView = s.scratchView := by
  unfold State.loseDomain
  rw [if_neg h]
  refine scratchView_ite (scratchOf_resetBlock s _ _ _ _ (by decide)) ?_
  refine scratchView_ite ((scratchOf_wr _ _ _ _ _ _ (by decide)).trans (scratchOf_resetBlock s _ _ _ _ (by decide))) ?_
  refine scratchView_ite (scratchOf_resetBlock s _ _ _ _ (by decide)) ?_
  refine scratchView_ite (scratchOf_resetBlock s _ _ _ _ (by decide)) ?_
  refine scratchView_ite (scratchOf_resetBlock s _ _ _ _ (by decide)) ?_
  refine scratchView_ite rfl ?_
  refine scratchView_ite rfl ?_
  refine scratchView_ite (scratchOf_resetBlock s _ _ _ _ (by decide)) ?_
  refine scratchView_ite (scratchOf_resetBlock s _ _ _ _ (by decide)) ?_
  refine scratchView_ite rfl ?_
  refine scratchView_ite ?_ rfl
  dsimp only
  split <;> rfl

theorem scratchView_wr (s : State) (f : Fam) (v : Nat) (i : List Nat) (h : 0x50 ≤ f.off) :
    (s.wr f v i).scratchView = s.scratchView := by simp [h]

theorem scratchView_raise (s : State) (e : Ev) (i : List Nat) (h : 0x50 ≤ e.bit.off) :
    (s.raise e i).scratchView = s.scratchView := by simp [h]

theorem scratchView_test (s : State) (x : TestSt) : ({ s with test := x } : State).scratchView = s.scratchView := rfl

theorem scratchView_drivePins (s : State) : s.drivePins.scratchView = s.scratchView := rfl

theorem scratchView_modShaft (s : State) (b : Nat) (g : ShaftSt → ShaftSt) : (s.modShaft b g).scratchView = s.scratchView := rfl

theorem scratchView_modBench (s : State) (b : Nat) (g : BenchSt → BenchSt) : (s.modBench b g).scratchView = s.scratchView := rfl

theorem scratchView_domainOff (s : State) (d : Nat) (h : d ≠ 3) : (s.domainOff d).scratchView = s.scratchView :=
  (scratchOf_setBit _ _ d false _ h).trans (scratchView_loseDomain s d h)

theorem scratchView_domainsOff (ds : List Nat) (h : 3 ∉ ds) (s : State) : (s.domainsOff ds).scratchView = s.scratchView := by
  induction ds generalizing s with
  | nil => rfl
  | cons d ds ih =>
    rw [List.mem_cons, not_or] at h
    obtain ⟨hd, hds⟩ := h
    exact (ih hds (s.domainOff d)).trans (scratchView_domainOff s d (Ne.symm hd))

theorem scratchView_domainsOn (ds : List Nat) (h : 3 ∉ ds) (s : State) : (s.domainsOn ds).scratchView = s.scratchView := by
  induction ds generalizing s with
  | nil => rfl
  | cons d ds ih =>
    rw [List.mem_cons, not_or] at h
    obtain ⟨hd, hds⟩ := h
    exact (ih hds (s.domainOn d)).trans (scratchOf_setBit _ _ d true _ (Ne.symm hd))

@[simp] theorem scratchView_offlineCore (s : State) (b : Nat) : (s.offlineCore b).scratchView = s.scratchView := by
  have hb : 3 ∉ benchDoms b := by
    simp only [benchDoms, benchDom, List.mem_cons, List.not_mem_nil, or_false]
    omega
  calc (s.offlineCore b).scratchView
    _ = _ := scratchView_domainsOff _ hb _
    _ = _ := scratchView_test _ _
    _ = _ := scratchView_logShaft _ b 3
    _ = _ := scratchView_raise _ E.SHAFT_OFFLINE [b] (by decide)
    _ = _ := scratchView_wr _ R.SHAFT_TRAIN_CTRL_GO 0 [b] (by decide)
    _ = _ := scratchView_wr _ R.BENCH_STATUS_LINK_UP 0 [b] (by decide)
    _ = _ := scratchView_wr _ R.SHAFT_LINK_STATUS_STATE linkOffline [b] (by decide)
    _ = _ := scratchView_modShaft _ b _
    _ = _ := scratchView_loseLayer _ (2 * b + 1) 2
    _ = _ := scratchView_loseLayer s (2 * b) 2

/-! ### Capture and a FENCE -/

@[simp] theorem scratchView_openShadow (s : State) (t : Nat) : (s.openShadow t).scratchView = s.scratchView := by
  simp (disch := decide) [State.openShadow]

@[simp] theorem scratchView_capture (s : State) (n reaction : Nat) : (s.capture n reaction).1.scratchView = s.scratchView := by
  unfold State.capture State.drivePins
  dsimp only
  split_ifs <;> simp (disch := decide)

@[simp] theorem scratchView_raiseFault (s : State) (note fence shadow : Bool) :
    (s.raiseFault note fence shadow).scratchView = s.scratchView := by
  unfold State.raiseFault
  dsimp only
  split_ifs <;> simp (disch := decide)

@[simp] theorem scratchView_fenceAct (s : State) (t : Nat) : (s.fenceAct t).1.scratchView = s.scratchView := by
  unfold State.fenceAct
  split_ifs with hf
  · rfl
  dsimp only
  split
  · simp (disch := decide)
  · split_ifs <;> simp (disch := decide)
  · simp (disch := decide)
  · simp (disch := decide)
  · split_ifs <;> simp (disch := decide)

/-! ### What a fault may do to SCRATCH -/

/-- `t` comes after `s` with SCRATCH as it was, or with PD03 off; and PD03, once off, stays off. -/
def ScratchSafe (s t : State) : Prop :=
  ((∀ k, k < 4 → t.rd R.GLOBAL_SCRATCH_DATA [k] = s.rd R.GLOBAL_SCRATCH_DATA [k]) ∨ t.live 3 = false) ∧
    (s.live 3 = false → t.live 3 = false)

theorem scratchSafe_of_view {s t : State} (h : t.scratchView = s.scratchView) : ScratchSafe s t :=
  ⟨.inl fun _ hk => rd_scratch_of_scratchView h hk, fun hs => (live3_eq_of_scratchView h).trans hs⟩

theorem ScratchSafe.trans {s t u : State} (h : ScratchSafe s t) (k : ScratchSafe t u) : ScratchSafe s u := by
  obtain ⟨hst, hoff⟩ := h
  obtain ⟨htu, koff⟩ := k
  refine ⟨?_, fun hs => koff (hoff hs)⟩
  rcases hst with hst | hst
  · rcases htu with htu | htu
    · exact .inl fun i hi => (htu i hi).trans (hst i hi)
    · exact .inr htu
  · exact .inr (koff hst)

theorem testBit_setBit_false (n i : Nat) : (setBit n i false).testBit i = false := by
  unfold setBit
  rw [if_neg Bool.false_ne_true]
  split_ifs with h
  · have hn := Nat.testBit_two_pow_add_eq (n - 2 ^ i) i
    rw [Nat.add_sub_cancel' (Nat.ge_two_pow_of_testBit h), h] at hn
    rw [Nat.one_shiftLeft]
    simpa using hn.symm
  · exact Bool.eq_false_of_not_eq_true h

/-- PD03 switched off is not live. -/
theorem live3_domainOff (s : State) : (s.domainOff 3).live 3 = false := by
  simp only [State.live, State.domainOff, testBit_setBit_false, Bool.false_and]

theorem scratchSafe_domainOff (s : State) (d : Nat) : ScratchSafe s (s.domainOff d) := by
  by_cases hd : d = 3
  · subst hd
    exact ⟨.inr (live3_domainOff s), fun _ => live3_domainOff s⟩
  · exact scratchSafe_of_view (scratchView_domainOff s d hd)

theorem scratchSafe_offBut (s : State) (keep : List Nat) : ScratchSafe s (s.offBut keep) :=
  foldl_inv (ScratchSafe s) State.domainOff (fun _ d h => h.trans (scratchSafe_domainOff _ d)) _ (scratchSafe_of_view rfl)

theorem scratchView_offBut (s : State) (keep : List Nat) (h : 3 ∈ keep) : (s.offBut keep).scratchView = s.scratchView :=
  scratchView_domainsOff _ (by simp [h]) s

theorem rd_domainsOn (s : State) (ds : List Nat) (i : List Nat) :
    (s.domainsOn ds).rd R.GLOBAL_SCRATCH_DATA i = s.rd R.GLOBAL_SCRATCH_DATA i :=
  foldl_keeps (fun t : State => t.rd R.GLOBAL_SCRATCH_DATA i) State.domainOn (fun _ _ => rfl) ds s

/-- The device returned to the domains of a state: PD03 is kept, or is switched off and left so. -/
theorem scratchSafe_switch (s : State) (on : List Nat) (hs : s.live 3 = true) : ScratchSafe s ((s.offBut on).onUpTo on) := by
  by_cases h3 : 3 ∈ on
  · refine ⟨.inl fun k hk => ?_, fun h => absurd (hs.symm.trans h) Bool.noConfusion⟩
    exact (rd_domainsOn _ _ _).trans (rd_scratch_of_scratchView (scratchView_offBut s on h3) hk)
  · refine (scratchSafe_offBut s on).trans (scratchSafe_of_view (scratchView_domainsOn _ ?_ _))
    simp [h3]

/-! ### SAFE and TRIP -/

@[simp] theorem scratchView_lastEntry (s : State) (target result block reason source tick : Nat) :
    (s.lastEntry target result block reason source tick).scratchView = s.scratchView := by
  simp (disch := decide) [State.lastEntry]

@[simp] theorem scratchView_seqIdle (s : State) : s.seqIdle.scratchView = s.scratchView := by
  simp (disch := decide) [State.seqIdle]

@[simp] theorem scratchView_holdBench (s : State) (b : Nat) : (s.holdBench b).scratchView = s.scratchView := by
  calc (s.holdBench b).scratchView
    _ = _ := scratchView_wr _ R.BENCH_STATUS_SELF_REFRESH _ [b] (by decide)
    _ = _ := scratchView_modBench _ b _
    _ = _ := scratchView_modShaft _ b _
    _ = _ := scratchView_wr _ R.SHAFT_TRAIN_CTRL_GO 0 [b] (by decide)
    _ = _ := scratchView_wr _ R.BENCH_STATUS_LINK_UP 0 [b] (by decide)
    _ = _ := scratchView_wr s R.SHAFT_LINK_STATUS_STATE linkHold [b] (by decide)

@[simp] theorem scratchView_restartBenches (s : State) : s.restartBenches.scratchView = s.scratchView :=
  foldl_scratchView State.holdBench scratchView_holdBench s.askedBenches s

@[simp] theorem scratchView_driveVid (s : State) (code : Nat) : (s.driveVid code).scratchView = s.scratchView := by
  simp (disch := decide) [State.driveVid]

theorem scratchView_faultAbort_trip (s : State) : (s.faultAbort true).scratchView = s.scratchView := by
  unfold State.faultAbort
  split <;> simp

theorem scratchSafe_faultAbort (s : State) (hs : s.live 3 = true) : ScratchSafe s (s.faultAbort false) := by
  have hends : ∀ t : State, ScratchSafe s t → ScratchSafe s t.seqIdle.logPower := fun t h =>
    h.trans (scratchSafe_of_view ((scratchView_logPower _).trans (scratchView_seqIdle t)))
  have hvid : ∀ (c : Prop) [Decidable c] (t : State), ScratchSafe s t →
      ScratchSafe s (if c then t.driveVid (t.vidCode 3) else t) := by
    intro c _ t h
    split_ifs
    · exact h.trans (scratchSafe_of_view (scratchView_driveVid _ _))
    · exact h
  have hback : ∀ (t : State) (on : List Nat), t.scratchView = s.scratchView → ScratchSafe s ((t.offBut on).onUpTo on) :=
    fun t on h => (scratchSafe_of_view h).trans (scratchSafe_switch t on ((live3_eq_of_scratchView h).trans hs))
  have hstart : ∀ (c : Prop) [Decidable c] (t : State), t.scratchView = s.scratchView →
      (if c then t.restartBenches else t).scratchView = s.scratchView := fun c _ t h =>
    scratchView_ite ((scratchView_restartBenches t).trans h) h
  unfold State.faultAbort
  split
  case h_4 => exact scratchSafe_of_view rfl
  all_goals exact hends _ (hvid _ _ (hback _ _ (hstart _ _ (scratchView_lastEntry _ _ _ _ _ _ _))))

theorem scratchSafe_safeAct (s : State) (hs : s.live 3 = true) : ScratchSafe s s.safeAct.1 := by
  have hend : ∀ t : State, t.scratchView = s.scratchView → ScratchSafe s ((t.faultAbort false).heldUpdate.drivePins) := by
    intro t ht
    have hlive : t.live 3 = true := (live3_eq_of_scratchView ht).trans hs
    exact ((scratchSafe_of_view ht).trans (scratchSafe_faultAbort t hlive)).trans
      (scratchSafe_of_view ((scratchView_drivePins _).trans (scratchView_heldUpdate _)))
  have hhost : ∀ (t : State) (h : HostSt) (o : Output), (({ t with host := h } : State).emit o).scratchView = t.scratchView :=
    fun _ _ _ => rfl
  unfold State.safeAct
  split_ifs
  · exact scratchSafe_of_view rfl
  · exact hend _ ((hhost _ _ _).trans ((scratchView_openShadow _ 0).trans ((scratchView_haulHalt _ 0 0 0).trans
      (scratchView_wr s R.FAULT_STATUS_SAFE 1 [] (by decide)))))

theorem scratchSafe_tripAct (s : State) : ScratchSafe s s.tripAct := by
  have hend : ∀ t : State, t.scratchView = s.scratchView → ScratchSafe s ((t.offBut []).seqIdle.drivePins) := fun t ht =>
    ((scratchSafe_of_view ht).trans (scratchSafe_offBut t [])).trans
      (scratchSafe_of_view ((scratchView_drivePins _).trans (scratchView_seqIdle _)))
  have hpower : ∀ (t : State) (p : Bool) (q : Option ResetSt),
      ({ t with power := { t.power with perstHeld := p, resetReq := q } } : State).scratchView = t.scratchView :=
    fun _ _ _ => rfl
  have hthermal : ∀ (t : State) (x : ThermalSt), ({ t with thermal := x } : State).scratchView = t.scratchView := fun _ _ => rfl
  have habort : ((s.faultAbort true).set R.FAULT_STATUS_TRIPPED).scratchView = s.scratchView :=
    (scratchView_wr _ R.FAULT_STATUS_TRIPPED 1 [] (by decide)).trans (scratchView_faultAbort_trip s)
  exact hend _ ((hpower _ _ _).trans (scratchView_ite habort ((hthermal _ _).trans habort)))

/-! ### The collector -/

/-- The reactions of one clock in a state `t` that has left `s` alone, SAFE only with PD03 live before (R319 to R324). -/
theorem scratchSafe_reactions {s t : State} (fences : List Nat) (safe trip : Bool) (ht : t.scratchView = s.scratchView)
    (hs : safe = true → s.live 3 = true) :
    let r := fences.foldl (fun (a : State × Later) n =>
      let f := a.1.fenceAct n
      (f.1, ⟨a.2.srcs ++ f.2.srcs, a.2.opens ++ f.2.opens⟩)) (t, ⟨[], []⟩)
    let r := if safe then
        let f := r.1.safeAct
        (f.1, ⟨r.2.srcs ++ f.2.srcs, r.2.opens⟩)
      else r
    ScratchSafe s (if trip then (r.1.tripAct, (⟨[], []⟩ : Later)) else r).1 := by
  intro r0 r
  have h0 : r0.1.scratchView = s.scratchView := by
    refine Eq.trans (foldl_keeps (fun a : State × Later => a.1.scratchView) _ ?_ fences (t, ⟨[], []⟩)) ht
    exact fun a n => scratchView_fenceAct a.1 n
  have h1 : ScratchSafe s r.1 := by
    cases safe with
    | false => exact scratchSafe_of_view h0
    | true =>
      have hlive : r0.1.live 3 = true := (live3_eq_of_scratchView h0).trans (hs rfl)
      exact (scratchSafe_of_view h0).trans (scratchSafe_safeAct r0.1 hlive)
  cases trip with
  | false => exact h1
  | true => exact h1.trans (scratchSafe_tripAct r.1)

theorem live3_of_srcLive {s : State} {n : Nat} (h : s.srcLive n = true) : s.live 3 = true := by
  simp only [State.srcLive, Bool.and_eq_true] at h
  obtain ⟨⟨⟨⟨-, hlive⟩, -⟩, -⟩, -⟩ := h
  exact hlive

/-- Masked sources counted in a shadow (R324). -/
theorem scratchView_masked (s : State) (ns : List Nat) :
    (ns.foldl (fun (t : State) n => (t.set R.FAULT_SHADOW_STICKY_SOURCES [n]).incSat R.FAULT_SHADOW_COUNT_COUNT) s).scratchView =
      s.scratchView :=
  foldl_scratchView _ (fun _ _ => by simp (disch := decide)) ns s

/-- Sources captured (R318). -/
theorem scratchView_captured (s : State) (ns : List Nat) :
    (ns.foldl (fun (a : State × List Nat) n =>
      let r := a.1.rd R.FAULT_REACT_REACTION [n]
      let c := a.1.capture n r
      (c.1, if c.2 && decide (1 ≤ r) then a.2 ++ [n] else a.2)) (s, [])).1.scratchView = s.scratchView := by
  refine foldl_keeps (fun a : State × List Nat => a.1.scratchView) _ ?_ ns (s, [])
  exact fun a n => scratchView_capture a.1 n _

/-- Captured sources logged (Table 17.6). -/
theorem scratchView_logged (s : State) (ns : List Nat) :
    (ns.foldl (fun (t : State) n => t.log 1 n (t.rd R.FAULT_REACT_REACTION [n]) (leBytes 4 t.firstWord)) s).scratchView =
      s.scratchView :=
  foldl_scratchView _ (fun _ _ => by simp) ns s

theorem scratchSafe_detectClock (s : State) (l : Later) : ScratchSafe s (s.detectClock l).1 := by
  refine scratchSafe_reactions _ _ _ ?_ fun hsafe => ?_
  · refine (scratchView_raiseFault _ _ _ _).trans ?_
    refine (scratchView_logged _ _).trans ?_
    refine (scratchView_captured _ _).trans ?_
    refine (foldl_scratchView State.openShadow scratchView_openShadow _ _).trans ?_
    exact scratchView_masked s _
  · obtain ⟨n, hn, -⟩ := List.any_eq_true.1 hsafe
    have hsrc := (List.mem_filter.1 (List.mem_of_mem_filter hn)).2
    exact live3_of_srcLive (Bool.and_eq_true_iff.1 hsrc).2

theorem scratchSafe_detect (s : State) (srcs opens : List Nat) : ScratchSafe s (s.detect srcs opens) := by
  have hgo : ∀ (k : Nat) (t : State) (l : Later), ScratchSafe t (State.detectGo k t l) := by
    intro k
    induction k with
    | zero => exact fun t _ => scratchSafe_of_view rfl
    | succ k ih =>
      intro t l
      unfold State.detectGo
      split_ifs
      · exact scratchSafe_of_view rfl
      · exact (scratchSafe_detectClock t l).trans (ih _ _)
  exact hgo 12 s ⟨srcs, opens⟩

end Sys2Proof.Machine
end

section
/-! PROOFS. Register writes that land and that are refused (R8, R168, R170, R176). -/
namespace Sys2Proof.Machine
open Sys2Proof.Safety

/-! ### Refused host requests -/

theorem scratchView_violog (s : State) (v : Viol) (bar addr : Nat) (write : Bool) (src : RegSrc) :
    (s.violog v bar addr write src).scratchView = s.scratchView := by
  unfold State.violog
  dsimp only
  cases src <;> split_ifs <;> simp (disch := decide)

theorem scratchSafe_violate (s : State) (v : Viol) (bar addr : Nat) (write : Bool) (src : RegSrc) :
    ScratchSafe s (s.violate v bar addr write src) :=
  (scratchSafe_of_view (scratchView_violog s v bar addr write src)).trans (scratchSafe_detect _ [84] [])

theorem scratchSafe_aer (s : State) (e : Aer) : ScratchSafe s (s.aer e) := by
  have hlog : (if (s.host.aer.isEmpty && aerHasHeader e) = true then s.logHeader else s).scratchView = s.scratchView :=
    scratchView_ite rfl rfl
  have hrec : ∀ (t : State) (h : HostSt) (o : Output), (({ t with host := h } : State).emit o).scratchView = t.scratchView :=
    fun _ _ _ => rfl
  exact (scratchSafe_of_view ((hrec _ _ _).trans hlog)).trans (scratchSafe_detect _ [83] [])

theorem scratchSafe_dropWrite (s : State) (ca : Bool) : ScratchSafe s (s.dropWrite ca) := by
  unfold State.dropWrite
  split_ifs
  · exact (scratchSafe_of_view (scratchView_wr s R.HOST_CA_COUNT_COUNT _ [] (by decide))).trans (scratchSafe_aer _ _)
  · exact (scratchSafe_of_view (scratchView_wr s R.HOST_UR_COUNT_COUNT _ [] (by decide))).trans (scratchSafe_aer _ _)

theorem scratchSafe_refuseHost (s : State) (v : Viol) (ca : Bool) (bar addr rid : Nat) :
    ScratchSafe s (s.refuseHost v ca bar addr rid none) :=
  (scratchSafe_violate s v bar addr true (.host rid)).trans (scratchSafe_dropWrite _ ca)

/-- Table 07.6 up to row 2: a host write of another form than R170's leaves SCRATCH alone, or PD03 off. -/
theorem scratchSafe_malformedWrite (s : State) (rid off data be : Nat) (ep : Bool) (h : writeDws off be = 0) :
    ScratchSafe s (s.hostRegWrite rid .bar0 off data be ep) := by
  have hidle : s.notIdle.dozeExit.scratchView = s.scratchView := scratchView_dozeExit s.notIdle
  unfold State.hostRegWrite
  dsimp only
  rw [if_neg (show Space.bar0 ≠ Space.config by decide), if_neg (show Space.bar0 ≠ Space.bar4 by decide), if_pos h]
  split_ifs
  · exact scratchSafe_of_view rfl
  · exact scratchSafe_aer s _
  · exact (scratchSafe_of_view hidle).trans (scratchSafe_refuseHost _ _ _ _ _ _)

/-! ### A write that lands -/

/-- Table 22.2: SCRATCH word `k` holds one field, of 32 bits and in no event word. -/
theorem scratch_word {k : Nat} (hk : k < 4) :
    fieldsAt (0x40 + 4 * k) = [(R.GLOBAL_SCRATCH_DATA, [k])] ∧ (eventWords.any fun e => e.2.1 == some (0x40 + 4 * k)) = false ∧
      bitOf R.GLOBAL_SCRATCH_DATA [k] = 0 := by
  interval_cases k <;> decide +kernel

theorem scratch_block {k : Nat} (hk : k < 4) : (0x40 + 4 * k) / 0x10000 = 0 := by omega

theorem absentBlock_scratch (s : State) {k : Nat} (hk : k < 4) : s.absentBlock (0x40 + 4 * k) = false := by
  simp [State.absentBlock, scratch_block hk]

theorem readable_scratch (s : State) {k : Nat} (hk : k < 4) (hup : s.up = true) :
    s.readable R.GLOBAL_SCRATCH_DATA (0x40 + 4 * k) = true := by
  have hlive : s.live 3 = true := hup
  show s.blockOn (0x40 + 4 * k) = true
  simp [State.blockOn, blockDom, scratch_block hk, absentBlock_scratch s hk, hlive]

/-- With the base die up, a write of a SCRATCH word is its field's. -/
theorem plainWrite_scratch (s : State) (src : RegSrc) (data : Nat) {k : Nat} (hk : k < 4) (hup : s.up = true)
    (hd : data < 2 ^ 32) : s.plainWrite src (0x40 + 4 * k) data = s.wr R.GLOBAL_SCRATCH_DATA data [k] := by
  obtain ⟨hfields, -, hbit⟩ := scratch_word hk
  have hfield : field data 0 32 = data := by simpa [field] using hd
  have hlegal : R.GLOBAL_SCRATCH_DATA.legal data = true := by
    show (decide (0 ≤ data) && decide (data ≤ 0xFFFFFFFF) && !([] : List Nat).contains data) = true
    simpa using Nat.le_of_lt_succ hd
  have hwrite : s.writeField R.GLOBAL_SCRATCH_DATA [k] data = (s.wr R.GLOBAL_SCRATCH_DATA data [k], false) := if_pos hlegal
  have hraw : s.writeRaw (0x40 + 4 * k) data = (s.wr R.GLOBAL_SCRATCH_DATA data [k], false) := by
    unfold State.writeRaw
    rw [hfields, List.foldl_cons, List.foldl_nil, if_pos (readable_scratch s hk hup), hbit]
    dsimp only
    rw [show R.GLOBAL_SCRATCH_DATA.width = 32 from rfl, hfield, hwrite]
    rfl
  rw [State.plainWrite, hraw]
  rfl

theorem writeWord_scratch (s : State) (src : RegSrc) (data : Nat) {k : Nat} (hk : k < 4) :
    s.writeWord src (0x40 + 4 * k) data = s.plainWrite src (0x40 + 4 * k) (data % 2 ^ 32) := by
  obtain ⟨hfields, hev, -⟩ := scratch_word hk
  have hcopy : refCopy (0x40 + 4 * k) = false := by
    simp [refCopy]
    omega
  unfold State.writeWord
  simp [absentBlock_scratch s hk, definedWord, hfields, hcopy, hev, scratch_block hk]

theorem rd_bar0Write_scratch (s : State) (src : RegSrc) (data : Nat) {k : Nat} (hk : k < 4) (hup : s.up = true) :
    (s.bar0Write src (0x40 + 4 * k) data).rd R.GLOBAL_SCRATCH_DATA [k] = data % 2 ^ 32 := by
  have hne : 0x40 + 4 * k ≠ 0x30 := by omega
  have hw : s.bar0Write src (0x40 + 4 * k) data = s.wr R.GLOBAL_SCRATCH_DATA (data % 2 ^ 32) [k] := by
    unfold State.bar0Write
    dsimp only
    rw [if_neg hne, scratch_block hk]
    simp only [writeWord_scratch s src _ hk, Nat.mod_mod]
    exact plainWrite_scratch s src _ hk hup (Nat.mod_lt _ (by decide))
  rw [hw, rd_wr_same]
  exact Nat.mod_mod _ _

/-! ### Configuration writes -/

/-- The bytes of a double word with every byte enabled make up the word. -/
theorem leNat_enabled (data held : Nat) :
    leNat ((List.range 4).map fun k =>
      BitVec.ofNat 8 (if Nat.testBit 0xF k then field data (8 * k) 8 else field held (8 * k) 8)) = data % 2 ^ 32 := by
  have hen : ∀ k ∈ List.range 4, Nat.testBit 0xF k = true := by decide
  rw [List.map_congr_left fun k hk => by rw [if_pos (hen k hk)]]
  simp [show List.range 4 = [0, 1, 2, 3] from rfl, leNat, field, Nat.shiftRight_eq_div_pow]
  omega

/-- The Command word written with bit 2 clear (log entry 14): Memory Space Enable is bit 1, and Bus Master Enable is 0. -/
theorem configWrite_command (s : State) (data : Nat) (h : data.testBit 2 = false) :
    (s.configWrite 4 data 0xF).host.memEnable = data.testBit 1 ∧ (s.configWrite 4 data 0xF).host.busMaster = false := by
  have hbit : ∀ i, i < 32 → (data % 2 ^ 32).testBit i = data.testBit i := fun i hi => by
    rw [Nat.testBit_mod_two_pow, decide_eq_true hi, Bool.true_and]
  have hw : s.configWrite 4 data 0xF = (s.cfgPlain 4 (data % 2 ^ 32)).configAct 4 (data % 2 ^ 32) 0xF :=
    congrArg (fun v => (s.cfgPlain 4 v).configAct 4 v 0xF) (leNat_enabled data _)
  have hact : ∀ (t : State) (v : Nat), v.testBit 2 = false → t.configAct 4 v 0xF =
      { t with host := { t.host with memEnable := v.testBit 1, busMaster := false } } := by
    intro t v hv
    simp [State.configAct, hv]
  rw [hw, hact _ _ ((hbit 2 (by omega)).trans h)]
  exact ⟨hbit 1 (by omega), rfl⟩

/-! ### The command's cases -/

theorem leads_registerWrite {src : RegSrc} {space : Space} {off data be : Nat} {ep : Bool} {s t : State} {P : State → Prop}
    (h : s.registerWrite src space off data be ep = t) (ht : P t) : Leads (.registerWrite src space off data be ep) s P :=
  ⟨t, congrArg Host.Outcome.next h, ht⟩

theorem registerWrite_firmware (s : State) (off data be : Nat) (ep : Bool) (h : off % 4 = 0) :
    s.registerWrite .firmware .bar0 off data be ep = s.bar0Write .firmware off data := by
  simp [State.registerWrite, State.inbound, h]

/-- A host write of one double word of a defined register that every test of Table 07.6 passes. -/
theorem hostRegWrite_bar0 (s : State) (rid off data : Nat) (hlink : s.linkOn = true) (hroom : s.rxRoom true 4 = true)
    (hmem : s.memOn = true) (hoff : off % 4 = 0) (hdef : definedWord off = true) :
    s.hostRegWrite rid .bar0 off data 0xF false = (s.inbound (.host rid)).bar0Write (.host rid) off (data % 2 ^ 32) := by
  have hn : writeDws off 0xF = 1 := if_pos ⟨rfl, hoff⟩
  have hroom' : s.rxRoom (Space.bar0 != Space.config) 4 = true := hroom
  unfold State.hostRegWrite
  simp [hlink, hroom', hmem, hn, State.wordsDefined, hdef, field]

/-- A host configuration write whose credits are free. -/
theorem hostRegWrite_config (s : State) (rid off data be : Nat) (hlink : s.linkOn = true) (hroom : s.rxRoom false 4 = true) :
    s.hostRegWrite rid .config off data be false = (s.inbound (.host rid)).configWrite off data be := by
  unfold State.hostRegWrite
  simp [hlink, hroom]

/-- Settles O21. A write that lands is the field's own write; a write of another form ends in reactions, every one of which is
`ScratchSafe`. The places of the Command word's bits are the model's (log entry 14). -/
theorem registerWritesLand : Obligations.RegisterWritesLand := by
  refine ⟨fun s rid data k hlink hup hk => ⟨?_, fun hmem hroom hin => ?_, fun hbm hroom => ?_⟩,
    fun s rid off data be ep hform => ?_⟩
  · have hoff : (0x40 + 4 * k) % 4 = 0 := by omega
    exact leads_registerWrite (registerWrite_firmware s _ data _ _ hoff) (rd_bar0Write_scratch s .firmware data hk hup)
  · obtain ⟨hfields, -⟩ := scratch_word hk
    have hoff : (0x40 + 4 * k) % 4 = 0 := by omega
    have hdef : definedWord (0x40 + 4 * k) = true := by simp [definedWord, hfields]
    refine leads_registerWrite (hostRegWrite_bar0 s rid _ data hlink hroom hmem hoff hdef) ?_
    rw [rd_bar0Write_scratch _ _ _ hk hin, Nat.mod_mod]
  · exact leads_registerWrite (hostRegWrite_config s rid 4 data 0xF hlink hroom) (configWrite_command _ data hbm)
  · refine leads_registerWrite rfl fun k hk => ?_
    obtain ⟨hsafe, -⟩ := scratchSafe_malformedWrite s rid off data be ep hform
    exact hsafe.imp_left fun h => h k hk

end Sys2Proof.Machine
end

section
/-! PROOFS. The reset state (R8), the source of rack time and the load of its number (R27, R29). -/
namespace Sys2Proof.Machine
open Sys2Proof.Safety

theorem leads_next {c : Instr} {s t : State} {P : State → Prop} (h : exec c s = .next t) (ht : P t) : Leads c s P :=
  ⟨t, h, ht⟩

/-- Settles O58: every clause is a closed fact about the state after reset. -/
theorem resetIsSound : Obligations.ResetIsSound := by
  refine ⟨rfl, ?_, ⟨rfl, rfl, rfl⟩, rfl, rfl, ?_⟩
  · unfold ReactLegal
    decide +kernel
  · decide +kernel

/-! ### The source of rack time -/

/-- R27: off the pin for 1,000 ticks. -/
theorem pinSilent_eq {s : State} (hup : s.power.lanternUp = true) (hsrc : s.rd R.TIME_STATUS_SOURCE ≠ 0)
    (hsil : 1000 ≤ s.time.pinSilent) :
    s.pinSilent = s.wr R.TIME_STATUS_SOURCE
      (if s.rd R.TIME_CTRL_BEACON_EN = 1 ∧ s.time.beaconSilent < 3000 then 1 else 2) := by
  simp [State.pinSilent, hup, hsrc, hsil, State.is]

/-- R27: no beacon for 3,000 ticks. -/
theorem beaconLost_eq {s : State} (hup : s.power.lanternUp = true) (hsrc : s.rd R.TIME_STATUS_SOURCE = 1)
    (hsil : 3000 ≤ s.time.beaconSilent) : s.beaconLost = s.wr R.TIME_STATUS_SOURCE 2 := by
  simp [State.beaconLost, hup, hsrc, hsil]

/-- Settles O5: each part writes the named field of TIME.STATUS or the load, whose value the equations above give. -/
theorem timeSourceAndLoad : Obligations.TimeSourceAndLoad := by
  refine ⟨fun s hup => ⟨fun hsrc hsil => ?_, fun hsrc hsil => ?_⟩, fun s src hi hlive => ?_⟩
  · refine leads_next (congrArg Host.Outcome.next (pinSilent_eq hup hsrc hsil)) ((rd_wr_same s _ _ _).trans ?_)
    split_ifs <;> rfl
  · exact leads_next (congrArg Host.Outcome.next (beaconLost_eq hup hsrc hsil)) (rd_wr_same s _ _ _)
  · exact leads_next (congrArg Host.Outcome.next (if_pos hlive)) ⟨rfl, rd_set_same _ _ _ (by decide), rfl⟩

end Sys2Proof.Machine
end

section
/-! PROOFS. The frame of the commands that set one thing (R29, R318, R322, R345, R362, R401). -/
namespace Sys2Proof.Machine
open Sys2Proof.Safety

/-! ### What a register write keeps -/

theorem keeps_refl (s : State) (ks : List (Held × Nat)) : Keeps s s ks := fun _ _ _ => rfl

theorem keeps_trans {s t u : State} {ks : List (Held × Nat)} (h : Keeps s t ks) (k : Keeps t u ks) : Keeps s u ks :=
  fun a b hb => (k a b hb).trans (h a b hb)

theorem keeps_wr (s : State) (f : Fam) (v : Nat) (i : List Nat) {ks : List (Held × Nat)} (h : (f.held, f.key i) ∈ ks) :
    Keeps s (s.wr f v i) ks := by
  refine fun a b hb => kvGet_wr_ne s f v i ?_
  rintro ⟨rfl, rfl⟩
  exact hb h

/-- `t` is `s` but for the base-die and lantern registers and the pins. -/
def RegsOnly (s t : State) : Prop := t = { s with regs := t.regs, lregs := t.lregs, pins := t.pins }

theorem regsOnly_trans {s t u : State} (h : RegsOnly s t) (k : RegsOnly t u) : RegsOnly s u := by
  unfold RegsOnly at h k ⊢
  rw [k, h]

/-- A register outside the bench cores. -/
theorem regsOnly_wr (s : State) (f : Fam) (v : Nat) (i : List Nat) (h : f.held ≠ .bench) : RegsOnly s (s.wr f v i) := by
  unfold State.wr
  cases hf : f.held
  · rfl
  · rfl
  · exact absurd hf h

/-! ### The wake port -/

/-- Bytes sent over the wake port. -/
theorem emit_foldl (f : Byte → Output) (bs : List Byte) (s : State) :
    bs.foldl (fun s b => s.emit (f b)) s = { s with sent := (bs.foldl (fun s b => s.emit (f b)) s).sent } := by
  induction bs generalizing s with
  | nil => rfl
  | cons b bs ih => exact (ih (s.emit (f b)))

theorem wakePointer_frame (s : State) (p : Nat) : s.wakePointer p = { s with wake := (s.wakePointer p).wake } := by
  unfold State.wakePointer
  split_ifs <;> rfl

theorem wakeRead_frame (s : State) (n : Nat) :
    s.wakeRead n = { s with wake := (s.wakeRead n).wake, sent := (s.wakeRead n).sent } := by
  unfold State.wakeRead
  split_ifs
  · rfl
  · dsimp only
    rw [emit_foldl]

theorem wakeTimeout_frame (s : State) : s.wakeTimeout = { s with wake := s.wakeTimeout.wake } := by
  unfold State.wakeTimeout
  split_ifs <;> rfl

/-! ### The TAP -/

theorem tapInstruction_unlocked (s : State) (op : Nat)
    (h : (!tapPublic.contains (op % 256) && (s.fuseWord 8).testBit 8 && !s.is R.FUSE_STATUS_MANUFACTURING) = false) :
    s.tapInstruction op = { s with pins := (s.tapInstruction op).pins } := by
  unfold State.tapInstruction
  rw [h]
  split_ifs <;> rfl

/-- R359: an opcode of the maker's own under DEBUG_LOCK acts as BYPASS and sets FS103, which is mild here. -/
theorem tapInstruction_locked {s : State} {op : Nat}
    (h : (!tapPublic.contains (op % 256) && (s.fuseWord 8).testBit 8 && !s.is R.FUSE_STATUS_MANUFACTURING) = true)
    (haon : s.pins.aon = true) (hcore : s.pins.core = true) (hm : Mild s 103) :
    Quiet { s with pins := { s.pins with tapIr := op % 256, tapBypass := true } } (s.tapInstruction op) := by
  unfold State.tapInstruction
  rw [h, haon, hcore]
  exact detect_mild _ [103] fun n hn => by
    obtain rfl := List.mem_singleton.1 hn
    exact hm

/-! ### Sources of rack time, loads and releases -/

theorem pinSilent_frame (s : State) : Keeps s s.pinSilent [(R.TIME_STATUS_SOURCE.held, R.TIME_STATUS_SOURCE.key [])] ∧
    s.pinSilent = { s with regs := s.pinSilent.regs, lregs := s.pinSilent.lregs } := by
  unfold State.pinSilent
  split_ifs
  · exact ⟨keeps_wr s _ _ _ (by simp), rfl⟩
  · exact ⟨keeps_wr s _ _ _ (by simp), rfl⟩
  · exact ⟨keeps_refl s _, rfl⟩

theorem beaconLost_frame (s : State) : Keeps s s.beaconLost [(R.TIME_STATUS_SOURCE.held, R.TIME_STATUS_SOURCE.key [])] ∧
    s.beaconLost = { s with regs := s.beaconLost.regs, lregs := s.beaconLost.lregs } := by
  unfold State.beaconLost
  split_ifs
  · exact ⟨keeps_wr s _ _ _ (by simp), rfl⟩
  · exact ⟨keeps_refl s _, rfl⟩

theorem tickLoad_frame (s : State) (hi : Nat) :
    Keeps s (s.tickLoad hi) [(R.TIME_STATUS_NUMBER_VALID.held, R.TIME_STATUS_NUMBER_VALID.key [])] ∧
      s.tickLoad hi = { s with
        regs := (s.tickLoad hi).regs, lregs := (s.tickLoad hi).lregs
        time := { s.time with load := (s.tickLoad hi).time.load } } := by
  unfold State.tickLoad
  split_ifs
  · exact ⟨keeps_wr s R.TIME_STATUS_NUMBER_VALID 1 [] (by simp), rfl⟩
  · exact ⟨keeps_refl s _, rfl⟩

theorem fenceRelease_frame (s : State) (data : Nat) :
    Keeps s (s.fenceRelease data) [(R.FAULT_FENCED_TARGETS.held, R.FAULT_FENCED_TARGETS.key [])] ∧
      s.fenceRelease data = { s with regs := (s.fenceRelease data).regs, lregs := (s.fenceRelease data).lregs } := by
  unfold State.fenceRelease
  split_ifs
  · exact ⟨keeps_refl s _, rfl⟩
  all_goals exact ⟨keeps_wr s _ _ _ (by simp), rfl⟩

theorem calReload_frame (s : State) :
    Keeps s s.calReload [(R.TEST_CAL_STATUS_SHADOW_DIRTY.held, R.TEST_CAL_STATUS_SHADOW_DIRTY.key [])] ∧
      s.calReload = { s with
        regs := s.calReload.regs, lregs := s.calReload.lregs, test := { s.test with shadow := s.calReload.test.shadow } } := by
  unfold State.calReload State.dirtySettle
  split_ifs
  · exact ⟨keeps_wr { s with test := { s.test with shadow := s.test.active } } R.TEST_CAL_STATUS_SHADOW_DIRTY _ []
      (by simp), rfl⟩
  · exact ⟨keeps_refl s _, rfl⟩

/-! ### STICKY words -/

/-- The keys that a clear of STICKY word `w` may change. -/
def stickyKeys (w : Nat) : List (Held × Nat) :=
  (R.FAULT_FIRST_VALID.held, R.FAULT_FIRST_VALID.key []) ::
    (List.range 32).map fun i => (R.FAULT_STICKY_SOURCES.held, R.FAULT_STICKY_SOURCES.key [32 * w + i])

theorem sticky_foldl_frame (w : Nat) (is : List Nat) (h : ∀ i ∈ is, i < 32) (s : State) :
    Keeps s (is.foldl (fun s i => s.clr R.FAULT_STICKY_SOURCES [32 * w + i]) s) (stickyKeys w) ∧
      RegsOnly s (is.foldl (fun s i => s.clr R.FAULT_STICKY_SOURCES [32 * w + i]) s) := by
  induction is generalizing s with
  | nil => exact ⟨keeps_refl s _, rfl⟩
  | cons i is ih =>
    obtain ⟨hk, hr⟩ := ih (fun j hj => h j (List.mem_cons_of_mem _ hj)) (s.clr R.FAULT_STICKY_SOURCES [32 * w + i])
    have hi : (R.FAULT_STICKY_SOURCES.held, R.FAULT_STICKY_SOURCES.key [32 * w + i]) ∈ stickyKeys w :=
      List.mem_cons_of_mem _ (List.mem_map.2 ⟨i, List.mem_range.2 (h i (by simp)), rfl⟩)
    exact ⟨keeps_trans (keeps_wr s _ 0 _ hi) hk, regsOnly_trans (regsOnly_wr s R.FAULT_STICKY_SOURCES 0 _ (by decide)) hr⟩

theorem firstSettle_frame (s : State) (w : Nat) : Keeps s s.firstSettle (stickyKeys w) ∧ RegsOnly s s.firstSettle := by
  unfold State.firstSettle
  split_ifs
  · exact ⟨keeps_refl s _, rfl⟩
  · exact ⟨keeps_wr s R.FAULT_FIRST_VALID 0 [] (List.mem_cons_self ..), rfl⟩

theorem stickyClear_frame (s : State) (w data : Nat) :
    Keeps s (s.stickyClear w data) (stickyKeys w) ∧ RegsOnly s (s.stickyClear w data) := by
  unfold State.stickyClear
  split_ifs
  · exact ⟨keeps_refl s _, rfl⟩
  · have hbits : ∀ i ∈ bitsOf 32 data, i < 32 := fun i hi => List.mem_range.1 (List.mem_of_mem_filter hi)
    obtain ⟨hk, hr⟩ := sticky_foldl_frame w _ hbits s
    obtain ⟨hk', hr'⟩ := firstSettle_frame ((bitsOf 32 data).foldl (fun s i => s.clr R.FAULT_STICKY_SOURCES [32 * w + i]) s) w
    exact ⟨keeps_trans hk hk', regsOnly_trans hr hr'⟩

/-! ### The commands -/

/-- Settles O59: each command is one function of the model with a frame of its own. -/
theorem controlsLeaveTheRest : Obligations.ControlsLeaveTheRest := by
  intro s
  refine ⟨leads_next rfl rfl, leads_next rfl rfl, fun p => leads_next rfl (wakePointer_frame s p),
    fun n => leads_next rfl (wakeRead_frame s n), leads_next rfl (wakeTimeout_frame s),
    fun op => ⟨fun h => ?_, fun h haon hcore hm => ?_⟩,
    leads_next rfl (pinSilent_frame s), leads_next rfl (beaconLost_frame s), fun src => ⟨fun key => ?_, fun r => ?_, ?_,
      leads_next rfl (calReload_frame _), fun hi => leads_next rfl (tickLoad_frame _ hi),
      fun data => leads_next rfl (fenceRelease_frame _ data), fun w data => leads_next rfl (stickyClear_frame _ w data)⟩⟩
  · exact leads_next rfl (tapInstruction_unlocked s op h)
  · obtain ⟨hq, -⟩ := tapInstruction_locked h haon hcore hm
    refine leads_next rfl ?_
    rw [hq]
    exact ⟨rfl, rfl, rfl, rfl⟩
  · refine leads_next rfl ?_
    unfold State.burnUnlock
    split_ifs <;> rfl
  · refine leads_next rfl ?_
    unfold State.forceArm
    split_ifs <;> rfl
  · refine leads_next rfl ?_
    unfold State.calApply
    split_ifs <;> rfl

end Sys2Proof.Machine
end

section
/-! PROOFS. The frame of the register writes that may be refused (R36, R37, R178, R239, R242, R323), with FS084 mild. -/
namespace Sys2Proof.Machine
open Sys2Proof.Safety

/-! ### What a guarded write keeps -/

/-- What `GuardedWritesLeaveTheRest` says of a state. -/
def State.guardView (s : State) :=
  (s.dram, s.segs, s.fuse, s.cache, s.bench, s.shaft, s.haul, s.coding, s.thermal, s.rack, s.dict, s.bregs, s.time.now, s.pending)

theorem guardView_wr (s : State) (f : Fam) (v : Nat) (i : List Nat) (h : f.held ≠ .bench) :
    (s.wr f v i).guardView = s.guardView := by
  unfold State.wr
  cases hf : f.held
  · rfl
  · rfl
  · exact absurd hf h

theorem guardView_wrB (s : State) (f : Fam) (b : Bool) (i : List Nat) (h : f.held ≠ .bench) :
    (s.wrB f b i).guardView = s.guardView := guardView_wr s f _ i h

theorem guardView_clr (s : State) (f : Fam) (i : List Nat) (h : f.held ≠ .bench) : (s.clr f i).guardView = s.guardView :=
  guardView_wr s f 0 i h

theorem guardView_ite {c : Prop} [Decidable c] {s t u : State} (ht : t.guardView = s.guardView) (hu : u.guardView = s.guardView) :
    (if c then t else u).guardView = s.guardView := by
  split_ifs <;> assumption

theorem guardView_of_quiet {s t : State} (q : Quiet s t) : t.guardView = s.guardView := by
  obtain ⟨h, -⟩ := q
  rw [h]
  rfl

theorem mild_of_quiet {s t : State} (h : Mild s 84) (q : Quiet s t) : Mild t 84 := (q.2 84 (by decide)).trans_le h

theorem guardView_refuse {s : State} (h : Mild s 84) (src : RegSrc) (off : Nat) : (s.refuse src off).guardView = s.guardView :=
  guardView_of_quiet (refuse_mild s src off h)

/-- A refusal after a quiet change. -/
theorem guardView_quiet_refuse {s t : State} (h : Mild s 84) (q : Quiet s t) (src : RegSrc) (off : Nat) :
    (t.refuse src off).guardView = s.guardView := (guardView_refuse (mild_of_quiet h q) src off).trans (guardView_of_quiet q)

/-! ### The schedule and the shift -/

theorem guardView_schedFlags (s : State) (i data : Nat) : (s.schedFlags i data).guardView = s.guardView := by
  have hfresh : ∀ t : State, ({ t with time := { t.time with freshSched := t.time.freshSched ++ [i] } } : State).guardView =
      t.guardView := fun _ => rfl
  have hclr : ∀ (b : Bool) (t : State) (f : Fam), f.held ≠ .bench →
      (if b = true then t.clr f [i] else t).guardView = t.guardView :=
    fun b t f hf => guardView_ite (guardView_clr t f [i] hf) rfl
  unfold State.schedFlags
  refine (hclr _ _ R.TIME_SCHED_SKIPPED (by decide)).trans ((hclr _ _ R.TIME_SCHED_LATE (by decide)).trans
    ((hclr _ _ R.TIME_SCHED_FIRED (by decide)).trans ((guardView_wrB _ R.TIME_SCHED_ARM _ [i] (by decide)).trans ?_)))
  exact guardView_ite (hfresh s) rfl

theorem guardView_schedWrite {s : State} (h : Mild s 84) (src : RegSrc) (i w data : Nat) :
    (s.schedWrite src i w data).guardView = s.guardView := by
  have hguard : ∀ (f : Fam) (v : Nat), f.held ≠ .bench →
      (if (!s.is R.TIME_SCHED_ARM [i]) = true then s.wr f v [i] else if v = s.rd f [i] then s
        else s.refuse src (schedOff i w)).guardView = s.guardView :=
    fun f v hf => guardView_ite (guardView_wr s f v [i] hf) (guardView_ite rfl (guardView_refuse h _ _))
  unfold State.schedWrite
  refine guardView_ite rfl ?_
  dsimp only
  split
  · exact hguard _ _ (by decide)
  · exact (guardView_schedFlags _ i data).trans (hguard _ _ (by decide))
  · exact hguard _ _ (by decide)
  · refine guardView_ite (guardView_ite rfl (guardView_refuse h _ _)) (guardView_ite ?_ (guardView_refuse h _ _))
    exact (guardView_wr _ R.TIME_SCHED_ARG _ [i] (by decide)).trans (guardView_wr s R.TIME_SCHED_ACTION _ [i] (by decide))
  · rfl

/-- The fields of the shift's announcement (Table 02.3). -/
def shiftFam (off : Nat) : Option Fam :=
  if off = 0x410024 then some R.TIME_SHIFT_START_LO else if off = 0x410028 then some R.TIME_SHIFT_START_HI
  else if off = 0x41002C then some R.TIME_SHIFT_END_LO else if off = 0x410030 then some R.TIME_SHIFT_END_HI
  else if off = 0x410034 then some R.TIME_DRAIN_LEAD_LEAD else none

theorem shiftFam_held {off : Nat} {f : Fam} (h : shiftFam off = some f) : f.held = .lantern := by
  unfold shiftFam at h
  split_ifs at h <;> cases h <;> rfl

theorem guardView_shiftTicks {s : State} (h : Mild s 84) (src : RegSrc) (off data : Nat) :
    (s.shiftTicks src off data).guardView = s.guardView := by
  have hmoved : ∀ t : State, t.shiftFresh.startMoved.guardView = t.guardView := fun _ => rfl
  unfold State.shiftTicks
  change State.guardView (match shiftFam off with | none => s | some f => _) = _
  cases hf : shiftFam off with
  | none => rfl
  | some f =>
    have hb : f.held ≠ .bench := by rw [shiftFam_held hf]; decide
    dsimp only
    exact guardView_ite rfl (guardView_ite rfl (guardView_ite (guardView_refuse h _ _)
      (guardView_ite (guardView_refuse h _ _) ((hmoved _).trans (guardView_wr s f _ [] hb)))))

/-! ### Regulation -/

theorem guardView_ceilingRefused {s t : State} (h : Mild s 84) (q : Quiet s t) (src : RegSrc) (off : Nat) :
    (t.ceilingRefused src off).guardView = s.guardView :=
  guardView_quiet_refuse h (q.trans (quiet_raise t E.REG_CEILING_REFUSED [] rfl)) src off

theorem guardView_labelCfgWrite {s : State} (h : Mild s 84) (src : RegSrc) (l data : Nat) :
    (s.labelCfgWrite src l data).guardView = s.guardView := by
  have hquiet : ∀ (c : Bool) (budget : Nat) (fixed : Bool), Quiet s
      (if c = true then s else (s.wr R.REG_LABEL_CFG_BUDGET budget [l]).wrB R.REG_LABEL_CFG_FIXED fixed [l]).gSettle := by
    intro c budget fixed
    refine Quiet.trans ?_ (quiet_base _ R.REG_G_SUM_UNITS _ [] rfl)
    cases c
    · exact (quiet_base s R.REG_LABEL_CFG_BUDGET _ [l] rfl).trans (quiet_base _ R.REG_LABEL_CFG_FIXED _ [l] rfl)
    · exact Quiet.refl s
  exact guardView_ite rfl (guardView_ite (guardView_ceilingRefused h (hquiet _ _ _) _ _) (guardView_of_quiet (hquiet _ _ _)))

theorem guardView_ceilingWrite {s : State} (h : Mild s 84) (src : RegSrc) (v : Nat) :
    (s.ceilingWrite src v).guardView = s.guardView :=
  guardView_ite rfl (guardView_ite (guardView_refuse h _ _) (guardView_ite (guardView_ceilingRefused h (Quiet.refl s) _ _)
    (guardView_wr s R.REG_CEILING_UNITS _ [] (by decide))))

theorem guardView_windowWrite {s : State} (h : Mild s 84) (src : RegSrc) (v : Nat) :
    (s.windowWrite src v).guardView = s.guardView :=
  guardView_ite rfl (guardView_ite (guardView_refuse h _ _) (guardView_ite (guardView_ceilingRefused h (Quiet.refl s) _ _)
    (guardView_wr s R.REG_CTRL_WINDOW _ [] (by decide))))

theorem guardView_perfLimit (s : State) (v : Nat) : (s.perfLimit v).guardView = s.guardView :=
  guardView_ite rfl ((guardView_wr _ R.POWER_STATUS_LEVEL_LIMIT _ [] (by decide)).trans
    (guardView_wr s R.POWER_PERF_LIMIT v [] (by decide)))

/-! ### Fuse reads, reactions and the bank hash -/

theorem quiet_fuseReadGo (s : State) (reads : List FuseRead) : Quiet s (s.fuseReadGo reads) := by
  unfold State.fuseReadGo
  dsimp only
  refine Quiet.trans ?_ (quiet_base _ R.FUSE_READ_INFO_MARGINAL _ [] rfl)
  refine Quiet.trans ?_ (quiet_base _ R.FUSE_READ_INFO_OVERRIDDEN _ [] rfl)
  refine Quiet.trans ?_ (quiet_base _ R.FUSE_READ_INFO_CORRECTED _ [] rfl)
  refine Quiet.trans ?_ (quiet_base _ R.FUSE_READ_INFO_UNCORR _ [] rfl)
  refine Quiet.trans ?_ (quiet_base _ R.FUSE_READ_INFO_ECC _ [] rfl)
  exact (quiet_base s R.FUSE_READ_LO_DATA _ [] rfl).trans (quiet_base _ R.FUSE_READ_HI_DATA _ [] rfl)

theorem quiet_ite {c : Prop} [Decidable c] {s t u : State} (ht : Quiet s t) (hu : Quiet s u) : Quiet s (if c then t else u) := by
  split_ifs <;> assumption

theorem guardView_fuseReadWrite {s : State} (h : Mild s 84) (src : RegSrc) (ctrl : Nat) (reads : List FuseRead) :
    (s.fuseReadWrite src ctrl reads).guardView = s.guardView := by
  have hword : Quiet s ((s.wr R.FUSE_READ_CTRL_WORD ctrl).wrB R.FUSE_READ_CTRL_SEAL (ctrl.testBit 7)) :=
    (quiet_base s R.FUSE_READ_CTRL_WORD _ [] rfl).trans (quiet_base _ R.FUSE_READ_CTRL_SEAL _ [] rfl)
  have hset : ∀ (c : Prop) [Decidable c] (t : State) (f : Fam) (v : Nat), f.held = .base → Quiet s t →
      Quiet s (if c then t else t.wr f v) := fun c _ t f v hf q => quiet_ite q (q.trans (quiet_base t f v [] hf))
  have hctrl := fun b => hset (field ctrl 10 2 = 3) _ R.FUSE_READ_CTRL_REF b rfl
    (hset (field ctrl 8 2 = 3) _ R.FUSE_READ_CTRL_SOURCE (ctrl >>> 8) rfl hword)
  refine guardView_ite rfl (guardView_ite ?_ ?_)
  · exact (guardView_of_quiet (quiet_fuseReadGo _ reads)).trans
      (guardView_ite (guardView_quiet_refuse h (hctrl _) _ _) (guardView_of_quiet (hctrl _)))
  · exact guardView_ite (guardView_quiet_refuse h (hctrl _) _ _) (guardView_of_quiet (hctrl _))

theorem checkArray_of_no_injection {s : State} (h : s.fault.inj = none) (array : Nat) : s.checkArray array = s := by
  simp [State.checkArray, State.injArray, h]

/-- R323: FS084 is not given a reaction above NOTE. -/
theorem reactField_keeps {s : State} (h : Mild s 84) (n v : Nat) :
    (s.reactField n v).1.guardView = s.guardView ∧ Mild (s.reactField n v).1 84 := by
  unfold State.reactField
  split_ifs with hv
  · refine ⟨guardView_wr s R.FAULT_REACT_REACTION v [n] (by decide), ?_⟩
    by_cases hn : n = 84
    · subst hn
      have hmem : v ∈ allowedReactions 84 := by
        simp only [Bool.and_eq_true, List.contains_iff_mem] at hv
        exact hv.2
      have hv1 : v ≤ 1 := (by decide : ∀ v ∈ allowedReactions 84, v ≤ 1) v hmem
      exact (rd_wr_same s _ v [84]).trans_le ((Nat.mod_le _ _).trans hv1)
    · refine (rd_wr_key s _ R.FAULT_REACT_REACTION v [n] [84] ?_).trans_le h
      rw [react_key, react_key]
      omega
  · exact ⟨rfl, h⟩

theorem guardView_reactWrite {s : State} (h : Mild s 84) (hi : s.fault.inj = none) (src : RegSrc) (w data : Nat) :
    (s.reactWrite src w data).guardView = s.guardView := by
  have hfold := foldl_inv (fun a : State × Bool => a.1.guardView = s.guardView ∧ Mild a.1 84)
    (fun a j => ((a.1.reactField (8 * w + j) (field data (4 * j) 4)).1,
      a.2 || (a.1.reactField (8 * w + j) (field data (4 * j) 4)).2))
    (fun a j ⟨hg, hm⟩ => ⟨(reactField_keeps hm _ _).1.trans hg, (reactField_keeps hm _ _).2⟩) (List.range 8)
    (b := (s, false)) ⟨rfl, h⟩
  obtain ⟨hg, hm⟩ := hfold
  unfold State.reactWrite
  rw [checkArray_of_no_injection hi]
  exact guardView_ite rfl (guardView_ite ((guardView_refuse hm _ _).trans hg) hg)

theorem guardView_bankHashWrite {s : State} (h : Mild s 84) (src : RegSrc) (v : Nat) :
    (s.bankHashWrite src v).guardView = s.guardView :=
  guardView_ite rfl (guardView_ite (guardView_wr s R.CODE_CODE_CTRL_BANK_HASH v [] (by decide))
    (guardView_quiet_refuse h (quiet_raise s E.CODE_REQ_REFUSED [] rfl) _ _))

/-! ### The commands -/

theorem leads_of_guardView {c : Instr} {s t u : State} (h : exec c s = .next t) (ht : t.guardView = u.guardView) :
    Leads c s fun t => t.dram = u.dram ∧ t.segs = u.segs ∧ t.fuse = u.fuse ∧ t.cache = u.cache ∧ t.bench = u.bench ∧
      t.shaft = u.shaft ∧ t.haul = u.haul ∧ t.coding = u.coding ∧ t.thermal = u.thermal ∧ t.rack = u.rack ∧
      t.dict = u.dict ∧
      t.bregs = u.bregs ∧ t.time.now = u.time.now ∧ t.pending = u.pending :=
  leads_next h (by simpa only [State.guardView, Prod.mk.injEq] using ht)

/-- Settles O60. -/
theorem guardedWritesLeaveTheRest : Obligations.GuardedWritesLeaveTheRest := by
  intro s src u hm
  exact ⟨fun n word data => leads_of_guardView rfl (guardView_schedWrite hm src n word data),
    fun off data => leads_of_guardView rfl (guardView_shiftTicks hm src off data),
    fun l data => leads_of_guardView rfl (guardView_labelCfgWrite hm src l data),
    fun v => leads_of_guardView rfl (guardView_ceilingWrite hm src v),
    fun v => leads_of_guardView rfl (guardView_windowWrite hm src v),
    fun v => leads_of_guardView rfl (guardView_perfLimit u v),
    fun ctrl reads => leads_of_guardView rfl (guardView_fuseReadWrite hm src ctrl reads),
    fun w data hi => leads_of_guardView rfl (guardView_reactWrite hm hi src w data),
    fun v => leads_of_guardView rfl (guardView_bankHashWrite hm src v)⟩

end Sys2Proof.Machine
end

section
/-! PROOFS. The shift's states (R37 to R43): where the suspect-region map's bits past its last member lie. -/
namespace Sys2Proof.Machine
open Sys2Proof.Safety

/-- The member number of `CACHE_SRMAP.BITS` whose key would be that of SHIFT_STATUS.STATE: the map has 4,096 members and this
is far past the last of them. -/
def srmapMemberOnShiftState : Nat := (0x41003C - 0x180200) * 8

theorem srmapMember_key : R.CACHE_SRMAP_BITS.key [srmapMemberOnShiftState] = R.TIME_SHIFT_STATUS_STATE.key [] := by
  decide

/-- A merge-buffer entry, complete and open, of a slab past the stack's last one. -/
def straySlabEntry : MEntry where
  slab := srmapMemberOnShiftState * 32768
  label := 0
  source := 0
  age := 0
  bytes := List.replicate 2048 (some 0#8)
  parts := []
  poison := 0
  closing := false

/-- A device in a shift whose drain is due at this tick, with that entry in the merge buffer and no haul engine powered. -/
def strayEntryInShift : State :=
  let s := State.reset
  let s : State := { s with
    power := { s.power with domOn := 8, inReset := false }
    time := { s.time with freshShift := false }
    cache := { s.cache with merge := [straySlabEntry] } }
  s.wr R.TIME_SHIFT_STATUS_STATE 2

theorem strayEntryInShift_reactLegal : ReactLegal strayEntryInShift := by
  unfold ReactLegal
  decide +kernel

/-- The entry closes at the drain's step 2 and takes the shift state with it. -/
theorem strayEntryInShift_drainStart : strayEntryInShift.drainStart.rd R.TIME_SHIFT_STATUS_STATE = 0 := by
  decide +kernel

/-- Refutes O8: a merge-buffer entry of a slab past the stack's last one clears, when the drain closes it, a bit of the
suspect-region map past its last member, and that bit lies where SHIFT_STATUS.STATE does: the drain starts and the state reads
0 (IDLE), not 3 (DRAINING). The statement admits every state, and asks nothing of the slabs that the cache holds. -/
theorem not_shiftMoves : ¬ Obligations.ShiftMoves := by
  unfold Obligations.ShiftMoves
  intro h
  obtain ⟨-, -, -, -, hdrain, -⟩ := h strayEntryInShift .firmware strayEntryInShift_reactLegal strayEntryInShift_reactLegal
  obtain ⟨t, ht, hstate, -⟩ := hdrain (by decide +kernel) (by decide +kernel) (by decide +kernel) (by decide +kernel)
  obtain rfl : strayEntryInShift.drainStart = t := Host.Outcome.next.inj ht
  exact absurd (strayEntryInShift_drainStart.symm.trans hstate) (by decide)

end Sys2Proof.Machine
end

section
/-! SUPPORT. What the device's work leaves of rack time: the clock record and the TIME block's lantern fields. -/
namespace Sys2Proof.Machine
open Sys2Proof.Safety

/-- The TIME block's record without what a reset of the base die or a new announcement touches. -/
def resetFree (t : TimeSt) : TimeSt := { t with freshShift := false, sinceReset := 0 }

/-- The rack clock: the record without the shift's bookkeeping and the slices granted. -/
def clockOf (t : TimeSt) : TimeSt := { t with startDeferred := false, sliced := [], flushing := false }

@[simp] abbrev State.clock (s : State) : TimeSt := clockOf (resetFree s.time)

@[simp] theorem resetFree_freshShift (t : TimeSt) (b : Bool) : resetFree { t with freshShift := b } = resetFree t := rfl
@[simp] theorem resetFree_sinceReset (t : TimeSt) (n : Nat) : resetFree { t with sinceReset := n } = resetFree t := rfl
@[simp] theorem clockOf_startDeferred (t : TimeSt) (b : Bool) :
    clockOf (resetFree { t with startDeferred := b }) = clockOf (resetFree t) := rfl
@[simp] theorem clockOf_flushing (t : TimeSt) (b : Bool) :
    clockOf (resetFree { t with flushing := b }) = clockOf (resetFree t) := rfl

@[simp] theorem clockOf_ite (c : Prop) [Decidable c] (t u : TimeSt) :
    clockOf (if c then t else u) = if c then clockOf t else clockOf u := apply_ite clockOf c t u

@[simp] theorem resetFree_ite (c : Prop) [Decidable c] (s t : State) :
    resetFree (if c then s else t).time = if c then resetFree s.time else resetFree t.time := by split_ifs <;> rfl

@[simp] theorem resetFree_ite_fst {α : Type} (c : Prop) [Decidable c] (p q : State × α) :
    resetFree (if c then p else q).1.time = if c then resetFree p.1.time else resetFree q.1.time := by split_ifs <;> rfl

theorem clock_ite_of {c : Prop} [Decidable c] {s t u : State} (ht : t.clock = s.clock) (hu : u.clock = s.clock) :
    (if c then t else u).clock = s.clock := by split_ifs <;> assumption

@[simp] theorem clock_foldl {α : Type} (g : State → α → State) (hg : ∀ s a, (g s a).clock = s.clock) (l : List α)
    (s : State) :
    (l.foldl g s).clock = s.clock :=
  foldl_keeps State.clock g hg l s

@[simp] theorem clock_foldl_fst {α β : Type} (g : State × β → α → State × β)
    (hg : ∀ p a, (g p a).1.clock = p.1.clock) (l : List α) (p : State × β) :
    (l.foldl g p).1.clock = p.1.clock :=
  foldl_keeps (fun p : State × β => p.1.clock) g hg l p

/-- The key lies in the TIME block (Table 02.3), or is that of the cap setpoint, which schedule entries set. -/
def timeKey (k : Nat) : Bool :=
  (decide (0x410000 * 8 ≤ k) && decide (k < 0x420000 * 8)) || k == R.THERMAL_CAP_SETPOINT.key []

/-- What a register file lists of the TIME block. -/
def timeRegs (l : List (Nat × Nat)) : Nat → Option Nat := fun k => if timeKey k then kvGet k l else none

/-- A field that no index puts where `timeKey` holds. -/
def Fam.pastTime (f : Fam) : Bool := decide (0x430018 ≤ f.off) || (f.dims.isEmpty && !timeKey (f.off * 8 + f.lsb))

/-- A field that no index puts where `timeKey` holds in the lantern domain. -/
def Fam.offTime (f : Fam) : Bool := f.held != .lantern || f.pastTime

theorem timeRegs_congr {l m : List (Nat × Nat)} (h : ∀ k, timeKey k = true → kvGet k l = kvGet k m) :
    timeRegs l = timeRegs m := by
  funext k
  unfold timeRegs
  split_ifs with hk
  · exact h k hk
  · rfl

theorem timeKey_ne_of_pastTime {f : Fam} (h : f.pastTime = true) (i : List Nat) {k : Nat} (hk : timeKey k = true) :
    k ≠ f.key i := by
  rintro rfl
  simp only [Fam.pastTime, Bool.or_eq_true, Bool.and_eq_true, decide_eq_true_eq, List.isEmpty_iff] at h
  rcases h with h | ⟨hd, h⟩
  · have hset : R.THERMAL_CAP_SETPOINT.key [] = 0x430010 * 8 := rfl
    simp only [timeKey, Bool.and_eq_true, Bool.or_eq_true, decide_eq_true_eq, beq_iff_eq, hset] at hk
    unfold Fam.key at hk
    omega
  · have hrel : Fam.rel f.dims i = 0 := by rw [hd]; cases i <;> rfl
    have hkey : f.key i = f.off * 8 + f.lsb := by simp [Fam.key, hrel]
    simp [hkey ▸ hk] at h

@[simp] theorem timeRegs_wr (s : State) (f : Fam) (v : Nat) (i : List Nat) (h : f.offTime = true) :
    timeRegs (s.wr f v i).lregs = timeRegs s.lregs :=
  timeRegs_congr fun _ hk => kvGet_wr_ne s f v i (h := .lantern) fun e => by
    simp only [Fam.offTime, ← e.1, bne_self_eq_false, Bool.false_or] at h
    exact timeKey_ne_of_pastTime h i hk e.2

@[simp] theorem timeRegs_set (s : State) (f : Fam) (i : List Nat) (h : f.offTime = true) :
    timeRegs (s.set f i).lregs = timeRegs s.lregs := timeRegs_wr s f 1 i h
@[simp] theorem timeRegs_clr (s : State) (f : Fam) (i : List Nat) (h : f.offTime = true) :
    timeRegs (s.clr f i).lregs = timeRegs s.lregs := timeRegs_wr s f 0 i h
@[simp] theorem timeRegs_wrB (s : State) (f : Fam) (b : Bool) (i : List Nat) (h : f.offTime = true) :
    timeRegs (s.wrB f b i).lregs = timeRegs s.lregs := timeRegs_wr s f _ i h
@[simp] theorem timeRegs_addSat (s : State) (f : Fam) (n : Nat) (i : List Nat) (h : f.offTime = true) :
    timeRegs (s.addSat f n i).lregs = timeRegs s.lregs := timeRegs_wr s f _ i h
@[simp] theorem timeRegs_incSat (s : State) (f : Fam) (i : List Nat) (h : f.offTime = true) :
    timeRegs (s.incSat f i).lregs = timeRegs s.lregs := timeRegs_wr s f _ i h
@[simp] theorem timeRegs_inc (s : State) (f : Fam) (i : List Nat) (h : f.offTime = true) :
    timeRegs (s.inc f i).lregs = timeRegs s.lregs := timeRegs_wr s f _ i h
@[simp] theorem timeRegs_raise (s : State) (e : Ev) (i : List Nat) (h : e.bit.offTime = true) :
    timeRegs (s.raise e i).lregs = timeRegs s.lregs := by
  unfold State.raise
  split_ifs <;> simp [h]
@[simp] theorem timeRegs_log (s : State) (source unit code : Nat) (data : List Byte) :
    timeRegs (s.log source unit code data).lregs = timeRegs s.lregs := by
  unfold State.log
  split_ifs
  · rfl
  · dsimp only
    split
    · simp +decide
    · split_ifs <;> simp +decide
@[simp] theorem timeRegs_ite (c : Prop) [Decidable c] (s t : State) :
    timeRegs (if c then s else t).lregs = if c then timeRegs s.lregs else timeRegs t.lregs := by split_ifs <;> rfl
@[simp] theorem timeRegs_ite_fst {α : Type} (c : Prop) [Decidable c] (p q : State × α) :
    timeRegs (if c then p else q).1.lregs = if c then timeRegs p.1.lregs else timeRegs q.1.lregs := by split_ifs <;> rfl
@[simp] theorem timeRegs_foldl {α : Type} (g : State → α → State) (hg : ∀ s a, timeRegs (g s a).lregs = timeRegs s.lregs)
    (l : List α) (s : State) : timeRegs (l.foldl g s).lregs = timeRegs s.lregs :=
  foldl_keeps (fun s : State => timeRegs s.lregs) g hg l s

@[simp] theorem timeRegs_foldl_fst {α β : Type} (g : State × β → α → State × β)
    (hg : ∀ p a, timeRegs (g p a).1.lregs = timeRegs p.1.lregs) (l : List α) (p : State × β) :
    timeRegs (l.foldl g p).1.lregs = timeRegs p.1.lregs := foldl_keeps (fun p : State × β => timeRegs p.1.lregs) g hg l p

@[simp] theorem resetFree_foldl {α : Type} (g : State → α → State) (hg : ∀ s a, resetFree (g s a).time = resetFree s.time)
    (l : List α) (s : State) : resetFree (l.foldl g s).time = resetFree s.time :=
  foldl_keeps (fun s : State => resetFree s.time) g hg l s

@[simp] theorem resetFree_foldl_fst {α β : Type} (g : State × β → α → State × β)
    (hg : ∀ p a, resetFree (g p a).1.time = resetFree p.1.time) (l : List α) (p : State × β) :
    resetFree (l.foldl g p).1.time = resetFree p.1.time :=
  foldl_keeps (fun p : State × β => resetFree p.1.time) g hg l p

/-- What a reset leaves of the TIME block's record, and its lantern fields, are those of `s`. -/
@[simp] abbrev RackKept (s t : State) : Prop :=
  resetFree t.time = resetFree s.time ∧ timeRegs t.lregs = timeRegs s.lregs

theorem RackKept.refl (s : State) : RackKept s s := ⟨rfl, rfl⟩

theorem RackKept.trans {s t u : State} (h : RackKept s t) (k : RackKept t u) : RackKept s u :=
  ⟨k.1.trans h.1, k.2.trans h.2⟩

theorem RackKept.clock {s t : State} (h : RackKept s t) : t.clock = s.clock := congrArg clockOf h.1

theorem rackKept_ite {c : Prop} [Decidable c] {s t u : State} (ht : RackKept s t) (hu : RackKept s u) :
    RackKept s (if c then t else u) := by split_ifs <;> assumption

/-- A field of the TIME block whose file lists the block as before. -/
theorem rd_of_timeRegs {s t : State} {f : Fam} {i : List Nat} (h : timeRegs (t.file f.held) = timeRegs (s.file f.held))
    (hk : timeKey (f.key i) = true) : t.rd f i = s.rd f i := by
  have hkv := congrFun h (f.key i)
  simp only [timeRegs, hk, if_true] at hkv
  simp only [State.rd, hkv]

/-- The lantern fields of the TIME block read as before. -/
theorem RackKept.rd {s t : State} (h : RackKept s t) {f : Fam} {i : List Nat} (hf : f.held = .lantern)
    (hk : timeKey (f.key i) = true) : t.rd f i = s.rd f i := rd_of_timeRegs (by rw [hf]; exact h.2) hk

end Sys2Proof.Machine
end

section
/-! SUPPORT. No part of a tick's work but the counting of the tick itself touches the clock, one lemma per function of the model,
in the model's order; the functions that take no part in the suspect-region map leave the TIME block's lantern fields too. -/
namespace Sys2Proof.Machine
open Sys2Proof.Safety

/-! ### Losses of power, reactions and restarts -/

@[simp] theorem rackKept_dropUpdate (s : State) : RackKept s s.dropUpdate := by simp +decide [State.dropUpdate]

@[simp] theorem rackKept_poke (s : State) (a : Nat) (bs : List Byte) : RackKept s (s.poke a bs) := by simp [State.poke]

@[simp] theorem clock_addSeg (s : State) (g : ClearSeg) : (s.addSeg g).clock = s.clock := by simp [State.addSeg]

@[simp] theorem rackKept_loseDomain (s : State) (d : Nat) : RackKept s (s.loseDomain d) := by
  have same : ∀ {t : State}, resetFree t.time = resetFree s.time → t.lregs = s.lregs → RackKept s t :=
    fun ht hl => ⟨ht, congrArg timeRegs hl⟩
  refine rackKept_ite (same rfl rfl) (rackKept_ite ?base (rackKept_ite ?cache (rackKept_ite (same rfl rfl)
    (rackKept_ite (same rfl rfl) (rackKept_ite (same rfl rfl) (rackKept_ite (same rfl rfl) (rackKept_ite (same rfl rfl)
    (rackKept_ite (same rfl rfl) (rackKept_ite (same rfl rfl) (rackKept_ite (same rfl rfl)
    (rackKept_ite ?bench (.refl s))))))))))))
  case base => exact (rackKept_dropUpdate s).trans ⟨rfl, rfl⟩
  case cache => exact ⟨rfl, timeRegs_wr _ _ _ _ (by decide)⟩
  case bench => split <;> exact same rfl rfl

@[simp] theorem rackKept_domainOff (s : State) (d : Nat) : RackKept s (s.domainOff d) := by simp [State.domainOff]

@[simp] theorem rackKept_domainOn (s : State) (d : Nat) : RackKept s (s.domainOn d) := by simp [State.domainOn]

@[simp] theorem rackKept_domainsOff (s : State) (ds : List Nat) : RackKept s (s.domainsOff ds) := by simp [State.domainsOff]

@[simp] theorem rackKept_domainsOn (s : State) (ds : List Nat) : RackKept s (s.domainsOn ds) := by simp [State.domainsOn]

@[simp] theorem rackKept_offBut (s : State) (keep : List Nat) : RackKept s (s.offBut keep) := by simp [State.offBut]

@[simp] theorem rackKept_onUpTo (s : State) (ds : List Nat) : RackKept s (s.onUpTo ds) := by simp [State.onUpTo]

@[simp] theorem rackKept_driveVid (s : State) (code : Nat) : RackKept s (s.driveVid code) := by simp +decide [State.driveVid]

@[simp] theorem clock_loseBaseDie (s : State) : s.loseBaseDie.clock = s.clock := by simp [State.loseBaseDie]

@[simp] theorem rackKept_logPower (s : State) : RackKept s s.logPower := by simp [State.logPower]

@[simp] theorem rackKept_dozeExit (s : State) : RackKept s s.dozeExit := by simp +decide [State.dozeExit]

@[simp] theorem rackKept_logShaft (s : State) (b bit : Nat) : RackKept s (s.logShaft b bit) := by simp [State.logShaft]

@[simp] theorem rackKept_drivePins (s : State) : RackKept s s.drivePins := by simp [State.drivePins]

@[simp] theorem rackKept_heldUpdate (s : State) : RackKept s s.heldUpdate := by simp +decide [State.heldUpdate]

@[simp] theorem rackKept_stopMarch (s : State) : RackKept s s.stopMarch := by
  unfold State.stopMarch
  split <;> simp +decide

@[simp] theorem rackKept_recordDue (s : State) (type unit a b spare : Nat) :
    RackKept s (s.recordDue type unit a b spare) := by
  simp [State.recordDue]

@[simp] theorem rackKept_setLayer (s : State) (n st cause : Nat) : RackKept s (s.setLayer n st cause) := by
  simp +decide [State.setLayer]

@[simp] theorem rackKept_sweepCheck (s : State) : RackKept s s.sweepCheck := by simp +decide [State.sweepCheck]

@[simp] theorem rackKept_loseLayer (s : State) (n cause : Nat) : RackKept s (s.loseLayer n cause) := by simp [State.loseLayer]

@[simp] theorem rackKept_protUpdate (s : State) : RackKept s s.protUpdate.1 := by simp +decide [State.protUpdate]

@[simp] theorem rackKept_offlineCore (s : State) (b : Nat) : RackKept s (s.offlineCore b) := by simp +decide [State.offlineCore]

@[simp] theorem rackKept_setEnabled (s : State) (code : Nat) : RackKept s (s.setEnabled code) := by
  simp +decide [State.setEnabled]

@[simp] theorem rackKept_dropHaulPort (s : State) : RackKept s s.dropHaulPort := by simp [State.dropHaulPort]

@[simp] theorem rackKept_haltWork (s : State) : RackKept s s.haltWork := by simp [State.haltWork]

@[simp] theorem rackKept_haulHalt (s : State) (type kind addr : Nat) : RackKept s (s.haulHalt type kind addr) := by
  simp +decide [State.haulHalt]

@[simp] theorem rackKept_writeHeader (s : State) (active : Nat) (trial : Bool) (boots : Nat) :
    RackKept s (s.writeHeader active trial boots) := by
  unfold State.writeHeader
  split <;> simp

@[simp] theorem rackKept_logImage (s : State) (slot code version rollback : Nat) :
    RackKept s (s.logImage slot code version rollback) := by
  simp [State.logImage]

@[simp] theorem rackKept_logSlot (s : State) (k code : Nat) : RackKept s (s.logSlot k code) := by simp [State.logSlot]

@[simp] theorem rackKept_bootStart (s : State) (bootsel : Bool) : RackKept s (s.bootStart bootsel) := by
  unfold State.bootStart
  dsimp only
  (repeat' split) <;> simp +decide

@[simp] theorem rackKept_persistBefore (s : State) (b : Nat) : RackKept s (s.persistBefore b) := by
  simp +decide [State.persistBefore]

@[simp] theorem rackKept_persistAll (s : State) : RackKept s s.persistAll := by simp +decide [State.persistAll]

@[simp] theorem rackKept_activate (s : State) : RackKept s s.activate := by
  have hset : ∀ t : State,
      RackKept t { t.wr R.MGMT_STATUS_UPDATE_STATE 0 with mgmt := { t.mgmt with activating := true } } := fun t => by simp +decide
  exact (((rackKept_persistAll s).trans (rackKept_logSlot _ _ 0)).trans (rackKept_writeHeader _ _ true 0)).trans (hset _)

@[simp] theorem rackKept_restartCore (s : State) : RackKept s s.restartCore := by simp +decide [State.restartCore]

@[simp] theorem rackKept_mgmtRestart (s : State) : RackKept s s.mgmtRestart := by
  by_cases h : s.live 11 = true
  · rw [mgmtRestart_of_live h]
    simp
  · simp [State.mgmtRestart, h]

@[simp] theorem rackKept_lastEntry (s : State) (target result block reason source tick : Nat) :
    RackKept s (s.lastEntry target result block reason source tick) := by
  simp +decide [State.lastEntry]

@[simp] theorem rackKept_seqIdle (s : State) : RackKept s s.seqIdle := by simp +decide [State.seqIdle]

@[simp] theorem rackKept_holdBench (s : State) (b : Nat) : RackKept s (s.holdBench b) := by simp +decide [State.holdBench]

@[simp] theorem rackKept_holdLinks (s : State) : RackKept s s.holdLinks := by simp [State.holdLinks]

@[simp] theorem rackKept_restartBenches (s : State) : RackKept s s.restartBenches := by simp [State.restartBenches]

@[simp] theorem rackKept_faultAbort (s : State) (trip : Bool) : RackKept s (s.faultAbort trip) := by
  unfold State.faultAbort
  split <;> simp

@[simp] theorem rackKept_openShadow (s : State) (t : Nat) : RackKept s (s.openShadow t) := by simp +decide [State.openShadow]

@[simp] theorem rackKept_capture (s : State) (n reaction : Nat) : RackKept s (s.capture n reaction).1 := by
  simp +decide [State.capture]

@[simp] theorem rackKept_raiseFault (s : State) (note fence shadow : Bool) : RackKept s (s.raiseFault note fence shadow) := by
  simp +decide [State.raiseFault]

@[simp] theorem rackKept_safeAct (s : State) : RackKept s s.safeAct.1 := by simp +decide [State.safeAct]

@[simp] theorem rackKept_tripAct (s : State) : RackKept s s.tripAct := by simp +decide [State.tripAct]

@[simp] theorem rackKept_fenceAct (s : State) (t : Nat) : RackKept s (s.fenceAct t).1 := by
  unfold State.fenceAct
  (repeat' split) <;> simp +decide

@[simp] theorem rackKept_detectClock (s : State) (l : Later) : RackKept s (s.detectClock l).1 := by
  simp +decide [State.detectClock]

theorem rackKept_detectGo (k : Nat) (s : State) (l : Later) : RackKept s (State.detectGo k s l) := by
  induction k generalizing s l with
  | zero => exact .refl s
  | succ k ih =>
    unfold State.detectGo
    split_ifs
    · exact .refl s
    · exact (rackKept_detectClock s l).trans (ih _ _)

@[simp] theorem rackKept_detect (s : State) (srcs opens : List Nat) : RackKept s (s.detect srcs opens) := rackKept_detectGo 12 s _

@[simp] theorem clock_protSettle (s : State) : s.protSettle.clock = s.clock := by simp [State.protSettle]

/-! ### The shafts and the benches' records -/

@[simp] theorem rackKept_charge (s : State) (l units : Nat) : RackKept s (s.charge l units) := by simp +decide [State.charge]

@[simp] theorem rackKept_modDir (s : State) (b : Nat) (down : Bool) (f : ShaftDir → ShaftDir) :
    RackKept s (s.modDir b down f) := by
  simp [State.modDir]

@[simp] theorem rackKept_emitFrame (s : State) (b : Nat) (down : Bool) (type : Nat) (f : Frame) :
    RackKept s (s.emitFrame b down type f) := by
  simp [State.emitFrame]

@[simp] theorem rackKept_creditsLeave (s : State) (b : Nat) (down : Bool) : RackKept s (s.creditsLeave b down) := by
  simp [State.creditsLeave]

@[simp] theorem rackKept_freeEntries (s : State) (b ch : Nat) (write : Bool) (n : Nat) :
    RackKept s (s.freeEntries b ch write n) := by
  simp [State.freeEntries]

@[simp] theorem rackKept_sendIdle (s : State) (b : Nat) (down : Bool) : RackKept s (s.sendIdle b down) := by
  simp [State.sendIdle]

@[simp] theorem rackKept_forcedIdle (s : State) (b : Nat) (down : Bool) : RackKept s (s.forcedIdle b down) := by
  simp +decide [State.forcedIdle]

@[simp] theorem rackKept_transmit (s : State) (b : Nat) (down : Bool) (type : Nat) (f : Frame) :
    RackKept s (s.transmit b down type f) := by
  simp [State.transmit]

theorem rackKept_sendWaiting (b : Nat) (down : Bool) (n : Nat) (s : State) : RackKept s (State.sendWaiting b down n s) := by
  induction n generalizing s with
  | zero => exact .refl s
  | succ n ih =>
    unfold State.sendWaiting
    dsimp only
    split_ifs
    · exact .refl s
    · exact RackKept.trans (by simp) (ih _)
    · split
      · exact .refl s
      · exact RackKept.trans (by simp) (ih _)

@[simp] theorem rackKept_sendWaits (s : State) (b : Nat) (down : Bool) : RackKept s (s.sendWaits b down) :=
  rackKept_sendWaiting b down 64 s

@[simp] theorem rackKept_addWaits (s : State) (b : Nat) (down : Bool) (is : List Item) :
    RackKept s (s.addWaits b down is) := by
  simp [State.addWaits]

@[simp] theorem rackKept_sendItems (s : State) (b : Nat) (down : Bool) (is : List Item) :
    RackKept s (s.sendItems b down is) := by
  simp [State.sendItems]

@[simp] theorem rackKept_sendFrame (s : State) (b : Nat) (down : Bool) (type : Nat) (f : Frame) :
    RackKept s (s.sendFrame b down type f) := by
  simp +decide [State.sendFrame]

@[simp] theorem rackKept_sendDown (s : State) (b type : Nat) (f : Frame) : RackKept s (s.sendDown b type f) := by
  simp +decide [State.sendDown]

@[simp] theorem clock_sendUp (s : State) (b type : Nat) (f : Frame) : (s.sendUp b type f).clock = s.clock := by
  simp [State.sendUp]

theorem creditFam_held (p : Nat) : (creditFam p).held = .base := by
  unfold creditFam
  split <;> rfl

theorem offTime_of_base {f : Fam} (h : f.held = .base) : f.offTime = true := by simp [Fam.offTime, h]

@[simp] theorem rackKept_sendRec (s : State) (b : Nat) (r : TxRec) : RackKept s (s.sendRec b r) := by
  simp [State.sendRec, offTime_of_base (creditFam_held _)]

@[simp] theorem rackKept_spreadRec (s : State) (r : TxRec) : RackKept s (s.spreadRec r) := by simp [State.spreadRec]

theorem rackKept_takeRecs (n : Nat) (s : State) : RackKept s (State.takeRecs n s).1 := by
  induction n generalizing s with
  | zero => exact .refl s
  | succ n ih =>
    unfold State.takeRecs
    split
    · exact .refl s
    · exact RackKept.trans (by simp) (ih _)

theorem rackKept_takeLate (b n : Nat) (s : State) : RackKept s (State.takeLate b n s).1 := by
  induction n generalizing s with
  | zero => exact .refl s
  | succ n ih =>
    unfold State.takeLate
    split
    · exact .refl s
    · dsimp only
      split_ifs
      · exact RackKept.trans (by simp) (ih _)
      · exact RackKept.trans (by simp) (ih _)
      · exact .refl s

@[simp] theorem rackKept_sendRecs (s : State) (b : Nat) (rs : List (TxRec × Nat)) : RackKept s (s.sendRecs b rs) := by
  simp [State.sendRecs]

@[simp] theorem rackKept_latePump (s : State) (b : Nat) : RackKept s (s.latePump b) := by
  simp [State.latePump, rackKept_takeLate]

@[simp] theorem rackKept_shaftPump (s : State) : RackKept s s.shaftPump := by
  simp [State.shaftPump, rackKept_takeRecs]

@[simp] theorem rackKept_queueRec (s : State) (r : TxRec) : RackKept s (s.queueRec r) := by simp [State.queueRec]

@[simp] theorem rackKept_putPortions (s : State) (b layers slab : Nat) (lower upper : List Byte) :
    RackKept s (s.putPortions b layers slab lower upper) := by
  simp [State.putPortions]

@[simp] theorem rackKept_landWrites (s : State) (b : Nat) (es : List SentRec) : RackKept s (s.landWrites b es) := by
  simp [State.landWrites]

@[simp] theorem rackKept_landAll (s : State) (b : Nat) : RackKept s (s.landAll b) := by simp [State.landAll]

@[simp] theorem rackKept_landBenches (s : State) : RackKept s s.landBenches := by simp [State.landBenches]

@[simp] theorem clock_regSend (s : State) (b : Nat) (a : RegAcc) : (s.regSend b a).clock = s.clock := by simp [State.regSend]

@[simp] theorem clock_regAccess (s : State) (b : Nat) (a : RegAcc) : (s.regAccess b a).clock = s.clock := by
  simp [State.regAccess]

@[simp] theorem rackKept_writeSlab (s : State) (slab : Nat) (data : List Byte) (poison flags label : Nat) (sweep : Bool) :
    RackKept s (s.writeSlab slab data poison flags label sweep) := by
  simp +decide [State.writeSlab]

@[simp] theorem rackKept_askPortions (s : State) (op : SlabOp) (sweep : Bool) : RackKept s (s.askPortions op sweep) := by
  simp [State.askPortions]

/-! ### Temperatures and the governor -/

@[simp] theorem clock_keepCurrents (s : State) (env : TickEnv) : (s.keepCurrents env).clock = s.clock := by
  simp [State.keepCurrents]

@[simp] theorem clock_readSensors (s : State) (env : TickEnv) : (s.readSensors env).clock = s.clock := by
  simp [State.readSensors]

@[simp] theorem clock_countSensors (s : State) : s.countSensors.clock = s.clock := by simp [State.countSensors]

@[simp] theorem clock_modelStep (s : State) (env : TickEnv) : (s.modelStep env).clock = s.clock := by simp [State.modelStep]

@[simp] theorem clock_logThermal (s : State) (bit : Nat) : (s.logThermal bit).clock = s.clock := by simp [State.logThermal]

@[simp] theorem clock_publishTemps (s : State) : s.publishTemps.1.clock = s.clock := by simp [State.publishTemps]

@[simp] theorem clock_thresholdStep (s : State) (st : Fam) (set clr : Ev) (level src : Nat) :
    (s.thresholdStep st set clr level src).1.clock = s.clock := by
  simp [State.thresholdStep]

@[simp] theorem clock_progRefused (s : State) : s.progRefused.clock = s.clock := by simp [State.progRefused]

@[simp] theorem clock_modelStart (s : State) : s.modelStart.clock = s.clock := by simp [State.modelStart]

@[simp] theorem clock_limitOlder (s : State) : s.limitOlder.clock = s.clock := by simp [State.limitOlder]

@[simp] theorem clock_thermalTick (s : State) (env : TickEnv) : (s.thermalTick env).clock = s.clock := by
  simp [State.thermalTick]

@[simp] theorem rackKept_capSettle (s : State) : RackKept s s.capSettle := by simp +decide [State.capSettle]

@[simp] theorem clock_codeLimit (s : State) : s.codeLimit.clock = s.clock := by simp [State.codeLimit]

@[simp] theorem rackKept_tokenFrames (s : State) : RackKept s s.tokenFrames := by simp +decide [State.tokenFrames]

@[simp] theorem clock_tickFrames (s : State) : s.tickFrames.clock = s.clock := by simp [State.tickFrames]

@[simp] theorem rackKept_dSettle (s : State) : RackKept s s.dSettle := by simp +decide [State.dSettle]

@[simp] theorem rackKept_govSettle (s : State) (count : Bool) : RackKept s (s.govSettle count) := by
  simp +decide [State.govSettle]

@[simp] theorem clock_govCount (s : State) (env : TickEnv) : (s.govCount env).clock = s.clock := by simp [State.govCount]

@[simp] theorem clock_govTick (s : State) (env : TickEnv) : (s.govTick env).clock = s.clock := by simp [State.govTick]

/-! ### The cache and its merge buffer -/

@[simp] theorem clock_injStep (s : State) : s.injStep.clock = s.clock := by
  unfold State.injStep
  split <;> simp

@[simp] theorem clock_injArray (s : State) (array : Nat) : (s.injArray array).1.clock = s.clock := by
  unfold State.injArray
  split <;> simp

@[simp] theorem clock_checkArray (s : State) (array : Nat) : (s.checkArray array).clock = s.clock := by
  have h := clock_injArray s array
  unfold State.checkArray
  split <;> rename_i e <;> simpa [e] using h

@[simp] theorem clock_ueLog (s : State) (kind slab source layers poison : Nat) :
    (s.ueLog kind slab source layers poison).clock = s.clock := by
  simp [State.ueLog]

@[simp] theorem clock_delivered (s : State) (slab : Nat) (src : Src) (poison : Nat) :
    (s.delivered slab src poison).clock = s.clock := by
  simp [State.delivered]

@[simp] theorem rackKept_issueOp (s : State) (op : SlabOp) : RackKept s (s.issueOp op) := by
  unfold State.issueOp
  split <;> simp +decide

@[simp] theorem rackKept_startOp (s : State) (slab : Nat) (kind : OpKind) (source label : Nat) (req : Option Nat) :
    RackKept s (s.startOp slab kind source label req) := by
  simp [State.startOp]

@[simp] theorem rackKept_setLine (s : State) (l : Line) : RackKept s (s.setLine l) := by simp [State.setLine]

@[simp] theorem clock_dropLine (s : State) (slab : Nat) : (s.dropLine slab).clock = s.clock := by simp [State.dropLine]

@[simp] theorem rackKept_modEntry (s : State) (slab : Nat) (f : MEntry → MEntry) : RackKept s (s.modEntry slab f) := by
  simp [State.modEntry]

@[simp] theorem rackKept_dropEntry (s : State) (slab : Nat) : RackKept s (s.dropEntry slab) := by simp [State.dropEntry]

@[simp] theorem clock_srSet (s : State) (slab : Nat) : (s.srSet slab).clock = s.clock := by simp [State.srSet]

@[simp] theorem clock_srSettle (s : State) (slab : Nat) : (s.srSettle slab).clock = s.clock := by simp [State.srSettle]

@[simp] theorem clock_touchWay (s : State) (slab way : Nat) : (s.touchWay slab way).clock = s.clock := by simp [State.touchWay]

@[simp] theorem rackKept_flushWrote (s : State) (slab : Nat) (entry : Bool) : RackKept s (s.flushWrote slab entry) := by
  unfold State.flushWrote
  split <;> simp +decide

@[simp] theorem clock_writeBack (s : State) (slab : Nat) : (s.writeBack slab).clock = s.clock := by
  unfold State.writeBack
  split <;> simp

@[simp] theorem clock_closeEntry (s : State) (slab : Nat) : (s.closeEntry slab).clock = s.clock := by
  unfold State.closeEntry
  split <;> simp

@[simp] theorem clock_closeOldest (s : State) : s.closeOldest.clock = s.clock := by
  unfold State.closeOldest
  split <;> simp

@[simp] theorem clock_mergeHigh (s : State) : s.mergeHigh.clock = s.clock := by simp [State.mergeHigh]

@[simp] theorem clock_closeAll (s : State) : s.closeAll.clock = s.clock := by simp [State.closeAll]

@[simp] theorem clock_flushAll (s : State) : s.flushAll.clock = s.clock := by simp [State.flushAll]

@[simp] theorem clock_findWay (s : State) (slab : Nat) : (s.findWay slab).1.clock = s.clock := by
  unfold State.findWay
  dsimp only
  (repeat' split) <;> simp

@[simp] theorem clock_install (s : State) (slab way label source : Nat) :
    (s.install slab way label source).clock = s.clock := by
  simp [State.install]

@[simp] theorem clock_writeLine (s : State) (r : CReq) (l : Line) : (s.writeLine r l).clock = s.clock := by
  simp [State.writeLine]

@[simp] theorem clock_writeEntry (s : State) (r : CReq) : (s.writeEntry r).clock = s.clock := by
  unfold State.writeEntry
  dsimp only
  split <;> simp

/-! ### The haul engine -/

theorem rackKept_egGo (n : Nat) (s : State) : RackKept s (State.egGo n s) := by
  induction n generalizing s with
  | zero => exact .refl s
  | succ n ih =>
    unfold State.egGo
    split
    · exact .refl s
    · exact RackKept.trans (by simp) (ih _)

@[simp] theorem rackKept_egDrain (s : State) : RackKept s s.egDrain := by simp [State.egDrain, rackKept_egGo]

@[simp] theorem clock_sendCpl (s : State) (label : Option Nat) (c : Cpl) : (s.sendCpl label c).clock = s.clock := by
  simp [State.sendCpl]

@[simp] theorem clock_finishRead (s : State) (h : HostRdSt) : (s.finishRead h).clock = s.clock := by simp [State.finishRead]

@[simp] theorem clock_hostDeliver (s : State) (id : Nat) (data : List Byte) (poison : Nat) :
    (s.hostDeliver id data poison).clock = s.clock := by
  simp [State.hostDeliver]

@[simp] theorem rackKept_present (s : State) (src : Src) (label : Nat) (write : Bool) (slab off len : Nat)
    (data : List (Option Byte)) (media : Bool) :
    RackKept s (s.present src label write slab off len data media).1 := by
  simp [State.present]

@[simp] theorem rackKept_modChan (s : State) (c : Nat) (f : HChan → HChan) : RackKept s (s.modChan c f) := by
  simp [State.modChan]

@[simp] theorem rackKept_setRun (s : State) (c : Nat) (r : Run) : RackKept s (s.setRun c r) := by simp [State.setRun]

@[simp] theorem rackKept_chanSettle (s : State) (c : Nat) : RackKept s (s.chanSettle c) := by simp +decide [State.chanSettle]

@[simp] theorem rackKept_outPeak (s : State) : RackKept s s.outPeak := by simp +decide [State.outPeak]

@[simp] theorem rackKept_dropFetches (s : State) (c : Nat) : RackKept s (s.dropFetches c) := by simp [State.dropFetches]

@[simp] theorem rackKept_headBack (s : State) (c : Nat) : RackKept s (s.headBack c) := by simp +decide [State.headBack]

@[simp] theorem rackKept_cplRefused (s : State) (c : Nat) : RackKept s (s.cplRefused c) := by simp +decide [State.cplRefused]

@[simp] theorem rackKept_cplCounts (s : State) (c status : Nat) : RackKept s (s.cplCounts c status) := by
  simp +decide [State.cplCounts]

@[simp] theorem rackKept_writeCpl (s : State) (c idx status flags user bytes elem result : Nat) (irq : Bool) :
    RackKept s (s.writeCpl c idx status flags user bytes elem result irq) := by
  simp [State.writeCpl]

theorem rackKept_fetchUpTo (n : Nat) (s : State) (c : Nat) : RackKept s (State.fetchUpTo n s c) := by
  induction n generalizing s with
  | zero => exact .refl s
  | succ n ih =>
    unfold State.fetchUpTo
    dsimp only
    split_ifs
    · exact .refl s
    · exact .refl s
    · exact RackKept.trans (by simp +decide) (ih _)

@[simp] theorem rackKept_kick (s : State) (c : Nat) : RackKept s (s.kick c) := by simp [State.kick, rackKept_fetchUpTo]

theorem rackKept_sweepGo (n : Nat) (s : State) (c : Nat) (users : List (Nat × List Byte × Bool)) :
    RackKept s (State.sweepGo n s c users) := by
  induction n generalizing s with
  | zero => exact .refl s
  | succ n ih =>
    unfold State.sweepGo
    dsimp only
    split_ifs
    · exact .refl s
    · exact RackKept.trans (by simp) (ih _)

@[simp] theorem rackKept_gateSweep (s : State) (c : Nat) : RackKept s (s.gateSweep c) := by
  simp [State.gateSweep, rackKept_sweepGo]

@[simp] theorem rackKept_codingLeave (s : State) (c : Nat) : RackKept s (s.codingLeave c) := by simp [State.codingLeave]

@[simp] theorem rackKept_codingEnter (s : State) (c : Nat) : RackKept s (s.codingEnter c) := by simp [State.codingEnter]

@[simp] theorem rackKept_movePart (s : State) (c : Nat) (r : Run) (n : Nat) : RackKept s (s.movePart c r n) := by
  simp [State.movePart]

@[simp] theorem rackKept_beginPass1 (s : State) (c : Nat) (r : Run) : RackKept s (s.beginPass1 c r) := by
  simp [State.beginPass1]

@[simp] theorem rackKept_planCoded (s : State) (c : Nat) (r : Run) : RackKept s (s.planCoded c r) := by
  unfold State.planCoded
  split <;> simp

@[simp] theorem rackKept_nextUpdate (s : State) (c : Nat) (r : Run) (u : Upd) : RackKept s (s.nextUpdate c r u) := by
  simp [State.nextUpdate]

@[simp] theorem clock_applyUpdate (s : State) (c : Nat) (r : Run) (now : List Byte) (poisoned : Bool) :
    (s.applyUpdate c r now poisoned).clock = s.clock := by
  unfold State.applyUpdate
  split <;> simp

@[simp] theorem rackKept_writeNext (s : State) (c : Nat) (r : Run) : RackKept s (s.writeNext c r).1 := by
  unfold State.writeNext
  split <;> simp

@[simp] theorem rackKept_toReadBack (s : State) (c : Nat) (r : Run) : RackKept s (s.toReadBack c r) := by
  unfold State.toReadBack
  split <;> simp

@[simp] theorem rackKept_afterWrites (s : State) (c : Nat) (r : Run) : RackKept s (s.afterWrites c r) := by
  simp +decide [State.afterWrites]

@[simp] theorem clock_fenceStep (s : State) (r : Run) : (s.fenceStep r).1.clock = s.clock := by
  unfold State.fenceStep
  dsimp only
  (repeat' split) <;> simp

@[simp] theorem rackKept_startRun (s : State) (c idx : Nat) (raw : List Byte) (poisoned : Bool) :
    RackKept s (s.startRun c idx raw poisoned) := by
  simp [State.startRun]

theorem rackKept_codingReport (s : State) (status : Nat) : RackKept s
    (if status = stRepaired then s.raise E.CODING_REPAIRED
    else if status = stUnrecoverable then ((s.incSat R.CODING_UNRECOVERABLES_COUNT).raise E.CODING_UNRECOVERABLE).detect [87]
    else if status = stLedgerPoison then (s.raise E.CODING_LEDGER_POISON).detect [88]
    else s) := by
  split_ifs <;> simp +decide

@[simp] theorem rackKept_codingDone (s : State) (c op status : Nat) : RackKept s (s.codingDone c op status) := by
  unfold State.codingDone
  extract_lets t u
  have ht : RackKept s t := by
    simp only [t]
    split <;> simp +decide
  exact (ht.trans (rackKept_codingLeave t c)).trans (rackKept_codingReport u status)

@[simp] theorem rackKept_finish (s : State) (c : Nat) (r : Run) : RackKept s (s.finish c r) := by simp [State.finish]

@[simp] theorem rackKept_autoStart (s : State) (c : Nat) : RackKept s (s.autoStart c).1 := by
  unfold State.autoStart
  split <;> simp

@[simp] theorem rackKept_listNext (s : State) (c : Nat) (r : Run) (dst : Bool) : RackKept s (s.listNext c r dst) := by
  simp [State.listNext]

@[simp] theorem rackKept_moveNext (s : State) (c : Nat) (r : Run) : RackKept s (s.moveNext c r) := by simp [State.moveNext]

@[simp] theorem rackKept_partRead (s : State) (c : Nat) (r : Run) : RackKept s (s.partRead c r) := by simp [State.partRead]

@[simp] theorem clock_advStep (s : State) (c : Nat) : (s.advStep c).1.clock = s.clock := by
  unfold State.advStep
  (repeat' split) <;> simp

theorem clock_advGo (n : Nat) (s : State) (c : Nat) : (State.advGo n s c).clock = s.clock := by
  induction n generalizing s with
  | zero => rfl
  | succ n ih =>
    have h := clock_advStep s c
    unfold State.advGo
    split <;> rename_i e <;> simp only [e] at h
    · exact (ih _).trans h
    · exact h

@[simp] theorem rackKept_issueRead (s : State) (c : Nat) (p : Piece) (ps : List Piece) :
    RackKept s (s.issueRead c p ps).1 := by
  unfold State.issueRead
  (repeat' split) <;> simp

@[simp] theorem clock_issueOne (s : State) (c : Nat) : (s.issueOne c).1.clock = s.clock := by
  unfold State.issueOne
  split_ifs
  · rfl
  · split
    · simp
    · rename_i r _ _
      have h := (rackKept_writeNext s c r).clock
      split <;> rename_i e
      · exact (clock_advGo 512 _ c).trans (by simpa [e] using h)
      · exact h
    · rfl

@[simp] theorem rackKept_nextTurn (s : State) : RackKept s s.nextTurn := by simp [State.nextTurn]

theorem clock_issueGo (n idle : Nat) (s : State) : (State.issueGo n idle s).clock = s.clock := by
  induction n generalizing idle s with
  | zero => rfl
  | succ n ih =>
    have h := clock_issueOne s s.haul.turn
    unfold State.issueGo
    dsimp only
    split
    · rfl
    · split <;> rename_i e <;> simp only [e] at h
      · refine (ih _ _).trans ?_
        split_ifs <;> simpa using h
      · simpa using ih (idle + 1) s.nextTurn

@[simp] theorem clock_pump (s : State) : s.pump.clock = s.clock := by simp [State.pump, clock_issueGo]

theorem clock_placeGo (n : Nat) (s : State) : (State.placeGo n s).clock = s.clock := by
  induction n generalizing s with
  | zero => rfl
  | succ n ih =>
    unfold State.placeGo
    split
    · rfl
    · split_ifs
      · exact (ih _).trans (by simp [clock_advGo])
      · rfl

@[simp] theorem clock_wakeRanges (s : State) : s.wakeRanges.clock = s.clock := by simp [State.wakeRanges, clock_advGo]

@[simp] theorem clock_advance (s : State) (c : Nat) : (s.advance c).clock = s.clock := by
  simp [State.advance, clock_placeGo, clock_advGo]

@[simp] theorem clock_advanceAll (s : State) : s.advanceAll.clock = s.clock := by simp [State.advanceAll]

@[simp] theorem clock_wakeUpdates (s : State) : s.wakeUpdates.clock = s.clock := by simp [State.wakeUpdates]

@[simp] theorem clock_bring (s : State) (c : Nat) (u : Use) (bs : List Byte) (bad : List Nat) :
    (s.bring c u bs bad).clock = s.clock := by
  unfold State.bring
  split
  · rfl
  · exact clock_advance _ c
  · exact clock_advance _ c
  · exact clock_advance _ c
  · split_ifs
    · simp
    · exact clock_advance _ c
  · rfl

@[simp] theorem clock_haulDeliver (s : State) (c : Nat) (q : CReq) (data : List Byte) (poison : Nat) :
    (s.haulDeliver c q data poison).clock = s.clock := by
  unfold State.haulDeliver
  split <;> simp

@[simp] theorem clock_haulWritten (s : State) (c : Nat) (q : CReq) (ok lost : Bool) :
    (s.haulWritten c q ok lost).clock = s.clock := by
  unfold State.haulWritten
  dsimp only
  (repeat' split) <;> simp

@[simp] theorem clock_haulStop (s : State) : s.haulStop.clock = s.clock := by simp [State.haulStop]

/-! ### Requests served by the cache -/

@[simp] theorem clock_deliverRead (s : State) (r : CReq) (data : List Byte) (poison fresh : Nat) :
    (s.deliverRead r data poison fresh).clock = s.clock := by
  unfold State.deliverRead
  split <;> simp

@[simp] theorem clock_wrote (s : State) (r : CReq) (ok : Bool) : (s.wrote r ok).clock = s.clock := by
  unfold State.wrote
  split <;> simp

@[simp] theorem clock_hit (s : State) (count : Bool) : (s.hit count).clock = s.clock := by simp [State.hit]

@[simp] theorem clock_checkLine (s : State) (l : Line) (need : Nat) : (s.checkLine l need).clock = s.clock := by
  have h := clock_injArray s 0
  unfold State.checkLine
  split <;> rename_i e <;> simp only [e] at h
  · exact h
  · dsimp only
    refine (rackKept_detect _ _ []).clock.trans ?_
    split_ifs <;> simpa using h

@[simp] theorem clock_fetchFor (s : State) (r : CReq) (kind : OpKind) : (s.fetchFor r kind).clock = s.clock := by
  simp [State.fetchFor]

@[simp] theorem clock_serveRead (s : State) (r : CReq) (count : Bool) : (s.serveRead r count).1.clock = s.clock := by
  have h := clock_findWay s r.slab
  unfold State.serveRead
  dsimp only
  (repeat' split) <;> simp_all

@[simp] theorem clock_afterWrite (s : State) (r : CReq) (inLine : Bool) : (s.afterWrite r inLine).clock = s.clock := by
  unfold State.afterWrite
  (repeat' split) <;> simp

@[simp] theorem clock_serveWrite (s : State) (r : CReq) (count : Bool) : (s.serveWrite r count).1.clock = s.clock := by
  have h := clock_findWay s r.slab
  unfold State.serveWrite
  dsimp only
  (repeat' split) <;> simp_all

@[simp] theorem clock_serve (s : State) (r : CReq) (count : Bool) : (s.serve r count).1.clock = s.clock := by
  unfold State.serve
  split <;> simp

@[simp] theorem clock_serveOrWait (s : State) (r : CReq) : (s.serveOrWait r).clock = s.clock := by
  have h := clock_serve s r true
  unfold State.serveOrWait
  dsimp only
  split
  · rfl
  · split <;> rename_i e <;> simp only [e] at h <;> exact h

@[simp] theorem clock_retryWait (s : State) : s.retryWait.clock = s.clock := by simp [State.retryWait]

@[simp] theorem clock_runOpq (s : State) : s.runOpq.clock = s.clock := by
  unfold State.runOpq
  refine (clock_foldl _ (fun t o => ?_) _ _).trans rfl
  split_ifs
  · rfl
  · simp
  · split <;> simp

@[simp] theorem clock_retryFences (s : State) : s.retryFences.clock = s.clock := by
  refine clock_foldl _ (fun t c => ?_) _ _
  split
  · split_ifs <;> simp
  · rfl

@[simp] theorem clock_cacheSettle (s : State) : s.cacheSettle.clock = s.clock := by simp [State.cacheSettle]

@[simp] theorem clock_accept (s : State) (r : CReq) : (s.accept r).clock = s.clock := by simp [State.accept]

@[simp] theorem clock_acceptNext (s : State) (port : Nat) : (s.acceptNext port).clock = s.clock := by
  unfold State.acceptNext
  split <;> simp

@[simp] theorem clock_acceptInner (s : State) : s.acceptInner.clock = s.clock := by simp [State.acceptInner]

@[simp] theorem clock_internalOp (s : State) (slab : Nat) (j : Job) : (s.internalOp slab j).clock = s.clock := by
  simp [State.internalOp]

@[simp] theorem clock_acceptAll (s : State) (rs : List CReq) : (s.acceptAll rs).clock = s.clock := by simp [State.acceptAll]

@[simp] theorem clock_acceptHost (s : State) : s.acceptHost.clock = s.clock := by simp [State.acceptHost]

@[simp] theorem clock_dropClean (s : State) (slab : Nat) : (s.dropClean slab).clock = s.clock := by
  unfold State.dropClean
  split <;> simp

/-! ### Repair, scrubbing and CLEAR -/

@[simp] theorem clock_repairFetch (s : State) (r : Repair) : (s.repairFetch r).clock = s.clock := by simp [State.repairFetch]

@[simp] theorem clock_repairAdmit (s : State) : s.repairAdmit.clock = s.clock := by
  unfold State.repairAdmit
  (repeat' split) <;> simp

@[simp] theorem clock_reportServe (s : State) : s.reportServe.clock = s.clock := by
  unfold State.reportServe
  split <;> simp

@[simp] theorem clock_walkOne (s : State) : s.walkOne.clock = s.clock := by simp [State.walkOne]

@[simp] theorem clock_setSlice (s : State) (l : Option (Nat × Nat)) : (s.setSlice l).clock = s.clock := by simp [State.setSlice]

theorem clock_sliceGo (n : Nat) (s : State) : (State.sliceGo n s).clock = s.clock := by
  induction n generalizing s with
  | zero => rfl
  | succ n ih =>
    unfold State.sliceGo
    dsimp only
    split
    · rfl
    · split_ifs
      · simp
      · simp
      · exact (ih _).trans (by simp)
      · exact (ih _).trans (by simp)
      · simp

@[simp] theorem clock_kickScrub (s : State) : s.kickScrub.clock = s.clock := clock_sliceGo 10 s

@[simp] theorem clock_kickRejoin (s : State) : s.kickRejoin.clock = s.clock := by
  unfold State.kickRejoin
  split <;> simp

@[simp] theorem clock_kickSuspect (s : State) : s.kickSuspect.clock = s.clock := by simp [State.kickSuspect]

@[simp] theorem clock_kickRebuild (s : State) : s.kickRebuild.clock = s.clock := by
  unfold State.kickRebuild
  split <;> simp

@[simp] theorem clock_kickSweeps (s : State) : s.kickSweeps.clock = s.clock := by simp [State.kickSweeps]

@[simp] theorem clock_clearedDram (s : State) (p q : Nat) : (s.clearedDram p q).clock = s.clock := by simp [State.clearedDram]

@[simp] theorem clock_clearRun (s : State) (n : Nat) : (s.clearRun n).clock = s.clock := by
  unfold State.clearRun
  split <;> simp

@[simp] theorem clock_clearTick (s : State) : s.clearTick.clock = s.clock := by simp [State.clearTick]

@[simp] theorem clock_repairUnlock (s : State) : s.repairUnlock.clock = s.clock := by simp [State.repairUnlock]

@[simp] theorem clock_repairCut (s : State) (b : Nat) : (s.repairCut b).clock = s.clock := by
  unfold State.repairCut
  split <;> simp

@[simp] theorem clock_repairSettle (s : State) : s.repairSettle.clock = s.clock := by
  unfold State.repairSettle
  split <;> simp

@[simp] theorem clock_loadLost (s : State) : s.loadLost.clock = s.clock := by simp [State.loadLost]

/-! ### The benches' controllers -/

@[simp] theorem clock_modCtl (s : State) (b ch : Nat) (f : ChanCtl → ChanCtl) : (s.modCtl b ch f).clock = s.clock := by
  simp [State.modCtl]

@[simp] theorem clock_publishBench (s : State) (b : Nat) : (s.publishBench b).clock = s.clock := by simp [State.publishBench]

@[simp] theorem clock_refreshRate (s : State) (b : Nat) : (s.refreshRate b).clock = s.clock := by simp [State.refreshRate]

@[simp] theorem clock_performWrite (s : State) (b : Nat) (r : BReq) : (s.performWrite b r).clock = s.clock := by
  simp [State.performWrite]

@[simp] theorem clock_performReq (s : State) (b : Nat) (r : BReq) : (s.performReq b r).clock = s.clock := by
  simp [State.performReq]

@[simp] theorem clock_leaveQueue (s : State) (b ch : Nat) (r : BReq) : (s.leaveQueue b ch r).clock = s.clock := by
  simp [State.leaveQueue]

@[simp] theorem clock_queueTask (s : State) (b ch bank group : Nat) : (s.queueTask b ch bank group).clock = s.clock := by
  simp [State.queueTask]

@[simp] theorem clock_countAct (s : State) (b ch bank row : Nat) : (s.countAct b ch bank row).clock = s.clock := by
  simp [State.countAct]

@[simp] theorem clock_spend (s : State) (b : Nat) : (s.spend b).clock = s.clock := by simp [State.spend]

@[simp] theorem clock_closeBank (s : State) (b ch bank : Nat) : (s.closeBank b ch bank).clock = s.clock := by
  simp [State.closeBank]

@[simp] theorem clock_issueReq (s : State) (b ch : Nat) (r : BReq) : (s.issueReq b ch r).clock = s.clock := by
  unfold State.issueReq
  split <;> simp

theorem clock_drainReq (b ch : Nat) (force : Bool) (r : BReq) (n : Nat) (s : State) :
    (State.drainReq b ch force r n s).clock = s.clock := by
  induction n generalizing s with
  | zero => rfl
  | succ n ih =>
    unfold State.drainReq
    extract_lets c may
    split
    · exact (ih _).trans (by simp)
    · rfl

@[simp] theorem clock_drainChan (s : State) (b ch : Nat) (force : Bool) : (s.drainChan b ch force).clock = s.clock :=
  clock_foldl _ (fun t r => clock_drainReq b ch force r 3 t) _ s

@[simp] theorem clock_drainEnd (s : State) (b : Nat) : (s.drainEnd b).clock = s.clock := by
  unfold State.drainEnd
  split <;> simp

@[simp] theorem clock_dropPartial (s : State) (b : Nat) : (s.dropPartial b).clock = s.clock := by simp [State.dropPartial]

@[simp] theorem clock_completeAccepted (s : State) (b : Nat) : (s.completeAccepted b).clock = s.clock := by
  simp [State.completeAccepted]

/-! ### Fuses, management, self-tests and power requests -/

@[simp] theorem clock_patrolStatus (s : State) : s.patrolStatus.clock = s.clock := by simp [State.patrolStatus]

@[simp] theorem clock_patrolCopies (s : State) : s.patrolCopies.clock = s.clock := by simp [State.patrolCopies]

@[simp] theorem clock_fuseRecheck (s : State) (reads : List FuseRead) : (s.fuseRecheck reads).clock = s.clock := by
  simp [State.fuseRecheck]

@[simp] theorem clock_burnTick (s : State) : s.burnTick.clock = s.clock := by
  unfold State.burnTick
  split <;> simp

@[simp] theorem clock_violExchange (s : State) (b : Nat) : (s.violExchange b).clock = s.clock := by simp [State.violExchange]

@[simp] theorem clock_dirtySettle (s : State) : s.dirtySettle.clock = s.clock := by simp [State.dirtySettle]

@[simp] theorem clock_benchTrims (s : State) (b : Nat) : (s.benchTrims b).clock = s.clock := by simp [State.benchTrims]

@[simp] theorem clock_loadSet (s : State) (b l : Nat) : (s.loadSet b l).clock = s.clock := by simp [State.loadSet]

@[simp] theorem clock_loadSets (s : State) : s.loadSets.clock = s.clock := by simp [State.loadSets]

@[simp] theorem clock_wdogTick (s : State) : s.wdogTick.clock = s.clock := by simp [State.wdogTick]

@[simp] theorem clock_persistStart (s : State) : s.persistStart.clock = s.clock := by simp [State.persistStart]

@[simp] theorem clock_persistCheck (s : State) : s.persistCheck.clock = s.clock := by simp [State.persistCheck]

@[simp] theorem clock_csKind (s : State) : s.csKind.clock = s.clock := by simp [State.csKind]

@[simp] theorem clock_plan (s : State) (layer pos group : Nat) : (s.plan layer pos group).clock = s.clock := by
  simp [State.plan]

@[simp] theorem clock_serviceSettle (s : State) : s.serviceSettle.clock = s.clock := by simp [State.serviceSettle]

@[simp] theorem clock_restoreNext (s : State) : s.restoreNext.clock = s.clock := by simp [State.restoreNext]

@[simp] theorem clock_wayEmpty (s : State) : s.wayEmpty.clock = s.clock := by
  unfold State.wayEmpty
  split <;> simp

@[simp] theorem clock_removeBench (s : State) (b : Nat) : (s.removeBench b).clock = s.clock := by simp [State.removeBench]

@[simp] theorem clock_marchSegment (s : State) : s.marchSegment.clock = s.clock := by
  unfold State.marchSegment
  split <;> simp

@[simp] theorem clock_calDefer (s : State) (bench : Nat) : (s.calDefer bench).clock = s.clock := by simp [State.calDefer]

@[simp] theorem clock_calTick (s : State) : s.calTick.clock = s.clock := by
  unfold State.calTick
  dsimp only
  split <;> simp

@[simp] theorem clock_saveTick (s : State) : s.saveTick.clock = s.clock := by
  unfold State.saveTick
  split <;> simp

@[simp] theorem clock_shadowTick (s : State) : s.shadowTick.clock = s.clock := by simp [State.shadowTick]

@[simp] theorem clock_refuseEntry (s : State) (target block reason source tick : Nat) :
    (s.refuseEntry target block reason source tick).clock = s.clock := by
  simp [State.refuseEntry]

@[simp] theorem clock_entryDone (s : State) (target source tick : Nat) :
    (s.entryDone target source tick).clock = s.clock := by
  simp [State.entryDone]

@[simp] theorem clock_askBenches (s : State) (target : Nat) : (s.askBenches target).clock = s.clock := by
  simp [State.askBenches]

@[simp] theorem clock_quiesce (s : State) (b target : Nat) : (s.quiesce b target).clock = s.clock := by
  unfold State.quiesce
  split <;> simp

@[simp] theorem clock_restartBlocks (s : State) : s.restartBlocks.clock = s.clock := by simp [State.restartBlocks]

@[simp] theorem clock_askBlock (s : State) (b : Nat) : (s.askBlock b).clock = s.clock := by
  unfold State.askBlock
  dsimp only
  split <;> simp

@[simp] theorem clock_requestState (s : State) (target source : Nat) : (s.requestState target source).clock = s.clock := by
  simp [State.requestState]

@[simp] theorem clock_deferStart (s : State) : s.deferStart.clock = s.clock := by simp [State.deferStart]

@[simp] theorem clock_shiftPassed (s : State) : s.shiftPassed.clock = s.clock := by simp [State.shiftPassed]

@[simp] theorem clock_drainSettle (s : State) : s.drainSettle.clock = s.clock := by simp [State.drainSettle]

/-! ### The rack link and the resets -/

@[simp] theorem clock_markUnsaved (s : State) : s.markUnsaved.clock = s.clock := by
  unfold State.markUnsaved
  split <;> simp

@[simp] theorem clock_restoreSettle (s : State) : s.restoreSettle.clock = s.clock := by simp [State.restoreSettle]

@[simp] theorem clock_rackQueue (s : State) (f : TxFrame) : (s.rackQueue f).clock = s.clock := by simp [State.rackQueue]

@[simp] theorem clock_rackReturn (s : State) : s.rackReturn.clock = s.clock := by simp [State.rackReturn]

@[simp] theorem clock_rackRespond (s : State) (c : Nat) (bytes : List Byte) : (s.rackRespond c bytes).clock = s.clock := by
  simp [State.rackRespond]

@[simp] theorem clock_wordsOf (s : State) (f : Fam) (bs : List Byte) : (s.wordsOf f bs).clock = s.clock := by
  simp [State.wordsOf]

@[simp] theorem clock_dictReply (s : State) (c : Nat) (rsp : List Byte) : (s.dictReply c rsp).clock = s.clock := by
  simp [State.dictReply]

@[simp] theorem clock_dictAnswer (s : State) (c : Nat) (rsp : List Byte) : (s.dictAnswer c rsp).clock = s.clock := by
  simp [State.dictAnswer]

@[simp] theorem clock_wakeRefresh (s : State) : s.wakeRefresh.clock = s.clock := by simp [State.wakeRefresh]

@[simp] theorem clock_assigned (s : State) (a : Nat) : (s.assigned a).clock = s.clock := by simp [State.assigned]

theorem clock_rackTake {s : State} {f : RxFrame} (h : f.type ≠ 2) : (s.rackTake f).clock = s.clock := by
  simp [State.rackTake, h]

@[simp] theorem clock_rackDrain (s : State) : s.rackDrain.clock = s.clock := by
  unfold State.rackDrain
  split
  · rfl
  · refine (clock_foldl _ (fun t f => ?_) _ _).trans rfl
    split
    · simp
    · exact clock_rackTake ‹_›

@[simp] theorem clock_frameSent (s : State) (f : SlotTx) : (s.frameSent f).clock = s.clock := by simp [State.frameSent]

@[simp] theorem clock_slotStep (s : State) : s.slotStep.clock = s.clock := by simp [State.slotStep]

@[simp] theorem clock_benchesHold (s : State) : s.benchesHold.clock = s.clock := by simp [State.benchesHold]

@[simp] theorem clock_sendHolds (s : State) : s.sendHolds.clock = s.clock := by simp [State.sendHolds]

@[simp] theorem clock_enterReset (s : State) (cause : Nat) (flushed : Bool) :
    (s.enterReset cause flushed).clock = s.clock := by
  simp [State.enterReset]

@[simp] theorem clock_resetSettle (s : State) : s.resetSettle.clock = s.clock := by
  unfold State.resetSettle
  split
  · rfl
  · rename_i r _
    split
    · rfl
    · extract_lets v t step clearing w
      have hv : v.clock = s.clock := by simp [v]
      have ht : t.clock = s.clock := clock_ite_of rfl (clock_ite_of hv ((clock_acceptHost _).trans hv))
      have hw : w.clock = s.clock := clock_ite_of ((clock_flushAll _).trans ht) ht
      split
      · refine (clock_enterReset _ _ _).trans ((clock_sendHolds _).trans ?_)
        exact clock_ite_of ((rackKept_persistAll _).clock.trans hw) hw
      · exact hw

@[simp] theorem clock_requestReset (s : State) (cause : Nat) (persist : Bool) :
    (s.requestReset cause persist).clock = s.clock := by
  unfold State.requestReset
  split <;> simp

@[simp] theorem clock_perstAct (s : State) : s.perstAct.clock = s.clock := by
  unfold State.perstAct
  dsimp only
  split <;> simp

@[simp] theorem clock_perstSettle (s : State) : s.perstSettle.clock = s.clock := by simp [State.perstSettle]

@[simp] theorem clock_releaseSettle (s : State) : s.releaseSettle.clock = s.clock := by simp [State.releaseSettle]

/-! ### The tick -/

@[simp] theorem clock_mergeOlder (s : State) : s.mergeOlder.clock = s.clock := by simp [State.mergeOlder]

@[simp] theorem clock_benchDiodes (s : State) (env : TickEnv) : (s.benchDiodes env).clock = s.clock := by
  simp [State.benchDiodes]

@[simp] theorem clock_stuffClear (s : State) : s.stuffClear.clock = s.clock := by simp [State.stuffClear]

@[simp] theorem clock_idleTick (s : State) : s.idleTick.clock = s.clock := by simp [State.idleTick]

@[simp] theorem clock_mgmtTick (s : State) : s.mgmtTick.clock = s.clock := by simp [State.mgmtTick]

@[simp] theorem clock_dictTick (s : State) : s.dictTick.clock = s.clock := by simp [State.dictTick]

@[simp] theorem clock_rackTick (s : State) : s.rackTick.clock = s.clock := by simp [State.rackTick]

@[simp] theorem clock_fuseTick (s : State) (env : TickEnv) : (s.fuseTick env).clock = s.clock := by simp [State.fuseTick]

@[simp] theorem clock_settle (s : State) : s.settle.clock = s.clock := by simp [State.settle]

@[simp] theorem clock_tickBody (s : State) (env : TickEnv) : (s.tickBody env).clock = s.clock := by simp [State.tickBody]

end Sys2Proof.Machine
end

section
/-! PROOFS. Counting ticks (R23, R25 to R28). -/
namespace Sys2Proof.Machine
open Sys2Proof.Safety

@[simp] theorem clock_newWindow (s : State) : s.newWindow.clock = s.clock := by simp [State.newWindow]

@[simp] theorem clock_stepped (s : State) : s.stepped.clock = s.clock := by simp [State.stepped]

/-- The TIME block's record as a tick counted at instant `t` first leaves it. -/
def TimeSt.counted (x : TimeSt) (t : Nat) : TimeSt :=
  { x with
    now := x.load.getD ((x.now + 1) % tickMod), lastTick := t, load := none, freshSched := [], freshShift := false, sliced := []
    pinSilent := x.pinSilent + 1, beaconSilent := x.beaconSilent + 1 }

/-- R28: the rest of the tick leaves the clock as the count has set it. -/
theorem clock_countTick (s : State) (t : Nat) (env : TickEnv) :
    (s.countTick t env).clock = clockOf (resetFree (s.time.counted t)) := by
  have h := clock_tickBody { s with time := s.time.counted t } env
  unfold State.countTick
  dsimp only
  split_ifs
  · exact h
  · exact (clock_stepped _).trans h

/-- A counted edge is no flywheel tick, and the pin is not silent. -/
theorem clock_edgeCounted (s : State) (t : Nat) (env : TickEnv) :
    (s.edgeCounted t env).clock = clockOf (resetFree { s.time.counted t with flew := false, pinSilent := 0 }) :=
  congrArg (fun x : TimeSt => { x with pinSilent := 0 }) (clock_countTick { s with time := { s.time with flew := false } } t env)

/-- What two records with the same clock share. -/
theorem fields_of_clock {s : State} {x : TimeSt} (h : s.clock = clockOf (resetFree x)) :
    s.time.now = x.now ∧ s.time.lastTick = x.lastTick ∧ s.time.load = x.load ∧ s.time.nextFly = x.nextFly ∧
      s.time.train = x.train ∧ s.time.pinSilent = x.pinSilent := by
  simp only [clockOf, resetFree, TimeSt.mk.injEq] at h
  tauto

/-! ### Edges -/

/-- R23: an edge that PIN counts. -/
theorem pinEdge_counts {s : State} {t : Nat} (env : TickEnv) (hlo : s.time.lastTick + 9800 ≤ t)
    (hhi : t ≤ s.time.lastTick + 15000) :
    (s.pinEdge t env).clock = clockOf (resetFree { s.time.counted t with flew := false, pinSilent := 0 }) := by
  unfold State.pinEdge
  dsimp only
  rw [if_neg (by omega), if_neg (by omega), clock_edgeCounted]
  split_ifs <;> simp

/-- R23: an early edge is an event and a fault, and no tick. -/
theorem pinEdge_early {s : State} {t : Nat} (env : TickEnv) (h : t < s.time.lastTick + 9800) (hlo : s.time.lastTick ≤ t) :
    RackKept s (s.pinEdge t env) := by
  unfold State.pinEdge
  dsimp only
  rw [if_pos (by omega)]
  simp +decide

/-- A record that differs from another only where a reset or an announcement touches it. -/
theorem eq_of_resetFree {x y : TimeSt} (h : resetFree x = resetFree y) :
    x = { y with sinceReset := x.sinceReset, freshShift := x.freshShift } := by
  cases x
  cases y
  simp only [resetFree, TimeSt.mk.injEq] at h ⊢
  tauto

/-- R26: what an edge makes of the train of well-spaced edges. -/
def State.trainAfter (s : State) (spacing : Nat) : Nat :=
  if s.time.train = 8 then 8 else if 9800 ≤ spacing ∧ spacing ≤ 10200 then s.time.train + 1 else 1

theorem trainAfter_of_short {s : State} (h : s.time.train < 7) (spacing : Nat) : s.trainAfter spacing ≠ 8 := by
  unfold State.trainAfter
  split_ifs <;> omega

/-- R26: an edge while free-running, by what it does. -/
theorem freeEdge_eq {s : State} (t spacing : Nat) (env : TickEnv) (hpin : s.rd R.TIME_CTRL_PIN_EN = 1) :
    s.freeEdge t spacing env =
      let u : State := { s with time := { s.time with train := s.trainAfter spacing } }
      if s.trainAfter spacing = 8 then
        (if 5000 ≤ t - s.time.lastTick ∧ t - s.time.lastTick ≤ 15000 then u.toPin.edgeCounted t env else u)
      else if t ≤ s.time.nextFly ∧ s.time.nextFly ≤ t + 2000 then
        ({ u with time := { u.time with nextFly := t + s.period } } : State).edgeCounted t env
      else if s.time.flew ∧ t ≤ s.time.lastTick + 2000 then { u with time := { u.time with nextFly := t + s.period } }
      else u := by
  unfold State.freeEdge
  rw [if_neg (by simp [State.is, hpin])]
  rfl

/-- R26: near the flywheel's tick an edge is counted in its place. -/
theorem freeEdge_near {s : State} {t : Nat} (spacing : Nat) (env : TickEnv) (hpin : s.rd R.TIME_CTRL_PIN_EN = 1)
    (htrain : s.time.train < 7) (hnear : t ≤ s.time.nextFly ∧ s.time.nextFly ≤ t + 2000) :
    (s.freeEdge t spacing env).clock = clockOf (resetFree { s.time.counted t with
      train := s.trainAfter spacing, nextFly := t + s.period, flew := false, pinSilent := 0 }) := by
  rw [freeEdge_eq t spacing env hpin]
  dsimp only
  rw [if_neg (trainAfter_of_short htrain _), if_pos hnear, clock_edgeCounted]
  rfl

/-- R26: away from it an edge is not counted; it moves the next one up to 2 µs after it. -/
theorem freeEdge_far {s : State} {t : Nat} (spacing : Nat) (env : TickEnv) (hpin : s.rd R.TIME_CTRL_PIN_EN = 1)
    (htrain : s.time.train < 7) (hfar : ¬ (t ≤ s.time.nextFly ∧ s.time.nextFly ≤ t + 2000)) :
    (s.freeEdge t spacing env).time = { s.time with
      train := s.trainAfter spacing
      nextFly := if s.time.flew = true ∧ t ≤ s.time.lastTick + 2000 then t + s.period else s.time.nextFly } := by
  rw [freeEdge_eq t spacing env hpin]
  dsimp only
  rw [if_neg (trainAfter_of_short htrain _), if_neg hfar]
  split_ifs <;> rfl

/-- R26: after eight edges the pin counts again. -/
theorem freeEdge_train {s : State} {t : Nat} (spacing : Nat) (env : TickEnv) (hpin : s.rd R.TIME_CTRL_PIN_EN = 1)
    (htrain : s.time.train = 8) (hlo : s.time.lastTick + 5000 ≤ t) (hhi : t ≤ s.time.lastTick + 15000) :
    (s.freeEdge t spacing env).clock = clockOf (resetFree { s.time.counted t with
      train := 0, flew := false, pinSilent := 0 }) := by
  have h8 : s.trainAfter spacing = 8 := if_pos htrain
  rw [freeEdge_eq t spacing env hpin]
  dsimp only
  rw [if_pos h8, if_pos (by omega), clock_edgeCounted]
  simp [State.toPin, TimeSt.counted]

/-! ### The flywheel -/

/-- R25: leaving PIN ends a train and keeps the rest of the clock and the period. -/
theorem freeRun_keeps (s : State) (source : Nat) :
    resetFree { (s.freeRun source).time with train := 0 } = resetFree { s.time with train := 0 } ∧
      (s.freeRun source).period = s.period := by
  unfold State.freeRun
  split_ifs
  · dsimp only
    set u := ({ (s.wr R.TIME_STATUS_SOURCE source).set R.TIME_STATUS_FREE_RUNNING with
      time := { s.time with train := 0 } } : State).raise E.TIME_FREE_RUN_SET with hu
    have hdet : RackKept u (u.detect [116]) := rackKept_detect u [116] []
    have hper : u.rd R.TIME_PERIOD = s.rd R.TIME_PERIOD := by
      rw [hu, rd_raise_ne _ _ _ _ _ (by decide)]
      exact (rd_wr_key _ _ _ _ _ _ (by decide)).trans (rd_wr_key _ _ _ _ _ _ (by decide))
    refine ⟨?_, congrArg (· * 40) ((hdet.rd rfl rfl).trans hper)⟩
    have htime : resetFree u.time = resetFree { s.time with train := 0 } := by simp [hu]
    exact congrArg (fun x : TimeSt => { x with train := 0 }) (hdet.1.trans htime)
  · exact ⟨rfl, rfl⟩

/-- R25: a missing tick is counted, and the flywheel goes on from it. -/
theorem missingTick_counts {s : State} {t : Nat} (env : TickEnv) (hup : s.power.lanternUp = true)
    (hsrc : s.rd R.TIME_STATUS_SOURCE = 0 ∨ s.time.train = 8) (ht : s.time.lastTick + 15000 ≤ t) :
    (s.missingTick t env).clock = clockOf (resetFree { s.time.counted t with
      train := 0, nextFly := t + s.period, flew := true }) := by
  obtain ⟨htime, hper⟩ := freeRun_keeps s 2
  unfold State.missingTick
  rw [if_neg (by simp only [hup, Bool.not_true, Bool.false_eq_true, false_or]; omega)]
  dsimp only
  rw [clock_countTick, hper]
  exact congrArg (fun x : TimeSt => clockOf { x.counted t with nextFly := t + s.period, flew := true }) htime

/-- R25 to R27: the flywheel's tick. -/
theorem flywheelTick_counts {s : State} {t : Nat} (env : TickEnv) (hup : s.power.lanternUp = true)
    (hsrc : s.rd R.TIME_STATUS_SOURCE ≠ 0) (htrain : s.time.train ≠ 8) (ht : s.time.nextFly ≤ t) :
    (s.flywheelTick t env).clock = clockOf (resetFree { s.time.counted s.time.nextFly with
      nextFly := s.time.nextFly + (s.period + s.flyAdjust).toNat, phase := s.time.phase - s.flyAdjust, flew := true }) := by
  unfold State.flywheelTick
  rw [if_neg (by simp only [hup, Bool.not_true, Bool.false_eq_true, false_or]; omega)]
  exact clock_countTick _ _ _

/-- R27: the flywheel is moved by at most 1 %. -/
theorem flyAdjust_bound (s : State) : 100 * s.flyAdjust.natAbs ≤ s.period := by
  unfold State.flyAdjust
  dsimp only
  split_ifs <;> omega

/-- R23, R26: an edge, by the source of rack time. -/
theorem tickEdge_eq {s : State} {t : Nat} (env : TickEnv) (hup : s.power.lanternUp = true) (hedge : s.time.lastEdge ≤ t)
    (htick : s.time.lastTick ≤ t) :
    s.tickEdge t env =
      let u : State := { s with time := { s.time with lastEdge := t } }
      if s.rd R.TIME_STATUS_SOURCE = 0 then u.pinEdge t env else u.freeEdge t (t - s.time.lastEdge) env := by
  unfold State.tickEdge
  rw [if_neg (by simp only [hup, Bool.not_true, Bool.false_eq_true, false_or]; omega)]
  rfl

/-- Settles O4: every part reads off what the edge or the tick makes of the clock. -/
theorem ticksAreCounted : Obligations.TicksAreCounted := by
  intro s t env hup next
  refine ⟨fun hsrc hedge hlo hhi => ?_, fun hsrc hedge htick hlt => ?_, fun hsrc hpin hedge htick => ?_, fun hsrc ht => ?_,
    fun hsrc htrain ht => ?_⟩
  · refine leads_next rfl ?_
    rw [tickEdge_eq env hup hedge (by omega)]
    dsimp only
    rw [if_pos hsrc]
    obtain ⟨hnow, hlast, hload, -, -, hsil⟩ := fields_of_clock
      (pinEdge_counts (s := { s with time := { s.time with lastEdge := t } }) env hlo hhi)
    exact ⟨hnow, hlast, hload, hsil⟩
  · refine leads_next rfl ?_
    rw [tickEdge_eq env hup hedge htick]
    dsimp only
    rw [if_pos hsrc]
    exact eq_of_resetFree (pinEdge_early (s := { s with time := { s.time with lastEdge := t } }) env hlt htick).1
  · have hex : exec (.tickEdge t env) s =
        .next (({ s with time := { s.time with lastEdge := t } } : State).freeEdge t (t - s.time.lastEdge) env) := by
      refine congrArg Host.Outcome.next ?_
      rw [tickEdge_eq env hup hedge htick]
      exact if_neg hsrc
    refine ⟨fun htrain hnear => leads_next hex ?_, fun htrain hfar => leads_next hex ?_,
      fun htrain hlo hhi => leads_next hex ?_⟩
    · obtain ⟨hnow, hlast, hload, hfly, -, -⟩ := fields_of_clock
        (freeEdge_near (s := { s with time := { s.time with lastEdge := t } }) _ env hpin htrain hnear)
      exact ⟨hnow, hlast, hload, hfly⟩
    · rw [freeEdge_far (s := { s with time := { s.time with lastEdge := t } }) _ env hpin htrain hfar]
      exact ⟨rfl, rfl, rfl⟩
    · obtain ⟨hnow, hlast, -, -, htr, -⟩ := fields_of_clock
        (freeEdge_train (s := { s with time := { s.time with lastEdge := t } }) _ env hpin htrain hlo hhi)
      exact ⟨hnow, hlast, htr⟩
  · obtain ⟨hnow, hlast, hload, hfly, -, -⟩ := fields_of_clock (missingTick_counts env hup hsrc ht)
    exact leads_next rfl ⟨hnow, hlast, hload, hfly⟩
  · obtain ⟨hnow, hlast, hload, hfly, -, -⟩ := fields_of_clock (flywheelTick_counts env hup hsrc htrain ht)
    exact leads_next rfl ⟨hnow, hlast, hload, hfly, fun h => if_neg h, flyAdjust_bound s⟩

end Sys2Proof.Machine
end

section
/-! PROOFS. The guards of schedule entries and of the shift's ticks (R36, R37). -/
namespace Sys2Proof.Machine
open Sys2Proof.Safety

/-! ### Refusals -/

@[simp] theorem rackKept_violog (s : State) (v : Viol) (bar addr : Nat) (write : Bool) (src : RegSrc) :
    RackKept s (s.violog v bar addr write src) := by
  unfold State.violog
  dsimp only
  split <;> simp +decide

/-- R178: a refusal is logged and detected, whatever its reaction; rack time and the TIME block's lantern fields stay. -/
theorem rackKept_refuse (s : State) (src : RegSrc) (off : Nat) : RackKept s (s.refuse src off) := by
  unfold State.refuse State.violate
  exact (rackKept_violog s .regRule 0 off true src).trans (rackKept_detect _ [84] [])

/-! ### The fields of one entry -/

/-- Two families of members at the same distances, whose members of one index lie at different bits. -/
def Fam.besides (f g : Fam) : Bool := f.dims == g.dims && f.off * 8 + f.lsb != g.off * 8 + g.lsb

theorem key_ne_of_besides {f g : Fam} (h : f.besides g = true) (i : List Nat) : f.key i ≠ g.key i := by
  simp only [Fam.besides, Bool.and_eq_true, beq_iff_eq, bne_iff_ne] at h
  obtain ⟨hdims, hne⟩ := h
  simp only [Fam.key, hdims]
  omega

theorem rd_wr_besides (s : State) {f g : Fam} (h : g.besides f = true) (v : Nat) (i : List Nat) :
    (s.wr f v i).rd g i = s.rd g i := rd_wr_key s f g v i i (key_ne_of_besides h i)

theorem rd_ite_clr_besides (c : Bool) (s : State) {f g : Fam} (h : g.besides f = true) (i : List Nat) :
    (if c then s.clr f i else s).rd g i = s.rd g i := by
  split_ifs
  · exact rd_wr_besides s h 0 i
  · rfl

/-- The flags that stand in the word of ARM. -/
def schedFlagFams : List Fam := [R.TIME_SCHED_FIRED, R.TIME_SCHED_LATE, R.TIME_SCHED_SKIPPED]

/-- The word at +0x4 writes ARM and clears flags, nothing else. -/
theorem rd_schedFlags {g : Fam} (h : ∀ f ∈ schedFlagFams, g.besides f = true) (s : State) (i data : Nat) :
    (s.schedFlags i data).rd g [i] = (s.wrB R.TIME_SCHED_ARM (data.testBit 16) [i]).rd g [i] := by
  simp only [schedFlagFams, List.forall_mem_cons] at h
  obtain ⟨hfired, hlate, hskip, -⟩ := h
  unfold State.schedFlags
  dsimp only
  rw [rd_ite_clr_besides _ _ hskip, rd_ite_clr_besides _ _ hlate, rd_ite_clr_besides _ _ hfired]
  split_ifs <;> rfl

theorem rd_schedFlags_besides {g : Fam} (h : ∀ f ∈ R.TIME_SCHED_ARM :: schedFlagFams, g.besides f = true) (s : State)
    (i data : Nat) : (s.schedFlags i data).rd g [i] = s.rd g [i] := by
  rw [List.forall_mem_cons] at h
  exact (rd_schedFlags h.2 s i data).trans (rd_wr_besides s h.1 _ _)

theorem rd_schedFlags_arm (s : State) (i data : Nat) :
    (s.schedFlags i data).rd R.TIME_SCHED_ARM [i] = data / 2 ^ 16 % 2 := by
  rw [rd_schedFlags (by decide), State.wrB, rd_wr_same, Nat.testBit_eq_decide_div_mod_eq]
  have hbit : data / 2 ^ 16 % 2 = 0 ∨ data / 2 ^ 16 % 2 = 1 := by omega
  rcases hbit with h | h <;> rw [h] <;> rfl

/-! ### The words of one entry (R36) -/

/-- An entry's guarded fields. -/
def schedGuardedFams : List Fam :=
  [R.TIME_SCHED_TARGET_LO, R.TIME_SCHED_TARGET_HI, R.TIME_SCHED_PERIOD, R.TIME_SCHED_ACTION, R.TIME_SCHED_ARG]

theorem timeKey_entry {f : Fam} {i : Nat} (hd : f.dims = [(64, 128)]) (hlo : 0x410100 ≤ f.off) (hhi : f.off < 0x410110)
    (hl : f.lsb < 32) (hi : i < 64) : timeKey (f.key [i]) = true := by
  have hkey : f.key [i] = f.off * 8 + f.lsb + i * 128 := by simp [Fam.key, Fam.rel, hd]
  simp only [timeKey, hkey, Bool.or_eq_true, Bool.and_eq_true, decide_eq_true_eq]
  left
  omega

theorem rd_refuse_guarded (s : State) {f : Fam} (hf : f ∈ schedGuardedFams) (src : RegSrc) (off : Nat) {i : Nat} (hi : i < 64) :
    (s.refuse src off).rd f [i] = s.rd f [i] := by
  have hf' : f.held = .lantern ∧ f.dims = [(64, 128)] ∧ 0x410100 ≤ f.off ∧ f.off < 0x410110 ∧ f.lsb < 32 := by
    revert f
    decide
  obtain ⟨hheld, hd, hlo, hhi, hl⟩ := hf'
  exact (rackKept_refuse s src off).rd hheld (timeKey_entry hd hlo hhi hl hi)

/-- An armed entry keeps a guarded field: what is written either agrees or is refused. -/
theorem rd_guard (s : State) {f g : Fam} (hg : g ∈ schedGuardedFams) (src : RegSrc) (off v : Nat) {i : Nat} (hi : i < 64) :
    (if v = s.rd f [i] then s else s.refuse src off).rd g [i] = s.rd g [i] := by
  split_ifs
  · rfl
  · exact rd_refuse_guarded s hg src off hi

theorem schedWrite_unarmed {s : State} {src : RegSrc} {i data : Nat} (hi : i < 64) (hl : s.live 3 = true)
    (harm : s.rd R.TIME_SCHED_ARM [i] ≠ 1) :
    s.schedWrite src i 0 data = s.wr R.TIME_SCHED_TARGET_LO (field data 0 32) [i] ∧
    s.schedWrite src i 1 data = (s.wr R.TIME_SCHED_TARGET_HI (field data 0 16) [i]).schedFlags i data ∧
    s.schedWrite src i 2 data = s.wr R.TIME_SCHED_PERIOD (field data 0 32) [i] ∧
    (schedLegal (field data 0 4) (field data 16 16) = true → s.schedWrite src i 3 data =
      (s.wr R.TIME_SCHED_ACTION (field data 0 4) [i]).wr R.TIME_SCHED_ARG (field data 16 16) [i]) := by
  have hgo : ¬ (64 ≤ i ∨ (!s.live 3) = true) := by simp [hl, hi]
  have his : s.is R.TIME_SCHED_ARM [i] = false := by simpa [State.is] using harm
  refine ⟨?_, ?_, ?_, fun hlegal => ?_⟩ <;> (unfold State.schedWrite; rw [if_neg hgo])
  · simp [his]
  · simp [his]
  · simp [his]
  · simp [his, hlegal]

/-- Under ARM: the guarded fields are kept, and the word of ARM still sets its flags. -/
theorem schedWrite_armed {s : State} {src : RegSrc} {i : Nat} (data : Nat) (hi : i < 64) (hl : s.live 3 = true)
    (harm : s.rd R.TIME_SCHED_ARM [i] = 1) (word : Nat) :
    (∀ g ∈ schedGuardedFams, (s.schedWrite src i word data).rd g [i] = s.rd g [i]) ∧
      (word = 1 → (s.schedWrite src i word data).rd R.TIME_SCHED_ARM [i] = data / 2 ^ 16 % 2) := by
  have hgo : ¬ (64 ≤ i ∨ (!s.live 3) = true) := by simp [hl, hi]
  have his : s.is R.TIME_SCHED_ARM [i] = true := by simpa [State.is] using harm
  have hflags : ∀ g ∈ schedGuardedFams, ∀ f ∈ R.TIME_SCHED_ARM :: schedFlagFams, g.besides f = true := by decide
  unfold State.schedWrite
  rw [if_neg hgo]
  simp only [his, Bool.not_true, Bool.false_eq_true, if_false, if_true]
  split
  · exact ⟨fun g hg => rd_guard s hg src _ _ hi, by simp⟩
  · exact ⟨fun g hg => (rd_schedFlags_besides (hflags g hg) _ i data).trans (rd_guard s hg src _ _ hi),
      fun _ => rd_schedFlags_arm _ i data⟩
  · exact ⟨fun g hg => rd_guard s hg src _ _ hi, by simp⟩
  · refine ⟨fun g hg => ?_, by simp⟩
    split_ifs
    · rfl
    · exact rd_refuse_guarded s hg src _ hi
  · exact ⟨fun _ _ => rfl, fun h => absurd h ‹_›⟩

/-! ### The shift's ticks (R37) -/

/-- Before the drain a legal tick or lead is taken. -/
theorem rd_shiftTicks_taken {s : State} {src : RegSrc} {off data : Nat} {f : Fam} (hf : shiftFam off = some f)
    (hl : s.live 3 = true) (hst : s.shiftState < 3)
    (hlead : off = 0x410034 → 10 ≤ field data 0 f.width ∧ field data 0 f.width ≤ 10000) :
    (s.shiftTicks src off data).rd f = data % 2 ^ f.width := by
  have hv : field data 0 f.width = data % 2 ^ f.width := rfl
  unfold State.shiftTicks
  change State.rd (match shiftFam off with | none => s | some f => _) f = _
  rw [hf]
  dsimp only
  rw [if_neg (by simp [hl])]
  split_ifs with hsame hdrain hbad
  · exact hsame.symm.trans hv
  · omega
  · exact absurd hbad.2 (by have := hlead hbad.1; omega)
  · exact (rd_wr_same s f _ []).trans (by rw [hv, Nat.mod_mod])

theorem rackKept_shiftTicks_kept {s : State} (src : RegSrc) (off data : Nat) (hst : 3 ≤ s.shiftState) :
    RackKept s (s.shiftTicks src off data) := by
  unfold State.shiftTicks
  change RackKept s (match shiftFam off with | none => s | some f => _)
  cases shiftFam off with
  | none => exact .refl s
  | some f =>
    dsimp only
    refine rackKept_ite (.refl s) (rackKept_ite (.refl s) ?_)
    rw [if_pos hst]
    exact rackKept_refuse s src off

/-- Settles O7: unarmed words are written where they stand; under ARM and from the drain on a change is refused, and a refusal,
whatever its reaction, leaves the lantern fields of the TIME block. -/
theorem armedWritesAreGuarded : Obligations.ArmedWritesAreGuarded := by
  refine ⟨?entries, ?ticks⟩
  case entries =>
    intro s src n data hn u hl
    refine ⟨fun harm => ?_, fun harm word => ?_⟩
    · obtain ⟨h0, h1, h2, h3⟩ := schedWrite_unarmed (src := src) (data := data) hn hl harm
      refine ⟨leads_next rfl ?_, leads_next rfl ?_, leads_next rfl ?_, fun hlegal => leads_next rfl ?_⟩
      · rw [h0, rd_wr_same]
        exact Nat.mod_mod _ _
      · rw [h1]
        refine ⟨?_, rd_schedFlags_arm _ n data⟩
        rw [rd_schedFlags_besides (by decide), rd_wr_same]
        exact Nat.mod_mod _ _
      · rw [h2, rd_wr_same]
        exact Nat.mod_mod _ _
      · have hact : field data 0 4 = data % 16 := rfl
        have harg : field data 16 16 = data / 2 ^ 16 % 2 ^ 16 := by simp [field, Nat.shiftRight_eq_div_pow]
        rw [h3 (by rw [hact, harg]; exact hlegal)]
        refine ⟨?_, ?_⟩
        · rw [rd_wr_besides _ (by decide), rd_wr_same, hact]
          exact Nat.mod_mod _ _
        · rw [rd_wr_same, harg]
          exact Nat.mod_mod _ _
    · obtain ⟨hkept, harm'⟩ := schedWrite_armed (src := src) data hn hl harm word
      exact leads_next rfl ⟨hkept _ (by decide), hkept _ (by decide), hkept _ (by decide), hkept _ (by decide),
        hkept _ (by decide), harm'⟩
  case ticks =>
    intro s src data u hl
    refine ⟨fun hst => ?_, fun hst off => ?_⟩
    · exact ⟨leads_next rfl (rd_shiftTicks_taken (f := R.TIME_SHIFT_START_LO) rfl hl hst nofun),
        leads_next rfl (rd_shiftTicks_taken (f := R.TIME_SHIFT_START_HI) rfl hl hst nofun),
        leads_next rfl (rd_shiftTicks_taken (f := R.TIME_SHIFT_END_LO) rfl hl hst nofun),
        leads_next rfl (rd_shiftTicks_taken (f := R.TIME_SHIFT_END_HI) rfl hl hst nofun),
        fun hlo hhi => leads_next rfl (rd_shiftTicks_taken (f := R.TIME_DRAIN_LEAD_LEAD) rfl hl hst fun _ => ⟨hlo, hhi⟩)⟩
    · have h := rackKept_shiftTicks_kept src off data hst
      refine leads_next rfl ⟨?_, ?_, h.rd rfl rfl⟩
      · exact congrArg₂ (fun a b => a + b * 2 ^ 32) (h.rd (f := R.TIME_SHIFT_START_LO) (i := []) rfl rfl)
          (h.rd (f := R.TIME_SHIFT_START_HI) (i := []) rfl rfl)
      · exact congrArg₂ (fun a b => a + b * 2 ^ 32) (h.rd (f := R.TIME_SHIFT_END_LO) (i := []) rfl rfl)
          (h.rd (f := R.TIME_SHIFT_END_HI) (i := []) rfl rfl)

end Sys2Proof.Machine
end

section
/-! SUPPORT. The haul engine's advance leaves an idle shift idle: the one lantern field that it writes, a bit of the
suspect-region map, is cleared, whatever its number. -/
namespace Sys2Proof.Machine
open Sys2Proof.Safety

/-- An idle shift stays idle. -/
def IdleKept (s t : State) : Prop := s.shiftState = 0 → t.shiftState = 0

theorem IdleKept.refl (s : State) : IdleKept s s := fun h => h

theorem IdleKept.trans {s t u : State} (h : IdleKept s t) (k : IdleKept t u) : IdleKept s u := fun hs => k (h hs)

theorem RackKept.idle {s t : State} (h : RackKept s t) : IdleKept s t := fun hs => (h.rd rfl rfl).trans hs

theorem idleKept_ite {c : Prop} [Decidable c] {s t u : State} (ht : IdleKept s t) (hu : IdleKept s u) :
    IdleKept s (if c then t else u) := by split_ifs <;> assumption

theorem idleKept_foldl {α : Type} (g : State → α → State) (hg : ∀ s a, IdleKept s (g s a)) (l : List α) (s : State) :
    IdleKept s (l.foldl g s) := by
  induction l generalizing s with
  | nil => exact .refl s
  | cons a l ih => exact (hg s a).trans (ih (g s a))

/-- A field cleared, wherever it lies. -/
theorem idleKept_clr (s : State) (f : Fam) (i : List Nat) : IdleKept s (s.clr f i) := by
  intro hs
  by_cases h : R.TIME_SHIFT_STATUS_STATE.held = f.held ∧ R.TIME_SHIFT_STATUS_STATE.key [] = f.key i
  · obtain ⟨hheld, hkey⟩ := h
    have hkv := kvGet_wr_same s f 0 i
    unfold State.shiftState State.rd State.clr
    rw [hheld, hkey, hkv]
    split_ifs
    · rfl
    · exact Nat.zero_mod _
  · exact (rd_wr_ne s f R.TIME_SHIFT_STATUS_STATE 0 i [] h).trans hs

theorem idleKept_srSettle (s : State) (slab : Nat) : IdleKept s (s.srSettle slab) := idleKept_ite (.refl s) (idleKept_clr s _ _)

theorem idleKept_writeBack (s : State) (slab : Nat) : IdleKept s (s.writeBack slab) := by
  unfold State.writeBack
  split
  · exact .refl s
  · refine idleKept_ite (.refl s) (idleKept_ite (RackKept.idle (by simp)) (idleKept_ite ?_ (idleKept_ite (.refl s)
      (RackKept.idle (by simp)))))
    refine .trans (.trans (RackKept.idle ?_) (idleKept_srSettle _ slab)) (RackKept.idle (rackKept_flushWrote _ _ _))
    simp

theorem idleKept_closeEntry (s : State) (slab : Nat) : IdleKept s (s.closeEntry slab) := by
  unfold State.closeEntry
  split
  · exact .refl s
  · refine idleKept_ite (.refl s) (idleKept_ite (RackKept.idle (by simp)) (idleKept_ite ?_ (RackKept.idle (by simp))))
    refine .trans (.trans (RackKept.idle ?_) (idleKept_srSettle _ slab)) (RackKept.idle (rackKept_flushWrote _ _ _))
    simp

theorem idleKept_flushAll (s : State) : IdleKept s s.flushAll :=
  ((idleKept_foldl _ idleKept_closeEntry _ s).trans (idleKept_foldl _ idleKept_writeBack _ _)).trans
    (RackKept.idle (rackKept_heldUpdate _))

theorem idleKept_fenceStep (s : State) (r : Run) : IdleKept s (s.fenceStep r).1 := by
  unfold State.fenceStep
  dsimp only
  (repeat' split)
  · exact .refl s
  · exact .refl s
  · exact .refl s
  · exact (idleKept_flushAll s).trans (RackKept.idle (rackKept_landBenches _))
  · exact RackKept.idle (rackKept_landBenches s)

/-- A step of a descriptor: in every phase but that of a fence none of it is a write-back. -/
theorem idleKept_advStep (s : State) (c : Nat) : IdleKept s (s.advStep c).1 := by
  unfold State.advStep
  (repeat' split)
  any_goals
    refine RackKept.idle ?_
    simp
    done
  exact (idleKept_fenceStep s _).trans (RackKept.idle (rackKept_setRun _ _ _))

theorem idleKept_advGo (n : Nat) (s : State) (c : Nat) : IdleKept s (State.advGo n s c) := by
  induction n generalizing s with
  | zero => exact .refl s
  | succ n ih =>
    have h := idleKept_advStep s c
    unfold State.advGo
    split <;> rename_i e <;> simp only [e] at h
    · exact h.trans (ih _)
    · exact h

theorem idleKept_issueOne (s : State) (c : Nat) : IdleKept s (s.issueOne c).1 := by
  unfold State.issueOne
  split
  · exact .refl s
  · split
    · exact RackKept.idle (by simp)
    · rename_i r _ _
      have h := RackKept.idle (rackKept_writeNext s c r)
      split <;> rename_i e
      · simp only [e] at h
        exact h.trans (idleKept_advGo 512 _ c)
      · exact h
    · exact .refl s

theorem idleKept_issueGo (n idle : Nat) (s : State) : IdleKept s (State.issueGo n idle s) := by
  induction n generalizing idle s with
  | zero => exact .refl s
  | succ n ih =>
    have h := idleKept_issueOne s s.haul.turn
    unfold State.issueGo
    dsimp only
    split
    · exact .refl s
    · split <;> rename_i e <;> simp only [e] at h
      · exact (h.trans (idleKept_ite (RackKept.idle (by simp)) (RackKept.idle (by simp)))).trans (ih _ _)
      · exact (RackKept.idle (rackKept_nextTurn s)).trans (ih _ _)

theorem idleKept_pump (s : State) : IdleKept s s.pump :=
  idleKept_ite (.refl s) ((idleKept_issueGo _ _ s).trans (RackKept.idle (rackKept_egDrain _)))

theorem idleKept_placeGo (n : Nat) (s : State) : IdleKept s (State.placeGo n s) := by
  induction n generalizing s with
  | zero => exact .refl s
  | succ n ih =>
    unfold State.placeGo
    split
    · exact .refl s
    · rename_i w ws _
      have hcoding : IdleKept s { s with coding := { s.coding with active := s.coding.active ++ [w], waiting := ws } } :=
        fun hs => hs
      have hgo := (hcoding.trans (idleKept_advGo 512 _ w)).trans (RackKept.idle (rackKept_chanSettle _ w))
      exact idleKept_ite (hgo.trans (ih _)) (.refl s)

theorem idleKept_wakeRanges (s : State) : IdleKept s s.wakeRanges :=
  idleKept_foldl _ (fun t c => idleKept_ite ((idleKept_advGo 512 t c).trans (RackKept.idle (rackKept_chanSettle _ c)))
    (.refl t)) _ s

theorem idleKept_advance (s : State) (c : Nat) : IdleKept s (s.advance c) := by
  unfold State.advance
  exact (((((idleKept_advGo 512 s c).trans (idleKept_wakeRanges _)).trans (idleKept_placeGo 64 _)).trans
    (RackKept.idle (rackKept_gateSweep _ c))).trans (RackKept.idle (rackKept_kick _ c))).trans
    ((idleKept_pump _).trans (RackKept.idle (rackKept_chanSettle _ c)))

/-- The haul engine goes on with an idle shift. -/
theorem idleKept_advanceAll (s : State) : IdleKept s s.advanceAll :=
  idleKept_ite (idleKept_foldl _ (fun t c => idleKept_ite (idleKept_advance t c) (.refl t)) _ s) (.refl s)

end Sys2Proof.Machine
end

section
/-! PROOFS. A drain that overruns (R41). -/
namespace Sys2Proof.Machine
open Sys2Proof.Safety

/-! ### One source that reacts with NOTE at most

Of the TIME block's base-die fields a reset of the base die would leave nothing; a mild source touches none of them. -/

theorem timeRegs_regs_wr (s : State) (f : Fam) (v : Nat) (i : List Nat) (h : f.pastTime = true) :
    timeRegs (s.wr f v i).regs = timeRegs s.regs :=
  timeRegs_congr fun _ hk => kvGet_wr_ne s f v i (h := .base) fun e => timeKey_ne_of_pastTime h i hk e.2

theorem regs_msix (s : State) (v : Nat) : (s.msix v).regs = s.regs := file_msix s v .base

theorem timeRegs_regs_raise (s : State) (e : Ev) (i : List Nat) (h : e.bit.pastTime = true) :
    timeRegs (s.raise e i).regs = timeRegs s.regs := by
  unfold State.raise
  dsimp only
  split_ifs
  · rfl
  · rw [regs_msix]
    exact timeRegs_regs_wr s e.bit 1 i h
  · exact timeRegs_regs_wr s e.bit 1 i h

theorem timeRegs_regs_log (s : State) (source unit code : Nat) (data : List Byte) :
    timeRegs (s.log source unit code data).regs = timeRegs s.regs := by
  have hseq := timeRegs_regs_wr s R.MGMT_LOG_SEQ_SEQ (seqNext (s.rd R.MGMT_LOG_SEQ_SEQ)) [] rfl
  unfold State.log
  dsimp only
  split
  · rfl
  · split
    · exact hseq
    · split_ifs
      · exact hseq
      · rw [timeRegs_regs_raise _ _ _ rfl, timeRegs_regs_wr _ _ _ _ rfl, State.incSat, State.addSat,
          timeRegs_regs_wr _ _ _ _ rfl]
        exact hseq
      · exact hseq

theorem timeRegs_regs_capture (s : State) (n reaction : Nat) : timeRegs (s.capture n reaction).1.regs = timeRegs s.regs := by
  have hset := timeRegs_regs_wr s R.FAULT_STICKY_SOURCES 1 [n] rfl
  unfold State.capture
  dsimp only [State.drivePins]
  split_ifs
  · exact hset
  · simp only [State.set, timeRegs_regs_wr _ R.FAULT_FIRST_VALID _ _ rfl, timeRegs_regs_wr _ R.FAULT_FIRST_TICK_TICK _ _ rfl,
      timeRegs_regs_wr _ R.FAULT_FIRST_REACTION _ _ rfl, timeRegs_regs_wr _ R.FAULT_FIRST_SOURCE _ _ rfl]
    exact hset

theorem timeRegs_regs_raiseFault (s : State) (note fence shadow : Bool) :
    timeRegs (s.raiseFault note fence shadow).regs = timeRegs s.regs := by
  have hset : ∀ (b : Bool) (t : State) (f : Fam), f.pastTime = true →
      timeRegs (if b then t.set f else t).regs = timeRegs t.regs := fun b t f hf => by
    split_ifs
    · exact timeRegs_regs_wr t f 1 [] hf
    · rfl
  unfold State.raiseFault
  dsimp only
  split
  · rw [regs_msix, hset _ _ _ rfl, hset _ _ _ rfl, hset _ _ _ rfl]
  · rw [hset _ _ _ rfl, hset _ _ _ rfl, hset _ _ _ rfl]

theorem timeRegs_regs_shadowed (s : State) (n : Nat) :
    timeRegs ((s.set R.FAULT_SHADOW_STICKY_SOURCES [n]).incSat R.FAULT_SHADOW_COUNT_COUNT).regs = timeRegs s.regs :=
  (timeRegs_regs_wr _ R.FAULT_SHADOW_COUNT_COUNT _ [] rfl).trans (timeRegs_regs_wr s R.FAULT_SHADOW_STICKY_SOURCES 1 [n] rfl)

theorem filter_range_singleton {n m : Nat} (hn : n < m) (p : Nat → Bool) :
    (List.range m).filter (fun k => [n].contains k && p k) = if p n then [n] else [] := by
  have hone : (List.range m).filter (fun k => [n].contains k) = [n] := by
    simp only [List.contains_cons, List.contains_nil, Bool.or_false]
    rw [List.filter_beq, List.count_eq_one_of_mem List.nodup_range (List.mem_range.2 hn)]
    rfl
  have hswap : (fun k => [n].contains k && p k) = fun k => p k && [n].contains k := funext fun k => Bool.and_comm _ _
  rw [hswap, ← List.filter_filter, hone]
  by_cases h : p n = true <;> simp [h]

/-- What one mild source that is not masked leaves before the FAULT block's events: it is captured, and logged where it is new. -/
def State.noted (s : State) (n : Nat) : State :=
  let c := s.capture n (s.rd R.FAULT_REACT_REACTION [n])
  (if c.2 && decide (1 ≤ s.rd R.FAULT_REACT_REACTION [n]) then [n] else []).foldl
    (fun s n => s.log 1 n (s.rd R.FAULT_REACT_REACTION [n]) (leBytes 4 s.firstWord)) c.1

theorem quiet_noted (s : State) {n : Nat} (hn : n < 128) : Quiet s (s.noted n) :=
  (quiet_capture s n _ hn).trans (Quiet.foldl _ _ (fun t _ _ => quiet_log t _ _ _ _) _)

theorem timeRegs_regs_noted (s : State) (n : Nat) : timeRegs (s.noted n).regs = timeRegs s.regs :=
  (foldl_keeps (fun t : State => timeRegs t.regs) _ (fun t _ => timeRegs_regs_log t _ _ _ _) _ _).trans
    (timeRegs_regs_capture s n _)

/-- The clock of one mild source. -/
theorem timeRegs_regs_detectClock {s : State} {n : Nat} (hn : n < 128) (h : Mild s n) :
    timeRegs (s.detectClock ⟨[n], []⟩).1.regs = timeRegs s.regs := by
  have hcode : ∀ u : State, Quiet s u → u.rd R.FAULT_REACT_REACTION [n] ≠ 2 ∧ u.rd R.FAULT_REACT_REACTION [n] ≠ 3 ∧
      u.rd R.FAULT_REACT_REACTION [n] ≠ 4 := fun u q => by
    have hle : s.rd R.FAULT_REACT_REACTION [n] ≤ 1 := h
    have := q.2 n hn
    omega
  unfold State.detectClock
  dsimp only
  rw [filter_range_singleton hn]
  by_cases hl : s.srcLive n = true
  · by_cases hm : (s.fault.shadows.any fun p => decide (0 < p.2) && shadowMask p.1 n) = true
    · simp only [hl, hm, if_true, List.filter_cons, List.filter_nil]
      simp [timeRegs_regs_raiseFault, timeRegs_regs_shadowed]
    · simp only [hl, hm, if_true, List.filter_cons, List.filter_nil, List.foldl_cons, List.foldl_nil, List.nil_append,
        Bool.not_false, Bool.false_eq_true, if_false]
      have hnoted : (if ((s.capture n (s.rd R.FAULT_REACT_REACTION [n])).2 &&
            decide (1 ≤ s.rd R.FAULT_REACT_REACTION [n])) = true then [n] else []).foldl
          (fun s n => s.log 1 n (s.rd R.FAULT_REACT_REACTION [n]) (leBytes 4 s.firstWord))
          (s.capture n (s.rd R.FAULT_REACT_REACTION [n])).1 = s.noted n := rfl
      rw [hnoted]
      obtain ⟨h2, h3, h4⟩ := hcode _ (quiet_noted s hn)
      simp [h2, h3, h4, timeRegs_regs_raiseFault, timeRegs_regs_noted]
  · simp [hl, timeRegs_regs_raiseFault]

/-- A mild source leaves the base-die fields of the TIME block. -/
theorem timeRegs_regs_detect {s : State} {n : Nat} (hn : n < 128) (h : Mild s n) :
    timeRegs (s.detect [n]).regs = timeRegs s.regs := by
  have hdone : ∀ k t, State.detectGo k t ⟨[], []⟩ = t := fun k t => by cases k <;> rfl
  have hmild : ∀ k ∈ [n], Mild s k := fun k hk => by rwa [List.mem_singleton.1 hk]
  unfold State.detect State.detectGo
  split
  · rfl
  · dsimp only
    rw [(detectClock_mild s [n] hmild).2, hdone]
    exact timeRegs_regs_detectClock hn h

/-- A base-die field of the TIME block after a mild source. -/
theorem rd_detect_base {s : State} {n : Nat} (hn : n < 128) (h : Mild s n) {f : Fam} {i : List Nat} (hf : f.held = .base)
    (hk : timeKey (f.key i) = true) : (s.detect [n]).rd f i = s.rd f i :=
  rd_of_timeRegs (by rw [hf]; exact timeRegs_regs_detect hn h) hk

/-! ### The overrun and what follows it (R39, R41, R42) -/

/-- The overrun recorded, before its source is detected. -/
def State.overrunNoted (s : State) : State :=
  (({ s with time := { s.time with overran := true, overruns := s.time.overruns + 1 } } : State).set
    R.TIME_SHIFT_STATUS_DRAIN_OVERRUN).raise E.TIME_DRAIN_OVERRUN

theorem drainOverrun_eq {s : State} (hst : s.shiftState = 3) (hlive : s.live 3 = true) (hfresh : s.time.freshShift = false)
    (hend : reached s.time.now s.shiftEnd? = true) (hover : s.time.overran = false) :
    s.drainOverrun = s.overrunNoted.detect [118] := by
  unfold State.drainOverrun
  rw [if_neg (by simp [hst, hlive, hfresh, hend, hover])]
  rfl

theorem overrunNoted_keeps (s : State) : RackKept
    { s with time := { s.time with overran := true, overruns := s.time.overruns + 1 } } s.overrunNoted := by
  simp +decide [State.overrunNoted]

theorem mild_overrunNoted {s : State} (h : Mild s 118) : Mild s.overrunNoted 118 := by
  unfold Mild State.overrunNoted
  rw [rd_raise_ne _ _ _ _ _ (by decide), State.set, rd_wr_ne _ _ _ _ _ _ (by decide)]
  exact h

theorem rd_overrunNoted {s : State} (hlive : s.live 3 = true) :
    s.overrunNoted.rd R.TIME_SHIFT_STATUS_DRAIN_OVERRUN = 1 ∧ s.overrunNoted.rd R.TIME_EVENTS_DRAIN_OVERRUN = 1 := by
  refine ⟨(rd_raise_ne _ _ _ _ _ (by decide)).trans (rd_set_same _ _ _ (by decide)), ?_⟩
  exact rd_raise_same _ E.TIME_DRAIN_OVERRUN [] (by decide) hlive

/-- R42: before DRAINED the shift does not end. -/
theorem shiftFinish_of_ne {s : State} (h : s.shiftState ≠ 4) : s.shiftFinish = s := if_pos (Or.inl h)

/-- R39 step 6: the drain is complete. -/
theorem shiftState_drainComplete {s : State} (hst : s.shiftState = 3) (hlive : s.live 3 = true)
    (hflush : s.time.flushing = true) (hquiet : s.cacheQuiet = true) : s.drainComplete.shiftState = 4 := by
  have hsettle : s.drainSettle = s := if_pos (Or.inr (Or.inl hflush))
  have hpersist : ∀ t : State, t.persistStart.shiftFresh.shiftState = t.shiftState := fun t => by
    unfold State.persistStart
    split_ifs
    · rfl
    · exact rd_wr_key t R.MGMT_CTRL_LOG_PERSIST R.TIME_SHIFT_STATUS_STATE 1 [] [] (by decide)
  unfold State.drainComplete
  rw [hsettle, if_neg (by simp [hst, hlive, hflush, hquiet])]
  rw [hpersist, State.shiftState, rd_raise_ne _ _ _ _ _ (by decide), rd_wr_same]
  rfl

/-- R42: from DRAINED the shift ends, and the haul work that it wakes leaves it ended. -/
theorem shiftState_shiftFinish {s : State} (hst : s.shiftState = 4) (hfresh : s.time.freshShift = false)
    (hup : s.power.lanternUp = true) (hend : reached s.time.now s.shiftEnd? = true) : s.shiftFinish.shiftState = 0 := by
  unfold State.shiftFinish
  rw [if_neg (by simp [hst, hfresh, hup, hend])]
  rw [State.shiftState, rd_raise_ne _ _ _ _ _ (by decide)]
  exact idleKept_advanceAll _ (rd_wr_same _ _ _ _)

/-- Settles O9: the mild source 118 touches none of the fields that the overrun sets, and the haul work that the end of the shift
wakes leaves an idle shift idle. -/
theorem drainOverrunIsReported : Obligations.DrainOverrunIsReported := by
  intro s hst hlive hfresh hend
  refine ⟨fun hover hmild => ?_, leads_next rfl (shiftFinish_of_ne (by omega)), fun _ hflush hquiet _ _ =>
    leads_next rfl (shiftState_drainComplete hst hlive hflush hquiet), fun s4 _ hst4 hfresh4 hup4 hend4 =>
    leads_next rfl (shiftState_shiftFinish hst4 hfresh4 hup4 hend4)⟩
  refine leads_next (congrArg Host.Outcome.next (drainOverrun_eq hst hlive hfresh hend hover)) ?_
  have hkept := (overrunNoted_keeps s).trans (rackKept_detect s.overrunNoted [118] [])
  have hm := mild_overrunNoted hmild
  obtain ⟨hover1, hevent1⟩ := rd_overrunNoted hlive
  exact ⟨(rd_detect_base (by decide) hm rfl rfl).trans hover1, (rd_detect_base (by decide) hm rfl rfl).trans hevent1,
    (hkept.rd rfl rfl).trans hst, congrArg TimeSt.overruns hkept.1⟩

end Sys2Proof.Machine
end

section
/-! PROOFS. Schedule entries act, or are skipped (R34, R35, R261, R283, R302). -/
namespace Sys2Proof.Machine
open Sys2Proof.Safety

/-! ### The bookkeeping of a due entry -/

/-- R35: an entry with this action is skipped. -/
def State.schedSkip (s : State) (act : Nat) : Bool := s.schedSkips && act != 1 && act != 4

/-- A due entry's flags, and its next target or its end. -/
def State.schedMark (s : State) (i : Nat) (skip : Bool) : State :=
  let late := s.time.now != s.schedTarget i
  let per := s.rd R.TIME_SCHED_PERIOD [i]
  let target := (s.schedTarget i + per) % tickMod
  let s := if skip then s.set R.TIME_SCHED_SKIPPED [i] else s.set R.TIME_SCHED_FIRED [i]
  let s := if late then s.set R.TIME_SCHED_LATE [i] else s
  let s := if per = 0 then s.clr R.TIME_SCHED_ARM [i]
    else (s.wr R.TIME_SCHED_TARGET_LO target [i]).wr R.TIME_SCHED_TARGET_HI (target / 2 ^ 32) [i]
  if late || skip then s.raise E.TIME_SCHED_LATE else s

/-- The lowest due entry: its bookkeeping, and its action unless it is skipped. -/
theorem schedAct_of_due {s : State} {i act : Nat} (run : State → Nat → State) (hi : i < 64) (hup : s.power.lanternUp = true)
    (hdue : s.schedDue i = true) (hlow : ∀ j, j < i → s.schedDue j = false) (hact : s.rd R.TIME_SCHED_ACTION [i] = act) :
    s.schedAct i act run = if s.schedSkip act then s.schedMark i (s.schedSkip act)
      else run (s.schedMark i (s.schedSkip act)).dozeExit (s.rd R.TIME_SCHED_ARG [i]) := by
  have hfirst : (List.range i).any s.schedDue = false := by
    simpa [List.any_eq_false] using hlow
  unfold State.schedAct
  rw [if_neg (by simp [hup, hdue, hact, hfirst, hi])]
  rfl

theorem schedMark_power (s : State) (i : Nat) (skip : Bool) :
    (s.schedMark i skip).power = s.power ∧ (s.schedMark i skip).thermal = s.thermal ∧ (s.schedMark i skip).haul = s.haul := by
  unfold State.schedMark
  dsimp only
  refine ⟨?_, ?_, ?_⟩ <;> split_ifs <;> simp

/-- The fields of an entry that its bookkeeping writes. -/
def schedMarkFams : List Fam :=
  [R.TIME_SCHED_SKIPPED, R.TIME_SCHED_FIRED, R.TIME_SCHED_LATE, R.TIME_SCHED_ARM, R.TIME_SCHED_TARGET_LO, R.TIME_SCHED_TARGET_HI]

/-- The bookkeeping leaves every other field. -/
theorem rd_schedMark (s : State) (i : Nat) (skip : Bool) {g : Fam} {j : List Nat}
    (hg : ∀ f ∈ schedMarkFams, ¬ (g.held = f.held ∧ g.key j = f.key [i]))
    (he : ¬ (g.held = .base ∧ g.key j = R.TIME_EVENTS_SCHED_LATE.key [])) : (s.schedMark i skip).rd g j = s.rd g j := by
  simp only [schedMarkFams, List.forall_mem_cons] at hg
  obtain ⟨hskip, hfired, hlate, harm, hlo, hhi, -⟩ := hg
  unfold State.schedMark
  dsimp only
  split_ifs <;> simp only [rd_raise_ne _ E.TIME_SCHED_LATE [] g j he, State.set, State.clr, rd_wr_ne _ _ g _ _ j hskip,
    rd_wr_ne _ _ g _ _ j hfired, rd_wr_ne _ _ g _ _ j hlate, rd_wr_ne _ _ g _ _ j harm, rd_wr_ne _ _ g _ _ j hlo,
    rd_wr_ne _ _ g _ _ j hhi]

/-- The bookkeeping leaves every field outside the schedule table but the event's. -/
theorem rd_schedMark_outside (s : State) {i : Nat} (skip : Bool) {g : Fam} {j : List Nat} (hi : i < 64)
    (hg : g.key j < 0x410100 * 8 ∨ 0x410500 * 8 ≤ g.key j)
    (he : ¬ (g.held = .base ∧ g.key j = R.TIME_EVENTS_SCHED_LATE.key [])) : (s.schedMark i skip).rd g j = s.rd g j := by
  refine rd_schedMark s i skip (fun f hf => ?_) he
  have hf' : f.dims = [(64, 128)] ∧ 0x410100 * 8 ≤ f.off * 8 + f.lsb ∧ f.off * 8 + f.lsb < 0x410110 * 8 := by
    revert f
    decide
  obtain ⟨hd, hlo, hhi⟩ := hf'
  have hkey : f.key [i] = f.off * 8 + f.lsb + i * 128 := by simp [Fam.key, Fam.rel, hd]
  rintro ⟨-, hk⟩
  omega

/-- An entry's flag that the later steps of the bookkeeping do not write. -/
theorem rd_schedMark_flag (s : State) (i : Nat) (skip : Bool) {g : Fam} (hheld : g.held = .lantern)
    (hg : ∀ f ∈ schedMarkFams.drop 2, g.besides f = true) : (s.schedMark i skip).rd g [i] =
      (if skip then s.set R.TIME_SCHED_SKIPPED [i] else s.set R.TIME_SCHED_FIRED [i]).rd g [i] := by
  simp only [schedMarkFams, List.drop_succ_cons, List.drop_zero, List.forall_mem_cons] at hg
  obtain ⟨hlate, harm, hlo, hhi, -⟩ := hg
  have he : ∀ t : State, (t.raise E.TIME_SCHED_LATE).rd g [i] = t.rd g [i] := fun t =>
    rd_raise_ne t _ [] g [i] (by simp +decide [hheld])
  unfold State.schedMark
  dsimp only
  split_ifs <;> simp only [he, State.set, State.clr, rd_wr_besides _ hlate, rd_wr_besides _ harm, rd_wr_besides _ hlo,
    rd_wr_besides _ hhi]

theorem rd_schedMark_fired (s : State) (i : Nat) : (s.schedMark i false).rd R.TIME_SCHED_FIRED [i] = 1 := by
  rw [rd_schedMark_flag s i false rfl (by decide)]
  exact rd_set_same _ _ _ (by decide)

theorem rd_schedMark_skipped (s : State) (i : Nat) : (s.schedMark i true).rd R.TIME_SCHED_SKIPPED [i] = 1 ∧
    (s.schedMark i true).rd R.TIME_SCHED_FIRED [i] = s.rd R.TIME_SCHED_FIRED [i] := by
  rw [rd_schedMark_flag s i true rfl (by decide), rd_schedMark_flag s i true rfl (by decide)]
  exact ⟨rd_set_same _ _ _ (by decide), rd_wr_besides s (by decide) 1 [i]⟩

/-- A one-shot entry is disarmed. -/
theorem rd_schedMark_arm {s : State} {i : Nat} (skip : Bool) (hper : s.rd R.TIME_SCHED_PERIOD [i] = 0) :
    (s.schedMark i skip).rd R.TIME_SCHED_ARM [i] = 0 := by
  have he : ∀ t : State, (t.raise E.TIME_SCHED_LATE).rd R.TIME_SCHED_ARM [i] = t.rd R.TIME_SCHED_ARM [i] := fun t =>
    rd_raise_ne t _ [] _ [i] (by simp +decide)
  unfold State.schedMark
  dsimp only
  split_ifs <;> simp only [he, rd_clr_same]

/-! ### The actions -/

/-- R255: outside DOZE there is nothing to leave. -/
theorem dozeExit_of_ne {s : State} (h : s.pstate ≠ 1) : s.dozeExit = s := if_neg h

theorem dozeExit_power (s : State) : s.dozeExit.power = s.power := by
  unfold State.dozeExit State.logPower
  split_ifs <;> simp

@[simp] theorem lregs_log (s : State) (source unit code : Nat) (data : List Byte) :
    (s.log source unit code data).lregs = s.lregs := by
  have hraise : ∀ t : State, (t.raise E.MGMT_LOG_LOST).lregs = t.lregs := fun t => by
    unfold State.raise
    dsimp only
    split_ifs
    · rfl
    · exact (file_msix _ _ .lantern).trans rfl
    · rfl
  unfold State.log
  dsimp only
  split
  · rfl
  · split
    · rfl
    · split_ifs
      · rfl
      · exact hraise _
      · rfl

theorem rd_log_lantern (s : State) (source unit code : Nat) (data : List Byte) {g : Fam} {j : List Nat}
    (hg : g.held = .lantern) : (s.log source unit code data).rd g j = s.rd g j := by
  simp only [State.rd, State.file, hg, lregs_log]

/-- R261, R263: a wake by the schedule from EMBER is latched, and WAKE# is driven. -/
theorem wakeBy_schedule {s : State} (hst : s.pstate = 3) (hseq : s.power.seq = .idle) (htrip : s.thermal.trip = none)
    (hen : (s.rd R.POWER_WAKE_EN_EN).testBit 2 = true) :
    (s.wakeBy 2).rd R.POWER_WAKE_LATCH_PENDING = 1 ∧ (s.wakeBy 2).pins.wake = true := by
  have hwake : s.wakeBy 2 = ((s.latchWake 2).wakePin 2).logPower := by
    unfold State.wakeBy
    rw [if_neg (by simp [htrip]), if_neg (by simp [hen]), hseq, hst]
    rfl
  rw [hwake]
  refine ⟨(rd_log_lantern _ _ _ _ _ rfl).trans (rd_set_same _ _ _ (by decide)), ?_⟩
  unfold State.logPower
  rw [log_pins]
  rfl

/-- R255: DOZE asked for in ACTIVE with no drain and no haul work is entered at once. -/
theorem requestState_doze {s : State} (source : Nat) (hst : s.pstate = 0) (hseq : s.power.seq = .idle)
    (hshift : s.shiftState ≠ 3) (hbusy : s.haulBusy = false) :
    (s.requestState 1 source).rd R.POWER_STATUS_STATE = 1 := by
  have hdone : ∀ (t : State) (tick : Nat), (t.entryDone 1 source tick).rd R.POWER_STATUS_STATE = t.rd R.POWER_STATUS_STATE := by
    intro t tick
    unfold State.entryDone State.lastEntry State.logPower
    dsimp only
    rw [rd_log_lantern _ _ _ _ _ rfl, rd_raise_ne _ _ _ _ _ (by decide)]
    simp only [rd_wr_key _ R.POWER_LAST_ENTRY_SOURCE R.POWER_STATUS_STATE _ [] [] (by decide),
      rd_wr_key _ R.POWER_LAST_ENTRY_REASON R.POWER_STATUS_STATE _ [] [] (by decide),
      rd_wr_key _ R.POWER_LAST_ENTRY_BLOCK R.POWER_STATUS_STATE _ [] [] (by decide),
      rd_wr_key _ R.POWER_LAST_ENTRY_RESULT R.POWER_STATUS_STATE _ [] [] (by decide),
      rd_wr_key _ R.POWER_LAST_ENTRY_TARGET R.POWER_STATUS_STATE _ [] [] (by decide),
      rd_wr_key _ R.POWER_LAST_ENTRY_TICK_TICK R.POWER_STATUS_STATE _ [] [] (by decide)]
  unfold State.requestState
  dsimp only
  rw [if_neg (by simp [hseq]), if_neg (by simp [hst]), if_pos rfl,
    if_neg (show ¬ s.rd R.TIME_SHIFT_STATUS_STATE = 3 from hshift), if_neg (by simp [hbusy]), hdone]
  exact rd_wr_same _ _ _ _

/-- R283: the setpoint is the argument, whatever the governor makes of it. -/
theorem rd_setCap (s : State) {v : Nat} (hv : v < 512) : (s.setCap v).rd R.THERMAL_CAP_SETPOINT = v := by
  have hset : (s.wr R.THERMAL_CAP_SETPOINT v).rd R.THERMAL_CAP_SETPOINT = v :=
    (rd_wr_same _ _ _ _).trans (Nat.mod_eq_of_lt hv)
  have hkept : RackKept (s.wr R.THERMAL_CAP_SETPOINT v) (s.setCap v) := by
    refine rackKept_ite (.refl _) (rackKept_ite (rackKept_govSettle _ _) ?_)
    exact (rackKept_govSettle _ _).trans (rackKept_tokenFrames _)
  exact (hkept.rd rfl (by decide)).trans hset

/-- R34: the event is raised, and the log leaves it. -/
theorem rd_schedEvent {s : State} (hlive : s.live 3 = true) (source unit code : Nat) (data : List Byte) :
    ((s.raise E.TIME_SCHED_FIRED).log source unit code data).rd R.TIME_EVENTS_SCHED_FIRED = 1 :=
  (rd_of_timeRegs (f := R.TIME_EVENTS_SCHED_FIRED) (i := []) (timeRegs_regs_log _ _ _ _ _) (by decide)).trans
    (rd_raise_same s E.TIME_SCHED_FIRED [] (by decide) hlive)

/-- Haul work as it was. -/
theorem haulBusy_schedMark (s : State) {i : Nat} (skip : Bool) (hi : i < 64) : (s.schedMark i skip).haulBusy = s.haulBusy := by
  obtain ⟨-, -, hhaul⟩ := schedMark_power s i skip
  have hidx : ∀ f : Fam, f.dims = [(64, 32768)] → f.off * 8 + f.lsb < 0x100020 * 8 → ∀ c, c < 64 →
      (s.schedMark i skip).rd f [c] = s.rd f [c] := by
    intro f hd hlo c hc
    have hkey : f.key [c] = f.off * 8 + f.lsb + c * 32768 := by simp [Fam.key, Fam.rel, hd]
    refine rd_schedMark_outside s skip hi (Or.inl (by omega)) fun e => ?_
    have hev : R.TIME_EVENTS_SCHED_LATE.key [] = 0x41001C * 8 + 7 := rfl
    omega
  unfold State.haulBusy
  rw [Bool.eq_iff_iff, List.any_eq_true, List.any_eq_true]
  refine exists_congr fun c => and_congr_right fun hc => ?_
  have hc' := List.mem_range.1 hc
  simp only [State.chan, State.chanPosted, hhaul, hidx R.HAUL_COMP_INDEX rfl (by decide) c hc',
    hidx R.HAUL_TAIL_INDEX rfl (by decide) c hc']

/-! ### The statement -/

theorem schedSkip_of_free {s : State} (act : Nat) (hst : s.pstate < 2) (hgrant : s.power.granted.contains 1 = false) :
    s.schedSkip act = false := by
  have hst' : s.rd R.POWER_STATUS_STATE < 2 := hst
  simp only [State.schedSkip, State.schedSkips, hgrant, Bool.or_false]
  rw [decide_eq_false (by omega)]
  rfl

theorem schedSkip_of_held {s : State} {act : Nat} (h : 2 ≤ s.pstate ∨ s.power.granted.contains 1 = true) (h1 : act ≠ 1)
    (h4 : act ≠ 4) : s.schedSkip act = true := by
  have hskips : s.schedSkips = true := by
    simp only [State.schedSkips, Bool.or_eq_true, decide_eq_true_eq]
    exact h
  simp [State.schedSkip, hskips, h1, h4]

/-- An entry that acts: what its action makes of the state after its bookkeeping. -/
theorem schedAct_acts {s : State} {i act : Nat} (run : State → Nat → State) (hi : i < 64) (hup : s.power.lanternUp = true)
    (hdue : s.schedDue i = true) (hlow : ∀ j, j < i → s.schedDue j = false) (hact : s.rd R.TIME_SCHED_ACTION [i] = act)
    (hskip : s.schedSkip act = false) :
    s.schedAct i act run = run (s.schedMark i false).dozeExit (s.rd R.TIME_SCHED_ARG [i]) := by
  rw [schedAct_of_due run hi hup hdue hlow hact, hskip]
  rfl

/-- An entry that is skipped: its bookkeeping is all. -/
theorem schedAct_skipped {s : State} {i act : Nat} (run : State → Nat → State) (hi : i < 64) (hup : s.power.lanternUp = true)
    (hdue : s.schedDue i = true) (hlow : ∀ j, j < i → s.schedDue j = false) (hact : s.rd R.TIME_SCHED_ACTION [i] = act)
    (hskip : s.schedSkip act = true) : s.schedAct i act run = s.schedMark i true := by
  rw [schedAct_of_due run hi hup hdue hlow hact, hskip]
  rfl

theorem pstate_schedMark (s : State) {i : Nat} (skip : Bool) (hi : i < 64) :
    (s.schedMark i skip).rd R.POWER_STATUS_STATE = s.rd R.POWER_STATUS_STATE :=
  rd_schedMark_outside s skip hi (by decide) (by decide)

/-- Settles O6: each action works on the state after the entry's bookkeeping, which leaves what the action reads. -/
theorem scheduleActs : Obligations.ScheduleActs := by
  refine ⟨?acts, ?skipped⟩
  case acts =>
    intro s i hi hup hdue hlow act arg free
    obtain ⟨hpower, hthermal, -⟩ := schedMark_power s i false
    have hst := pstate_schedMark s false hi
    have hleads : ∀ {c : Instr} {a : Nat} {run : State → Nat → State} {P : State → Prop},
        exec c s = .next (s.schedAct i a run) → act = a → s.schedSkip a = false →
        P (run (s.schedMark i false).dozeExit arg) → Leads c s P := fun {c a run P} hex ha hskip hP => leads_next hex (by
      rw [schedAct_acts run hi hup hdue hlow ha hskip]
      exact hP)
    refine ⟨fun ha hfree => ?none, fun ha hember hseq htrip hen => ?wake, fun ha harg hfree hactive hseq hshift hbusy => ?enter,
      fun ha harg hfree => ?cap, fun ha hlive hlow' => ?event, fun ha hfree => ?pause, fun ha hfree => ?resume⟩
    case none =>
      refine hleads rfl ha (schedSkip_of_free 0 hfree.1 hfree.2) ⟨?_, fun hper => ?_⟩
      · exact ((rackKept_dozeExit _).rd rfl (timeKey_entry rfl (by decide) (by decide) (by decide) hi)).trans
          (rd_schedMark_fired s i)
      · exact ((rackKept_dozeExit _).rd rfl (timeKey_entry rfl (by decide) (by decide) (by decide) hi)).trans
          (rd_schedMark_arm false hper)
    case wake =>
      refine hleads rfl ha (by simp [State.schedSkip]) ?_
      have hm : (s.schedMark i false).pstate = 3 := hst.trans hember
      rw [dozeExit_of_ne (by omega)]
      refine wakeBy_schedule hm (by rw [hpower]; exact hseq) (by rw [hthermal]; exact htrip) ?_
      rw [rd_schedMark_outside s false hi (by decide) (by decide)]
      exact hen
    case enter =>
      refine hleads rfl ha (schedSkip_of_free 2 hfree.1 hfree.2) ?_
      have hm : (s.schedMark i false).pstate = 0 := hst.trans hactive
      rw [dozeExit_of_ne (by omega), harg]
      refine requestState_doze 3 hm (by rw [hpower]; exact hseq) ?_ ((haulBusy_schedMark s false hi).trans hbusy)
      rw [State.shiftState, rd_schedMark_outside s false hi (by decide) (by decide)]
      exact hshift
    case cap => exact hleads rfl ha (schedSkip_of_free 3 hfree.1 hfree.2) (rd_setCap _ harg)
    case event =>
      refine hleads rfl ha (by simp [State.schedSkip]) (rd_schedEvent ?_ _ _ _ _)
      rw [State.live, dozeExit_power, hpower]
      exact hlive
    case pause => exact hleads rfl ha (schedSkip_of_free 5 hfree.1 hfree.2) (rd_set_same _ _ _ (by decide))
    case resume => exact hleads rfl ha (schedSkip_of_free 6 hfree.1 hfree.2) (rd_clr_same _ _ _)
  case skipped =>
    intro s i hi hup hdue hlow hheld P
    have hP : P (s.schedMark i true) := by
      obtain ⟨hskipped, hfired⟩ := rd_schedMark_skipped s i
      exact ⟨hskipped, hfired, pstate_schedMark s true hi⟩
    have hact : ∀ {a : Nat} (run : State → Nat → State), a ≠ 1 → a ≠ 4 → s.rd R.TIME_SCHED_ACTION [i] = a →
        P (s.schedAct i a run) := fun run h1 h4 ha => by
      rw [schedAct_skipped run hi hup hdue hlow ha (schedSkip_of_held hheld h1 h4)]
      exact hP
    refine ⟨fun ha => leads_next rfl ?_, fun ha => leads_next rfl ?_, fun ha => leads_next rfl ?_,
      fun ha => leads_next rfl ?_, fun ha => leads_next rfl ?_⟩
    all_goals exact hact _ (by decide) (by decide) ha

end Sys2Proof.Machine
end

section
/-! SUPPORT. The field of R51: its product distributes, commutes and has inverses. -/
namespace Sys2Proof.Machine

theorem byte_xor_left_comm (a b c : Byte) : a ^^^ (b ^^^ c) = b ^^^ (a ^^^ c) := by
  rw [← BitVec.xor_assoc, BitVec.xor_comm a b, BitVec.xor_assoc]

theorem byte_xor_cancel_left (a b : Byte) : a ^^^ (a ^^^ b) = b := by
  rw [← BitVec.xor_assoc, BitVec.xor_self, BitVec.zero_xor]

theorem gfDouble_xor (a b : Byte) : gfDouble (a ^^^ b) = gfDouble a ^^^ gfDouble b := by
  unfold gfDouble
  rw [BitVec.msb_xor, BitVec.shiftLeft_xor_distrib]
  cases a.msb <;> cases b.msb <;> simp [BitVec.xor_assoc, byte_xor_left_comm, BitVec.xor_comm]

@[simp] theorem gfDouble_zero : gfDouble 0#8 = 0#8 := rfl

theorem gfMulGo_xor_left (n : Nat) (a b : Byte) (c : Nat) : gfMulGo n (a ^^^ b) c = gfMulGo n a c ^^^ gfMulGo n b c := by
  induction n generalizing a b c with
  | zero => simp [gfMulGo]
  | succ n ih =>
    simp only [gfMulGo, gfDouble_xor, ih]
    split_ifs <;> simp [BitVec.xor_assoc, byte_xor_left_comm]

theorem xor_mod_two (b c : Nat) : (b ^^^ c) % 2 = b % 2 ^^^ c % 2 := Nat.xor_mod_two_pow (n := 1)

theorem gfMulGo_xor_right (n : Nat) (a : Byte) (b c : Nat) : gfMulGo n a (b ^^^ c) = gfMulGo n a b ^^^ gfMulGo n a c := by
  induction n generalizing a b c with
  | zero => simp [gfMulGo]
  | succ n ih =>
    simp only [gfMulGo, ← Nat.shiftRight_one, Nat.shiftRight_xor_distrib, ih, xor_mod_two]
    rcases Nat.mod_two_eq_zero_or_one b with h | h <;> rcases Nat.mod_two_eq_zero_or_one c with k | k <;>
      simp [h, k, BitVec.xor_assoc, byte_xor_left_comm]

theorem gfMulGo_zero (n c : Nat) : gfMulGo n 0#8 c = 0#8 := by
  induction n generalizing c with
  | zero => rfl
  | succ n ih => simp [gfMulGo, ih]

theorem gfMul_zero_left (b : Byte) : gfMul 0#8 b = 0#8 := gfMulGo_zero 8 b.toNat

theorem gfMul_xor_left (a b c : Byte) : gfMul (a ^^^ b) c = gfMul a c ^^^ gfMul b c := gfMulGo_xor_left 8 a b c.toNat

theorem gfMul_xor_right (a b c : Byte) : gfMul a (b ^^^ c) = gfMul a b ^^^ gfMul a c := by
  rw [gfMul, BitVec.toNat_xor, gfMulGo_xor_right]; rfl

theorem gfMulGo_double (n : Nat) (a : Byte) (c : Nat) : gfMulGo n (gfDouble a) c = gfDouble (gfMulGo n a c) := by
  induction n generalizing a c with
  | zero => simp [gfMulGo]
  | succ n ih =>
    simp only [gfMulGo, gfDouble_xor, ih]
    split_ifs <;> simp [gfDouble_zero]

theorem gfMul_double_left (a b : Byte) : gfMul (gfDouble a) b = gfDouble (gfMul a b) := gfMulGo_double 8 a b.toNat

theorem gfOne_mul : ∀ a : Byte, gfMul 1#8 a = a := by decide +kernel

/-- The chain of products that forms `a ^ 254` gives the inverse. -/
theorem gfInv_mul : ∀ a : Byte, a ≠ 0#8 → gfMul a (gfInv a) = 1#8 := by decide +kernel

/-- `0xF4` is the inverse of `1 + α`, which R54 multiplies by. -/
theorem gfDouble_mul_F4 : ∀ x : Byte, gfDouble (gfMul x 0xF4#8) ^^^ gfMul x 0xF4#8 = x := by decide +kernel


/-- Multiplication by `c` commutes with doubling and sums, so with every product. -/
theorem gfMul_right_comm (a b c : Byte) : gfMul (gfMul a c) b = gfMul (gfMul a b) c := by
  have hgo : ∀ n a k, gfMulGo n (gfMul a c) k = gfMul (gfMulGo n a k) c := fun n => by
    induction n with
    | zero => intro a k; simp [gfMulGo, gfMul]
    | succ n ih =>
      intro a k
      simp only [gfMulGo, gfMul_xor_left, ← gfMul_double_left, ih]
      split_ifs <;> simp [gfMul_zero_left]
  exact hgo 8 a b.toNat

theorem gfMul_comm (a b : Byte) : gfMul a b = gfMul b a := by
  have h := gfMul_right_comm 1#8 b a
  rwa [gfOne_mul, gfOne_mul] at h

theorem gfMul_inv_cancel {a : Byte} (h : a ≠ 0#8) (x : Byte) : gfMul (gfMul a x) (gfInv a) = x := by
  rw [gfMul_right_comm, gfInv_mul a h, gfOne_mul]

theorem gfAlpha_ne {a b : Nat} (h : a < b) (hb : b < 18) : gfAlpha a ^^^ gfAlpha b ≠ 0#8 := by
  have hall : ∀ b, b < 18 → ∀ a, a < b → gfAlpha a ^^^ gfAlpha b ≠ 0#8 := by decide
  exact hall b hb a h

end Sys2Proof.Machine
end

section
/-! PROOFS. Columns and their sums, the check symbols of R54, and the address check of R57. -/
namespace Sys2Proof.Machine

theorem length_xorCols {a b : List Byte} (ha : a.length = 128) (hb : b.length = 128) : (xorCols a b).length = 128 := by
  simp [xorCols, ha, hb]

theorem getD_xorCols {a b : List Byte} (h : a.length = b.length) (j : Nat) :
    (xorCols a b).getD j 0#8 = a.getD j 0#8 ^^^ b.getD j 0#8 := by
  simp only [xorCols, List.getD_eq_getElem?_getD, List.getElem?_zipWith]
  rcases lt_or_ge j a.length with hj | hj
  · simp [hj, h ▸ hj]
  · simp [hj, h ▸ hj]

theorem getD_zeroCols (j : Nat) : zeroCols.getD j 0#8 = 0#8 := by
  simp only [zeroCols, List.getD_eq_getElem?_getD, List.getElem?_replicate]
  split_ifs <;> rfl

theorem xorCols_comm (a b : List Byte) : xorCols a b = xorCols b a := List.zipWith_comm_of_comm BitVec.xor_comm

theorem xorCols_assoc (a b c : List Byte) : xorCols (xorCols a b) c = xorCols a (xorCols b c) := by
  unfold xorCols
  induction a generalizing b c with
  | nil => simp
  | cons x a ih => cases b <;> cases c <;> simp [ih, BitVec.xor_assoc]

theorem sumCols_cons (p : List Byte) (ps : List (List Byte)) : sumCols (p :: ps) = xorCols p (sumCols ps) := by
  have : Std.Commutative xorCols := ⟨xorCols_comm⟩
  have : Std.Associative xorCols := ⟨xorCols_assoc⟩
  simp only [sumCols, List.foldl_eq_foldr, List.foldr_cons]

theorem wsumCols_cons (p : List Byte) (ps : List (List Byte)) :
    wsumCols (p :: ps) = xorCols p ((wsumCols ps).map gfDouble) := rfl

theorem length_sumCols {ps : List (List Byte)} (h : ∀ p ∈ ps, p.length = 128) : (sumCols ps).length = 128 := by
  induction ps with
  | nil => rfl
  | cons p ps ih =>
    rw [List.forall_mem_cons] at h
    rw [sumCols_cons]
    exact length_xorCols h.1 (ih h.2)

theorem length_wsumCols {ps : List (List Byte)} (h : ∀ p ∈ ps, p.length = 128) : (wsumCols ps).length = 128 := by
  induction ps with
  | nil => rfl
  | cons p ps ih =>
    rw [List.forall_mem_cons] at h
    rw [wsumCols_cons]
    exact length_xorCols h.1 ((List.length_map _).trans (ih h.2))

/-- The sum of a column's bytes. -/
def byteSum (l : List Byte) : Byte := l.foldr (· ^^^ ·) 0#8

/-- The sum of a column's bytes weighted by the powers of α. -/
def byteWsum (l : List Byte) : Byte := l.foldr (fun x acc => x ^^^ gfDouble acc) 0#8

/-- Byte `j` of every portion. -/
def bytesAt (ps : List (List Byte)) (j : Nat) : List Byte := ps.map (·.getD j 0#8)

theorem getD_map_zero {g : Byte → Byte} (hg : g 0#8 = 0#8) (l : List Byte) (j : Nat) :
    (l.map g).getD j 0#8 = g (l.getD j 0#8) := by
  rw [← List.getD_map l (f := g) (d := 0#8), hg]

theorem getD_sumCols {ps : List (List Byte)} (h : ∀ p ∈ ps, p.length = 128) (j : Nat) :
    (sumCols ps).getD j 0#8 = byteSum (bytesAt ps j) := by
  induction ps with
  | nil => exact getD_zeroCols j
  | cons p ps ih =>
    rw [List.forall_mem_cons] at h
    rw [sumCols_cons, getD_xorCols (h.1.trans (length_sumCols h.2).symm), ih h.2]
    rfl

theorem getD_wsumCols {ps : List (List Byte)} (h : ∀ p ∈ ps, p.length = 128) (j : Nat) :
    (wsumCols ps).getD j 0#8 = byteWsum (bytesAt ps j) := by
  induction ps with
  | nil => exact getD_zeroCols j
  | cons p ps ih =>
    rw [List.forall_mem_cons] at h
    rw [wsumCols_cons, getD_xorCols (h.1.trans ((List.length_map _).trans (length_wsumCols h.2)).symm),
      getD_map_zero gfDouble_zero, ih h.2]
    rfl

/-- Columns of 128 bytes are equal byte by byte. -/
theorem cols_ext {a b : List Byte} (ha : a.length = 128) (hb : b.length = 128)
    (h : ∀ j, j < 128 → a.getD j 0#8 = b.getD j 0#8) : a = b := by
  refine List.ext_getElem (ha.trans hb.symm) fun j h1 h2 => ?_
  have := h j (ha ▸ h1)
  rwa [List.getD_eq_getElem _ _ h1, List.getD_eq_getElem _ _ h2] at this

/-! ### The check symbols (R54) -/
theorem length_checkCols {ds : List (List Byte)} (h : ∀ d ∈ ds, d.length = 128) :
    (checkCols ds).1.length = 128 ∧ (checkCols ds).2.length = 128 := by
  simp [checkCols, xorCols, length_sumCols h, length_wsumCols h]

/-- R54, byte by byte: `Q` is `(A + B)` over `1 + α`, and `P` is `B + Q`. -/
theorem getD_checkCols {ds : List (List Byte)} (h : ∀ d ∈ ds, d.length = 128) (j : Nat) :
    (checkCols ds).2.getD j 0#8 =
        gfMul (gfDouble (gfDouble (byteWsum (bytesAt ds j))) ^^^ byteSum (bytesAt ds j)) 0xF4#8 ∧
      (checkCols ds).1.getD j 0#8 = byteSum (bytesAt ds j) ^^^ (checkCols ds).2.getD j 0#8 := by
  have hs := length_sumCols h
  have hw := length_wsumCols h
  constructor
  · simp only [checkCols]
    rw [getD_map_zero (by decide), getD_xorCols (by simp [hs, hw]), getD_map_zero (by decide), getD_sumCols h, getD_wsumCols h]
  · simp only [checkCols]
    rw [getD_xorCols (by simp [xorCols, hs, hw]), getD_sumCols h]

theorem bytesAt_cons (p : List Byte) (ds : List (List Byte)) (j : Nat) :
    bytesAt (p :: ds) j = p.getD j 0#8 :: bytesAt ds j := rfl

/-- R52: the columns of a slab in the order of their positions. -/
def codeWord (ds : List (List Byte)) : List (List Byte) := (checkCols ds).1 :: (checkCols ds).2 :: ds

theorem length_of_mem_codeWord {ds : List (List Byte)} (h : ∀ d ∈ ds, d.length = 128) : ∀ p ∈ codeWord ds, p.length = 128 := by
  obtain ⟨hp, hq⟩ := length_checkCols h
  simpa [codeWord, hp, hq] using h

theorem byteSum_codeWord {ds : List (List Byte)} (h : ∀ d ∈ ds, d.length = 128) (j : Nat) :
    byteSum (bytesAt (codeWord ds) j) = 0#8 := by
  obtain ⟨-, hp⟩ := getD_checkCols h j
  change (checkCols ds).1.getD j 0#8 ^^^ ((checkCols ds).2.getD j 0#8 ^^^ byteSum (bytesAt ds j)) = 0#8
  rw [hp, BitVec.xor_assoc, byte_xor_cancel_left, BitVec.xor_self]

theorem byteWsum_codeWord {ds : List (List Byte)} (h : ∀ d ∈ ds, d.length = 128) (j : Nat) :
    byteWsum (bytesAt (codeWord ds) j) = 0#8 := by
  obtain ⟨hq, hp⟩ := getD_checkCols h j
  change (checkCols ds).1.getD j 0#8 ^^^ gfDouble ((checkCols ds).2.getD j 0#8 ^^^ gfDouble (byteWsum (bytesAt ds j))) = 0#8
  rw [hp, gfDouble_xor]
  have hx := gfDouble_mul_F4 (gfDouble (gfDouble (byteWsum (bytesAt ds j))) ^^^ byteSum (bytesAt ds j))
  rw [← hq] at hx
  calc
    _ = (gfDouble ((checkCols ds).2.getD j 0#8) ^^^ (checkCols ds).2.getD j 0#8) ^^^
        (gfDouble (gfDouble (byteWsum (bytesAt ds j))) ^^^ byteSum (bytesAt ds j)) := by ac_rfl
    _ = 0#8 := by rw [hx, BitVec.xor_self]

theorem sumCols_codeWord {ds : List (List Byte)} (h : ∀ d ∈ ds, d.length = 128) : sumCols (codeWord ds) = zeroCols := by
  have hc := length_of_mem_codeWord h
  refine cols_ext (length_sumCols hc) rfl fun j _ => ?_
  rw [getD_sumCols hc, byteSum_codeWord h, getD_zeroCols]

theorem wsumCols_codeWord {ds : List (List Byte)} (h : ∀ d ∈ ds, d.length = 128) : wsumCols (codeWord ds) = zeroCols := by
  have hc := length_of_mem_codeWord h
  refine cols_ext (length_wsumCols hc) rfl fun j _ => ?_
  rw [getD_wsumCols hc, byteWsum_codeWord h, getD_zeroCols]

/-- Settles O25: every column of the word is `P`, `Q` and the data, and `Q` is `A + B` over `1 + α`. -/
theorem encodedSlabsAreCodewords : Obligations.EncodedSlabsAreCodewords := by
  intro ds h
  have ha : ∀ j, (wsumCols (zeroCols :: zeroCols :: ds)).getD j 0#8 = gfDouble (gfDouble (byteWsum (bytesAt ds j))) := fun j => by
    have hz : ∀ p ∈ zeroCols :: zeroCols :: ds, p.length = 128 := by simpa [zeroCols] using h
    rw [getD_wsumCols hz, bytesAt_cons, bytesAt_cons, getD_zeroCols]
    simp [byteWsum]
  refine ⟨sumCols_codeWord h, wsumCols_codeWord h, fun j _ => ?_, fun j _ => ?_⟩
  · rw [ha, getD_sumCols h]
    exact (getD_checkCols h j).1
  · rw [getD_sumCols h]
    exact (getD_checkCols h j).2

/-- The multiplier of R57 is odd, so keys below 2^32 with one product are one key. -/
theorem key_eq_of_achk {k k' : Nat} (hk : k < 2 ^ 32) (hk' : k' < 2 ^ 32)
    (h : k * 0x9E3779B1 % 2 ^ 32 = k' * 0x9E3779B1 % 2 ^ 32) : k = k' := by
  have hmod : k ≡ k' [MOD 2 ^ 32] := Nat.ModEq.cancel_right_of_coprime (by norm_num) h
  rwa [Nat.ModEq, Nat.mod_eq_of_lt hk, Nat.mod_eq_of_lt hk'] at hmod

/-- Settles O26: the product with an odd number tells the keys apart, and a key tells its layer and slab. -/
theorem achkTellsPlacesApart : Obligations.AchkTellsPlacesApart := by
  intro layer slab layer' slab' hl hs hl' hs'
  refine ⟨rfl, fun h => ?_⟩
  have hkey := key_eq_of_achk (by omega) (by omega) h
  omega

end Sys2Proof.Machine
end

section
/-! SUPPORT. What a portion carries (R55 to R57), its class and its generation (R61, R62). -/
namespace Sys2Proof.Machine

/-! ### Side data -/

theorem length_leBytes (n v : Nat) : (leBytes n v).length = n := by
  induction n generalizing v with
  | zero => rfl
  | succ n ih => simp [leBytes, ih]

theorem leNat_leBytes (n v : Nat) : leNat (leBytes n v) = v % 256 ^ n := by
  induction n generalizing v with
  | zero => simp [leBytes, leNat, Nat.mod_one]
  | succ n ih =>
    rw [leBytes, leNat, ih, BitVec.toNat_ofNat, show v % 256 ^ (n + 1) = _ from (pow_succ' 256 n) ▸ Nat.mod_mul]

theorem crcReflBits_lt {w poly : Nat} (hp : poly < 2 ^ w) (n : Nat) {c : Nat} (hc : c < 2 ^ w) : crcReflBits poly n c < 2 ^ w := by
  induction n generalizing c with
  | zero => exact hc
  | succ n ih =>
    have hhalf : c / 2 < 2 ^ w := (Nat.div_le_self c 2).trans_lt hc
    rw [crcReflBits]
    split_ifs
    · exact ih (Nat.xor_lt_two_pow hhalf hp)
    · exact ih hhalf

theorem crc32c_lt (bs : List Byte) : crc32c bs < 2 ^ 32 := by
  refine Nat.xor_lt_two_pow (foldl_inv (· < 2 ^ 32) _ (fun c b hc => ?_) bs (by norm_num)) (by norm_num)
  exact crcReflBits_lt (by norm_num) 8 (Nat.xor_lt_two_pow hc (b.isLt.trans (by norm_num)))

theorem slice_append {a b c : List Byte} {off n : Nat} (ha : a.length = off) (hb : b.length = n) :
    slice (a ++ (b ++ c)) off n = b := by
  rw [slice, List.drop_left' ha, List.take_left' hb]

section
variable (layer slab pos : Nat) (data : List Byte) (poison gen flags : Nat)

/-- What the CRC of a portion covers beside its data (R56). -/
def sideData (layer slab pos poison gen flags : Nat) : List Byte :=
  leBytes 4 poison ++ leBytes 3 gen ++ leBytes 1 (roleFlags pos ||| flags) ++ leBytes 4 (achk layer slab)

theorem portion_eq : portion layer slab pos data poison gen flags =
    data ++ (leBytes 4 (crc32c (data ++ sideData layer slab pos poison gen flags)) ++ sideData layer slab pos poison gen flags) :=
  List.append_assoc _ _ _

variable {data} (h : data.length = 128)
include h

theorem take_portion : (portion layer slab pos data poison gen flags).take 128 = data := by
  rw [portion_eq, List.take_left' h]

theorem sideCrc_portion : sideCrc (portion layer slab pos data poison gen flags) =
    crc32c (data ++ sideData layer slab pos poison gen flags) := by
  rw [sideCrc, portion_eq, slice_append h (length_leBytes _ _), leNat_leBytes]
  exact Nat.mod_eq_of_lt (crc32c_lt _)

theorem drop_portion : (portion layer slab pos data poison gen flags).drop 132 = sideData layer slab pos poison gen flags := by
  rw [portion_eq, ← List.append_assoc, List.drop_left' (by simp [h, length_leBytes])]

theorem slice_portion (k n : Nat) : slice (portion layer slab pos data poison gen flags) (132 + k) n =
    slice (sideData layer slab pos poison gen flags) k n := by
  rw [slice, ← List.drop_drop, drop_portion layer slab pos poison gen flags h, slice]

theorem sidePoison_portion : sidePoison (portion layer slab pos data poison gen flags) = poison % 2 ^ 32 := by
  rw [sidePoison, slice_portion layer slab pos poison gen flags h 0 4, sideData]
  simp only [List.append_assoc]
  rw [slice, List.drop_zero, List.take_left' (length_leBytes _ _), leNat_leBytes]
  rfl

theorem sideGen_portion : sideGen (portion layer slab pos data poison gen flags) = gen % 2 ^ 24 := by
  rw [sideGen, slice_portion layer slab pos poison gen flags h 4 3, sideData, List.append_assoc, List.append_assoc,
    slice_append (length_leBytes _ _) (length_leBytes _ _), leNat_leBytes]
  rfl

theorem sideFlags_portion : sideFlags (portion layer slab pos data poison gen flags) = (roleFlags pos ||| flags) % 2 ^ 8 := by
  rw [sideFlags, slice_portion layer slab pos poison gen flags h 7 1, sideData, List.append_assoc,
    slice_append (by simp [length_leBytes]) (length_leBytes _ _), leNat_leBytes]
  rfl

theorem sideAchk_portion : sideAchk (portion layer slab pos data poison gen flags) = achk layer slab := by
  rw [sideAchk, slice_portion layer slab pos poison gen flags h 8 4, sideData, ← List.append_nil (leBytes 4 (achk _ _)),
    slice_append (by simp [length_leBytes]) (length_leBytes _ _), leNat_leBytes]
  exact Nat.mod_mod _ _

end

/-- Table 03.4: a portion as it was written, without flags beside its role's, is good where it was written. -/
theorem classify_portion (nb layer slab : Nat) {data : List Byte} (poison gen : Nat) (h : data.length = 128) :
    classify nb layer slab false (some (portion layer slab (codePos nb slab layer) data poison gen 0)) = .good := by
  have hrole : ∀ pos, roleFlags pos < 4 := fun pos => by
    unfold roleFlags
    split_ifs <;> decide
  simp [classify, take_portion, drop_portion, sideCrc_portion, sideAchk_portion, sideFlags_portion, h, hrole]

/-! ### Generations (R62) -/
theorem mem_of_mem_tally {gs : List Nat} {p : Nat × Nat} (h : p ∈ tally gs) : p.1 ∈ gs := by
  induction gs with
  | nil => simp [tally] at h
  | cons g gs ih =>
    rcases List.mem_cons.1 h with rfl | h
    · exact List.mem_cons_self
    · exact List.mem_cons_of_mem _ (ih (List.mem_of_mem_filter h))

/-- R62: portions of one generation have it for their majority, without a tie. -/
theorem majority_eq {gs : List Nat} {g : Nat} (hne : gs ≠ []) (h : ∀ x ∈ gs, x = g) : majority gs = (some g, false) := by
  obtain ⟨x, xs, rfl⟩ := List.exists_cons_of_ne_nil hne
  rw [List.forall_mem_cons] at h
  obtain ⟨rfl, hxs⟩ := h
  have hrest : (tally xs).filter (fun p => decide (p.1 ≠ x)) = [] := by
    refine List.filter_eq_nil_iff.2 fun p hp => ?_
    simp [hxs _ (mem_of_mem_tally hp)]
  simp only [majority, tally, hrest]
  simp

end Sys2Proof.Machine
end

section
/-! SUPPORT. A code word with columns erased, and what its sums give back (R61). -/
namespace Sys2Proof.Machine

theorem byteSum_set (l : List Byte) {a : Nat} (h : a < l.length) : byteSum (l.set a 0#8) = byteSum l ^^^ l.getD a 0#8 := by
  induction l generalizing a with
  | nil => simp at h
  | cons x l ih =>
    cases a with
    | zero =>
      change 0#8 ^^^ byteSum l = x ^^^ byteSum l ^^^ x
      rw [BitVec.zero_xor, BitVec.xor_comm x, BitVec.xor_assoc, BitVec.xor_self, BitVec.xor_zero]
    | succ a =>
      change x ^^^ byteSum (l.set a 0#8) = x ^^^ byteSum l ^^^ l.getD a 0#8
      rw [ih (Nat.lt_of_succ_lt_succ h), BitVec.xor_assoc]

theorem byteWsum_set (l : List Byte) {a : Nat} (h : a < l.length) :
    byteWsum (l.set a 0#8) = byteWsum l ^^^ gfMul (gfAlpha a) (l.getD a 0#8) := by
  induction l generalizing a with
  | nil => simp at h
  | cons x l ih =>
    cases a with
    | zero =>
      change 0#8 ^^^ gfDouble (byteWsum l) = x ^^^ gfDouble (byteWsum l) ^^^ gfMul 1#8 x
      rw [gfOne_mul, BitVec.zero_xor, BitVec.xor_comm x, BitVec.xor_assoc, BitVec.xor_self, BitVec.xor_zero]
    | succ a =>
      change x ^^^ gfDouble (byteWsum (l.set a 0#8)) = x ^^^ gfDouble (byteWsum l) ^^^ gfMul (gfDouble (gfAlpha a)) (l.getD a 0#8)
      rw [ih (Nat.lt_of_succ_lt_succ h), gfDouble_xor, gfMul_double_left, BitVec.xor_assoc]

/-! ### Layers and positions (Table 03.2) -/

section
variable {nb : Nat} (hnb : 0 < nb) (slab : Nat)
include hnb

theorem layerAt_lt {pos : Nat} : pos < 2 * nb → layerAt nb slab pos < 2 * nb := by
  intro h
  have := Nat.mod_lt slab hnb
  unfold layerAt checkBench
  dsimp only
  split_ifs <;> omega

theorem codePos_layerAt {pos : Nat} : pos < 2 * nb → codePos nb slab (layerAt nb slab pos) = pos := by
  intro h
  have := Nat.mod_lt slab hnb
  unfold layerAt codePos checkBench
  dsimp only
  split_ifs <;> omega

end

theorem setAt_eq_set {α : Type} (l : List α) (i : Nat) (v : α) : setAt l i v = l.set i v := by
  induction l generalizing i with
  | nil => rfl
  | cons x l ih => cases i <;> simp [setAt, ih]

theorem bytesAt_set (ps : List (List Byte)) (a j : Nat) :
    bytesAt (ps.set a zeroCols) j = (bytesAt ps j).set a 0#8 := by
  rw [bytesAt, List.map_set, getD_zeroCols]
  rfl

theorem getD_bytesAt (ps : List (List Byte)) (a j : Nat) : (bytesAt ps j).getD a 0#8 = (ps.getD a zeroCols).getD j 0#8 := by
  have hz := getD_zeroCols j
  simp only [bytesAt, List.getD_eq_getElem?_getD, List.getElem?_map] at hz ⊢
  cases ps[a]? with
  | none => exact hz.symm
  | some p => rfl

theorem mapIdx_map_range {α β : Type} (f : Nat → α) (g : Nat → α → β) (n : Nat) :
    ((List.range n).map f).mapIdx g = (List.range n).map fun i => g i (f i) := by
  apply List.ext_getElem <;> simp

theorem getD_map_range {α : Type} (f : Nat → α) {n i : Nat} (h : i < n) (d : α) : ((List.range n).map f).getD i d = f i := by
  simp [h]

theorem perm_layerAt {nb : Nat} (hnb : 0 < nb) (slab : Nat) :
    ((List.range (2 * nb)).map (layerAt nb slab)).Perm (List.range (2 * nb)) := by
  have hnodup : ((List.range (2 * nb)).map (layerAt nb slab)).Nodup := by
    refine List.Nodup.map_on (fun a ha b hb hab => ?_) List.nodup_range
    rw [← codePos_layerAt hnb slab (List.mem_range.1 ha), hab, codePos_layerAt hnb slab (List.mem_range.1 hb)]
  refine (List.subperm_of_subset hnodup fun l hl => ?_).perm_of_length_le (by simp)
  obtain ⟨pos, hpos, rfl⟩ := List.mem_map.1 hl
  exact List.mem_range.2 (layerAt_lt hnb slab (List.mem_range.1 hpos))

/-- As many positions are lost as layers. -/
theorem length_filter_layerAt {nb : Nat} (hnb : 0 < nb) (slab : Nat) (lost : Nat → Bool) :
    ((List.range (2 * nb)).filter fun pos => lost (layerAt nb slab pos)).length =
      ((List.range (2 * nb)).filter lost).length := by
  rw [← (perm_layerAt hnb slab).filter lost |>.length_eq, List.filter_map, List.length_map]
  rfl

theorem length_of_mem_set {word : List (List Byte)} (h : ∀ p ∈ word, p.length = 128) (a : Nat) :
    ∀ p ∈ word.set a zeroCols, p.length = 128 := fun p hp => by
  rcases List.mem_or_eq_of_mem_set hp with hp | rfl
  · exact h p hp
  · rfl

/-- A word whose columns have 128 bytes and sum to zero, plain and weighted (R52). -/
structure IsWord (word : List (List Byte)) : Prop where
  cols : ∀ p ∈ word, p.length = 128
  sum : sumCols word = zeroCols
  wsum : wsumCols word = zeroCols

section
variable {word : List (List Byte)} (hw : IsWord word)
include hw

theorem IsWord.length_getD (a : Nat) : (word.getD a zeroCols).length = 128 := by
  rw [List.getD_eq_getElem?_getD]
  cases h : word[a]? with
  | none => rfl
  | some p => exact hw.cols p (List.mem_of_getElem? h)

theorem IsWord.byteSum (j : Nat) : byteSum (bytesAt word j) = 0#8 := by
  rw [← getD_sumCols hw.cols, hw.sum, getD_zeroCols]

theorem IsWord.byteWsum (j : Nat) : byteWsum (bytesAt word j) = 0#8 := by
  rw [← getD_wsumCols hw.cols, hw.wsum, getD_zeroCols]

/-- One column erased: its place in the plain sum is its value. -/
theorem IsWord.sum_set {a : Nat} (ha : a < word.length) : sumCols (word.set a zeroCols) = word.getD a zeroCols := by
  have hc := length_of_mem_set hw.cols a
  refine cols_ext (length_sumCols hc) (hw.length_getD a) fun j _ => ?_
  rw [getD_sumCols hc, bytesAt_set, byteSum_set _ (by simpa [bytesAt] using ha), hw.byteSum, BitVec.zero_xor, getD_bytesAt]

theorem IsWord.getD_wsum_set {a : Nat} (ha : a < word.length) (j : Nat) :
    (wsumCols (word.set a zeroCols)).getD j 0#8 = gfMul (gfAlpha a) ((word.getD a zeroCols).getD j 0#8) := by
  rw [getD_wsumCols (length_of_mem_set hw.cols a), bytesAt_set, byteWsum_set _ (by simpa [bytesAt] using ha), hw.byteWsum,
    BitVec.zero_xor, getD_bytesAt]

/-- Two columns erased: the plain and the weighted sum of the rest. -/
theorem IsWord.getD_sums_set_set {a b : Nat} (hab : a < b) (hb : b < word.length) (j : Nat) :
    (sumCols ((word.set a zeroCols).set b zeroCols)).getD j 0#8 =
        (word.getD a zeroCols).getD j 0#8 ^^^ (word.getD b zeroCols).getD j 0#8 ∧
      (wsumCols ((word.set a zeroCols).set b zeroCols)).getD j 0#8 =
        gfMul (gfAlpha a) ((word.getD a zeroCols).getD j 0#8) ^^^ gfMul (gfAlpha b) ((word.getD b zeroCols).getD j 0#8) := by
  have hc := length_of_mem_set (length_of_mem_set hw.cols a) b
  have hlen : (bytesAt word j).length = word.length := List.length_map _
  have hset : ((bytesAt word j).set a 0#8).getD b 0#8 = (bytesAt word j).getD b 0#8 := by
    simp [List.getD_eq_getElem?_getD, List.getElem?_set_ne (Nat.ne_of_lt hab)]
  have hb' : b < ((bytesAt word j).set a 0#8).length := by simpa [hlen] using hb
  constructor
  · rw [getD_sumCols hc, bytesAt_set, bytesAt_set, byteSum_set _ hb', byteSum_set _ (by omega), hw.byteSum, BitVec.zero_xor, hset,
      getD_bytesAt, getD_bytesAt]
  · rw [getD_wsumCols hc, bytesAt_set, bytesAt_set, byteWsum_set _ hb', byteWsum_set _ (by omega), hw.byteWsum, BitVec.zero_xor,
      hset, getD_bytesAt, getD_bytesAt]

end

theorem getD_map_zip {a b : List Byte} {j : Nat} (ha : j < a.length) (hb : j < b.length) (f : Byte → Byte → Byte) :
    ((a.zip b).map fun (x, y) => f x y).getD j 0#8 = f (a.getD j 0#8) (b.getD j 0#8) := by
  rw [List.getD_eq_getElem _ _ (by simpa using ⟨ha, hb⟩), List.getD_eq_getElem _ _ ha, List.getD_eq_getElem _ _ hb]
  simp

/-- R61: one erased column is the plain sum of the rest, and the weighted sum agrees. -/
theorem IsWord.restore_one {word : List (List Byte)} (hw : IsWord word) {a : Nat} (ha : a < word.length) :
    (word.set a zeroCols).set a (sumCols (word.set a zeroCols)) = word ∧
      xorCols (wsumCols (word.set a zeroCols)) ((sumCols (word.set a zeroCols)).map fun x => gfMul x (gfAlpha a)) =
        zeroCols := by
  have hc := length_of_mem_set hw.cols a
  have hlen := hw.length_getD a
  rw [hw.sum_set ha]
  constructor
  · rw [List.set_set, List.getD_eq_getElem _ _ ha, List.set_getElem_self]
  · refine cols_ext (length_xorCols (length_wsumCols hc) ((List.length_map _).trans hlen)) rfl fun j _ => ?_
    rw [getD_xorCols ((length_wsumCols hc).trans ((List.length_map _).trans hlen).symm), hw.getD_wsum_set ha,
      getD_map_zero (g := fun x => gfMul x (gfAlpha a)) (gfMul_zero_left _), gfMul_comm, BitVec.xor_self, getD_zeroCols]

/-- R61: two erased columns solve the two sums of the rest. -/
theorem IsWord.restore_two {word : List (List Byte)} (hw : IsWord word) {a b : Nat} (hab : a < b) (hb : b < word.length)
    (hn : word.length ≤ 18) :
    let cols := (word.set a zeroCols).set b zeroCols
    let cb := ((sumCols cols).zip (wsumCols cols)).map fun (x, y) =>
      gfMul (y ^^^ gfMul (gfAlpha a) x) (gfInv (gfAlpha a ^^^ gfAlpha b))
    (cols.set b cb).set a (xorCols (sumCols cols) cb) = word := by
  intro cols cb
  have hc := length_of_mem_set (length_of_mem_set hw.cols a) b
  have hs : (sumCols cols).length = 128 := length_sumCols hc
  have hws : (wsumCols cols).length = 128 := length_wsumCols hc
  have hcbl : cb.length = 128 := by simp [cb, hs, hws]
  have hcb : cb = word.getD b zeroCols := by
    refine cols_ext hcbl (hw.length_getD b) fun j hj => ?_
    obtain ⟨h0, h1⟩ := hw.getD_sums_set_set hab hb j
    rw [getD_map_zip (hs ▸ hj) (hws ▸ hj) fun x y => gfMul (y ^^^ gfMul (gfAlpha a) x) (gfInv (gfAlpha a ^^^ gfAlpha b)), h0, h1,
      gfMul_xor_right, BitVec.xor_assoc, byte_xor_left_comm, byte_xor_cancel_left, BitVec.xor_comm, ← gfMul_xor_left,
      gfMul_inv_cancel (gfAlpha_ne hab (by omega))]
  have hca : xorCols (sumCols cols) cb = word.getD a zeroCols := by
    refine cols_ext (length_xorCols hs hcbl) (hw.length_getD a) fun j _ => ?_
    rw [getD_xorCols (hs.trans hcbl.symm), (hw.getD_sums_set_set hab hb j).1, hcb, BitVec.xor_assoc, BitVec.xor_self,
      BitVec.xor_zero]
  rw [hca, hcb, List.set_set, List.set_comm _ _ (Nat.ne_of_gt hab), List.set_set, List.getD_eq_getElem _ _ hb,
    List.getD_eq_getElem _ _ (hab.trans hb), List.set_getElem_self, List.set_getElem_self]

end Sys2Proof.Machine
end

section
/-! PROOFS. A slab decodes with any two of its portions missing (R60 to R63). -/
namespace Sys2Proof.Machine

/-- The portion of a code word with the column `col pos` at each position, on a layer. -/
def portionOf (nb slab gen : Nat) (col : Nat → List Byte) (layer : Nat) : List Byte :=
  portion layer slab (codePos nb slab layer) (col (codePos nb slab layer)) 0 gen 0

/-- The portions on their layers, but those of the layers that are `lost`. -/
def portionsLeft (nb slab gen : Nat) (col : Nat → List Byte) (lost : Nat → Bool) : List (Option (List Byte)) :=
  (List.range (2 * nb)).map fun layer => if lost layer then none else some (portionOf nb slab gen col layer)

/-- The class of each layer's portion. -/
def classesLeft (nb : Nat) (lost : Nat → Bool) : List PClass :=
  (List.range (2 * nb)).map fun layer => if lost layer then .missing else .good

section
variable {nb : Nat} (slab gen : Nat) {col : Nat → List Byte} (lost : Nat → Bool)

theorem zip_classes : (portionsLeft nb slab gen col lost).zip (classesLeft nb lost) =
    (List.range (2 * nb)).map fun layer =>
      (if lost layer then none else some (portionOf nb slab gen col layer), if lost layer then .missing else .good) :=
  List.zip_map'

variable (hcol : ∀ pos, (col pos).length = 128)
include hcol

theorem sideGen_portionOf (layer : Nat) : sideGen (portionOf nb slab gen col layer) = gen % 2 ^ 24 :=
  sideGen_portion _ _ _ _ _ _ (hcol _)

theorem mapIdx_classify :
    (portionsLeft nb slab gen col lost).mapIdx (fun layer p => classify nb layer slab (Nat.testBit 0 layer) p) =
      classesLeft nb lost := by
  rw [portionsLeft, mapIdx_map_range, classesLeft]
  refine List.map_congr_left fun layer _ => ?_
  rw [Nat.zero_testBit]
  split_ifs
  · rfl
  · exact classify_portion nb layer slab 0 gen (hcol _)

theorem majority_left (hleft : ∃ layer, layer < 2 * nb ∧ lost layer = false) :
    majority (((portionsLeft nb slab gen col lost).zip (classesLeft nb lost)).filterMap fun (p, c) =>
      if c = .good then p.map sideGen else none) = (some (gen % 2 ^ 24), false) := by
  rw [zip_classes, List.filterMap_map]
  have hgen : ∀ layer, ((fun (p, c) => if c = .good then Option.map sideGen p else none) ∘ fun layer =>
      (if lost layer then none else some (portionOf nb slab gen col layer), if lost layer then PClass.missing else .good)) layer =
      if lost layer then none else some (gen % 2 ^ 24) := fun layer => by
    cases hk : lost layer <;> simp [hk, sideGen_portionOf slab gen hcol]
  simp only [funext hgen]
  obtain ⟨l, hl, hlost⟩ := hleft
  refine majority_eq (List.ne_nil_of_mem (List.mem_filterMap.2 ⟨l, List.mem_range.2 hl, if_neg (by simp [hlost])⟩))
    fun x hx => ?_
  obtain ⟨layer, -, h⟩ := List.mem_filterMap.1 hx
  split_ifs at h
  exact (Option.some.inj h).symm

theorem classes_current : (((portionsLeft nb slab gen col lost).zip (classesLeft nb lost)).map fun (p, c) =>
      if c = PClass.good ∧ p.map sideGen ≠ some (gen % 2 ^ 24) then PClass.stale else c) = classesLeft nb lost := by
  rw [zip_classes, List.map_map, classesLeft]
  refine List.map_congr_left fun layer _ => ?_
  cases hk : lost layer <;> simp [hk, sideGen_portionOf slab gen hcol]

end

/-- What the decoder finds at each position of the word. -/
def wordLeft (nb slab gen : Nat) (col : Nat → List Byte) (lost : Nat → Bool) : List (Option (List Byte)) :=
  (List.range (2 * nb)).map fun pos =>
    if lost (layerAt nb slab pos) then none else some (portionOf nb slab gen col (layerAt nb slab pos))

section
variable {nb : Nat} (hnb : 0 < nb) (slab gen : Nat) (col : Nat → List Byte) (lost : Nat → Bool)

theorem getD_classesLeft {layer : Nat} (h : layer < 2 * nb) :
    (classesLeft nb lost).getD layer .missing = if lost layer then .missing else .good := getD_map_range _ h _

theorem stored_left (hcol : ∀ pos, (col pos).length = 128) :
    (wordLeft nb slab gen col lost).foldl (fun m p => m ||| (p.map sidePoison).getD 0) 0 = 0 := by
  refine List.foldlRecOn (motive := (· = 0)) _ _ rfl fun m hm p hp => ?_
  obtain ⟨pos, -, rfl⟩ := List.mem_map.1 hp
  have hpoison : sidePoison (portionOf nb slab gen col (layerAt nb slab pos)) = 0 :=
    sidePoison_portion _ _ _ _ _ _ (hcol _)
  cases lost (layerAt nb slab pos) <;> simp [hm, hpoison]

theorem erased_left : (List.range (2 * nb)).filter (fun pos => ((wordLeft nb slab gen col lost).getD pos none).isNone) =
    (List.range (2 * nb)).filter fun pos => lost (layerAt nb slab pos) := by
  refine List.filter_congr fun pos hpos => ?_
  rw [wordLeft, getD_map_range _ (List.mem_range.1 hpos)]
  cases lost (layerAt nb slab pos) <;> rfl

include hnb

theorem word_left : (List.range (2 * nb)).map (fun pos =>
      if (classesLeft nb lost).getD (layerAt nb slab pos) .missing = .good then
        (portionsLeft nb slab gen col lost).getD (layerAt nb slab pos) none else none) = wordLeft nb slab gen col lost := by
  refine List.map_congr_left fun pos hpos => ?_
  have hl := layerAt_lt hnb slab (List.mem_range.1 hpos)
  rw [getD_classesLeft lost hl, portionsLeft, getD_map_range _ hl]
  cases lost (layerAt nb slab pos) <;> rfl

theorem cols_left (hcol : ∀ pos, (col pos).length = 128) :
    (wordLeft nb slab gen col lost).mapIdx (fun _ p => (p.map (·.take 128)).getD zeroCols) =
      (List.range (2 * nb)).map fun pos => if lost (layerAt nb slab pos) then zeroCols else col pos := by
  rw [wordLeft, mapIdx_map_range]
  refine List.map_congr_left fun pos hpos => ?_
  cases lost (layerAt nb slab pos)
  · simp [portionOf, take_portion, hcol, codePos_layerAt hnb slab (List.mem_range.1 hpos)]
  · rfl
end

theorem zeroPoison_zero (data : List Byte) : zeroPoison 0 data = data := by
  apply List.ext_getElem <;> simp [zeroPoison]

theorem columnPoison_nil (n : Nat) : columnPoison n [] = 0 := by
  simp only [columnPoison, mapOf, List.any_nil, Bool.false_eq_true, if_false]
  exact foldl_keeps id _ (fun _ _ => rfl) _ _

/-- Nothing is found where every byte is zero. -/
theorem filterMap_zipIdx_eq_nil {α β : Type} {l : List α} {f : α × Nat → Option β} (h : ∀ x ∈ l, ∀ j, f (x, j) = none) :
    l.zipIdx.filterMap f = [] := by
  refine List.filterMap_eq_nil_iff.2 fun p hp => ?_
  exact h p.1 (List.fst_mem_of_mem_zipIdx hp) p.2

/-- At most two positions are none, one, or two in rising order. -/
theorem two_of_filter {n : Nat} {q : Nat → Bool} (h : ((List.range n).filter q).length ≤ 2) :
    (List.range n).filter q = [] ∨ (∃ a, (List.range n).filter q = [a]) ∨
      ∃ a b, a < b ∧ (List.range n).filter q = [a, b] := by
  have hlt := (List.pairwise_lt_range (n := n)).filter q
  match hE : (List.range n).filter q, h, hlt with
  | [], _, _ => exact .inl rfl
  | [a], _, _ => exact .inr (.inl ⟨a, rfl⟩)
  | [a, b], _, hlt => exact .inr (.inr ⟨a, b, by simpa using hlt, rfl⟩)

theorem getElem?_zeroAt (es : List Nat) (word : List (List Byte)) (i : Nat) :
    (es.foldl (fun w a => w.set a zeroCols) word)[i]? = if i ∈ es then word[i]?.map fun _ => zeroCols else word[i]? := by
  induction es generalizing word with
  | nil => simp
  | cons a es ih =>
    rw [List.foldl_cons, ih, List.getElem?_set']
    by_cases ha : i = a
    · subst ha
      by_cases hi : i ∈ es <;> simp [hi, Function.comp_def, Function.const_def]
    · by_cases hi : i ∈ es <;> simp [ha, hi, Ne.symm ha]

/-- The word with zeros at the positions that `q` picks. -/
theorem map_erased (word : List (List Byte)) (q : Nat → Bool) :
    ((List.range word.length).map fun pos => if q pos then zeroCols else word.getD pos zeroCols) =
      ((List.range word.length).filter q).foldl (fun w a => w.set a zeroCols) word := by
  refine List.ext_getElem? fun i => ?_
  rw [getElem?_zeroAt, List.getElem?_map]
  by_cases hi : i < word.length
  · cases hq : q i <;> simp [hi, hq]
  · simp [hi]


/-- A decode that gives back the data of a word whose portions on the `lost` layers were erased. -/
structure Restores (nb : Nat) (word : List (List Byte)) (lost : Nat → Bool) (d : Decoded) : Prop where
  data : d.data = (word.drop 2).flatten
  poison : d.poison = 0
  outcome : d.outcome ≠ .uncorrectable
  erasures : d.erasures = ((List.range (2 * nb)).filter lost).length

/-- R61: with no syndrome no column is corrected or found uncorrectable. -/
theorem column0_zero (n : Nat) : ∀ r ∈ (zeroCols.zip zeroCols).map (fun (a, b) => column0 n a b), r = some none := by
  intro r hr
  obtain ⟨⟨a, b⟩, hab, rfl⟩ := List.mem_map.1 hr
  obtain ⟨ha, hb⟩ := List.of_mem_zip hab
  rw [List.eq_of_mem_replicate ha, List.eq_of_mem_replicate hb]
  rfl

/-- R61 to R63: every portion left is good and of one generation, so the word with zeros at the erased positions is what the decoder
sums up. -/
theorem restores_decodeSlab {nb : Nat} (hnb : nb = 7 ∨ nb = 9) (slab gen : Nat) {word : List (List Byte)} (hw : IsWord word)
    (hlen : word.length = 2 * nb) {lost : Nat → Bool} (hlost : ((List.range (2 * nb)).filter lost).length ≤ 2) :
    Restores nb word lost (decodeSlab nb slab 0 (portionsLeft nb slab gen (fun pos => word.getD pos zeroCols) lost) false) := by
  have hpos : 0 < nb := by omega
  have hleft : ∃ layer, layer < 2 * nb ∧ lost layer = false := by
    by_contra hall
    push Not at hall
    rw [List.filter_eq_self.2 fun l hl => by simpa using hall l (List.mem_range.1 hl), List.length_range] at hlost
    omega
  have hcount := length_filter_layerAt hpos slab lost
  unfold decodeSlab
  extract_lets n c1 gens g cls goodOf word' stored erasedPos e erased cols t0 t1 errClass all finish fix bad hits colsFixed cc new
  have hc1 : c1 = classesLeft nb lost := mapIdx_classify slab gen lost hw.length_getD
  have hg : g = (some (gen % 2 ^ 24), false) := by
    simp only [g, gens, hc1]
    exact majority_left slab gen lost hw.length_getD hleft
  have hcls : cls = classesLeft nb lost := by
    simp only [cls, hc1, hg]
    exact classes_current slab gen lost hw.length_getD
  have hword : word' = wordLeft nb slab gen (fun pos => word.getD pos zeroCols) lost := by
    simp only [word', goodOf, hcls]
    exact word_left hpos slab gen _ lost
  have hstored : stored = 0 := by
    simp only [stored, hword]
    exact stored_left slab gen _ lost hw.length_getD
  have herased : erasedPos = (List.range (2 * nb)).filter fun pos => lost (layerAt nb slab pos) := by
    simp only [erasedPos, hword]
    exact erased_left slab gen _ lost
  have hcols : cols = erasedPos.foldl (fun w a => w.set a zeroCols) word := by
    rw [herased, ← hlen, ← map_erased, hlen]
    simp only [cols, hword]
    exact cols_left hpos slab gen _ lost hw.length_getD
  have hfinish : ∀ cols' new cc k bad, cols' = word → new = 0 → bad = false → Restores nb word lost (finish cols' new cc k bad) := by
    rintro cols' new cc k bad rfl rfl rfl
    refine ⟨?_, ?_, ?_, ?_⟩
    · simp [finish, hstored, zeroPoison_zero]
    · simp [finish, hstored]
    · simp only [finish]
      split_ifs <;> simp_all
    · rw [← hcount, ← herased]
  rw [if_neg (by simp [hg])]
  have hlt : ∀ a ∈ erasedPos, a < word.length := fun a ha => by
    rw [herased] at ha
    simpa [hlen] using (List.mem_filter.1 ha).1
  rw [← hcount] at hlost
  rcases two_of_filter hlost with hE | ⟨a, hE⟩ | ⟨a, b, hab, hE⟩ <;> rw [← herased] at hE <;> rw [hE] at hcols hlt ⊢
  · have ht0 : t0 = zeroCols := (congrArg sumCols hcols).trans hw.sum
    have ht1 : t1 = zeroCols := (congrArg wsumCols hcols).trans hw.wsum
    have hfix : ∀ r ∈ fix, r = some none := by
      simp only [fix, ht0, ht1]
      exact column0_zero n
    have hbad : bad = [] := filterMap_zipIdx_eq_nil fun r hr j => by simp [hfix r hr]
    have hhits : hits = [] := filterMap_zipIdx_eq_nil fun r hr j => by simp [hfix r hr]
    refine hfinish _ _ _ _ _ ?_ ?_ ?_
    · simp only [colsFixed, hhits, hcols]
      apply List.ext_getElem <;> simp
    · rw [hbad, columnPoison_nil]
    · rw [hbad]
      rfl
  · obtain ⟨hrest, hres⟩ := hw.restore_one (hlt a (by simp))
    rw [List.foldl_cons, List.foldl_nil] at hcols
    simp only [t0, t1, hcols, setAt_eq_set, hrest, hres]
    have hbad : zeroCols.zipIdx.filterMap (fun (x, j) => if x = 0#8 then none else some j) = [] :=
      filterMap_zipIdx_eq_nil fun x hx j => if_pos (List.eq_of_mem_replicate hx)
    refine hfinish _ _ _ _ _ rfl ?_ ?_
    · rw [hbad, columnPoison_nil]
    · rw [hbad]
      rfl
  · have hrest := hw.restore_two hab (hlt b (by simp)) (by omega)
    rw [List.foldl_cons, List.foldl_cons, List.foldl_nil] at hcols
    simp only [t0, t1, hcols, setAt_eq_set]
    exact hfinish _ _ _ _ _ hrest rfl rfl

theorem length_chunks {α : Type} (n k : Nat) (l : List α) : (chunks n k l).length = k := by
  induction k generalizing l with
  | zero => rfl
  | succ k ih => rw [chunks, List.length_cons, ih]

theorem length_of_mem_chunks {α : Type} {n k : Nat} {l : List α} (h : l.length = n * k) : ∀ c ∈ chunks n k l, c.length = n := by
  induction k generalizing l with
  | zero => simp [chunks]
  | succ k ih =>
    rw [Nat.mul_succ] at h
    rw [chunks, List.forall_mem_cons]
    exact ⟨List.length_take_of_le (by omega), ih (by simp [h])⟩

theorem flatten_chunks {α : Type} {n k : Nat} {l : List α} (h : l.length = n * k) : (chunks n k l).flatten = l := by
  induction k generalizing l with
  | zero => simpa [chunks] using h
  | succ k ih =>
    rw [Nat.mul_succ] at h
    rw [chunks, List.flatten_cons, ih (by simp [h]), List.take_append_drop]

theorem isWord_codeWord {ds : List (List Byte)} (h : ∀ d ∈ ds, d.length = 128) : IsWord (codeWord ds) :=
  ⟨length_of_mem_codeWord h, sumCols_codeWord h, wsumCols_codeWord h⟩

/-- R60: the encoder's portions but two are those of its word but two. -/
theorem erase_encodeSlab (nb slab gen : Nat) (data : List Byte) (x y : Nat) :
    ((encodeSlab nb slab data 0 gen 0).mapIdx fun layer p => if layer = x ∨ layer = y then none else some p) =
      portionsLeft nb slab gen (fun pos => (codeWord (chunks 128 (2 * nb - 2) data)).getD pos zeroCols)
        fun layer => decide (layer = x ∨ layer = y) := by
  rw [encodeSlab, mapIdx_map_range, zeroPoison_zero, portionsLeft]
  refine List.map_congr_left fun layer _ => ?_
  simp only [decide_eq_true_eq]
  rfl

theorem length_filter_pair (n x y : Nat) : ((List.range n).filter fun k => decide (k = x ∨ k = y)).length ≤ 2 := by
  have hsub : ((List.range n).filter fun k => decide (k = x ∨ k = y)) ⊆ [x, y] := fun k hk => by
    simpa using (List.mem_filter.1 hk).2
  exact (List.subperm_of_subset (List.nodup_range.filter _) hsub).length_le

/-- Settles O27: what is left of the word gives it back, whether none, one or two of its columns are erased. -/
theorem slabsSurviveTwoErasures : Obligations.SlabsSurviveTwoErasures := by
  intro nb slab gen data x y hnb _ hlen ps d
  have hcols := length_of_mem_chunks hlen
  have hword : (codeWord (chunks 128 (2 * nb - 2) data)).length = 2 * nb := by
    rw [codeWord, List.length_cons, List.length_cons, length_chunks]
    omega
  have hd : Restores nb (codeWord (chunks 128 (2 * nb - 2) data)) (fun layer => decide (layer = x ∨ layer = y)) d := by
    simp only [d, ps, erase_encodeSlab]
    exact restores_decodeSlab hnb slab gen (isWord_codeWord hcols) hword (length_filter_pair _ x y)
  exact ⟨hd.data.trans (flatten_chunks hlen), hd.poison, hd.outcome, hd.erasures⟩

end Sys2Proof.Machine
end

section
/-! SUPPORT. What DRAM holds, and its canonical form as an equation that simp can carry through a chain of operations. -/
namespace Sys2Proof.Machine
open Sys2Proof.Safety

/-- What DRAM holds: the listed cells, and what stack clears left under them. -/
def State.mem (s : State) : List Host.Cell × List ClearSeg := (s.dram, s.segs)

/-- The canonical form, of what DRAM holds. -/
def memOk (m : List Host.Cell × List ClearSeg) : Bool :=
  cellsRise m.1 && m.1.all fun c => c.2 != ({ State.reset with segs := m.2 } : State).blank c.1

theorem wf_eq_memOk (s : State) : Memory.wf s = memOk s.mem := rfl

@[simp] theorem mem_mk (regs lregs bregs time dram segs cache ras bench shaft host haul coding regul power thermal fault test
    fuse mgmt dict wake rack pins fresh sent pending) :
    State.mem ⟨regs, lregs, bregs, time, dram, segs, cache, ras, bench, shaft, host, haul, coding, regul, power, thermal, fault,
      test, fuse, mgmt, dict, wake, rack, pins, fresh, sent, pending⟩ = (dram, segs) := Prod.ext rfl rfl

@[simp] theorem mem_eta (s : State) : (s.dram, s.segs) = s.mem := Prod.ext rfl rfl

/-- The canonical form under a name that `simp` leaves alone (`anyway_congr`). -/
def State.anyway (s : State) : Bool := memOk s.mem

@[congr] theorem anyway_congr (s : State) : s.anyway = s.anyway := rfl

/-- `t` keeps the canonical form of `s`, as an equation: `simp` rewrites with it what a chain of operations leaves. -/
abbrev MemKept (s t : State) : Prop := memOk t.mem = (memOk s.mem || t.anyway)

theorem memKept_of {s t : State} (h : memOk s.mem = true → memOk t.mem = true) : MemKept s t := by
  cases hs : memOk s.mem
  · simp [MemKept, State.anyway, hs]
  · simp [MemKept, h hs, hs]

theorem MemKept.ok {s t : State} (h : MemKept s t) (hs : memOk s.mem = true) : memOk t.mem = true := by
  rw [h, hs]; rfl

theorem mem_same {s t : State} (hd : t.dram = s.dram) (hs : t.segs = s.segs) : t.mem = s.mem :=
  Prod.ext hd hs

theorem mem_of_pair {α : Type} {p : State × α} {t : State} {a : α} (h : p = (t, a)) : t.mem = p.1.mem := by rw [h]

theorem mem_if {c : Prop} [Decidable c] {s t u : State} (ht : t.mem = s.mem) (hu : u.mem = s.mem) :
    (if c then t else u).mem = s.mem := by split_ifs <;> assumption

@[simp] theorem mem_ite (c : Prop) [Decidable c] (s t : State) :
    State.mem (if c then s else t) = if c then s.mem else t.mem := apply_ite State.mem c s t

@[simp] theorem mem_ite_fst {α : Type} (c : Prop) [Decidable c] (p q : State × α) :
    State.mem (if c then p else q).1 = if c then p.1.mem else q.1.mem := by split_ifs <;> rfl

@[simp] theorem memOk_ite (c : Prop) [Decidable c] (m n : List Host.Cell × List ClearSeg) :
    memOk (if c then m else n) = if c then memOk m else memOk n := apply_ite memOk c m n

@[simp] theorem memKept_foldl {α : Type} (g : State → α → State) (hg : ∀ s a, memOk s.mem = true → memOk (g s a).mem = true)
    (l : List α) (s : State) : MemKept s (l.foldl g s) :=
  memKept_of fun h => foldl_inv (fun s => memOk s.mem = true) g hg l h

@[simp] theorem memKept_foldl_fst {α β : Type} (g : State × β → α → State × β)
    (hg : ∀ p a, memOk p.1.mem = true → memOk (g p a).1.mem = true) (l : List α) (p : State × β) :
    MemKept p.1 (l.foldl g p).1 :=
  memKept_of fun h => foldl_inv (fun p : State × β => memOk p.1.mem = true) g hg l h

@[simp] theorem mem_foldl {α : Type} (g : State → α → State) (hg : ∀ s a, (g s a).mem = s.mem) (l : List α)
    (s : State) : (l.foldl g s).mem = s.mem := foldl_keeps State.mem g hg l s

@[simp] theorem mem_foldl_fst {α β : Type} (g : State × β → α → State × β)
    (hg : ∀ p a, (g p a).1.mem = p.1.mem) (l : List α) (p : State × β) :
    (l.foldl g p).1.mem = p.1.mem := foldl_keeps (fun p : State × β => p.1.mem) g hg l p

@[simp] theorem mem_setFile (s : State) (h : Held) (l : List (Nat × Nat)) : (s.setFile h l).mem = s.mem := by cases h <;> rfl
@[simp] theorem mem_wr (s : State) (f : Fam) (v : Nat) (i : List Nat) : (s.wr f v i).mem = s.mem := mem_setFile s _ _
@[simp] theorem memKept_poke (s : State) (a : Nat) (bs : List Byte) :
    MemKept s (s.poke a bs) := memKept_of fun h => wf_poke h a bs
@[simp] theorem memKept_addSeg (s : State) (g : ClearSeg) : MemKept s (s.addSeg g) := memKept_of fun h => wf_addSeg h g
@[simp] theorem memKept_canaryWrite (s : State) (b : Nat) : MemKept s (s.canaryWrite b) := memKept_of fun h => wf_canaryWrite h b

theorem memOk_if {c : Prop} [Decidable c] {s t : State} (hs : memOk s.mem = true) (ht : memOk t.mem = true) :
    memOk (if c then s else t).mem = true := by split_ifs <;> assumption

end Sys2Proof.Machine
end

section
/-! SUPPORT. What each operation of the device leaves of DRAM, one lemma per function of the model, in the model's order: an
operation that writes no DRAM leaves it as it was (`mem_`), one that may write it keeps its canonical form (`memKept_`). -/
namespace Sys2Proof.Machine
open Sys2Proof.Safety

/-! ### Ops.lean -/

@[simp] theorem mem_set (s : State) (f : Fam) (i : List Nat) : (s.set f i).mem = s.mem := by simp [State.set]

@[simp] theorem mem_clr (s : State) (f : Fam) (i : List Nat) : (s.clr f i).mem = s.mem := by simp [State.clr]

@[simp] theorem mem_wrB (s : State) (f : Fam) (b : Bool) (i : List Nat) : (s.wrB f b i).mem = s.mem := by simp [State.wrB]

@[simp] theorem mem_addSat (s : State) (f : Fam) (n : Nat) (i : List Nat) : (s.addSat f n i).mem = s.mem := by
  simp [State.addSat]

@[simp] theorem mem_incSat (s : State) (f : Fam) (i : List Nat) : (s.incSat f i).mem = s.mem := by simp [State.incSat]

@[simp] theorem mem_inc (s : State) (f : Fam) (i : List Nat) : (s.inc f i).mem = s.mem := by simp [State.inc]

@[simp] theorem mem_resetBlock (s : State) (lo hi : Nat) : (s.resetBlock lo hi).mem = s.mem := by simp [State.resetBlock]

@[simp] theorem mem_dropUpdate (s : State) : s.dropUpdate.mem = s.mem := by simp [State.dropUpdate]

@[simp] theorem mem_draw (s : State) : s.draw.2.mem = s.mem := rfl

@[simp] theorem mem_emit (s : State) (o : Output) : (s.emit o).mem = s.mem := by simp [State.emit]

@[simp] theorem mem_cfgPut (s : State) (off v : Nat) : (s.cfgPut off v).mem = s.mem := by simp [State.cfgPut]

@[simp] theorem mem_tlp (s : State) (o : Output) : (s.tlp o).mem = s.mem := by simp [State.tlp]

@[simp] theorem mem_msix (s : State) (v : Nat) : (s.msix v).mem = s.mem := by simp [State.msix]

@[simp] theorem mem_raise (s : State) (e : Ev) (i : List Nat) : (s.raise e i).mem = s.mem := mem_same (by simp) (by simp)

@[simp] theorem mem_violog (s : State) (v : Viol) (bar addr : Nat) (write : Bool) (src : RegSrc) :
    (s.violog v bar addr write src).mem = s.mem := mem_same (by simp) (by simp)

@[simp] theorem mem_log (s : State) (source unit code : Nat) (data : List Byte) :
    (s.log source unit code data).mem = s.mem := mem_same (by simp) (by simp)

/-! ### RegIO.lean -/

@[simp] theorem mem_writeField (s : State) (f : Fam) (i : List Nat) (v : Nat) : (s.writeField f i v).1.mem = s.mem := by
  unfold State.writeField
  (repeat' split) <;> simp

@[simp] theorem mem_writeRaw (s : State) (off data : Nat) : (s.writeRaw off data).1.mem = s.mem := by simp [State.writeRaw]

/-! ### Domain.lean -/

@[simp] theorem mem_modBench (s : State) (b : Nat) (f : BenchSt → BenchSt) : (s.modBench b f).mem = s.mem := by
  simp [State.modBench]

@[simp] theorem mem_modShaft (s : State) (b : Nat) (f : ShaftSt → ShaftSt) : (s.modShaft b f).mem = s.mem := by
  simp [State.modShaft]

@[simp] theorem mem_loseDomain (s : State) (d : Nat) : (s.loseDomain d).mem = s.mem := by
  unfold State.loseDomain
  refine mem_if rfl (mem_if ?_ (mem_if (mem_wr _ _ _ _) (mem_if rfl (mem_if rfl (mem_if rfl (mem_if rfl (mem_if rfl (mem_if rfl
    (mem_if rfl (mem_if rfl (mem_if ?_ rfl)))))))))))
  · exact mem_dropUpdate s
  · extract_lets
    split <;> rfl

@[simp] theorem mem_domainOff (s : State) (d : Nat) : (s.domainOff d).mem = s.mem := by simp [State.domainOff]

@[simp] theorem mem_domainOn (s : State) (d : Nat) : (s.domainOn d).mem = s.mem := by simp [State.domainOn]

@[simp] theorem mem_domainsOff (s : State) (ds : List Nat) : (s.domainsOff ds).mem = s.mem := by simp [State.domainsOff]

@[simp] theorem mem_domainsOn (s : State) (ds : List Nat) : (s.domainsOn ds).mem = s.mem := by simp [State.domainsOn]

@[simp] theorem mem_offBut (s : State) (keep : List Nat) : (s.offBut keep).mem = s.mem := by simp [State.offBut]

@[simp] theorem mem_onUpTo (s : State) (ds : List Nat) : (s.onUpTo ds).mem = s.mem := by simp [State.onUpTo]

@[simp] theorem mem_driveVid (s : State) (code : Nat) : (s.driveVid code).mem = s.mem := by simp [State.driveVid]

@[simp] theorem mem_loseBaseDie (s : State) : s.loseBaseDie.mem = s.mem := by simp [State.loseBaseDie]

@[simp] theorem mem_loadLayers (s : State) : s.loadLayers.mem = s.mem := by simp [State.loadLayers]

/-! ### React.lean -/

@[simp] theorem mem_logPower (s : State) : s.logPower.mem = s.mem := by simp [State.logPower]

@[simp] theorem mem_notIdle (s : State) : s.notIdle.mem = s.mem := by simp [State.notIdle]

@[simp] theorem mem_dozeExit (s : State) : s.dozeExit.mem = s.mem := by simp [State.dozeExit]

@[simp] theorem mem_logShaft (s : State) (b bit : Nat) : (s.logShaft b bit).mem = s.mem := by simp [State.logShaft]

@[simp] theorem mem_drivePins (s : State) : s.drivePins.mem = s.mem := by simp [State.drivePins]

@[simp] theorem mem_heldUpdate (s : State) : s.heldUpdate.mem = s.mem := by simp [State.heldUpdate]

@[simp] theorem mem_stopMarch (s : State) : s.stopMarch.mem = s.mem := by
  unfold State.stopMarch
  dsimp only
  (repeat' split) <;> simp

@[simp] theorem mem_recordDue (s : State) (type unit a b spare : Nat) : (s.recordDue type unit a b spare).mem = s.mem := by
  simp [State.recordDue]

@[simp] theorem mem_setLayer (s : State) (n st cause : Nat) : (s.setLayer n st cause).mem = s.mem := by simp [State.setLayer]

@[simp] theorem mem_sweepCheck (s : State) : s.sweepCheck.mem = s.mem := by simp [State.sweepCheck]

@[simp] theorem mem_loseLayer (s : State) (n cause : Nat) : (s.loseLayer n cause).mem = s.mem := by simp [State.loseLayer]

@[simp] theorem mem_protUpdate (s : State) : s.protUpdate.1.mem = s.mem := by simp [State.protUpdate]

@[simp] theorem mem_offlineCore (s : State) (b : Nat) : (s.offlineCore b).mem = s.mem := by simp [State.offlineCore]

@[simp] theorem mem_setEnabled (s : State) (code : Nat) : (s.setEnabled code).mem = s.mem := by simp [State.setEnabled]

@[simp] theorem mem_dropHaulPort (s : State) : s.dropHaulPort.mem = s.mem := by simp [State.dropHaulPort]

@[simp] theorem mem_haltWork (s : State) : s.haltWork.mem = s.mem := by simp [State.haltWork]

@[simp] theorem mem_haulHalt (s : State) (type kind addr : Nat) : (s.haulHalt type kind addr).mem = s.mem := by
  simp [State.haulHalt]

@[simp] theorem mem_writeHeader (s : State) (active : Nat) (trial : Bool) (boots : Nat) :
    (s.writeHeader active trial boots).mem = s.mem := by
  unfold State.writeHeader
  dsimp only
  (repeat' split) <;> simp

@[simp] theorem mem_flashOp (s : State) : s.flashOp.2.mem = s.mem := rfl

@[simp] theorem mem_logImage (s : State) (slot code version rollback : Nat) :
    (s.logImage slot code version rollback).mem = s.mem := by simp [State.logImage]

@[simp] theorem mem_logSlot (s : State) (k code : Nat) : (s.logSlot k code).mem = s.mem := by simp [State.logSlot]

@[simp] theorem mem_bootStart (s : State) (bootsel : Bool) : (s.bootStart bootsel).mem = s.mem := by
  unfold State.bootStart
  dsimp only
  (repeat' split) <;> simp

@[simp] theorem mem_persistBefore (s : State) (b : Nat) : (s.persistBefore b).mem = s.mem := by simp [State.persistBefore]

@[simp] theorem mem_persistAll (s : State) : s.persistAll.mem = s.mem := by simp [State.persistAll]

@[simp] theorem mem_activate (s : State) : s.activate.mem = s.mem := by simp [State.activate]

@[simp] theorem mem_mgmtRestart (s : State) : s.mgmtRestart.mem = s.mem := by simp [State.mgmtRestart]

@[simp] theorem mem_lastEntry (s : State) (target result block reason source tick : Nat) :
    (s.lastEntry target result block reason source tick).mem = s.mem := by simp [State.lastEntry]

@[simp] theorem mem_seqIdle (s : State) : s.seqIdle.mem = s.mem := by simp [State.seqIdle]

@[simp] theorem mem_holdBench (s : State) (b : Nat) : (s.holdBench b).mem = s.mem := by simp [State.holdBench]

@[simp] theorem mem_holdLinks (s : State) : s.holdLinks.mem = s.mem := by simp [State.holdLinks]

@[simp] theorem mem_restartBenches (s : State) : s.restartBenches.mem = s.mem := by simp [State.restartBenches]

@[simp] theorem mem_faultAbort (s : State) (trip : Bool) : (s.faultAbort trip).mem = s.mem := by
  unfold State.faultAbort
  dsimp only
  (repeat' split) <;> simp

@[simp] theorem mem_openShadow (s : State) (t : Nat) : (s.openShadow t).mem = s.mem := by simp [State.openShadow]

@[simp] theorem mem_capture (s : State) (n reaction : Nat) : (s.capture n reaction).1.mem = s.mem := by simp [State.capture]

@[simp] theorem mem_raiseFault (s : State) (note fence shadow : Bool) : (s.raiseFault note fence shadow).mem = s.mem := by
  simp [State.raiseFault]

@[simp] theorem mem_safeAct (s : State) : s.safeAct.1.mem = s.mem := by simp [State.safeAct]

@[simp] theorem mem_tripAct (s : State) : s.tripAct.mem = s.mem := by simp [State.tripAct]

@[simp] theorem mem_fenceAct (s : State) (t : Nat) : (s.fenceAct t).1.mem = s.mem := by
  unfold State.fenceAct
  dsimp only
  (repeat' split) <;> simp

@[simp] theorem mem_detectClock (s : State) (l : Later) : (s.detectClock l).1.mem = s.mem := by simp [State.detectClock]

theorem mem_detectGo (k : Nat) (s : State) (l : Later) : (State.detectGo k s l).mem = s.mem := by
  induction k generalizing s l with
  | zero => rfl
  | succ k ih =>
    unfold State.detectGo
    split_ifs
    · rfl
    · exact (ih _ _).trans (by simp)

@[simp] theorem mem_detect (s : State) (srcs opens : List Nat) : (s.detect srcs opens).mem = s.mem := mem_detectGo 12 s _

@[simp] theorem mem_protSettle (s : State) : s.protSettle.mem = s.mem := by simp [State.protSettle]

@[simp] theorem mem_offline1 (s : State) (b : Nat) : (s.offline1 b).mem = s.mem := by simp [State.offline1]

@[simp] theorem mem_busHalt (s : State) (type kind addr : Nat) : (s.busHalt type kind addr).mem = s.mem := by
  simp [State.busHalt]

@[simp] theorem mem_violate (s : State) (v : Viol) (bar addr : Nat) (write : Bool) (src : RegSrc) :
    (s.violate v bar addr write src).mem = s.mem := by simp [State.violate]

@[simp] theorem mem_refuse (s : State) (src : RegSrc) (off : Nat) : (s.refuse src off).mem = s.mem := by simp [State.refuse]

@[simp] theorem mem_logHeader (s : State) : s.logHeader.mem = s.mem := by simp [State.logHeader]

@[simp] theorem mem_aer (s : State) (e : Aer) : (s.aer e).mem = s.mem := by simp [State.aer]

/-! ### Regulation.lean -/

@[simp] theorem mem_ceilingRefused (s : State) (src : RegSrc) (off : Nat) : (s.ceilingRefused src off).mem = s.mem := by
  simp [State.ceilingRefused]

@[simp] theorem mem_gSettle (s : State) : s.gSettle.mem = s.mem := by simp [State.gSettle]

@[simp] theorem mem_labelCfgWrite (s : State) (src : RegSrc) (l data : Nat) : (s.labelCfgWrite src l data).mem = s.mem := by
  simp [State.labelCfgWrite]

@[simp] theorem mem_ceilingWrite (s : State) (src : RegSrc) (v : Nat) : (s.ceilingWrite src v).mem = s.mem := by
  simp [State.ceilingWrite]

@[simp] theorem mem_windowWrite (s : State) (src : RegSrc) (v : Nat) : (s.windowWrite src v).mem = s.mem := by
  simp [State.windowWrite]

@[simp] theorem mem_charge (s : State) (l units : Nat) : (s.charge l units).mem = s.mem := by simp [State.charge]

@[simp] theorem mem_newWindow (s : State) : s.newWindow.mem = s.mem := by simp [State.newWindow]

@[simp] theorem mem_spillAged (s : State) (id : Nat) : (s.spillAged id).mem = s.mem := by
  unfold State.spillAged
  dsimp only
  (repeat' split) <;> simp

/-! ### ShaftTx.lean -/

@[simp] theorem mem_modDir (s : State) (b : Nat) (down : Bool) (f : ShaftDir → ShaftDir) : (s.modDir b down f).mem = s.mem := by
  simp [State.modDir]

@[simp] theorem mem_emitFrame (s : State) (b : Nat) (down : Bool) (type : Nat) (f : Frame) :
    (s.emitFrame b down type f).mem = s.mem := by simp [State.emitFrame]

@[simp] theorem mem_creditsLeave (s : State) (b : Nat) (down : Bool) : (s.creditsLeave b down).mem = s.mem := by
  simp [State.creditsLeave]

@[simp] theorem mem_freeEntries (s : State) (b ch : Nat) (write : Bool) (n : Nat) : (s.freeEntries b ch write n).mem = s.mem := by
  simp [State.freeEntries]

@[simp] theorem mem_sendIdle (s : State) (b : Nat) (down : Bool) : (s.sendIdle b down).mem = s.mem := by simp [State.sendIdle]

@[simp] theorem mem_forcedIdle (s : State) (b : Nat) (down : Bool) : (s.forcedIdle b down).mem = s.mem := by
  simp [State.forcedIdle]

@[simp] theorem mem_transmit (s : State) (b : Nat) (down : Bool) (type : Nat) (f : Frame) :
    (s.transmit b down type f).mem = s.mem := by simp [State.transmit]

@[simp] theorem mem_sendWaiting (b : Nat) (down : Bool) (n : Nat) (s : State) : (State.sendWaiting b down n s).mem = s.mem := by
  induction n generalizing s with
  | zero => rfl
  | succ n ih =>
    unfold State.sendWaiting
    dsimp only
    (repeat' split) <;> simp [ih]

@[simp] theorem mem_sendWaits (s : State) (b : Nat) (down : Bool) : (s.sendWaits b down).mem = s.mem := by
  simp [State.sendWaits]

@[simp] theorem mem_addWaits (s : State) (b : Nat) (down : Bool) (is : List Item) : (s.addWaits b down is).mem = s.mem := by
  simp [State.addWaits]

@[simp] theorem mem_sendItems (s : State) (b : Nat) (down : Bool) (is : List Item) : (s.sendItems b down is).mem = s.mem := by
  simp [State.sendItems]

@[simp] theorem mem_sendFrame (s : State) (b : Nat) (down : Bool) (type : Nat) (f : Frame) :
    (s.sendFrame b down type f).mem = s.mem := by simp [State.sendFrame]

@[simp] theorem mem_sendDown (s : State) (b type : Nat) (f : Frame) : (s.sendDown b type f).mem = s.mem := by
  simp [State.sendDown]

@[simp] theorem mem_sendUp (s : State) (b type : Nat) (f : Frame) : (s.sendUp b type f).mem = s.mem := by simp [State.sendUp]

@[simp] theorem mem_replayAll (s : State) (b : Nat) (down : Bool) : (s.replayAll b down).mem = s.mem := by
  simp [State.replayAll]

@[simp] theorem mem_takeInfo (s : State) (b : Nat) (down : Bool) (aux : Nat) : (s.takeInfo b down aux).mem = s.mem := by
  simp [State.takeInfo]

/-! ### ShaftQueue.lean -/

@[simp] theorem mem_sendRec (s : State) (b : Nat) (r : TxRec) : (s.sendRec b r).mem = s.mem := by simp [State.sendRec]

@[simp] theorem mem_spreadRec (s : State) (r : TxRec) : (s.spreadRec r).mem = s.mem := by simp [State.spreadRec]

@[simp] theorem mem_takeRecs (n : Nat) (s : State)  : (State.takeRecs n s).1.mem = s.mem := by
  induction n generalizing s with
  | zero => rfl
  | succ n ih =>
    unfold State.takeRecs
    (repeat' split) <;> simp [ih]

@[simp] theorem mem_takeLate (b : Nat) (n : Nat) (s : State)  : (State.takeLate b n s).1.mem = s.mem := by
  induction n generalizing s with
  | zero => rfl
  | succ n ih =>
    unfold State.takeLate
    (repeat' split) <;> simp [ih]

@[simp] theorem mem_sendRecs (s : State) (b : Nat) (rs : List (TxRec × Nat)) : (s.sendRecs b rs).mem = s.mem := by
  simp [State.sendRecs]

@[simp] theorem mem_latePump (s : State) (b : Nat) : (s.latePump b).mem = s.mem := by simp [State.latePump]

@[simp] theorem mem_shaftPump (s : State) : s.shaftPump.mem = s.mem := by simp [State.shaftPump]

@[simp] theorem mem_queueRec (s : State) (r : TxRec) : (s.queueRec r).mem = s.mem := by simp [State.queueRec]

@[simp] theorem memKept_putPortions (s : State) (b layers slab : Nat) (lower upper : List Byte) :
    MemKept s (s.putPortions b layers slab lower upper) := memKept_of fun h => by simp +contextual [State.putPortions, h]

@[simp] theorem memKept_landWrites (s : State) (b : Nat) (es : List SentRec) :
    MemKept s (s.landWrites b es) := memKept_of fun h => by
  simp +contextual [State.landWrites, h]

@[simp] theorem memKept_landAll (s : State) (b : Nat) : MemKept s (s.landAll b) := memKept_of fun h => by
  simp +contextual [State.landAll, h]

@[simp] theorem memKept_landBenches (s : State) : MemKept s s.landBenches := memKept_of fun h => by
  simp +contextual [State.landBenches, h]

@[simp] theorem memKept_landFetch (s : State) (tag : Nat) : MemKept s (s.landFetch tag) := memKept_of fun h => by
  simp +contextual [State.landFetch, h]

@[simp] theorem mem_regSend (s : State) (b : Nat) (a : RegAcc) : (s.regSend b a).mem = s.mem := by simp [State.regSend]

@[simp] theorem mem_regAccess (s : State) (b : Nat) (a : RegAcc) : (s.regAccess b a).mem = s.mem := by simp [State.regAccess]

@[simp] theorem mem_regNext (s : State) (b : Nat) : (s.regNext b).mem = s.mem := by
  unfold State.regNext
  (repeat' split) <;> simp

@[simp] theorem mem_writeSlab (s : State) (slab : Nat) (data : List Byte) (poison flags label : Nat) (sweep : Bool) :
    (s.writeSlab slab data poison flags label sweep).mem = s.mem := by simp [State.writeSlab]

@[simp] theorem mem_askPortions (s : State) (op : SlabOp) (sweep : Bool) : (s.askPortions op sweep).mem = s.mem := by
  simp [State.askPortions]

@[simp] theorem mem_dropReads (s : State) (b : Nat) : (s.dropReads b).mem = s.mem := by simp [State.dropReads]

@[simp] theorem mem_closeAsked (s : State) (op : SlabOp) : (s.closeAsked op).mem = s.mem :=
  mem_foldl _ (fun s b => by dsimp only; (repeat' split) <;> simp) _ _

/-! ### Thermal.lean -/

@[simp] theorem mem_keepCurrents (s : State) (env : TickEnv) : (s.keepCurrents env).mem = s.mem := by simp [State.keepCurrents]

@[simp] theorem mem_readSensors (s : State) (env : TickEnv) : (s.readSensors env).mem = s.mem := by simp [State.readSensors]

@[simp] theorem mem_countSensors (s : State) : s.countSensors.mem = s.mem := by simp [State.countSensors]

@[simp] theorem mem_modelStep (s : State) (env : TickEnv) : (s.modelStep env).mem = s.mem := by simp [State.modelStep]

@[simp] theorem mem_logThermal (s : State) (bit : Nat) : (s.logThermal bit).mem = s.mem := by simp [State.logThermal]

@[simp] theorem mem_publishTemps (s : State) : s.publishTemps.1.mem = s.mem := by simp [State.publishTemps]

@[simp] theorem mem_thresholdStep (s : State) (st : Fam) (set clr : Ev) (level src : Nat) :
    (s.thresholdStep st set clr level src).1.mem = s.mem := by simp [State.thresholdStep]

@[simp] theorem mem_progRefused (s : State) : s.progRefused.mem = s.mem := by simp [State.progRefused]

@[simp] theorem mem_modelInit (s : State) : s.modelInit.mem = s.mem := by simp [State.modelInit]

@[simp] theorem mem_modelStart (s : State) : s.modelStart.mem = s.mem := by simp [State.modelStart]

@[simp] theorem mem_limitOlder (s : State) : s.limitOlder.mem = s.mem := by simp [State.limitOlder]

@[simp] theorem mem_thermalTick (s : State) (env : TickEnv) : (s.thermalTick env).mem = s.mem := by simp [State.thermalTick]

@[simp] theorem mem_capSettle (s : State) : s.capSettle.mem = s.mem := by simp [State.capSettle]

@[simp] theorem mem_codeLimit (s : State) : s.codeLimit.mem = s.mem := by simp [State.codeLimit]

@[simp] theorem mem_tokenFrames (s : State) : s.tokenFrames.mem = s.mem := by simp [State.tokenFrames]

@[simp] theorem mem_tickFrames (s : State) : s.tickFrames.mem = s.mem := by simp [State.tickFrames]

@[simp] theorem mem_dSettle (s : State) : s.dSettle.mem = s.mem := by simp [State.dSettle]

@[simp] theorem mem_govSettle (s : State) (count : Bool) : (s.govSettle count).mem = s.mem := by simp [State.govSettle]

@[simp] theorem mem_govCount (s : State) (env : TickEnv) : (s.govCount env).mem = s.mem := by simp [State.govCount]

@[simp] theorem mem_govTick (s : State) (env : TickEnv) : (s.govTick env).mem = s.mem := by simp [State.govTick]

@[simp] theorem mem_govInit (s : State) : s.govInit.mem = s.mem := by simp [State.govInit]

@[simp] theorem mem_sensorSuspect (s : State) (n : Nat) : (s.sensorSuspect n).mem = s.mem := by simp [State.sensorSuspect]

@[simp] theorem mem_sensorRestored (s : State) (n : Nat) : (s.sensorRestored n).mem = s.mem := by simp [State.sensorRestored]

@[simp] theorem mem_guardEnd (s : State) : s.guardEnd.mem = s.mem := by simp [State.guardEnd]

@[simp] theorem mem_holdEnd (s : State) : s.holdEnd.mem = s.mem := by simp [State.holdEnd]

@[simp] theorem mem_decideLevel (s : State) (l : Nat) : (s.decideLevel l).mem = s.mem := by simp [State.decideLevel]

@[simp] theorem mem_govRise (s : State) : s.govRise.mem = s.mem := by simp [State.govRise]

@[simp] theorem mem_govForced (s : State) : s.govForced.mem = s.mem := by simp [State.govForced]

@[simp] theorem mem_limitStep (s : State) : s.limitStep.mem = s.mem := by simp [State.limitStep]

/-! ### Ras.lean -/

@[simp] theorem mem_injStep (s : State) : s.injStep.mem = s.mem := by
  unfold State.injStep
  dsimp only
  (repeat' split) <;> simp

@[simp] theorem mem_injArray (s : State) (array : Nat) : (s.injArray array).1.mem = s.mem := by
  unfold State.injArray
  (repeat' split) <;> simp

@[simp] theorem mem_checkArray (s : State) (array : Nat) : (s.checkArray array).mem = s.mem := by
  unfold State.checkArray
  split <;> rename_i heq <;> simp [mem_of_pair heq]

@[simp] theorem mem_ceLog (s : State) (slab source : Nat) (d : Decoded) (charged : List (Nat × Nat)) :
    (s.ceLog slab source d charged).mem = s.mem := by simp [State.ceLog]

@[simp] theorem mem_ueLog (s : State) (kind slab source layers poison : Nat) :
    (s.ueLog kind slab source layers poison).mem = s.mem := by simp [State.ueLog]

@[simp] theorem mem_delivered (s : State) (slab : Nat) (src : Src) (poison : Nat) :
    (s.delivered slab src poison).mem = s.mem := by simp [State.delivered]

@[simp] theorem mem_chargeLayer (s : State) (slab layer cls : Nat) : (s.chargeLayer slab layer cls).mem = s.mem := by
  simp [State.chargeLayer]

@[simp] theorem mem_judge (s : State) (layers : List Nat) : (s.judge layers).mem = s.mem := by simp [State.judge]

@[simp] theorem mem_rasDecode (s : State) (op : SlabOp) (d : Decoded) : (s.rasDecode op d).mem = s.mem := by
  unfold State.rasDecode
  dsimp only
  (repeat' split) <;> simp

@[simp] theorem mem_issueOp (s : State) (op : SlabOp) : (s.issueOp op).mem = s.mem := by
  unfold State.issueOp
  dsimp only
  (repeat' split) <;> simp

@[simp] theorem mem_startOp (s : State) (slab : Nat) (kind : OpKind) (source label : Nat) (req : Option Nat) :
    (s.startOp slab kind source label req).mem = s.mem := by simp [State.startOp]

@[simp] theorem mem_decodeOp (s : State) (op : SlabOp) (got : List Delivery) : (s.decodeOp op got).1.mem = s.mem := by
  simp [State.decodeOp]

/-! ### SlabOps.lean -/

@[simp] theorem mem_setLine (s : State) (l : Line) : (s.setLine l).mem = s.mem := by simp [State.setLine]

@[simp] theorem mem_dropLine (s : State) (slab : Nat) : (s.dropLine slab).mem = s.mem := by simp [State.dropLine]

@[simp] theorem mem_modEntry (s : State) (slab : Nat) (f : MEntry → MEntry) : (s.modEntry slab f).mem = s.mem := by
  simp [State.modEntry]

@[simp] theorem mem_dropEntry (s : State) (slab : Nat) : (s.dropEntry slab).mem = s.mem := by simp [State.dropEntry]

@[simp] theorem mem_srSet (s : State) (slab : Nat) : (s.srSet slab).mem = s.mem := by simp [State.srSet]

@[simp] theorem mem_srSettle (s : State) (slab : Nat) : (s.srSettle slab).mem = s.mem := by simp [State.srSettle]

@[simp] theorem mem_touchWay (s : State) (slab way : Nat) : (s.touchWay slab way).mem = s.mem := by simp [State.touchWay]

@[simp] theorem mem_flushWrote (s : State) (slab : Nat) (entry : Bool) : (s.flushWrote slab entry).mem = s.mem := by
  unfold State.flushWrote
  dsimp only
  (repeat' split) <;> simp

@[simp] theorem mem_writeBack (s : State) (slab : Nat) : (s.writeBack slab).mem = s.mem := by
  unfold State.writeBack
  (repeat' split) <;> simp

@[simp] theorem mem_closeEntry (s : State) (slab : Nat) : (s.closeEntry slab).mem = s.mem := by
  unfold State.closeEntry
  (repeat' split) <;> simp

@[simp] theorem mem_closeOldest (s : State) : s.closeOldest.mem = s.mem := by
  unfold State.closeOldest
  (repeat' split) <;> simp

@[simp] theorem mem_mergeHigh (s : State) : s.mergeHigh.mem = s.mem := by simp [State.mergeHigh]

@[simp] theorem mem_closeAll (s : State) : s.closeAll.mem = s.mem := by simp [State.closeAll]

@[simp] theorem mem_flushAll (s : State) : s.flushAll.mem = s.mem := by simp [State.flushAll]

@[simp] theorem mem_findWay (s : State) (slab : Nat) : (s.findWay slab).1.mem = s.mem := by
  unfold State.findWay
  dsimp only
  (repeat' split) <;> simp

@[simp] theorem mem_install (s : State) (slab way label source : Nat) : (s.install slab way label source).mem = s.mem := by
  simp [State.install]

@[simp] theorem mem_writeLine (s : State) (r : CReq) (l : Line) : (s.writeLine r l).mem = s.mem := by simp [State.writeLine]

@[simp] theorem mem_writeEntry (s : State) (r : CReq) : (s.writeEntry r).mem = s.mem := by
  unfold State.writeEntry
  dsimp only
  (repeat' split) <;> simp

@[simp] theorem mem_drops (s : State) (e : MEntry) (m : Nat) : (s.drops e m).mem = s.mem := by simp [State.drops]

/-! ### HostCpl.lean -/

@[simp] theorem mem_egGo (n : Nat) (s : State)  : (State.egGo n s).mem = s.mem := by
  induction n generalizing s with
  | zero => rfl
  | succ n ih =>
    unfold State.egGo
    (repeat' split) <;> simp [ih]

@[simp] theorem mem_egDrain (s : State) : s.egDrain.mem = s.mem := by simp [State.egDrain]

@[simp] theorem mem_toEgress (s : State) (label : Option Nat) (o : Output) : (s.toEgress label o).mem = s.mem := by
  simp [State.toEgress]

@[simp] theorem mem_sendCpl (s : State) (label : Option Nat) (c : Cpl) : (s.sendCpl label c).mem = s.mem := by
  simp [State.sendCpl]

@[simp] theorem mem_refuseRead (s : State) (label : Option Nat) (q : HostRd) (status : Nat) :
    (s.refuseRead label q status).mem = s.mem := by simp [State.refuseRead]

@[simp] theorem mem_finishRead (s : State) (h : HostRdSt) : (s.finishRead h).mem = s.mem := by simp [State.finishRead]

@[simp] theorem mem_hostDeliver (s : State) (id : Nat) (data : List Byte) (poison : Nat) :
    (s.hostDeliver id data poison).mem = s.mem := by simp [State.hostDeliver]

@[simp] theorem mem_regAnswer (s : State) (r : RegRd) : (s.regAnswer r).mem = s.mem := by
  unfold State.regAnswer
  dsimp only
  (repeat' split) <;> simp

@[simp] theorem mem_regOpen (s : State) (src : RegSrc) (tag addr n : Nat) : (s.regOpen src tag addr n).mem = s.mem := by
  simp [State.regOpen]

@[simp] theorem mem_regWordIn (s : State) (id i v : Nat) : (s.regWordIn id i v).mem = s.mem := by simp [State.regWordIn]

@[simp] theorem mem_present (s : State) (src : Src) (label : Nat) (write : Bool) (slab off len : Nat) (data : List
    (Option Byte)) (media : Bool) :
    (s.present src label write slab off len data media).1.mem = s.mem := by simp [State.present]

/-! ### HaulBase.lean -/

@[simp] theorem mem_modChan (s : State) (c : Nat) (f : HChan → HChan) : (s.modChan c f).mem = s.mem := by simp [State.modChan]

@[simp] theorem mem_setRun (s : State) (c : Nat) (r : Run) : (s.setRun c r).mem = s.mem := by simp [State.setRun]

@[simp] theorem mem_chanSettle (s : State) (c : Nat) : (s.chanSettle c).mem = s.mem := by simp [State.chanSettle]

@[simp] theorem mem_outPeak (s : State) : s.outPeak.mem = s.mem := by simp [State.outPeak]

@[simp] theorem mem_dropFetches (s : State) (c : Nat) : (s.dropFetches c).mem = s.mem := by simp [State.dropFetches]

@[simp] theorem mem_headBack (s : State) (c : Nat) : (s.headBack c).mem = s.mem := by simp [State.headBack]

@[simp] theorem mem_cplRefused (s : State) (c : Nat) : (s.cplRefused c).mem = s.mem := by simp [State.cplRefused]

@[simp] theorem mem_cplCounts (s : State) (c status : Nat) : (s.cplCounts c status).mem = s.mem := by simp [State.cplCounts]

@[simp] theorem mem_writeCpl (s : State) (c idx status flags user bytes elem result : Nat) (irq : Bool) :
    (s.writeCpl c idx status flags user bytes elem result irq).mem = s.mem := by simp [State.writeCpl]

@[simp] theorem mem_fetchUpTo (n : Nat) (s : State) (c : Nat) : (State.fetchUpTo n s c).mem = s.mem := by
  induction n generalizing s c with
  | zero => rfl
  | succ n ih =>
    unfold State.fetchUpTo
    (repeat' split) <;> simp [ih]

@[simp] theorem mem_kick (s : State) (c : Nat) : (s.kick c).mem = s.mem := by simp [State.kick]

@[simp] theorem mem_sweepGo (n : Nat) (s : State) (c : Nat) (users : List (Nat × List Byte × Bool)) :
    (State.sweepGo n s c users).mem = s.mem := by
  induction n generalizing s c users with
  | zero => rfl
  | succ n ih =>
    unfold State.sweepGo
    simp [ih]

@[simp] theorem mem_gateSweep (s : State) (c : Nat) : (s.gateSweep c).mem = s.mem := by simp [State.gateSweep]

/-! ### Haul.lean -/

@[simp] theorem mem_codingLeave (s : State) (c : Nat) : (s.codingLeave c).mem = s.mem := by simp [State.codingLeave]

@[simp] theorem mem_codingEnter (s : State) (c : Nat) : (s.codingEnter c).mem = s.mem := by simp [State.codingEnter]

@[simp] theorem mem_movePart (s : State) (c : Nat) (r : Run) (n : Nat) : (s.movePart c r n).mem = s.mem := by
  simp [State.movePart]

@[simp] theorem mem_beginPass1 (s : State) (c : Nat) (r : Run) : (s.beginPass1 c r).mem = s.mem := by simp [State.beginPass1]

@[simp] theorem mem_planCoded (s : State) (c : Nat) (r : Run) : (s.planCoded c r).mem = s.mem := by
  unfold State.planCoded
  dsimp only
  (repeat' split) <;> simp

@[simp] theorem mem_nextUpdate (s : State) (c : Nat) (r : Run) (u : Upd) : (s.nextUpdate c r u).mem = s.mem := by
  simp [State.nextUpdate]

@[simp] theorem mem_applyUpdate (s : State) (c : Nat) (r : Run) (now : List Byte) (poisoned : Bool) :
    (s.applyUpdate c r now poisoned).mem = s.mem := by
  unfold State.applyUpdate
  dsimp only
  (repeat' split) <;> simp

@[simp] theorem mem_writeNext (s : State) (c : Nat) (r : Run) : (s.writeNext c r).1.mem = s.mem := by
  unfold State.writeNext
  dsimp only
  (repeat' split) <;> simp

@[simp] theorem mem_toReadBack (s : State) (c : Nat) (r : Run) : (s.toReadBack c r).mem = s.mem := by
  unfold State.toReadBack
  (repeat' split) <;> simp

@[simp] theorem mem_afterWrites (s : State) (c : Nat) (r : Run) : (s.afterWrites c r).mem = s.mem := by simp [State.afterWrites]

@[simp] theorem mem_pass1 (s : State) (c : Nat) (r : Run) : (s.pass1 c r).mem = s.mem := by
  unfold State.pass1
  dsimp only
  (repeat' split) <;> simp

@[simp] theorem mem_pass2 (s : State) (c : Nat) (r : Run) : (s.pass2 c r).mem = s.mem := by simp [State.pass2]

@[simp] theorem memKept_fenceStep (s : State) (r : Run) : MemKept s (s.fenceStep r).1 := by
  refine memKept_of fun h => ?_
  unfold State.fenceStep
  dsimp only
  (repeat' split) <;> simp +contextual [h]

@[simp] theorem mem_startRun (s : State) (c idx : Nat) (raw : List Byte) (poisoned : Bool) :
    (s.startRun c idx raw poisoned).mem = s.mem := by simp [State.startRun]

@[simp] theorem mem_codingDone (s : State) (c op status : Nat) : (s.codingDone c op status).mem = s.mem := by
  unfold State.codingDone
  extract_lets t u
  have ht : t.mem = s.mem := by simp only [t]; split <;> simp
  have hu : u.mem = s.mem := by simp [u, ht]
  clear_value t u
  exact mem_if (by simp [hu]) (mem_if (by simp [hu]) (mem_if (by simp [hu]) hu))

@[simp] theorem mem_finish (s : State) (c : Nat) (r : Run) : (s.finish c r).mem = s.mem := by simp [State.finish]

@[simp] theorem mem_autoStart (s : State) (c : Nat) : (s.autoStart c).1.mem = s.mem := by
  unfold State.autoStart
  (repeat' split) <;> simp

@[simp] theorem mem_listNext (s : State) (c : Nat) (r : Run) (dst : Bool) : (s.listNext c r dst).mem = s.mem := by
  simp [State.listNext]

@[simp] theorem mem_moveNext (s : State) (c : Nat) (r : Run) : (s.moveNext c r).mem = s.mem := by simp [State.moveNext]

@[simp] theorem mem_partRead (s : State) (c : Nat) (r : Run) : (s.partRead c r).mem = s.mem := by simp [State.partRead]

@[simp] theorem memKept_advStep (s : State) (c : Nat) : MemKept s (s.advStep c).1 := by
  refine memKept_of fun h => ?_
  unfold State.advStep
  dsimp only
  (repeat' split) <;> simp +contextual [h]

@[simp] theorem memKept_advGo (n : Nat) (s : State) (c : Nat) : MemKept s (State.advGo n s c) := by
  refine memKept_of fun h => ?_
  induction n generalizing s with
  | zero => exact h
  | succ n ih =>
    unfold State.advGo
    split <;> rename_i heq
    · exact ih _ (by simp [mem_of_pair heq, h])
    · simp [mem_of_pair heq, h]

@[simp] theorem mem_issueRead (s : State) (c : Nat) (p : Piece) (ps : List Piece) : (s.issueRead c p ps).1.mem = s.mem := by
  unfold State.issueRead
  dsimp only
  (repeat' split) <;> simp

@[simp] theorem memKept_issueOne (s : State) (c : Nat) : MemKept s (s.issueOne c).1 := by
  refine memKept_of fun h => ?_
  unfold State.issueOne
  split
  · exact h
  · split
    · simp [h]
    · split
      · rename_i heq
        simp [mem_of_pair heq, h]
      · simp [h]
    · exact h

@[simp] theorem mem_nextTurn (s : State) : s.nextTurn.mem = s.mem := by simp [State.nextTurn]

theorem memKept_issueGo (n idle : Nat) (s : State) : MemKept s (State.issueGo n idle s) := by
  refine memKept_of fun h => ?_
  induction n generalizing idle s with
  | zero => exact h
  | succ n ih =>
    unfold State.issueGo
    split
    · exact h
    · dsimp only
      split <;> rename_i heq
      · have ht : memOk _ = true := (congrArg memOk (mem_of_pair heq)).trans (by simp [h])
        exact ih _ _ (by split <;> simpa using ht)
      · exact ih _ _ (by simp [h])
@[simp] theorem memKept_pump (s : State) : MemKept s s.pump := by
  refine memKept_of fun h => ?_
  unfold State.pump
  dsimp only
  split_ifs
  · exact h
  · simp [memKept_issueGo, h]

@[simp] theorem memKept_placeGo (n : Nat) (s : State)  : MemKept s (State.placeGo n s) := by
  refine memKept_of fun h => ?_
  induction n generalizing s with
  | zero => exact h
  | succ n ih =>
    unfold State.placeGo
    (repeat' split) <;> simp +contextual [h, ih]

@[simp] theorem memKept_wakeRanges (s : State) : MemKept s s.wakeRanges := memKept_of fun h => by
  simp +contextual [State.wakeRanges, h]

@[simp] theorem memKept_advance (s : State) (c : Nat) : MemKept s (s.advance c) := memKept_of fun h => by
  simp +contextual [State.advance, h]

@[simp] theorem memKept_advanceAll (s : State) : MemKept s s.advanceAll := memKept_of fun h => by
  simp +contextual [State.advanceAll, h]

@[simp] theorem memKept_wakeUpdates (s : State) : MemKept s s.wakeUpdates := memKept_of fun h => by
  simp +contextual [State.wakeUpdates, h]

@[simp] theorem memKept_bring (s : State) (c : Nat) (u : Use) (bs : List Byte) (bad : List Nat) :
    MemKept s (s.bring c u bs bad) := by
  refine memKept_of fun h => ?_
  have hrun : ∀ r, memOk ((s.setRun c r).advance c).mem = true := fun r => by simp [h]
  unfold State.bring
  split
  · simp [h]
  · exact hrun _
  · exact hrun _
  · exact hrun _
  · exact memOk_if (by simp [h]) (by simp [h])
  · exact h

@[simp] theorem memKept_haulDeliver (s : State) (c : Nat) (q : CReq) (data : List Byte) (poison : Nat) :
    MemKept s (s.haulDeliver c q data poison) := by
  refine memKept_of fun h => ?_
  unfold State.haulDeliver
  dsimp only
  (repeat' split) <;> simp +contextual [h]

@[simp] theorem memKept_haulWritten (s : State) (c : Nat) (q : CReq) (ok lost : Bool) :
    MemKept s (s.haulWritten c q ok lost) := by
  refine memKept_of fun h => ?_
  unfold State.haulWritten
  dsimp only
  (repeat' split) <;> simp +contextual [h]

@[simp] theorem memKept_haulVerified (s : State) (c slab off : Nat) (ok : Bool) : MemKept s (s.haulVerified c slab off ok) := by
  refine memKept_of fun h => ?_
  unfold State.haulVerified
  dsimp only
  (repeat' split) <;> simp +contextual [h]

@[simp] theorem memKept_lateCompletion (s : State) (tag n : Nat) (err : Bool) :
    MemKept s (s.lateCompletion tag n err) := memKept_of fun h => by
  simp +contextual [State.lateCompletion, h]

@[simp] theorem memKept_haulError (s : State) (type : Nat) (q : NpReq) : MemKept s (s.haulError type q) := memKept_of fun h => by
  simp +contextual [State.haulError, h]

@[simp] theorem memKept_haulCompletion (s : State) (tag status : Nat) (ep : Bool) (data : List Byte) :
    MemKept s (s.haulCompletion tag status ep data) := by
  refine memKept_of fun h => ?_
  unfold State.haulCompletion
  dsimp only
  (repeat' split) <;> simp +contextual [h]

@[simp] theorem memKept_haulTimeout (s : State) (tag : Nat) : MemKept s (s.haulTimeout tag) := by
  refine memKept_of fun h => ?_
  unfold State.haulTimeout
  dsimp only
  (repeat' split) <;> simp +contextual [h]

@[simp] theorem memKept_doorbell (s : State) (src : RegSrc) (c data : Nat) :
    MemKept s (s.doorbell src c data) := memKept_of fun h => by
  simp +contextual [State.doorbell, h]

@[simp] theorem memKept_descFetched (s : State) (c : Nat) : MemKept s (s.descFetched c) := by
  refine memKept_of fun h => ?_
  unfold State.descFetched
  dsimp only
  (repeat' split) <;> simp +contextual [h]

@[simp] theorem memKept_startDesc (s : State) (c op : Nat) : MemKept s (s.startDesc c op) := by
  refine memKept_of fun h => ?_
  unfold State.startDesc
  dsimp only
  (repeat' split) <;> simp +contextual [h]

@[simp] theorem memKept_ledgerRead (s : State) (c : Nat) : MemKept s (s.ledgerRead c) := by
  refine memKept_of fun h => ?_
  unfold State.ledgerRead
  dsimp only
  (repeat' split) <;> simp +contextual [h]

@[simp] theorem memKept_pass1Done (s : State) (c : Nat) : MemKept s (s.pass1Done c) := by
  refine memKept_of fun h => ?_
  unfold State.pass1Done
  (repeat' split) <;> simp +contextual [h]

@[simp] theorem memKept_pass2Done (s : State) (c : Nat) : MemKept s (s.pass2Done c) := by
  refine memKept_of fun h => ?_
  unfold State.pass2Done
  (repeat' split) <;> simp +contextual [h]

@[simp] theorem mem_commitWrite (s : State) (src : RegSrc) (c : Nat) : (s.commitWrite src c).mem = s.mem := by
  simp [State.commitWrite]

@[simp] theorem memKept_handOver (s : State) (c : Nat) : MemKept s (s.handOver c) := memKept_of fun h => by
  simp +contextual [State.handOver, h]

@[simp] theorem memKept_channelEnable (s : State) (src : RegSrc) (c : Nat) :
    MemKept s (s.channelEnable src c) := memKept_of fun h => by
  simp +contextual [State.channelEnable, h]

@[simp] theorem mem_channelDisable (s : State) (c : Nat) : (s.channelDisable c).mem = s.mem := by simp [State.channelDisable]

@[simp] theorem mem_haulStop (s : State) : s.haulStop.mem = s.mem := by simp [State.haulStop]

@[simp] theorem mem_haulReset (s : State) : s.haulReset.mem = s.mem := by simp [State.haulReset]

@[simp] theorem mem_ledgerEnWrite (s : State) (src : RegSrc) (v : Nat) : (s.ledgerEnWrite src v).mem = s.mem := by
  simp [State.ledgerEnWrite]

@[simp] theorem mem_ledgerRegionWrite (s : State) (src : RegSrc) (off data : Nat) :
    (s.ledgerRegionWrite src off data).mem = s.mem := by simp [State.ledgerRegionWrite]

/-! ### Cache.lean -/

@[simp] theorem memKept_deliverRead (s : State) (r : CReq) (data : List Byte) (poison fresh : Nat) :
    MemKept s (s.deliverRead r data poison fresh) := by
  refine memKept_of fun h => ?_
  unfold State.deliverRead
  dsimp only
  (repeat' split) <;> simp +contextual [h]

@[simp] theorem memKept_wrote (s : State) (r : CReq) (ok : Bool) : MemKept s (s.wrote r ok) := by
  refine memKept_of fun h => ?_
  unfold State.wrote
  (repeat' split) <;> simp +contextual [h]

@[simp] theorem mem_hit (s : State) (count : Bool) : (s.hit count).mem = s.mem := by simp [State.hit]

@[simp] theorem mem_checkLine (s : State) (l : Line) (need : Nat) : (s.checkLine l need).mem = s.mem := by
  unfold State.checkLine
  split <;> rename_i heq
  · simp [mem_of_pair heq]
  · dsimp only
    split_ifs <;> simp [mem_of_pair heq]

@[simp] theorem mem_fetchFor (s : State) (r : CReq) (kind : OpKind) : (s.fetchFor r kind).mem = s.mem := by
  simp [State.fetchFor]

theorem findWay_ok {s : State} {slab : Nat} {t : State} {a : Alloc} (h : memOk s.mem = true) (hq : s.findWay slab = (t, a)) :
    memOk t.mem = true := by simp [mem_of_pair hq, h]
@[simp] theorem memKept_serveRead (s : State) (r : CReq) (count : Bool) : MemKept s (s.serveRead r count).1 := by
  refine memKept_of fun h => ?_
  unfold State.serveRead
  dsimp only
  (repeat' split)
  all_goals try simp [h]
  all_goals exact findWay_ok h ‹_›

@[simp] theorem memKept_afterWrite (s : State) (r : CReq) (inLine : Bool) : MemKept s (s.afterWrite r inLine) := by
  refine memKept_of fun h => ?_
  unfold State.afterWrite
  dsimp only
  (repeat' split) <;> simp +contextual [h]

@[simp] theorem memKept_serveWrite (s : State) (r : CReq) (count : Bool) : MemKept s (s.serveWrite r count).1 := by
  refine memKept_of fun h => ?_
  unfold State.serveWrite
  dsimp only
  (repeat' split)
  all_goals try simp [h]
  all_goals simp [findWay_ok h ‹_ = (_, _)›]

@[simp] theorem memKept_serve (s : State) (r : CReq) (count : Bool) : MemKept s (s.serve r count).1 := by
  refine memKept_of fun h => ?_
  unfold State.serve
  dsimp only
  (repeat' split) <;> simp +contextual [h]

@[simp] theorem memKept_serveOrWait (s : State) (r : CReq) : MemKept s (s.serveOrWait r) := by
  refine memKept_of fun h => ?_
  unfold State.serveOrWait
  dsimp only
  split
  · simp [h]
  · split <;> rename_i heq <;> simp [mem_of_pair heq, h]

@[simp] theorem memKept_retryWait (s : State) : MemKept s s.retryWait := memKept_of fun h => by
  simp +contextual [State.retryWait, h]

@[simp] theorem mem_runOpq (s : State) : s.runOpq.mem = s.mem :=
  mem_foldl _ (fun s o => by dsimp only; (repeat' split) <;> simp) _ _

@[simp] theorem memKept_retryFences (s : State) : MemKept s s.retryFences :=
  memKept_foldl _ (fun s c h => by (repeat' split) <;> simp [h]) _ _

@[simp] theorem memKept_cacheSettle (s : State) : MemKept s s.cacheSettle := memKept_of fun h => by
  simp +contextual [State.cacheSettle, h]

@[simp] theorem memKept_accept (s : State) (r : CReq) : MemKept s (s.accept r) := memKept_of fun h => by
  simp +contextual [State.accept, h]

@[simp] theorem memKept_acceptNext (s : State) (port : Nat) : MemKept s (s.acceptNext port) := by
  refine memKept_of fun h => ?_
  unfold State.acceptNext
  (repeat' split) <;> simp +contextual [h]

@[simp] theorem memKept_acceptInner (s : State) : MemKept s s.acceptInner := memKept_of fun h => by
  simp +contextual [State.acceptInner, h]

@[simp] theorem memKept_internalOp (s : State) (slab : Nat) (j : Job) : MemKept s (s.internalOp slab j) := memKept_of fun h => by
  simp +contextual [State.internalOp, h]

@[simp] theorem memKept_cacheReq (s : State) (r : CReq) : MemKept s (s.cacheReq r) := memKept_of fun h => by
  simp +contextual [State.cacheReq, h]

@[simp] theorem memKept_acceptEach (s : State) (rs : List CReq) : MemKept s (s.acceptEach rs) := memKept_of fun h => by
  simp +contextual [State.acceptEach, h]

@[simp] theorem memKept_acceptAll (s : State) (rs : List CReq) : MemKept s (s.acceptAll rs) := memKept_of fun h => by
  simp +contextual [State.acceptAll, h]

@[simp] theorem memKept_acceptHostWrites (s : State) : MemKept s s.acceptHostWrites := memKept_of fun h => by
  simp +contextual [State.acceptHostWrites, h]

@[simp] theorem memKept_acceptHost (s : State) : MemKept s s.acceptHost := memKept_of fun h => by
  simp +contextual [State.acceptHost, h]

@[simp] theorem memKept_inbound (s : State) (src : RegSrc) : MemKept s (s.inbound src) := by
  refine memKept_of fun h => ?_
  unfold State.inbound
  (repeat' split) <;> simp +contextual [h]

@[simp] theorem memKept_mergeAge (s : State) (slab : Nat) : MemKept s (s.mergeAge slab) := by
  refine memKept_of fun h => ?_
  unfold State.mergeAge
  (repeat' split) <;> simp +contextual [h]

@[simp] theorem mem_discard (s : State) (slab : Nat) : (s.discard slab).mem = s.mem := by simp [State.discard]

@[simp] theorem mem_dropClean (s : State) (slab : Nat) : (s.dropClean slab).mem = s.mem := by
  unfold State.dropClean
  (repeat' split) <;> simp

@[simp] theorem memKept_flushStart (s : State) (op scope label : Nat) :
    MemKept s (s.flushStart op scope label) := memKept_of fun h => by
  simp +contextual [State.flushStart, h]

@[simp] theorem memKept_flushGo (s : State) (src : RegSrc) (op scope label : Nat) :
    MemKept s (s.flushGo src op scope label) := memKept_of fun h => by
  simp +contextual [State.flushGo, h]

@[simp] theorem memKept_flushEnd (s : State) : MemKept s s.flushEnd := by
  refine memKept_of fun h => ?_
  unfold State.flushEnd
  dsimp only
  (repeat' split) <;> simp +contextual [h]

@[simp] theorem mem_srRelease (s : State) : s.srRelease.mem = s.mem := by simp [State.srRelease]

@[simp] theorem mem_srResetExit (s : State) : s.srResetExit.mem = s.mem := by simp [State.srResetExit]

/-! ### ScrubCore.lean -/

@[simp] theorem mem_setHalf (s : State) (b : Bool) (rs : List (List Byte)) : (s.setHalf b rs).mem = s.mem := by
  simp [State.setHalf]

@[simp] theorem memKept_repairFetch (s : State) (r : Repair) : MemKept s (s.repairFetch r) := memKept_of fun h => by
  simp +contextual [State.repairFetch, h]

@[simp] theorem mem_sparesOut (s : State) : s.sparesOut.mem = s.mem := by simp [State.sparesOut]

@[simp] theorem memKept_repairAdmit (s : State) : MemKept s s.repairAdmit := by
  refine memKept_of fun h => ?_
  unfold State.repairAdmit
  (repeat' split) <;> simp +contextual [h]

@[simp] theorem memKept_reportServe (s : State) : MemKept s s.reportServe := by
  refine memKept_of fun h => ?_
  unfold State.reportServe
  dsimp only
  (repeat' split) <;> simp +contextual [h]

@[simp] theorem memKept_walkOne (s : State) : MemKept s s.walkOne := memKept_of fun h => by simp +contextual [State.walkOne, h]

@[simp] theorem mem_setSlice (s : State) (l : Option (Nat × Nat)) : (s.setSlice l).mem = s.mem := by simp [State.setSlice]

@[simp] theorem memKept_sliceGo (n : Nat) (s : State)  : MemKept s (State.sliceGo n s) := by
  refine memKept_of fun h => ?_
  induction n generalizing s with
  | zero => exact h
  | succ n ih =>
    unfold State.sliceGo
    (repeat' split) <;> simp +contextual [h, ih]

@[simp] theorem memKept_kickScrub (s : State) : MemKept s s.kickScrub := memKept_of fun h => by
  simp +contextual [State.kickScrub, h]

/-! ### Fetch.lean -/

@[simp] theorem mem_writeDecoded (s : State) (op : SlabOp) (d : Decoded) (flags : Nat) :
    (s.writeDecoded op d flags).mem = s.mem := by simp [State.writeDecoded]

@[simp] theorem mem_writeOwed (s : State) (op : SlabOp) (d : Decoded) (flags : Nat) : (s.writeOwed op d flags).mem = s.mem := by
  simp [State.writeOwed]

@[simp] theorem mem_writeGone (s : State) (op : SlabOp) (d : Decoded) : (s.writeGone op d).mem = s.mem := by
  simp [State.writeGone]

@[simp] theorem mem_poisonBack (s : State) (op : SlabOp) (d : Decoded) : (s.poisonBack op d).mem = s.mem := by
  simp [State.poisonBack]

@[simp] theorem memKept_answer (s : State) (op : SlabOp) (data : List Byte) (poison fresh : Nat) :
    MemKept s (s.answer op data poison fresh) := by
  refine memKept_of fun h => ?_
  unfold State.answer
  split
  · exact h
  · split
    · exact h
    · dsimp only
      split
      · split <;> rename_i heq <;> simp [mem_of_pair heq, h]
      · simp [h]

@[simp] theorem memKept_kickRejoin (s : State) : MemKept s s.kickRejoin := by
  refine memKept_of fun h => ?_
  unfold State.kickRejoin
  (repeat' split) <;> simp +contextual [h]

@[simp] theorem memKept_kickSuspect (s : State) : MemKept s s.kickSuspect := memKept_of fun h => by
  simp +contextual [State.kickSuspect, h]

@[simp] theorem memKept_kickRebuild (s : State) : MemKept s s.kickRebuild := by
  refine memKept_of fun h => ?_
  unfold State.kickRebuild
  dsimp only
  (repeat' split) <;> simp +contextual [h]

@[simp] theorem memKept_kickSweeps (s : State) : MemKept s s.kickSweeps := memKept_of fun h => by
  simp +contextual [State.kickSweeps, h]

@[simp] theorem mem_kickRepair (s : State) : s.kickRepair.mem = s.mem := by
  unfold State.kickRepair
  dsimp only
  (repeat' split) <;> simp

@[simp] theorem mem_repairGot (s : State) (op : SlabOp) (d : Decoded) : (s.repairGot op d).mem = s.mem := by
  unfold State.repairGot
  dsimp only
  (repeat' split) <;> simp

@[simp] theorem memKept_finishOp (s : State) (op : SlabOp) (d : Decoded) : MemKept s (s.finishOp op d) := by
  refine memKept_of fun h => ?_
  unfold State.finishOp
  dsimp only
  (repeat' split) <;> simp +contextual [h]

@[simp] theorem mem_marchErasure (s : State) (op : SlabOp) (d : Decoded) : (s.marchErasure op d).mem = s.mem := by
  simp [State.marchErasure]

@[simp] theorem memKept_completeOp (s : State) (op : SlabOp) (got : List Delivery) :
    MemKept s (s.completeOp op got) := memKept_of fun h => by
  simp +contextual [State.completeOp, h]

@[simp] theorem mem_portionTimeout (s : State) (slab layer : Nat) : (s.portionTimeout slab layer).mem = s.mem := by
  simp [State.portionTimeout]

/-! ### Erasure.lean -/

@[simp] theorem mem_bankHashWrite (s : State) (src : RegSrc) (v : Nat) : (s.bankHashWrite src v).mem = s.mem := by
  simp [State.bankHashWrite]

@[simp] theorem mem_layerRefused (s : State) (src : RegSrc) (n : Nat) : (s.layerRefused src n).mem = s.mem := by
  simp [State.layerRefused]

@[simp] theorem memKept_reqLost (s : State) (src : RegSrc) (n : Nat) : MemKept s (s.reqLost src n) := memKept_of fun h => by
  simp +contextual [State.reqLost, h]

@[simp] theorem memKept_startRejoin (s : State) (n : Nat) : MemKept s (s.startRejoin n) := memKept_of fun h => by
  simp +contextual [State.startRejoin, h]

@[simp] theorem memKept_reqRejoin (s : State) (src : RegSrc) (n : Nat) : MemKept s (s.reqRejoin src n) := memKept_of fun h => by
  simp +contextual [State.reqRejoin, h]

@[simp] theorem mem_rejoinDone (s : State) : s.rejoinDone.mem = s.mem := by simp [State.rejoinDone]

@[simp] theorem mem_clearPos (s : State) (pos : Nat) : (s.clearPos pos).mem = s.mem := by simp [State.clearPos]

@[simp] theorem mem_suspectSettle (s : State) : s.suspectSettle.mem = s.mem := by simp [State.suspectSettle]

@[simp] theorem memKept_suspectStart (s : State) : MemKept s s.suspectStart := memKept_of fun h => by
  simp +contextual [State.suspectStart, h]

@[simp] theorem memKept_sweepDone (s : State) (pos : Nat) : MemKept s (s.sweepDone pos) := memKept_of fun h => by
  simp +contextual [State.sweepDone, h]

@[simp] theorem memKept_clearStart (s : State) : MemKept s s.clearStart := memKept_of fun h => by
  simp +contextual [State.clearStart, h]

@[simp] theorem memKept_stackClear (s : State) (src : RegSrc) : MemKept s (s.stackClear src) := memKept_of fun h => by
  simp +contextual [State.stackClear, h]

@[simp] theorem memKept_clearedDram (s : State) (p q : Nat) : MemKept s (s.clearedDram p q) := memKept_of fun h => by
  simp +contextual [State.clearedDram, h]

@[simp] theorem memKept_clearRun (s : State) (n : Nat) : MemKept s (s.clearRun n) := by
  refine memKept_of fun h => ?_
  unfold State.clearRun
  dsimp only
  (repeat' split) <;> simp +contextual [h]

@[simp] theorem memKept_clearTick (s : State) : MemKept s s.clearTick := memKept_of fun h => by
  simp +contextual [State.clearTick, h]

@[simp] theorem memKept_clearDone (s : State) : MemKept s s.clearDone := memKept_of fun h => by
  simp +contextual [State.clearDone, h]

/-! ### Scrub.lean -/

@[simp] theorem mem_recordAppend (s : State) : s.recordAppend.mem = s.mem := by
  unfold State.recordAppend
  dsimp only
  (repeat' split) <;> simp

@[simp] theorem mem_recordFlush (n : Nat) (s : State)  : (State.recordFlush n s).mem = s.mem := by
  induction n generalizing s with
  | zero => rfl
  | succ n ih =>
    unfold State.recordFlush
    (repeat' split) <;> simp [ih]

@[simp] theorem mem_repairUnlock (s : State) : s.repairUnlock.mem = s.mem := by simp [State.repairUnlock]

@[simp] theorem memKept_repairEnd (s : State) (r : Repair) : MemKept s (s.repairEnd r) := memKept_of fun h => by
  simp +contextual [State.repairEnd, h]

@[simp] theorem memKept_repairDone (s : State) : MemKept s s.repairDone := by
  refine memKept_of fun h => ?_
  unfold State.repairDone
  dsimp only
  (repeat' split) <;> simp +contextual [h]

@[simp] theorem memKept_repairCut (s : State) (b : Nat) : MemKept s (s.repairCut b) := by
  refine memKept_of fun h => ?_
  unfold State.repairCut
  dsimp only
  (repeat' split) <;> simp +contextual [h]

@[simp] theorem memKept_repairSettle (s : State) : MemKept s s.repairSettle := by
  refine memKept_of fun h => ?_
  unfold State.repairSettle
  (repeat' split) <;> simp +contextual [h]

@[simp] theorem memKept_repairRetry (s : State) : MemKept s s.repairRetry := by
  refine memKept_of fun h => ?_
  unfold State.repairRetry
  (repeat' split) <;> simp +contextual [h]

@[simp] theorem mem_repairAnswer (s : State) (b word : Nat) : (s.repairAnswer b word).mem = s.mem := by
  unfold State.repairAnswer
  dsimp only
  (repeat' split) <;> simp

@[simp] theorem mem_reportIn (s : State) (slab layer check : Nat) : (s.reportIn slab layer check).mem = s.mem := by
  simp [State.reportIn]

@[simp] theorem mem_grantSlice (s : State) (k : Nat) : (s.grantSlice k).mem = s.mem := by simp [State.grantSlice]

@[simp] theorem memKept_scrubSlice (s : State) : MemKept s s.scrubSlice := memKept_of fun h => by
  simp +contextual [State.scrubSlice, h]

@[simp] theorem mem_celogClear (s : State) : s.celogClear.mem = s.mem := by simp [State.celogClear]

@[simp] theorem mem_uelogClear (s : State) : s.uelogClear.mem = s.mem := by simp [State.uelogClear]

/-! ### Repairs.lean -/

@[simp] theorem mem_setRemaps (s : State) (b : Nat) (f : List Remap → List Remap) : (s.setRemaps b f).mem = s.mem := by
  simp [State.setRemaps]

@[simp] theorem mem_loadSpares (s : State) : s.loadSpares.mem = s.mem := by simp [State.loadSpares]

@[simp] theorem mem_loadLanes (s : State) (b : Nat) : (s.loadLanes b).mem = s.mem := by simp [State.loadLanes]

@[simp] theorem mem_loadLost (s : State) : s.loadLost.mem = s.mem := by simp [State.loadLost]

/-! ### Bench.lean -/

@[simp] theorem mem_modCtl (s : State) (b ch : Nat) (f : ChanCtl → ChanCtl) : (s.modCtl b ch f).mem = s.mem := by
  simp [State.modCtl]

@[simp] theorem mem_publishBench (s : State) (b : Nat) : (s.publishBench b).mem = s.mem := by simp [State.publishBench]

@[simp] theorem mem_refreshRate (s : State) (b : Nat) : (s.refreshRate b).mem = s.mem := by simp [State.refreshRate]

@[simp] theorem mem_estimateLost (s : State) (b : Nat) : (s.estimateLost b).mem = s.mem := by simp [State.estimateLost]

@[simp] theorem mem_warmupEnd (s : State) (b : Nat) : (s.warmupEnd b).mem = s.mem := by simp [State.warmupEnd]

@[simp] theorem mem_putBenchCfg (s : State) (b k v : Nat) : (s.putBenchCfg b k v).mem = s.mem := by
  unfold State.putBenchCfg
  (repeat' split) <;> simp

@[simp] theorem mem_applyBenchCfg (s : State) (b : Nat) : (s.applyBenchCfg b).mem = s.mem := by simp [State.applyBenchCfg]

@[simp] theorem mem_applyShaftCfg (s : State) (b : Nat) : (s.applyShaftCfg b).mem = s.mem := by simp [State.applyShaftCfg]

@[simp] theorem mem_powerUp (s : State) (ds : List Nat) : (s.powerUp ds).mem = s.mem := by simp [State.powerUp]

@[simp] theorem mem_loadBench (s : State) (b : Nat) : (s.loadBench b).mem = s.mem := by simp [State.loadBench]

@[simp] theorem mem_putBenchObj (s : State) (b k v : Nat) : (s.putBenchObj b k v).mem = s.mem := by
  unfold State.putBenchObj
  (repeat' split) <;> simp

@[simp] theorem mem_coreUp (s : State) (b : Nat) : (s.coreUp b).mem = s.mem := by simp [State.coreUp]

@[simp] theorem mem_benchesUp (s : State) (ds : List Nat) : (s.benchesUp ds).mem = s.mem := by simp [State.benchesUp]

@[simp] theorem mem_benchPowerUp (s : State) (b : Nat) : (s.benchPowerUp b).mem = s.mem := by simp [State.benchPowerUp]

@[simp] theorem memKept_performWrite (s : State) (b : Nat) (r : BReq) : MemKept s (s.performWrite b r) := memKept_of fun h => by
  simp +contextual [State.performWrite, h]

@[simp] theorem memKept_performReq (s : State) (b : Nat) (r : BReq) : MemKept s (s.performReq b r) := memKept_of fun h => by
  simp +contextual [State.performReq, h]

@[simp] theorem mem_leaveQueue (s : State) (b ch : Nat) (r : BReq) : (s.leaveQueue b ch r).mem = s.mem := by
  simp [State.leaveQueue]

@[simp] theorem mem_queueTask (s : State) (b ch bank group : Nat) : (s.queueTask b ch bank group).mem = s.mem := by
  simp [State.queueTask]

@[simp] theorem mem_fillTasks (s : State) (b ch : Nat) : (s.fillTasks b ch).mem = s.mem := by simp [State.fillTasks]

@[simp] theorem mem_countAct (s : State) (b ch bank row : Nat) : (s.countAct b ch bank row).mem = s.mem := by
  simp [State.countAct]

@[simp] theorem mem_countActs (s : State) (b ch bank group n : Nat) : (s.countActs b ch bank group n).mem = s.mem := by
  simp [State.countActs]

@[simp] theorem mem_spend (s : State) (b : Nat) : (s.spend b).mem = s.mem := by simp [State.spend]

@[simp] theorem mem_closeBank (s : State) (b ch bank : Nat) : (s.closeBank b ch bank).mem = s.mem := by simp [State.closeBank]

@[simp] theorem memKept_issueReq (s : State) (b ch : Nat) (r : BReq) : MemKept s (s.issueReq b ch r) := by
  refine memKept_of fun h => ?_
  unfold State.issueReq
  dsimp only
  (repeat' split) <;> simp +contextual [h]

@[simp] theorem mem_issueRefresh (s : State) (b ch bank : Nat) : (s.issueRefresh b ch bank).mem = s.mem := by
  simp [State.issueRefresh]

@[simp] theorem mem_issueTask (s : State) (b ch : Nat) (k : TrTask) : (s.issueTask b ch k).mem = s.mem := by
  simp [State.issueTask]

@[simp] theorem memKept_benchIssue (s : State) (b ch : Nat) : MemKept s (s.benchIssue b ch) := by
  refine memKept_of fun h => ?_
  unfold State.benchIssue
  dsimp only
  (repeat' split) <;> simp +contextual [h]

@[simp] theorem memKept_drainReq (b : Nat) (ch : Nat) (force : Bool) (r : BReq) (n : Nat) (s : State)  :
    MemKept s (State.drainReq b ch force r n s) := by
  refine memKept_of fun h => ?_
  induction n generalizing s with
  | zero => exact h
  | succ n ih =>
    unfold State.drainReq
    (repeat' split) <;> simp +contextual [h, ih]

@[simp] theorem memKept_drainChan (s : State) (b ch : Nat) (force : Bool) :
    MemKept s (s.drainChan b ch force) := memKept_of fun h => by
  simp +contextual [State.drainChan, h]

@[simp] theorem mem_drainEnd (s : State) (b : Nat) : (s.drainEnd b).mem = s.mem := by
  unfold State.drainEnd
  dsimp only
  (repeat' split) <;> simp

@[simp] theorem memKept_drainGo (s : State) (b : Nat) : MemKept s (s.drainGo b) := memKept_of fun h => by
  simp +contextual [State.drainGo, h]

@[simp] theorem memKept_drainFor (s : State) (b : Nat) (k : Drain) : MemKept s (s.drainFor b k) := memKept_of fun h => by
  simp +contextual [State.drainFor, h]

@[simp] theorem mem_dropPartial (s : State) (b : Nat) : (s.dropPartial b).mem = s.mem := by simp [State.dropPartial]

@[simp] theorem memKept_completeAccepted (s : State) (b : Nat) : MemKept s (s.completeAccepted b) := memKept_of fun h => by
  simp +contextual [State.completeAccepted, h]

@[simp] theorem mem_bankRefresh (s : State) (b ch bank : Nat) : (s.bankRefresh b ch bank).mem = s.mem := by
  simp [State.bankRefresh]

@[simp] theorem mem_taskAged (s : State) (b ch bank : Nat) : (s.taskAged b ch bank).mem = s.mem := by simp [State.taskAged]

@[simp] theorem mem_windowReset (s : State) (b ch bank : Nat) : (s.windowReset b ch bank).mem = s.mem := by
  simp [State.windowReset]

@[simp] theorem mem_patrolStatus (s : State) : s.patrolStatus.mem = s.mem := by simp [State.patrolStatus]

@[simp] theorem mem_patrolSlice (s : State) : s.patrolSlice.mem = s.mem := by simp [State.patrolSlice]

@[simp] theorem mem_reportsUp (b : Nat) (n : Nat) (s : State)  : (State.reportsUp b n s).mem = s.mem := by
  induction n generalizing s with
  | zero => rfl
  | succ n ih =>
    unfold State.reportsUp
    (repeat' split) <;> simp [ih]

@[simp] theorem mem_patrolSend (s : State) (b : Nat) : (s.patrolSend b).mem = s.mem := by simp [State.patrolSend]

@[simp] theorem mem_patrolReport (s : State) (b layer slab check : Nat) : (s.patrolReport b layer slab check).mem = s.mem := by
  simp [State.patrolReport]

@[simp] theorem memKept_patrolDone (s : State) (b : Nat) (got : List Delivery) : MemKept s (s.patrolDone b got) := by
  refine memKept_of fun h => ?_
  unfold State.patrolDone
  extract_lets x slab pos layers t full landed spent checked
  have ht : memOk t.mem = true := (congrArg memOk (mem_if (mem_fillTasks _ _ _) rfl)).trans h
  have hl : memOk landed.mem = true := by simp +contextual [landed, ht]
  have hs : memOk spent.mem = true := (congrArg memOk (mem_if rfl (by simp))).trans hl
  have hc : memOk checked.mem = true :=
    foldl_inv (fun t : State => memOk t.mem = true) _ (fun t n ht => by dsimp only; (repeat' split) <;> simp [ht]) _ hs
  clear_value t landed spent checked
  exact memOk_if ht (memOk_if (by simp [ht]) (by simp [hc]))

@[simp] theorem mem_patrolCopies (s : State) : s.patrolCopies.mem = s.mem := by simp [State.patrolCopies]

@[simp] theorem mem_remapSet (s : State) (b data : Nat) : (s.remapSet b data).mem = s.mem := by simp [State.remapSet]

@[simp] theorem mem_remapWrite (s : State) (src : RegSrc) (b data : Nat) : (s.remapWrite src b data).mem = s.mem := by
  unfold State.remapWrite
  (repeat' split) <;> simp

@[simp] theorem memKept_canaryFlip (s : State) (b : Nat) (bits : List Nat) :
    MemKept s (s.canaryFlip b bits) := memKept_of fun h => by
  simp +contextual [State.canaryFlip, h]

@[simp] theorem memKept_canaryEntry (s : State) (b : Nat) (bad : List Nat) :
    MemKept s (s.canaryEntry b bad) := memKept_of fun h => by
  simp +contextual [State.canaryEntry, h]

@[simp] theorem memKept_canaryExit (s : State) (b : Nat) (bad : List Nat) :
    MemKept s (s.canaryExit b bad) := memKept_of fun h => by
  simp +contextual [State.canaryExit, h]

@[simp] theorem mem_marksFrom (s : State) (b m : Nat) : (s.marksFrom b m).1.mem = s.mem := by simp [State.marksFrom]

@[simp] theorem memKept_canaryReport (s : State) (b entry m : Nat) :
    MemKept s (s.canaryReport b entry m) := memKept_of fun h => by
  simp +contextual [State.canaryReport, h]

@[simp] theorem mem_loadTset (s : State) (b l : Nat) : (s.loadTset b l).mem = s.mem := by simp [State.loadTset]

@[simp] theorem mem_swapTset (s : State) (b : Nat) : (s.swapTset b).mem = s.mem := by simp [State.swapTset]

@[simp] theorem memKept_benchPause (s : State) (b l : Nat) : MemKept s (s.benchPause b l) := memKept_of fun h => by
  simp +contextual [State.benchPause, h]

/-! ### Fuse.lean -/

@[simp] theorem mem_variantSettle (s : State) (w16 w19 : Nat) (good : Bool) : (s.variantSettle w16 w19 good).mem = s.mem := by
  simp [State.variantSettle]

@[simp] theorem mem_logFuse (s : State) (region word : Nat) : (s.logFuse region word).mem = s.mem := by simp [State.logFuse]

@[simp] theorem mem_sense (s : State) (reads : List FuseRead) : (s.sense reads).mem = s.mem := by simp [State.sense]

@[simp] theorem mem_fuseRecheck (s : State) (reads : List FuseRead) : (s.fuseRecheck reads).mem = s.mem := by
  simp [State.fuseRecheck]

@[simp] theorem mem_fuseReadGo (s : State) (reads : List FuseRead) : (s.fuseReadGo reads).mem = s.mem := by
  simp [State.fuseReadGo]

@[simp] theorem mem_fuseReadWrite (s : State) (src : RegSrc) (ctrl : Nat) (reads : List FuseRead) :
    (s.fuseReadWrite src ctrl reads).mem = s.mem := by simp [State.fuseReadWrite]

@[simp] theorem mem_burnUnlock (s : State) (key : Nat) : (s.burnUnlock key).mem = s.mem := by simp [State.burnUnlock]

@[simp] theorem mem_forceArm (s : State) (r : Nat) : (s.forceArm r).mem = s.mem := by simp [State.forceArm]

@[simp] theorem mem_burnEnd (s : State) (word result : Nat) : (s.burnEnd word result).mem = s.mem := by simp [State.burnEnd]

@[simp] theorem mem_burnGo (s : State) (word : Nat) (isSeal force : Bool) : (s.burnGo word isSeal force).mem = s.mem := by
  unfold State.burnGo
  dsimp only
  (repeat' split) <;> simp

@[simp] theorem mem_burned (s : State) (b : Burn) (c0 c1 : Nat) (good : Bool) : (s.burned b c0 c1 good).mem = s.mem := by
  simp [State.burned]

@[simp] theorem mem_rolled (s : State) (r0 r1 : Nat) : (s.rolled r0 r1).mem = s.mem := by simp [State.rolled]

@[simp] theorem mem_burnDone (s : State) (got0 got1 : Nat) : (s.burnDone got0 got1).mem = s.mem := by
  unfold State.burnDone
  dsimp only
  (repeat' split) <;> simp

@[simp] theorem mem_burnTick (s : State) : s.burnTick.mem = s.mem := by
  unfold State.burnTick
  dsimp only
  (repeat' split) <;> simp

/-! ### Shaft.lean -/

@[simp] theorem mem_setLink (s : State) (b st : Nat) : (s.setLink b st).mem = s.mem := by simp [State.setLink]

@[simp] theorem memKept_linkReady (s : State) (b : Nat) : MemKept s (s.linkReady b) := memKept_of fun h => by
  simp +contextual [State.linkReady, h]

@[simp] theorem memKept_goOffline (s : State) (b : Nat) : MemKept s (s.goOffline b) := memKept_of fun h => by
  simp +contextual [State.goOffline, h]

@[simp] theorem memKept_recover (s : State) (b : Nat) : MemKept s (s.recover b) := memKept_of fun h => by
  simp +contextual [State.recover, h]

@[simp] theorem memKept_lockLost (s : State) (b : Nat) : MemKept s (s.lockLost b) := memKept_of fun h => by
  simp +contextual [State.lockLost, h]

@[simp] theorem memKept_crcFail (s : State) (b : Nat) (down : Bool) : MemKept s (s.crcFail b down) := by
  refine memKept_of fun h => ?_
  unfold State.crcFail
  dsimp only
  (repeat' split) <;> simp +contextual [h]

@[simp] theorem memKept_tookInfo (s : State) (b : Nat) (down : Bool) (aux : Nat) :
    MemKept s (s.tookInfo b down aux) := memKept_of fun h => by
  simp +contextual [State.tookInfo, h]

@[simp] theorem mem_goodFrame (s : State) (b : Nat) (down : Bool) (f : Frame) : (s.goodFrame b down f).mem = s.mem := by
  simp [State.goodFrame]

@[simp] theorem memKept_recv (s : State) (b : Nat) (down : Bool) (type : Nat) (f : Frame) :
    MemKept s (s.recv b down type f).1 := memKept_of fun h => by simp +contextual [State.recv, h]

@[simp] theorem memKept_onFrame (s : State) (b : Nat) (down : Bool) (type : Nat) (f : Frame) (act : State → State)
    (hact : ∀ t : State, memOk t.mem = true → memOk (act t).mem = true) : MemKept s (s.onFrame b down type f act) := by
  refine memKept_of fun h => ?_
  unfold State.onFrame
  split <;> rename_i heq
  · exact hact _ (by simp [mem_of_pair heq, h])
  · simp [mem_of_pair heq, h]

@[simp] theorem memKept_idleFrame (s : State) (b : Nat) (down : Bool) (f : Frame) :
    MemKept s (s.idleFrame b down f) := memKept_of fun h => by
  simp +contextual [State.idleFrame, h]

@[simp] theorem mem_replayFrame (s : State) (b : Nat) (down : Bool) (f : Frame) : (s.replayFrame b down f).mem = s.mem := by
  simp [State.replayFrame]

@[simp] theorem mem_takeRecord (s : State) (b : Nat) (r : BReq) : (s.takeRecord b r).mem = s.mem := by simp [State.takeRecord]

@[simp] theorem memKept_reqFrame (s : State) (b : Nat) (f : Frame) : MemKept s (s.reqFrame b f) := memKept_of fun h => by
  simp +contextual [State.reqFrame, h]

@[simp] theorem memKept_holdData (s : State) (b : Nat) (down : Bool) (type : Nat) (f : Frame) :
    MemKept s (s.holdData b down type f) := memKept_of fun h => by simp +contextual [State.holdData, h]

@[simp] theorem mem_acceptWrites (s : State) (b : Nat) : (s.acceptWrites b).mem = s.mem := by simp [State.acceptWrites]

@[simp] theorem mem_takePortion (s : State) (b tag : Nat) (up : Bool) (p : List Byte) :
    (s.takePortion b tag up p).mem = s.mem := by
  unfold State.takePortion
  dsimp only
  (repeat' split) <;> simp

@[simp] theorem memKept_sideFrame (s : State) (b : Nat) (down : Bool) (f : Frame) :
    MemKept s (s.sideFrame b down f) := memKept_of fun h => by
  simp +contextual [State.sideFrame, h]

@[simp] theorem mem_benchWrite (s : State) (b word data : Nat) : (s.benchWrite b word data).mem = s.mem := by
  simp [State.benchWrite]

@[simp] theorem mem_answerReg (s : State) (b word data : Nat) : (s.answerReg b word data).mem = s.mem := by
  simp [State.answerReg]

@[simp] theorem mem_marchOrder (s : State) (b word : Nat) : (s.marchOrder b word).mem = s.mem := by
  unfold State.marchOrder
  dsimp only
  (repeat' split) <;> simp

@[simp] theorem memKept_regOver (s : State) (b : Nat) (give : State → State)
    (hgive : ∀ t : State, memOk t.mem = true → memOk (give t).mem = true) : MemKept s (s.regOver b give) := by
  refine memKept_of fun h => ?_
  have hg := hgive (s.modShaft b fun l => { l with reg := none }) (by simp [h])
  unfold State.regOver
  dsimp only
  split_ifs <;> simp [hg]

@[simp] theorem memKept_regRsp (s : State) (b : Nat) (f : Frame) : MemKept s (s.regRsp b f) :=
  memKept_onFrame s b false 0x22 f _ fun t ht => by
    dsimp only
    split
    · split
      · exact ht
      · refine (memKept_regOver t b _ fun u hu => ?_).ok ht
        split <;> simp [hu]
    · exact ht

@[simp] theorem memKept_regTimeout (s : State) (b : Nat) : MemKept s (s.regTimeout b) := by
  refine memKept_of fun h => ?_
  unfold State.regTimeout
  (repeat' split) <;> simp +contextual [h]

@[simp] theorem memKept_patrolRpt (s : State) (b : Nat) (f : Frame) : MemKept s (s.patrolRpt b f) := memKept_of fun h => by
  simp +contextual [State.patrolRpt, h]

@[simp] theorem memKept_holdFrame (s : State) (b : Nat) (f : Frame) : MemKept s (s.holdFrame b f) := memKept_of fun h => by
  simp +contextual [State.holdFrame, h]

@[simp] theorem memKept_retainFrame (s : State) (b : Nat) (f : Frame) : MemKept s (s.retainFrame b f) := memKept_of fun h => by
  simp +contextual [State.retainFrame, h]

@[simp] theorem memKept_readyFrame (s : State) (b : Nat) (f : Frame) : MemKept s (s.readyFrame b f) := memKept_of fun h => by
  simp +contextual [State.readyFrame, h]

@[simp] theorem memKept_replayTimeout (s : State) (b : Nat) (down : Bool) :
    MemKept s (s.replayTimeout b down) := memKept_of fun h => by
  simp +contextual [State.replayTimeout, h]

@[simp] theorem mem_violExchange (s : State) (b : Nat) : (s.violExchange b).mem = s.mem := by simp [State.violExchange]

@[simp] theorem memKept_stuffing (s : State) (b : Nat) (up : Bool) (lane : Nat) :
    MemKept s (s.stuffing b up lane) := memKept_of fun h => by
  simp +contextual [State.stuffing, h]

@[simp] theorem mem_mapDir (s : State) (b : Nat) (up : Bool) : (s.mapDir b up).1.mem = s.mem := by simp [State.mapDir]

@[simp] theorem mem_applyMap (s : State) (b : Nat) : (s.applyMap b).mem = s.mem := by simp [State.applyMap]

@[simp] theorem mem_failLanes (s : State) (b : Nat) (ls : List (Bool × Nat)) : (s.failLanes b ls).mem = s.mem := by
  simp [State.failLanes]

@[simp] theorem mem_loadSeeds (s : State) (b : Nat) (down : Bool) : (s.loadSeeds b down).mem = s.mem := by
  simp [State.loadSeeds]

@[simp] theorem mem_restartDir (s : State) (b : Nat) (down : Bool) : (s.restartDir b down).mem = s.mem := by
  simp [State.restartDir]

@[simp] theorem memKept_recoveryDone (s : State) (b : Nat) (dn up : List Nat) : MemKept s (s.recoveryDone b dn up) := by
  refine memKept_of fun h => ?_
  unfold State.recoveryDone
  dsimp only
  (repeat' split) <;> simp +contextual [h]

@[simp] theorem memKept_recoveryTimeout (s : State) (b : Nat) : MemKept s (s.recoveryTimeout b) := memKept_of fun h => by
  simp +contextual [State.recoveryTimeout, h]

@[simp] theorem mem_spreadPending (s : State) : s.spreadPending.mem = s.mem := by simp [State.spreadPending]

@[simp] theorem mem_spreadApply (s : State) : s.spreadApply.mem = s.mem := by simp [State.spreadApply]

@[simp] theorem mem_dspreadWrite (s : State) (src : RegSrc) (v : Nat) : (s.dspreadWrite src v).mem = s.mem := by
  simp [State.dspreadWrite]

@[simp] theorem mem_stepStart (s : State) (b step level : Nat) : (s.stepStart b step level).mem = s.mem := by
  simp [State.stepStart]

@[simp] theorem memKept_enterService (s : State) (b : Nat) : MemKept s (s.enterService b) := memKept_of fun h => by
  simp +contextual [State.enterService, h]

@[simp] theorem mem_recordAlign (s : State) (level : Nat) (i : List Nat) : (s.recordAlign level i).mem = s.mem := by
  unfold State.recordAlign
  dsimp only
  (repeat' split) <;> simp

@[simp] theorem mem_loadAlign (s : State) (level : Nat) (i : List Nat) : (s.loadAlign level i).mem = s.mem := by
  simp [State.loadAlign]

@[simp] theorem mem_laneStep (s : State) (b step : Nat) (lanes : List (Nat × Nat)) (d l : Nat) :
    (s.laneStep b step lanes d l).1.mem = s.mem := by
  unfold State.laneStep
  dsimp only
  (repeat' split) <;> simp

@[simp] theorem memKept_stepFail (s : State) (b code : Nat) : MemKept s (s.stepFail b code) := memKept_of fun h => by
  simp +contextual [State.stepFail, h]

@[simp] theorem mem_unfenceBench (s : State) (b : Nat) : (s.unfenceBench b).mem = s.mem := by simp [State.unfenceBench]

@[simp] theorem memKept_rejoinBack (s : State) (b : Nat) : MemKept s (s.rejoinBack b) := memKept_of fun h => by
  simp +contextual [State.rejoinBack, h]

@[simp] theorem memKept_stepDone (s : State) (b : Nat) (lanes : List (Nat × Nat)) : MemKept s (s.stepDone b lanes) := by
  refine memKept_of fun h => ?_
  unfold State.stepDone
  dsimp only
  (repeat' split) <;> simp +contextual [h]

@[simp] theorem mem_failedWrite (s : State) (src : RegSrc) (off data : Nat) : (s.failedWrite src off data).mem = s.mem := by
  simp [State.failedWrite]

@[simp] theorem mem_alignAll (s : State) (b level : Nat) : (s.alignAll b level).mem = s.mem := by simp [State.alignAll]

@[simp] theorem memKept_mapChange (s : State) (b : Nat) : MemKept s (s.mapChange b) := memKept_of fun h => by
  simp +contextual [State.mapChange, h]

@[simp] theorem mem_laneOver (s : State) : s.laneOver.mem = s.mem := by simp [State.laneOver]

@[simp] theorem memKept_laneEnd (s : State) : MemKept s s.laneEnd := by
  refine memKept_of fun h => ?_
  unfold State.laneEnd
  (repeat' split) <;> simp +contextual [h]

@[simp] theorem mem_lanePause (s : State) : s.lanePause.mem = s.mem := by
  unfold State.lanePause
  dsimp only
  (repeat' split) <;> simp

@[simp] theorem mem_dirtySettle (s : State) : s.dirtySettle.mem = s.mem := by simp [State.dirtySettle]

@[simp] theorem mem_benchTrims (s : State) (b : Nat) : (s.benchTrims b).mem = s.mem := by simp [State.benchTrims]

@[simp] theorem mem_loadSet (s : State) (b l : Nat) : (s.loadSet b l).mem = s.mem := by simp [State.loadSet]

@[simp] theorem mem_loadSets (s : State) : s.loadSets.mem = s.mem := by simp [State.loadSets]

@[simp] theorem mem_landSet (s : State) (b : Nat) : (s.landSet b).mem = s.mem := by simp [State.landSet]

@[simp] theorem memKept_pauseStart (s : State) : MemKept s s.pauseStart := memKept_of fun h => by
  simp +contextual [State.pauseStart, h]

@[simp] theorem memKept_pauseEnd (s : State) (locked : List Nat) : MemKept s (s.pauseEnd locked) := by
  refine memKept_of fun h => ?_
  unfold State.pauseEnd
  split
  · exact h
  · extract_lets was drained bs levelled power settled driven resumed lost pumped
    have hdrained : memOk drained.mem = true :=
      foldl_inv (fun t : State => memOk t.mem = true) _ (fun t n ht => by (repeat' split) <;> simp [ht]) _ h
    have hlevel : memOk levelled.mem = true := by simp [levelled, hdrained]
    have hdriven : memOk driven.mem = true := (congrArg memOk (mem_if (mem_driveVid _ _) rfl)).trans hlevel
    have hresumed : memOk resumed.mem = true :=
      foldl_inv (fun t : State => memOk t.mem = true) _ (fun t n ht => by simp [ht]) _ hdriven
    have hpumped : memOk pumped.mem = true := by simp +contextual [pumped, hresumed]
    split_ifs <;> simp [hpumped]

/-! ### Override.lean -/

@[simp] theorem memKept_applyField (s : State) (w : Nat) : MemKept s (s.applyField w) := by
  refine memKept_of fun h => ?_
  unfold State.applyField
  dsimp only
  (repeat' split) <;> simp +contextual [h]

@[simp] theorem memKept_fuseChanged (s : State) (w : Nat) : MemKept s (s.fuseChanged w) := memKept_of fun h => by
  simp +contextual [State.fuseChanged, h]

@[simp] theorem memKept_overrideSet (s : State) (w : Nat) : MemKept s (s.overrideSet w) := memKept_of fun h => by
  simp +contextual [State.overrideSet, h]

@[simp] theorem memKept_overrideClear (s : State) (w : Nat) : MemKept s (s.overrideClear w) := memKept_of fun h => by
  simp +contextual [State.overrideClear, h]

/-! ### Mgmt.lean -/

@[simp] theorem mem_setSlot (s : State) (k : Nat) (img : List Byte) : (s.setSlot k img).mem = s.mem := by simp [State.setSlot]

@[simp] theorem mem_imageRuns (s : State) (img : List Byte) : (s.imageRuns img).mem = s.mem := by simp [State.imageRuns]

@[simp] theorem mem_bootSlot (s : State) : s.bootSlot.mem = s.mem := by simp [State.bootSlot]

@[simp] theorem mem_bootTimeout (s : State) : s.bootTimeout.mem = s.mem := by simp [State.bootTimeout]

@[simp] theorem mem_confirm (s : State) : s.confirm.mem = s.mem := by simp [State.confirm]

@[simp] theorem mem_updateFail (s : State) (code : Nat) : (s.updateFail code).mem = s.mem := by simp [State.updateFail]

@[simp] theorem mem_updateBegin (s : State) (carrier total : Nat) : (s.updateBegin carrier total).mem = s.mem := by
  simp [State.updateBegin]

@[simp] theorem mem_updateData (s : State) (off : Nat) (bs : List Byte) : (s.updateData off bs).mem = s.mem := by
  simp [State.updateData]

@[simp] theorem mem_updateCommit (s : State) (mode : Nat) : (s.updateCommit mode).mem = s.mem := by simp [State.updateCommit]

@[simp] theorem mem_updateAbort (s : State) : s.updateAbort.mem = s.mem := by simp [State.updateAbort]

@[simp] theorem mem_updateTokenLost (s : State) : s.updateTokenLost.mem = s.mem := by simp [State.updateTokenLost]

@[simp] theorem mem_updateVerified (s : State) (ok : Bool) : (s.updateVerified ok).mem = s.mem := by simp [State.updateVerified]

@[simp] theorem mem_shiftActivate (s : State) : s.shiftActivate.mem = s.mem := by simp [State.shiftActivate]

@[simp] theorem mem_wdogTick (s : State) : s.wdogTick.mem = s.mem := by simp [State.wdogTick]

@[simp] theorem mem_watchdog (s : State) : s.watchdog.mem = s.mem := by simp [State.watchdog]

@[simp] theorem mem_persistStart (s : State) : s.persistStart.mem = s.mem := by simp [State.persistStart]

@[simp] theorem mem_persistCheck (s : State) : s.persistCheck.mem = s.mem := by simp [State.persistCheck]

@[simp] theorem mem_persistDone (s : State) : s.persistDone.mem = s.mem := by
  unfold State.persistDone
  dsimp only
  (repeat' split) <;> simp

@[simp] theorem mem_resumeLog (s : State) : s.resumeLog.mem = s.mem := by
  unfold State.resumeLog
  dsimp only
  (repeat' split) <;> simp

/-! ### SelfTest.lean -/

@[simp] theorem mem_csKind (s : State) : s.csKind.mem = s.mem := by simp [State.csKind]

@[simp] theorem mem_csSkip (s : State) : s.csSkip.mem = s.mem := by simp [State.csSkip]

@[simp] theorem mem_csMemStep (s : State) : s.csMemStep.mem = s.mem := by simp [State.csMemStep]

@[simp] theorem mem_csMemSkip (n : Nat) (s : State)  : (State.csMemSkip n s).mem = s.mem := by
  induction n generalizing s with
  | zero => rfl
  | succ n ih =>
    unfold State.csMemSkip
    (repeat' split) <;> simp [ih]

@[simp] theorem mem_plan (s : State) (layer pos group : Nat) : (s.plan layer pos group).mem = s.mem := by simp [State.plan]

@[simp] theorem mem_csRecord (s : State) (kind layer pos row rows : Nat) : (s.csRecord kind layer pos row rows).mem = s.mem := by
  simp [State.csRecord]

@[simp] theorem mem_csMemSlice (s : State) : s.csMemSlice.mem = s.mem := by
  unfold State.csMemSlice
  have hgr : (s.grantSlice 2).mem = s.mem := mem_grantSlice _ _
  refine mem_if rfl ?_
  generalize s.grantSlice 2 = t at hgr ⊢
  have hu : (State.csMemSkip 32 t).mem = s.mem := (mem_csMemSkip _ _).trans hgr
  refine mem_if (by simp [hgr]) ?_
  generalize State.csMemSkip 32 t = u at hu ⊢
  refine mem_if (by simp [hgr]) ?_
  refine (mem_csKind _).trans ((mem_mk ..).trans ((mem_eta _).trans ?_))
  refine (mem_regAccess _ _ _).trans ((mem_draw _).trans ?_)
  simp [hu]

@[simp] theorem memKept_marched (s : State) (layer : Nat) : MemKept s (s.marched layer) := memKept_of fun h => by
  simp +contextual [State.marched, h]

@[simp] theorem mem_marchTokens (s : State) (b : Nat) : (s.marchTokens b).mem = s.mem := by simp [State.marchTokens]

@[simp] theorem memKept_csMarchDone (s : State) (fails : List Nat) : MemKept s (s.csMarchDone fails) := by
  refine memKept_of fun h => ?_
  unfold State.csMarchDone
  dsimp only
  (repeat' split) <;> simp +contextual [h]

@[simp] theorem mem_watchRow (s : State) (layer pos row : Nat) : (s.watchRow layer pos row).mem = s.mem := by
  simp [State.watchRow]

@[simp] theorem mem_csFailInfo (s : State) (row layer pos : Nat) : (s.csFailInfo row layer pos).mem = s.mem := by
  simp [State.csFailInfo]

@[simp] theorem mem_csFailed (s : State) : s.csFailed.mem = s.mem := by simp [State.csFailed]

@[simp] theorem mem_serviceSettle (s : State) : s.serviceSettle.mem = s.mem := by simp [State.serviceSettle]

@[simp] theorem memKept_restoreNext (s : State) : MemKept s s.restoreNext := memKept_of fun h => by
  simp +contextual [State.restoreNext, h]

@[simp] theorem memKept_csRebuilt (s : State) : MemKept s s.csRebuilt := by
  refine memKept_of fun h => ?_
  unfold State.csRebuilt
  dsimp only
  (repeat' split) <;> simp +contextual [h]

@[simp] theorem mem_wayEmpty (s : State) : s.wayEmpty.mem = s.mem := by
  unfold State.wayEmpty
  dsimp only
  (repeat' split) <;> simp

@[simp] theorem mem_csWaySlice (s : State) : s.csWaySlice.mem = s.mem := by simp [State.csWaySlice]

@[simp] theorem mem_wayFailed (s : State) (w : Nat) : (s.wayFailed w).mem = s.mem := by simp [State.wayFailed]

@[simp] theorem mem_csWayDone (s : State) (pass : Bool) : (s.csWayDone pass).mem = s.mem := by
  unfold State.csWayDone
  dsimp only
  (repeat' split) <;> simp

@[simp] theorem mem_setLanePtr (s : State) (p : Nat × Bool × Nat) : (s.setLanePtr p).mem = s.mem := by simp [State.setLanePtr]

@[simp] theorem memKept_csLaneSlice (s : State) : MemKept s s.csLaneSlice := by
  refine memKept_of fun h => ?_
  unfold State.csLaneSlice
  dsimp only
  (repeat' split) <;> simp +contextual [h]

@[simp] theorem mem_mapDirs (s : State) (b : Nat) : (s.mapDirs b).mem = s.mem := by simp [State.mapDirs]

@[simp] theorem memKept_csLaneDone (s : State) (errors : Option Nat) : MemKept s (s.csLaneDone errors) := by
  refine memKept_of fun h => ?_
  unfold State.csLaneDone
  dsimp only
  (repeat' split) <;> simp +contextual [h]

@[simp] theorem mem_serviceEnter (s : State) (src : RegSrc) : (s.serviceEnter src).mem = s.mem := by simp [State.serviceEnter]

@[simp] theorem memKept_serviceLeave (s : State) : MemKept s s.serviceLeave := memKept_of fun h => by
  simp +contextual [State.serviceLeave, h]

@[simp] theorem memKept_serviceExit (s : State) (src : RegSrc) : MemKept s (s.serviceExit src) := memKept_of fun h => by
  simp +contextual [State.serviceExit, h]

@[simp] theorem mem_testResult (s : State) (code result : Nat) : (s.testResult code result).mem = s.mem := by
  simp [State.testResult]

@[simp] theorem memKept_removeBench (s : State) (b : Nat) : MemKept s (s.removeBench b) := memKept_of fun h => by
  simp +contextual [State.removeBench, h]

@[simp] theorem memKept_testGo (s : State) (code target pos : Nat) : MemKept s (s.testGo code target pos) := by
  refine memKept_of fun h => ?_
  unfold State.testGo
  dsimp only
  (repeat' split) <;> simp +contextual [h]

@[simp] theorem mem_remapRow (s : State) (row layer pos : Nat) : (s.remapRow row layer pos).mem = s.mem := by
  unfold State.remapRow
  dsimp only
  (repeat' split) <;> simp

@[simp] theorem mem_sramFailed (s : State) (fails : List (Nat × Nat × Nat)) : (s.sramFailed fails).mem = s.mem := by
  simp [State.sramFailed]

@[simp] theorem memKept_testFailed (s : State) (r : TestRun) (fails : List (Nat × Nat × Nat)) :
    MemKept s (s.testFailed r fails) := by
  refine memKept_of fun h => ?_
  unfold State.testFailed
  (repeat' split) <;> simp +contextual [h]

@[simp] theorem memKept_marchedAll (s : State) : MemKept s s.marchedAll := memKept_of fun h => by
  simp +contextual [State.marchedAll, h]

@[simp] theorem mem_testBusy (s : State) : s.testBusy.mem = s.mem := by simp [State.testBusy]

@[simp] theorem mem_noteRan (s : State) (code target : Nat) : (s.noteRan code target).mem = s.mem := by simp [State.noteRan]

@[simp] theorem memKept_lbistDone (s : State) (b : Nat) (pass : Bool) : MemKept s (s.lbistDone b pass) := memKept_of fun h => by
  simp +contextual [State.lbistDone, h]

@[simp] theorem memKept_testBack (s : State) (b : Nat) : MemKept s (s.testBack b) := memKept_of fun h => by
  simp +contextual [State.testBack, h]

@[simp] theorem mem_bankMarched (s : State) (r : TestRun) : (s.bankMarched r).mem = s.mem := by simp [State.bankMarched]

@[simp] theorem memKept_testDone (s : State) (fails : List (Nat × Nat × Nat)) : MemKept s (s.testDone fails) := by
  refine memKept_of fun h => ?_
  unfold State.testDone
  dsimp only
  (repeat' split) <;> simp +contextual [h]

@[simp] theorem mem_marchSegment (s : State) : s.marchSegment.mem = s.mem := by
  unfold State.marchSegment
  dsimp only
  (repeat' split) <;> simp

@[simp] theorem memKept_serviceAbort (s : State) : MemKept s s.serviceAbort := by
  refine memKept_of fun h => ?_
  unfold State.serviceAbort
  dsimp only
  (repeat' split) <;> simp +contextual [h]

/-! ### Calib.lean -/

@[simp] theorem mem_coefSettle (s : State) : s.coefSettle.mem = s.mem := by simp [State.coefSettle]

@[simp] theorem mem_calLoad (s : State) : s.calLoad.mem = s.mem := by simp [State.calLoad]

@[simp] theorem mem_measure (s : State) (ok : Nat → Bool) (measured : List (Nat × Byte)) :
    (s.measure ok measured).mem = s.mem := by simp [State.measure]

@[simp] theorem mem_calDefer (s : State) (bench : Nat) : (s.calDefer bench).mem = s.mem := by simp [State.calDefer]

@[simp] theorem mem_calGo (s : State) (kind bench : Nat) : (s.calGo kind bench).mem = s.mem := by simp [State.calGo]

@[simp] theorem memKept_calTick (s : State) : MemKept s s.calTick := by
  refine memKept_of fun h => ?_
  unfold State.calTick
  dsimp only
  (repeat' split) <;> simp +contextual [h]

@[simp] theorem memKept_calDone (s : State) (measured : List (Nat × Byte)) : MemKept s (s.calDone measured) := by
  refine memKept_of fun h => ?_
  unfold State.calDone
  dsimp only
  (repeat' split) <;> simp +contextual [h]

@[simp] theorem mem_calApply (s : State) : s.calApply.mem = s.mem := by simp [State.calApply]

@[simp] theorem mem_calInForce (s : State) : s.calInForce.mem = s.mem := by
  unfold State.calInForce
  dsimp only
  (repeat' split) <;> simp

@[simp] theorem mem_calReload (s : State) : s.calReload.mem = s.mem := by simp [State.calReload]

@[simp] theorem mem_shadowWrite (s : State) (bs : List Byte) : (s.shadowWrite bs).mem = s.mem := by simp [State.shadowWrite]

@[simp] theorem mem_setCopy (s : State) (k : Nat) (r : List Byte) : (s.setCopy k r).mem = s.mem := by simp [State.setCopy]

@[simp] theorem mem_calSave (s : State) : s.calSave.mem = s.mem := by simp [State.calSave]

@[simp] theorem mem_calSaved (s : State) (done : Bool) : (s.calSaved done).mem = s.mem := by
  unfold State.calSaved
  dsimp only
  (repeat' split) <;> simp

@[simp] theorem mem_saveTick (s : State) : s.saveTick.mem = s.mem := by
  unfold State.saveTick
  dsimp only
  (repeat' split) <;> simp

/-! ### Fault.lean -/

@[simp] theorem mem_firstSettle (s : State) : s.firstSettle.mem = s.mem := by simp [State.firstSettle]

@[simp] theorem mem_stickyClear (s : State) (w data : Nat) : (s.stickyClear w data).mem = s.mem := by simp [State.stickyClear]

@[simp] theorem mem_fenceRelease (s : State) (data : Nat) : (s.fenceRelease data).mem = s.mem := by simp [State.fenceRelease]

@[simp] theorem mem_reactField (s : State) (n v : Nat) : (s.reactField n v).1.mem = s.mem := by simp [State.reactField]

@[simp] theorem mem_reactWrite (s : State) (src : RegSrc) (w data : Nat) : (s.reactWrite src w data).mem = s.mem := by
  simp [State.reactWrite]

@[simp] theorem mem_setLock (s : State) : s.setLock.mem = s.mem := by simp [State.setLock]

@[simp] theorem mem_shadowTick (s : State) : s.shadowTick.mem = s.mem := by simp [State.shadowTick]

@[simp] theorem mem_shadowEnd (s : State) (t : Nat) : (s.shadowEnd t).mem = s.mem := by simp [State.shadowEnd]

@[simp] theorem mem_inject (s : State) (src : RegSrc) (checker target dir : Nat) (double : Bool) (count : Nat) :
    (s.inject src checker target dir double count).mem = s.mem := by simp [State.inject]

/-! ### Views.lean -/

@[simp] theorem mem_loRead (s : State) (off : Nat) : (s.loRead off).mem = s.mem := by
  unfold State.loRead
  (repeat' split) <;> simp

/-! ### Objects.lean -/

@[simp] theorem mem_modCarrier (s : State) (c : Nat) (f : CarrierSt → CarrierSt) : (s.modCarrier c f).mem = s.mem := by
  simp [State.modCarrier]

@[simp] theorem mem_writeCopy (s : State) (es : List SavedVal) : (s.writeCopy es).mem = s.mem := by
  unfold State.writeCopy
  dsimp only
  (repeat' split) <;> simp

@[simp] theorem mem_saveEnd (s : State) (es : List SavedVal) (ok : Bool) : (s.saveEnd es ok).mem = s.mem := by
  simp [State.saveEnd]

/-! ### Power.lean -/

@[simp] theorem mem_refuseEntry (s : State) (target block reason source tick : Nat) :
    (s.refuseEntry target block reason source tick).mem = s.mem := by simp [State.refuseEntry]

@[simp] theorem mem_entryDone (s : State) (target source tick : Nat) : (s.entryDone target source tick).mem = s.mem := by
  simp [State.entryDone]

@[simp] theorem mem_askBenches (s : State) (target : Nat) : (s.askBenches target).mem = s.mem := by simp [State.askBenches]

@[simp] theorem mem_quiesce (s : State) (b target : Nat) : (s.quiesce b target).mem = s.mem := by
  unfold State.quiesce
  dsimp only
  (repeat' split) <;> simp

@[simp] theorem memKept_restartBlocks (s : State) : MemKept s s.restartBlocks := memKept_of fun h => by
  simp +contextual [State.restartBlocks, h]

@[simp] theorem memKept_askBlock (s : State) (b : Nat) : MemKept s (s.askBlock b) := by
  refine memKept_of fun h => ?_
  unfold State.askBlock
  dsimp only
  (repeat' split) <;> simp +contextual [h]

@[simp] theorem memKept_requestState (s : State) (target source : Nat) :
    MemKept s (s.requestState target source) := memKept_of fun h => by
  simp +contextual [State.requestState, h]

@[simp] theorem memKept_powerReq (s : State) (src : RegSrc) (target : Nat) :
    MemKept s (s.powerReq src target) := memKept_of fun h => by
  simp +contextual [State.powerReq, h]

@[simp] theorem memKept_autoDoze (s : State) : MemKept s s.autoDoze := memKept_of fun h => by
  simp +contextual [State.autoDoze, h]

@[simp] theorem mem_latchWake (s : State) (k : Nat) : (s.latchWake k).mem = s.mem := by simp [State.latchWake]

@[simp] theorem mem_wakePin (s : State) (k : Nat) : (s.wakePin k).mem = s.mem := by simp [State.wakePin]

@[simp] theorem mem_signalPme (s : State) (k : Nat) : (s.signalPme k).mem = s.mem := by simp [State.signalPme]

@[simp] theorem mem_exitRest (s : State) : s.exitRest.mem = s.mem := by simp [State.exitRest]

@[simp] theorem mem_wakeBy (s : State) (k : Nat) : (s.wakeBy k).mem = s.mem := by
  unfold State.wakeBy
  (repeat' split) <;> simp

@[simp] theorem mem_wakeRest (s : State) : s.wakeRest.mem = s.mem := by simp [State.wakeRest]

@[simp] theorem memKept_reverseEntry (s : State) (benches : Bool) : MemKept s (s.reverseEntry benches) := memKept_of fun h => by
  simp +contextual [State.reverseEntry, h]

@[simp] theorem mem_persistPages (s : State) : s.persistPages.mem = s.mem := by
  unfold State.persistPages
  dsimp only
  (repeat' split) <;> simp

@[simp] theorem memKept_blockGrants (s : State) (b : Nat) : MemKept s (s.blockGrants b) := by
  refine memKept_of fun h => ?_
  unfold State.blockGrants
  split
  · split <;> simp [h]
  · split <;> simp [h]
  · refine memOk_if ?_ h
    have ht : memOk (State.recordFlush s.ras.recDue.length s).persistAll.mem = true := by simp [h]
    generalize (State.recordFlush s.ras.recDue.length s).persistAll = t at ht ⊢
    refine memOk_if ?_ ht
    exact (congrArg memOk ((mem_saveEnd _ _ _).trans (mem_flashOp _))).trans ht
  · exact h

@[simp] theorem mem_prepareEmber (s : State) : s.prepareEmber.mem = s.mem := by simp [State.prepareEmber]

@[simp] theorem memKept_blockGrant (s : State) : MemKept s s.blockGrant := by
  refine memKept_of fun h => ?_
  unfold State.blockGrant
  dsimp only
  (repeat' split) <;> simp +contextual [h]

@[simp] theorem mem_switchDone (s : State) : s.switchDone.mem = s.mem := by simp [State.switchDone]

@[simp] theorem memKept_readyTimeout (s : State) (b : Nat) : MemKept s (s.readyTimeout b) := memKept_of fun h => by
  simp +contextual [State.readyTimeout, h]

@[simp] theorem mem_perfLimit (s : State) (v : Nat) : (s.perfLimit v).mem = s.mem := by simp [State.perfLimit]

/-! ### TimeBase.lean -/

@[simp] theorem mem_loadNumber (s : State) (n : Nat) : (s.loadNumber n).mem = s.mem := by simp [State.loadNumber]

@[simp] theorem mem_tickLoad (s : State) (hi : Nat) : (s.tickLoad hi).mem = s.mem := by simp [State.tickLoad]

@[simp] theorem mem_freeRun (s : State) (source : Nat) : (s.freeRun source).mem = s.mem := by simp [State.freeRun]

@[simp] theorem mem_timeCtrl (s : State) (v : Nat) : (s.timeCtrl v).mem = s.mem := by simp [State.timeCtrl]

@[simp] theorem mem_pinSilent (s : State) : s.pinSilent.mem = s.mem := by simp [State.pinSilent]

@[simp] theorem mem_beaconLost (s : State) : s.beaconLost.mem = s.mem := by simp [State.beaconLost]

@[simp] theorem mem_schedFlags (s : State) (i data : Nat) : (s.schedFlags i data).mem = s.mem := by simp [State.schedFlags]

@[simp] theorem mem_schedWrite (s : State) (src : RegSrc) (i w data : Nat) : (s.schedWrite src i w data).mem = s.mem := by
  unfold State.schedWrite
  dsimp only
  (repeat' split) <;> simp

@[simp] theorem memKept_schedAct (s : State) (i act : Nat) (run : State → Nat → State)
    (hrun : ∀ (t : State) (n : Nat), memOk t.mem = true → memOk (run t n).mem = true) : MemKept s (s.schedAct i act run) := by
  refine memKept_of fun h => ?_
  unfold State.schedAct
  dsimp only
  split
  · exact h
  · split
    · simp [h]
    · exact hrun _ _ (by simp [h])

@[simp] theorem mem_setCap (s : State) (v : Nat) : (s.setCap v).mem = s.mem := by simp [State.setCap]

@[simp] theorem mem_shiftFresh (s : State) : s.shiftFresh.mem = s.mem := by simp [State.shiftFresh]

@[simp] theorem mem_startMoved (s : State) : s.startMoved.mem = s.mem := by simp [State.startMoved]

@[simp] theorem mem_shiftTicks (s : State) (src : RegSrc) (off data : Nat) : (s.shiftTicks src off data).mem = s.mem := by
  unfold State.shiftTicks
  dsimp only
  (repeat' split) <;> simp

@[simp] theorem memKept_shiftArm (s : State) (src : RegSrc) : MemKept s (s.shiftArm src) := memKept_of fun h => by
  simp +contextual [State.shiftArm, h]

@[simp] theorem memKept_shiftWithdraw (s : State) (src : RegSrc) : MemKept s (s.shiftWithdraw src) := memKept_of fun h => by
  simp +contextual [State.shiftWithdraw, h]

@[simp] theorem mem_shiftEndEarly (s : State) : s.shiftEndEarly.mem = s.mem := by simp [State.shiftEndEarly]

@[simp] theorem memKept_shiftCtrl (s : State) (src : RegSrc) (data : Nat) :
    MemKept s (s.shiftCtrl src data) := memKept_of fun h => by
  simp +contextual [State.shiftCtrl, h]

@[simp] theorem mem_clearQueues (s : State) : s.clearQueues.mem = s.mem := by simp [State.clearQueues]

@[simp] theorem memKept_shiftBegin (s : State) : MemKept s s.shiftBegin := memKept_of fun h => by
  simp +contextual [State.shiftBegin, h]

@[simp] theorem mem_deferStart (s : State) : s.deferStart.mem = s.mem := by simp [State.deferStart]

@[simp] theorem mem_shiftPassed (s : State) : s.shiftPassed.mem = s.mem := by simp [State.shiftPassed]

@[simp] theorem memKept_shiftStartTick (s : State) : MemKept s s.shiftStartTick := memKept_of fun h => by
  simp +contextual [State.shiftStartTick, h]

@[simp] theorem mem_drainSettle (s : State) : s.drainSettle.mem = s.mem := by simp [State.drainSettle]

@[simp] theorem memKept_drainStart (s : State) : MemKept s s.drainStart := memKept_of fun h => by
  simp +contextual [State.drainStart, h]

@[simp] theorem mem_drainComplete (s : State) : s.drainComplete.mem = s.mem := by simp [State.drainComplete]

@[simp] theorem mem_drainOverrun (s : State) : s.drainOverrun.mem = s.mem := by simp [State.drainOverrun]

@[simp] theorem memKept_shiftFinish (s : State) : MemKept s s.shiftFinish := memKept_of fun h => by
  simp +contextual [State.shiftFinish, h]

/-! ### Token.lean -/

@[simp] theorem mem_setHolder (s : State) (h : Nat) : (s.setHolder h).mem = s.mem := by simp [State.setHolder]

@[simp] theorem mem_hostTokenLost (s : State) : s.hostTokenLost.mem = s.mem := by simp [State.hostTokenLost]

/-! ### Host.lean -/

@[simp] theorem mem_rxHold (s : State) (posted : Bool) (bytes : Nat) (ids : List Nat) :
    (s.rxHold posted bytes ids).mem = s.mem := by simp [State.rxHold]

@[simp] theorem mem_dropWrite (s : State) (ca : Bool) : (s.dropWrite ca).mem = s.mem := by simp [State.dropWrite]

@[simp] theorem mem_refuseHost (s : State) (v : Viol) (ca : Bool) (bar addr rid : Nat) (read : Option HostRd) :
    (s.refuseHost v ca bar addr rid read).mem = s.mem := by
  unfold State.refuseHost
  dsimp only
  (repeat' split) <;> simp

@[simp] theorem mem_epDropped (s : State) (bar addr rid : Nat) : (s.epDropped bar addr rid).mem = s.mem := by
  simp [State.epDropped]

@[simp] theorem mem_bar2Read (s : State) (q : HostRd) : (s.bar2Read q).mem = s.mem := by
  unfold State.bar2Read
  have ht : s.notIdle.dozeExit.mem = s.mem := by simp
  refine mem_if rfl (mem_if (mem_aer _ _) (mem_if (mem_aer _ _) ?_))
  generalize s.notIdle.dozeExit = t at ht ⊢
  have hu : (t.checkArray 5).mem = s.mem := by simp [ht]
  refine mem_if (by simp [ht]) ?_
  generalize t.checkArray 5 = u at hu ⊢
  cases h : u.bar2Refusal false false q.addr q.len with
  | none =>
    simp only [h]
    rw [mem_rxHold, mem_mk, mem_eta]
    exact (mem_foldl_fst _ (fun p a => by simp) _ _).trans hu
  | some v =>
    simp only [h]
    simp [hu]

@[simp] theorem mem_bar2Write (s : State) (w : HostWr) : (s.bar2Write w).mem = s.mem := by
  unfold State.bar2Write
  have ht : s.notIdle.dozeExit.mem = s.mem := by simp
  refine mem_if rfl (mem_if (mem_aer _ _) (mem_if (mem_aer _ _) ?_))
  generalize s.notIdle.dozeExit = t at ht ⊢
  have hu : (t.checkArray 5).mem = s.mem := by simp [ht]
  refine mem_if (by simp [ht]) ?_
  generalize t.checkArray 5 = u at hu ⊢
  refine mem_if (by simp [hu]) ?_
  split
  · simp [hu]
  · simp [hu]
  · refine (mem_rxHold _ _ _ _).trans ((mem_foldl_fst _ (fun p a => ?_) _ _).trans hu)
    dsimp only
    split <;> simp

@[simp] theorem mem_unsupportedReq (s : State) (bar addr rid tag : Nat) (write : Bool) :
    (s.unsupportedReq bar addr rid tag write).mem = s.mem := by simp [State.unsupportedReq]

@[simp] theorem mem_viologClear (s : State) : s.viologClear.mem = s.mem := by simp [State.viologClear]

@[simp] theorem mem_deliverPending (s : State) : s.deliverPending.mem = s.mem := by simp [State.deliverPending]

@[simp] theorem memKept_masterOn (s : State) : MemKept s s.masterOn := memKept_of fun h => by
  simp +contextual [State.masterOn, h]

@[simp] theorem memKept_toD3 (s : State) : MemKept s s.toD3 := memKept_of fun h => by simp +contextual [State.toD3, h]

@[simp] theorem mem_toD0 (s : State) : s.toD0.mem = s.mem := by simp [State.toD0]

@[simp] theorem mem_flrFlush (s : State) : s.flrFlush.mem = s.mem := by
  unfold State.flrFlush
  dsimp only
  (repeat' split) <;> simp

@[simp] theorem mem_linkDownNow (s : State) : s.linkDownNow.mem = s.mem := by simp [State.linkDownNow]

@[simp] theorem memKept_flrStart (s : State) (kind : Nat) : MemKept s (s.flrStart kind) := by
  refine memKept_of fun h => ?_
  unfold State.flrStart
  dsimp only
  (repeat' split) <;> simp +contextual [h]

@[simp] theorem memKept_dlDown (s : State) : MemKept s s.dlDown := memKept_of fun h => by simp +contextual [State.dlDown, h]

@[simp] theorem mem_resetFunction (s : State) : s.resetFunction.mem = s.mem := by simp [State.resetFunction]

@[simp] theorem mem_flrDone (s : State) : s.flrDone.mem = s.mem := by
  unfold State.flrDone
  dsimp only
  (repeat' split) <;> simp

@[simp] theorem mem_dlUp (s : State) (speed width : Nat) (flit : Bool) : (s.dlUp speed width flit).mem = s.mem := by
  simp [State.dlUp]

@[simp] theorem mem_cfgPlain (s : State) (off data : Nat) : (s.cfgPlain off data).mem = s.mem := by simp [State.cfgPlain]

@[simp] theorem mem_margin (s : State) (off data : Nat) : (s.margin off data).mem = s.mem := by simp [State.margin]

@[simp] theorem memKept_configAct (s : State) (off data be : Nat) : MemKept s (s.configAct off data be) := by
  refine memKept_of fun h => ?_
  unfold State.configAct
  dsimp only
  (repeat' split) <;> simp +contextual [h]

@[simp] theorem memKept_configWrite (s : State) (off data be : Nat) :
    MemKept s (s.configWrite off data be) := memKept_of fun h => by
  simp +contextual [State.configWrite, h]

@[simp] theorem mem_bar4Write (s : State) (off data : Nat) : (s.bar4Write off data).mem = s.mem := by simp [State.bar4Write]

/-! ### RegFile.lean -/

@[simp] theorem mem_plainWrite (s : State) (src : RegSrc) (off data : Nat) : (s.plainWrite src off data).mem = s.mem := by
  simp [State.plainWrite]

@[simp] theorem mem_enableWrite (s : State) (src : RegSrc) (off data : Nat) : (s.enableWrite src off data).mem = s.mem := by
  unfold State.enableWrite
  dsimp only
  (repeat' split) <;> simp

@[simp] theorem memKept_timeWord (s : State) (src : RegSrc) (o data : Nat) : MemKept s (s.timeWord src o data) := by
  refine memKept_of fun h => ?_
  unfold State.timeWord
  dsimp only
  (repeat' split) <;> simp +contextual [h]

@[simp] theorem memKept_rasWord (s : State) (src : RegSrc) (o data : Nat) :
    MemKept s (s.rasWord src o data) := memKept_of fun h => by
  simp +contextual [State.rasWord, h]

@[simp] theorem memKept_cacheWord (s : State) (src : RegSrc) (o data : Nat) : MemKept s (s.cacheWord src o data) := by
  refine memKept_of fun h => ?_
  unfold State.cacheWord
  dsimp only
  (repeat' split) <;> simp +contextual [h]

@[simp] theorem mem_benchWord (s : State) (src : RegSrc) (b o data : Nat) : (s.benchWord src b o data).mem = s.mem := by
  simp [State.benchWord]

@[simp] theorem memKept_shaftWord (s : State) (src : RegSrc) (b o data : Nat) :
    MemKept s (s.shaftWord src b o data) := memKept_of fun h => by
  simp +contextual [State.shaftWord, h]

@[simp] theorem mem_hostWord (s : State) (src : RegSrc) (o data : Nat) : (s.hostWord src o data).mem = s.mem := by
  simp [State.hostWord]

@[simp] theorem memKept_haulWord (s : State) (src : RegSrc) (c o data : Nat) : MemKept s (s.haulWord src c o data) := by
  refine memKept_of fun h => ?_
  unfold State.haulWord
  dsimp only
  (repeat' split) <;> simp +contextual [h]

@[simp] theorem mem_hgWord (s : State) (src : RegSrc) (o data : Nat) : (s.hgWord src o data).mem = s.mem := by
  simp [State.hgWord]

@[simp] theorem mem_codingWord (s : State) (src : RegSrc) (o data : Nat) : (s.codingWord src o data).mem = s.mem := by
  unfold State.codingWord
  (repeat' split) <;> simp

@[simp] theorem mem_regulWord (s : State) (src : RegSrc) (o data : Nat) : (s.regulWord src o data).mem = s.mem := by
  simp [State.regulWord]

@[simp] theorem memKept_powerWord (s : State) (src : RegSrc) (o data : Nat) : MemKept s (s.powerWord src o data) := by
  refine memKept_of fun h => ?_
  unfold State.powerWord
  dsimp only
  (repeat' split) <;> simp +contextual [h]

@[simp] theorem mem_faultWord (s : State) (src : RegSrc) (o data : Nat) : (s.faultWord src o data).mem = s.mem := by
  simp [State.faultWord]

@[simp] theorem memKept_testWord (s : State) (src : RegSrc) (o data : Nat) : MemKept s (s.testWord src o data) := by
  refine memKept_of fun h => ?_
  unfold State.testWord
  dsimp only
  (repeat' split) <;> simp +contextual [h]

@[simp] theorem memKept_fuseReg (s : State) (src : RegSrc) (o data : Nat) : MemKept s (s.fuseReg src o data) := by
  refine memKept_of fun h => ?_
  unfold State.fuseReg
  dsimp only
  (repeat' split) <;> simp +contextual [h]

@[simp] theorem mem_mgmtWord (s : State) (src : RegSrc) (o data : Nat) : (s.mgmtWord src o data).mem = s.mem := by
  simp [State.mgmtWord]

@[simp] theorem memKept_writeWord (s : State) (src : RegSrc) (off data : Nat) : MemKept s (s.writeWord src off data) := by
  refine memKept_of fun h => ?_
  unfold State.writeWord
  dsimp only
  (repeat' split) <;> simp +contextual [h]

@[simp] theorem memKept_writeOne (s : State) (src : RegSrc) (f : Fam) (i : List Nat) (v : Nat) :
    MemKept s (s.writeOne src f i v) := memKept_of fun h => by simp +contextual [State.writeOne, h]

/-! ### ObjWrite.lean -/

@[simp] theorem mem_objOk (s : State) : (ObjRes.ok s).state.mem = s.mem := rfl

@[simp] theorem mem_objJudge (s t : State) (code : Nat) : (objJudge s t code).state.mem = t.mem := by
  unfold objJudge
  split <;> rfl

@[simp] theorem memKept_objPair (s : State) (src : RegSrc) (off v : Nat) : MemKept s (s.objPair src off v).state := by
  refine memKept_of fun h => ?_
  unfold State.objPair
  dsimp only
  split <;> simp [h]

@[simp] theorem memKept_objSched (s : State) (src : RegSrc) (i : Nat) (bs : List Byte) :
    MemKept s (s.objSched src i bs).state := by
  refine memKept_of fun h => ?_
  unfold State.objSched
  dsimp only
  (repeat' split) <;> simp [h]

@[simp] theorem memKept_objWrite1 (s : State) (src : RegSrc) (index sub v : Nat) (bs : List Byte) :
    MemKept s (s.objWrite1 src index sub v bs).state := by
  refine memKept_of fun h => ?_
  unfold State.objWrite1
  dsimp only
  split
  case h_14 => split <;> simp [h]
  all_goals simp [h]

@[simp] theorem memKept_objWrite2 (s : State) (src : RegSrc) (index sub v : Nat) (bs : List Byte) :
    MemKept s (s.objWrite2 src index sub v bs).state := by
  refine memKept_of fun h => ?_
  unfold State.objWrite2
  dsimp only
  split
  all_goals simp +contextual [h]

@[simp] theorem memKept_objBurn (s : State) (src : RegSrc) (bs : List Byte) : MemKept s (s.objBurn src bs).state := by
  refine memKept_of fun h => ?_
  unfold State.objBurn
  dsimp only
  split <;> simp [h]

@[simp] theorem memKept_objOverride (s : State) (src : RegSrc) (bs : List Byte) : MemKept s (s.objOverride src bs).state := by
  refine memKept_of fun h => ?_
  unfold State.objOverride
  dsimp only
  split <;> simp [h]

@[simp] theorem memKept_objUpdate (s : State) (c sub v : Nat) (bs : List Byte) : MemKept s (s.objUpdate c sub v bs).state := by
  refine memKept_of fun h => ?_
  unfold State.objUpdate
  dsimp only
  (repeat' split) <;> simp [h]

@[simp] theorem memKept_objWrite3 (s : State) (src : RegSrc) (c index sub v : Nat) (bs : List Byte) :
    MemKept s (s.objWrite3 src c index sub v bs).state := by
  refine memKept_of fun h => ?_
  unfold State.objWrite3
  dsimp only
  (repeat' split) <;> simp +contextual [h]

@[simp] theorem mem_markUnsaved (s : State) : s.markUnsaved.mem = s.mem := by
  unfold State.markUnsaved
  dsimp only
  (repeat' split) <;> simp

@[simp] theorem memKept_objWrite (s : State) (src : RegSrc) (c : Nat) (o : Obj) (sub : Nat) (bs : List Byte) :
    MemKept s (s.objWrite src c o sub bs).state := by
  refine memKept_of fun h => ?_
  unfold State.objWrite
  dsimp only
  (repeat' split) <;> simp [h]

@[simp] theorem mem_logFree (s : State) : s.logFree.mem = s.mem := by simp [State.logFree]

@[simp] theorem memKept_applySaved (s : State) (e : SavedVal) : MemKept s (s.applySaved e) := by
  refine memKept_of fun h => ?_
  unfold State.applySaved
  dsimp only
  (repeat' split) <;> simp +contextual [h]

@[simp] theorem memKept_applyCopy (s : State) : MemKept s s.applyCopy := by
  refine memKept_of fun h => ?_
  unfold State.applyCopy
  dsimp only
  (repeat' split) <;> simp +contextual [h]

/-! ### Boot.lean -/

@[simp] theorem memKept_firmwareUp (s : State) : MemKept s s.firmwareUp := memKept_of fun h => by
  simp +contextual [State.firmwareUp, h]

@[simp] theorem memKept_restoreSettle (s : State) : MemKept s s.restoreSettle := memKept_of fun h => by
  simp +contextual [State.restoreSettle, h]

/-! ### RackTx.lean -/

@[simp] theorem mem_rackQueue (s : State) (f : TxFrame) : (s.rackQueue f).mem = s.mem := by simp [State.rackQueue]

@[simp] theorem mem_rackRetry (s : State) (f : TxFrame) : (s.rackRetry f).mem = s.mem := by simp [State.rackRetry]

@[simp] theorem mem_rackReturn (s : State) : s.rackReturn.mem = s.mem := by simp [State.rackReturn]

@[simp] theorem mem_rackRespond (s : State) (c : Nat) (bytes : List Byte) : (s.rackRespond c bytes).mem = s.mem := by
  simp [State.rackRespond]

/-! ### Dict.lean -/

@[simp] theorem mem_logStaged (s : State) (code : Nat) : (s.logStaged code).mem = s.mem := by simp [State.logStaged]

@[simp] theorem memKept_stageWrite (s : State) (sub : Nat) (bs : List Byte) : MemKept s (s.stageWrite sub bs).state := by
  refine memKept_of fun h => ?_
  unfold State.stageWrite
  dsimp only
  (repeat' split) <;> simp [h]

@[simp] theorem memKept_dictSave (s : State) (es : List SavedVal) : MemKept s (s.dictSave es).state :=
  memKept_of fun h => by simp [State.dictSave, h]

theorem memOk_dictWrite {s : State} {c : Nat} {o : Obj} {sub : Nat} {bs : List Byte} {w : ObjRes}
    (hw : s.dictWrite c o sub bs = some w) (h : memOk s.mem = true) : memOk w.state.mem = true := by
  unfold State.dictWrite at hw
  dsimp only at hw
  (repeat' split at hw) <;> simp at hw <;> (obtain rfl := hw) <;> simp [h]

@[simp] theorem mem_objTaken (s : State) (c index sub : Nat) : (s.objTaken c index sub).mem = s.mem := by
  unfold State.objTaken
  dsimp only
  (repeat' split) <;> simp

@[simp] theorem mem_setOpen (s : State) (c : Nat) (t : Option Transfer) : (s.setOpen c t).mem = s.mem := by simp [State.setOpen]

@[simp] theorem mem_dictAborted (s : State) (c : Nat) (r : DReq) (o : Option Obj) (code detail : Nat) :
    (s.dictAborted c r o code detail).1.mem = s.mem := by simp [State.dictAborted]

@[simp] theorem memKept_dictPerform (s : State) (c : Nat) (r : DReq) (o : Obj) (bs : List Byte) :
    MemKept s (s.dictPerform c r o bs).1 := by
  refine memKept_of fun h => ?_
  unfold State.dictPerform
  split
  · exact h
  · exact memOk_dictWrite ‹_› h

@[simp] theorem mem_dictSegment (s : State) (c : Nat) (r : DReq) (o : Obj) (t : Transfer) :
    (s.dictSegment c r o t).1.mem = s.mem := by simp [State.dictSegment]

@[simp] theorem memKept_dictDo (s : State) (c : Nat) (r : DReq) : MemKept s (s.dictDo c r).1 := by
  refine memKept_of fun h => ?_
  unfold State.dictDo
  dsimp only
  (repeat' split) <;> simp +contextual [h]

@[simp] theorem mem_wordsOf (s : State) (f : Fam) (bs : List Byte) : (s.wordsOf f bs).mem = s.mem := by simp [State.wordsOf]

@[simp] theorem mem_dictReply (s : State) (c : Nat) (rsp : List Byte) : (s.dictReply c rsp).mem = s.mem := by
  simp [State.dictReply]

@[simp] theorem mem_dictAnswer (s : State) (c : Nat) (rsp : List Byte) : (s.dictAnswer c rsp).mem = s.mem := by
  simp [State.dictAnswer]

@[simp] theorem mem_dictFinish (s : State) (c : Nat) (m rsp : List Byte) : (s.dictFinish c m rsp).mem = s.mem := by
  simp [State.dictFinish]

@[simp] theorem memKept_dictServe (s : State) (c : Nat) (m : List Byte) : MemKept s (s.dictServe c m) := by
  refine memKept_of fun h => ?_
  unfold State.dictServe
  dsimp only
  (repeat' split) <;> simp +contextual [h]

@[simp] theorem mem_rackAsleep (s : State) (c : Nat) (m : List Byte) : (s.rackAsleep c m).mem = s.mem := by
  simp [State.rackAsleep]

@[simp] theorem memKept_dictArrive (s : State) (c : Nat) (m : List Byte) : MemKept s (s.dictArrive c m) := memKept_of fun h => by
  simp +contextual [State.dictArrive, h]

@[simp] theorem memKept_dictCmd (s : State) (cmd c : Nat) (m : List Byte) :
    MemKept s (s.dictCmd cmd c m) := memKept_of fun h => by
  simp +contextual [State.dictCmd, h]

@[simp] theorem mem_portAbort (s : State) : s.portAbort.mem = s.mem := by simp [State.portAbort]

@[simp] theorem mem_transferTimeout (s : State) (c : Nat) : (s.transferTimeout c).mem = s.mem := by
  unfold State.transferTimeout
  dsimp only
  (repeat' split) <;> simp

@[simp] theorem mem_claimAnswer (s : State) (k : Claim) (code : Nat) : (s.claimAnswer k code).mem = s.mem := by
  simp [State.claimAnswer]

@[simp] theorem mem_seized (s : State) : s.seized.mem = s.mem := by simp [State.seized]

@[simp] theorem mem_claimDecision (s : State) : s.claimDecision.mem = s.mem := by simp [State.claimDecision]

/-! ### Clock.lean -/

@[simp] theorem mem_stepped (s : State) : s.stepped.mem = s.mem := by simp [State.stepped]

@[simp] theorem mem_renumberNow (s : State) (n : Nat) : (s.renumberNow n).mem = s.mem := by simp [State.renumberNow]

@[simp] theorem mem_beaconTime (s : State) (t n : Nat) : (s.beaconTime t n).mem = s.mem := by simp [State.beaconTime]

/-! ### WakePort.lean -/

@[simp] theorem mem_wakeRefresh (s : State) : s.wakeRefresh.mem = s.mem := by simp [State.wakeRefresh]

@[simp] theorem mem_wakeCommand (s : State) : s.wakeCommand.mem = s.mem := by simp [State.wakeCommand]

@[simp] theorem mem_wakePointer (s : State) (p : Nat) : (s.wakePointer p).mem = s.mem := by simp [State.wakePointer]

@[simp] theorem mem_wakeRead (s : State) (n : Nat) : (s.wakeRead n).mem = s.mem := by simp [State.wakeRead]

@[simp] theorem mem_wakeTimeout (s : State) : s.wakeTimeout.mem = s.mem := by simp [State.wakeTimeout]

/-! ### RackLink.lean -/

@[simp] theorem mem_addrConflict (s : State) : s.addrConflict.mem = s.mem := by simp [State.addrConflict]

@[simp] theorem mem_payFail (s : State) : s.payFail.mem = s.mem := by simp [State.payFail]

@[simp] theorem mem_rxMove (s : State) (l : RxLock) : (s.rxMove l).1.mem = s.mem := by simp [State.rxMove]

@[simp] theorem mem_rxBegin (s : State) (x : RxSync) : (s.rxBegin x).1.mem = s.mem := by simp [State.rxBegin]

@[simp] theorem mem_rxSync (a : State × RxLock) (x : RxSync) : (State.rxSync a x).1.mem = a.1.mem := by
  unfold State.rxSync
  (repeat' split) <;> simp

@[simp] theorem mem_ownSource (s : State) (h : List Byte) : (s.ownSource h).mem = s.mem := by simp [State.ownSource]

@[simp] theorem mem_rxHeader (a : State × RxLock) (x : List Byte) : (State.rxHeader a x).1.mem = a.1.mem := by
  unfold State.rxHeader
  (repeat' split) <;> simp

@[simp] theorem mem_rxCut (a : State × RxLock) (x : RxCut) : (State.rxCut a x).1.mem = a.1.mem := by
  simp [State.rxCut]

@[simp] theorem mem_rxLine (s : State) (l : RxLine) : (s.rxLine l).1.mem = s.mem := by simp [State.rxLine]

@[simp] theorem mem_rxClose (s : State) : s.rxClose.mem = s.mem := by simp [State.rxClose]

@[simp] theorem memKept_rxFrame (s : State) (l : RxLine) (k : RxKind → Bool) (run : List Byte → List Byte → State → State)
    (hrun : ∀ (h p : List Byte) (t : State), memOk t.mem = true → memOk (run h p t).mem = true) :
    MemKept s (s.rxFrame l k run) := by
  refine memKept_of fun hs => ?_
  unfold State.rxFrame
  split
  · exact hs
  · rename_i h p heq
    have ha : memOk (s.rxLine l).1.mem = true := by simp [hs]
    refine memOk_if hs ?_
    generalize s.rxLine l = a at ha ⊢
    refine memOk_if (by simp [ha]) (memOk_if (by simp [ha]) (hrun h p _ (by simp [ha])))

@[simp] theorem mem_rackCrcFail (s : State) (l : RxLine) : (s.rackCrcFail l).mem = s.mem := by simp [State.rackCrcFail]

@[simp] theorem mem_assigned (s : State) (a : Nat) : (s.assigned a).mem = s.mem := by simp [State.assigned]

@[simp] theorem memKept_rackTake (s : State) (f : RxFrame) : MemKept s (s.rackTake f) := memKept_of fun h => by
  simp +contextual [State.rackTake, h]

@[simp] theorem memKept_rackBuffer (s : State) (f : RxFrame) : MemKept s (s.rackBuffer f) := memKept_of fun h => by
  simp +contextual [State.rackBuffer, h]

@[simp] theorem memKept_rackDrain (s : State) : MemKept s s.rackDrain := memKept_of fun h => by
  simp +contextual [State.rackDrain, h]

@[simp] theorem memKept_rackAccept (s : State) (f : RxFrame) : MemKept s (s.rackAccept f) := memKept_of fun h => by
  simp +contextual [State.rackAccept, h]

@[simp] theorem memKept_rackHardware (s : State) (f : RxFrame) (run : State → State)
    (hrun : ∀ t : State, memOk t.mem = true → memOk (run t).mem = true) : MemKept s (s.rackHardware f run) := by
  refine memKept_of fun h => ?_
  unfold State.rackHardware
  split_ifs
  · simp [h]
  · exact hrun _ (by simp [h])

@[simp] theorem mem_adapt (s : State) : s.adapt.mem = s.mem := by simp [State.adapt]

@[simp] theorem mem_residual (s : State) (db : Nat) : (s.residual db).mem = s.mem := by simp [State.residual]

@[simp] theorem mem_beacon (s : State) (t db : Nat) (p : List Byte) : (s.beacon t db p).mem = s.mem := by simp [State.beacon]

@[simp] theorem mem_setAddress (s : State) (a : Nat) : (s.setAddress a).mem = s.mem := by simp [State.setAddress]

@[simp] theorem mem_rlCycle (s : State) : s.rlCycle.mem = s.mem := by
  unfold State.rlCycle
  dsimp only
  (repeat' split) <;> simp

@[simp] theorem mem_noBeacon (s : State) : s.noBeacon.mem = s.mem := by simp [State.noBeacon]

@[simp] theorem mem_nodeSlot (s : State) (db : Nat) (foreign : Bool) : (s.nodeSlot db foreign).mem = s.mem := by
  simp [State.nodeSlot]

@[simp] theorem mem_frameSent (s : State) (f : SlotTx) : (s.frameSent f).mem = s.mem := by simp [State.frameSent]

@[simp] theorem mem_slotStep (s : State) : s.slotStep.mem = s.mem := by simp [State.slotStep]

@[simp] theorem mem_assignWait (s : State) : s.assignWait.mem = s.mem := by simp [State.assignWait]

@[simp] theorem mem_collision (s : State) (res : List Nat) : (s.collision res).mem = s.mem := by
  unfold State.collision
  dsimp only
  (repeat' split) <;> simp

@[simp] theorem mem_assignReq (s : State) (db : Nat) : (s.assignReq db).mem = s.mem := by simp [State.assignReq]

@[simp] theorem mem_assignRetry (s : State) : s.assignRetry.mem = s.mem := by
  unfold State.assignRetry
  (repeat' split) <;> simp

@[simp] theorem memKept_linkTestGot (s : State) (peer : Nat) (l : RxLine) : MemKept s (s.linkTestGot peer l).1 := by
  refine memKept_of fun h => ?_
  unfold State.linkTestGot
  dsimp only
  (repeat' split) <;> simp +contextual [h]

@[simp] theorem memKept_linkTestRun (s : State) (db : Nat) (got : Option RxLine) : MemKept s (s.linkTestRun db got) := by
  refine memKept_of fun h => ?_
  unfold State.linkTestRun
  dsimp only
  (repeat' split) <;> simp +contextual [h]

/-! ### RegRead.lean -/

@[simp] theorem mem_readReg (s : State) (id i off : Nat) : (s.readReg id i off).mem = s.mem := by simp [State.readReg]

@[simp] theorem mem_readRegs (s : State) (src : RegSrc) (space : Space) (off n tag : Nat) :
    (s.readRegs src space off n tag).mem = s.mem := by
  unfold State.readRegs
  dsimp only
  (repeat' split) <;> simp

@[simp] theorem memKept_hostRegRead (s : State) (rid : Nat) (space : Space) (off n tag : Nat) :
    MemKept s (s.hostRegRead rid space off n tag) := memKept_of fun h => by simp +contextual [State.hostRegRead, h]

@[simp] theorem memKept_registerRead (s : State) (src : RegSrc) (space : Space) (off n tag : Nat) :
    MemKept s (s.registerRead src space off n tag) := by
  refine memKept_of fun h => ?_
  unfold State.registerRead
  (repeat' split) <;> simp +contextual [h]

/-! ### Startup.lean -/

@[simp] theorem memKept_benchesHold (s : State) : MemKept s s.benchesHold := memKept_of fun h => by
  simp +contextual [State.benchesHold, h]

@[simp] theorem mem_sendHolds (s : State) : s.sendHolds.mem = s.mem := by simp [State.sendHolds]

@[simp] theorem memKept_enterReset (s : State) (cause : Nat) (flushed : Bool) :
    MemKept s (s.enterReset cause flushed) := memKept_of fun h => by
  simp +contextual [State.enterReset, h]

@[simp] theorem memKept_resetSettle (s : State) : MemKept s s.resetSettle := by
  refine memKept_of fun h => ?_
  unfold State.resetSettle
  split
  · exact h
  · refine memOk_if h ?_
    extract_lets t u step clearing v
    have ht : memOk t.mem = true := memOk_if (by simp [h]) h
    have hu : memOk u.mem = true := memOk_if h (memOk_if ht (by simp [ht]))
    have hv : memOk v.mem = true := memOk_if (by simp [hu]) hu
    clear_value t u v
    refine memOk_if ?_ hv
    split <;> simp [hv]

@[simp] theorem memKept_requestReset (s : State) (cause : Nat) (persist : Bool) : MemKept s (s.requestReset cause persist) := by
  refine memKept_of fun h => ?_
  unfold State.requestReset
  dsimp only
  (repeat' split) <;> simp +contextual [h]

@[simp] theorem memKept_perstAct (s : State) : MemKept s s.perstAct := by
  refine memKept_of fun h => ?_
  unfold State.perstAct
  dsimp only
  (repeat' split) <;> simp +contextual [h]

@[simp] theorem memKept_perstSettle (s : State) : MemKept s s.perstSettle := memKept_of fun h => by
  simp +contextual [State.perstSettle, h]

@[simp] theorem mem_unhold (s : State) : s.unhold.mem = s.mem := by simp [State.unhold]

@[simp] theorem memKept_perstAssert (s : State) : MemKept s s.perstAssert := memKept_of fun h => by
  simp +contextual [State.perstAssert, h]

@[simp] theorem mem_perstDeassert (s : State) : s.perstDeassert.mem = s.mem := by simp [State.perstDeassert]

@[simp] theorem memKept_baseReset (s : State) (src : RegSrc) (key : Nat) : MemKept s (s.baseReset src key) := by
  refine memKept_of fun h => ?_
  unfold State.baseReset
  (repeat' split) <;> simp +contextual [h]

@[simp] theorem mem_emberAgain (s : State) : s.emberAgain.mem = s.mem := by simp [State.emberAgain]

@[simp] theorem memKept_dropReset (s : State) (source cause : Nat) :
    MemKept s (s.dropReset source cause) := memKept_of fun h => by
  simp +contextual [State.dropReset, h]

@[simp] theorem mem_supplied (s : State) : s.supplied.mem = s.mem := by simp [State.supplied]

@[simp] theorem mem_readFlash (s : State) : s.readFlash.mem = s.mem := by simp [State.readFlash]

@[simp] theorem memKept_resetExit (s : State) (bootsel : Bool) : MemKept s (s.resetExit bootsel) := memKept_of fun h => by
  simp +contextual [State.resetExit, h]

@[simp] theorem mem_reloadLayers (s : State) : s.reloadLayers.mem = s.mem := by simp [State.reloadLayers]

@[simp] theorem mem_sensingDone (s : State) (reads : List FuseRead) : (s.sensingDone reads).mem = s.mem := by
  simp [State.sensingDone]

@[simp] theorem mem_reloadMarks (s : State) : s.reloadMarks.mem = s.mem := by simp [State.reloadMarks]

@[simp] theorem mem_releaseSettle (s : State) : s.releaseSettle.mem = s.mem := by simp [State.releaseSettle]

@[simp] theorem memKept_stackReady (s : State) : MemKept s s.stackReady := memKept_of fun h => by
  simp +contextual [State.stackReady, h]

@[simp] theorem mem_emberExit (s : State) : s.emberExit.mem = s.mem := by simp [State.emberExit]

@[simp] theorem mem_lanternPor (s : State) (addr : Nat) : (s.lanternPor addr).mem = s.mem := by simp [State.lanternPor]

@[simp] theorem memKept_aonLoss (s : State) : MemKept s s.aonLoss := memKept_of fun _ => rfl

/-! ### RegWrite.lean -/

@[simp] theorem memKept_dictWord (s : State) (src : RegSrc) (o data : Nat) :
    MemKept s (s.dictWord src o data) := memKept_of fun h => by
  simp +contextual [State.dictWord, h]

@[simp] theorem memKept_bar0Write (s : State) (src : RegSrc) (off data : Nat) :
    MemKept s (s.bar0Write src off data) := memKept_of fun h => by
  simp +contextual [State.bar0Write, h]

@[simp] theorem memKept_hostRegWrite (s : State) (rid : Nat) (space : Space) (off data be : Nat) (ep : Bool) :
    MemKept s (s.hostRegWrite rid space off data be ep) := memKept_of fun h => by simp +contextual [State.hostRegWrite, h]

@[simp] theorem memKept_registerWrite (s : State) (src : RegSrc) (space : Space) (off data be : Nat) (ep : Bool) :
    MemKept s (s.registerWrite src space off data be ep) := by
  refine memKept_of fun h => ?_
  unfold State.registerWrite
  (repeat' split) <;> simp +contextual [h]

@[simp] theorem mem_sramFault (s : State) (source slab mask : Nat) : (s.sramFault source slab mask).mem = s.mem := by
  unfold State.sramFault
  dsimp only
  (repeat' split) <;> simp

@[simp] theorem mem_tapInstruction (s : State) (op : Nat) : (s.tapInstruction op).mem = s.mem := by simp [State.tapInstruction]

/-! ### Tick.lean -/

@[simp] theorem mem_mergeOlder (s : State) : s.mergeOlder.mem = s.mem := by simp [State.mergeOlder]

@[simp] theorem mem_benchDiodes (s : State) (env : TickEnv) : (s.benchDiodes env).mem = s.mem := by simp [State.benchDiodes]

@[simp] theorem mem_stuffClear (s : State) : s.stuffClear.mem = s.mem := by simp [State.stuffClear]

@[simp] theorem mem_idleTick (s : State) : s.idleTick.mem = s.mem := by simp [State.idleTick]

@[simp] theorem mem_mgmtTick (s : State) : s.mgmtTick.mem = s.mem := by simp [State.mgmtTick]

@[simp] theorem mem_dictTick (s : State) : s.dictTick.mem = s.mem := by simp [State.dictTick]

@[simp] theorem memKept_rackTick (s : State) : MemKept s s.rackTick := memKept_of fun h => by
  simp +contextual [State.rackTick, h]

@[simp] theorem memKept_fuseTick (s : State) (env : TickEnv) : MemKept s (s.fuseTick env) := memKept_of fun h => by
  simp +contextual [State.fuseTick, h]

@[simp] theorem memKept_settle (s : State) : MemKept s s.settle := memKept_of fun h => by simp +contextual [State.settle, h]

@[simp] theorem memKept_tickBody (s : State) (env : TickEnv) : MemKept s (s.tickBody env) := memKept_of fun h => by
  simp +contextual [State.tickBody, h]

@[simp] theorem memKept_countTick (s : State) (t : Nat) (env : TickEnv) : MemKept s (s.countTick t env) := memKept_of fun h => by
  simp +contextual [State.countTick, h]

@[simp] theorem memKept_edgeCounted (s : State) (t : Nat) (env : TickEnv) :
    MemKept s (s.edgeCounted t env) := memKept_of fun h => by
  simp +contextual [State.edgeCounted, h]

@[simp] theorem memKept_pinEdge (s : State) (t : Nat) (env : TickEnv) : MemKept s (s.pinEdge t env) := memKept_of fun h => by
  simp +contextual [State.pinEdge, h]

@[simp] theorem mem_toPin (s : State) : s.toPin.mem = s.mem := by simp [State.toPin]

@[simp] theorem memKept_freeEdge (s : State) (t spacing : Nat) (env : TickEnv) :
    MemKept s (s.freeEdge t spacing env) := memKept_of fun h => by
  simp +contextual [State.freeEdge, h]

@[simp] theorem memKept_tickEdge (s : State) (t : Nat) (env : TickEnv) : MemKept s (s.tickEdge t env) := memKept_of fun h => by
  simp +contextual [State.tickEdge, h]

@[simp] theorem memKept_missingTick (s : State) (t : Nat) (env : TickEnv) :
    MemKept s (s.missingTick t env) := memKept_of fun h => by
  simp +contextual [State.missingTick, h]

@[simp] theorem memKept_flywheelTick (s : State) (t : Nat) (env : TickEnv) :
    MemKept s (s.flywheelTick t env) := memKept_of fun h => by
  simp +contextual [State.flywheelTick, h]

end Sys2Proof.Machine
end

section
/-! PROOFS. DRAM's canonical form over every command (R48, R60, R74). -/
namespace Sys2Proof.Machine
open Sys2Proof.Safety

theorem memOk_exec {c : Instr} {s t : State} (h : memOk s.mem = true) (he : exec c s = .next t) : memOk t.mem = true := by
  cases c
  case slabFetchComplete slab got =>
    rw [← Host.Outcome.next.inj he]
    split
    · split <;> simp [h]
    · exact h
  case testDone fails bench =>
    rw [← Host.Outcome.next.inj he]
    split <;> simp [h]
  all_goals
    rw [← Host.Outcome.next.inj he]
    simp +contextual [h]

/-- Settles O57: every operation that writes DRAM keeps it canonical, every other one leaves it alone. -/
theorem memoryStaysCanonical : Obligations.MemoryStaysCanonical := by
  intro s t h hstep
  unfold step at hstep
  split at hstep
  · cases hstep
    exact h
  · exact memOk_exec (s := { s with pending := _ }) h hstep

end Sys2Proof.Machine
end

section
/-! SUPPORT. Bit maps, locations and portion indices: what a portion's index says of its layer and slab (R48, R49, R134). -/
namespace Sys2Proof.Machine

theorem testBit_one_shiftLeft (i n : Nat) : (1 <<< i).testBit n = decide (n = i) := by
  rw [Nat.one_shiftLeft, Nat.testBit_two_pow]
  exact decide_eq_decide.2 eq_comm

theorem testBit_mapOf (w n : Nat) (p : Nat → Bool) : (mapOf w p).testBit n = (decide (n < w) && p n) := by
  unfold mapOf
  induction w with
  | zero => simp
  | succ w ih =>
    rw [List.range_succ, List.foldl_append, List.foldl_cons, List.foldl_nil]
    have key : (decide (n < w + 1) && p n) = (decide (n < w) && p n || (decide (n = w) && p w)) := by
      rcases Nat.lt_trichotomy n w with h | h | h
      · simp [h, Nat.lt_succ_of_lt h, Nat.ne_of_lt h]
      · simp [h]
      · simp [Nat.not_lt_of_gt h, Nat.ne_of_gt h, show ¬ n < w + 1 by omega]
    rw [key]
    cases hp : p w
    · simp [ih]
    · rw [if_pos rfl, Nat.testBit_or, ih, testBit_one_shiftLeft, Bool.and_true]

/-- The bank bits that the hash folds in (R49). -/
def hashBits (hash : Bool) (slab : Nat) : Nat := if hash then slab / 512 % 8 else 0

theorem locOf_eq (hash : Bool) (slab : Nat) : locOf hash slab = slab ^^^ (hashBits hash slab * 64) := by
  cases hash <;> simp [locOf, hashBits, field, Nat.shiftRight_eq_div_pow, Nat.shiftLeft_eq]

theorem hashBits_lt (hash : Bool) (slab : Nat) : hashBits hash slab < 8 := by
  unfold hashBits
  split <;> omega

theorem locOf_div (hash : Bool) (slab : Nat) : locOf hash slab / 512 = slab / 512 := by
  have h := hashBits_lt hash slab
  have hz : hashBits hash slab * 64 / 2 ^ 9 = 0 := Nat.div_eq_of_lt (by omega)
  rw [locOf_eq, show 512 = 2 ^ 9 from rfl, Nat.xor_div_two_pow, hz, Nat.xor_zero]

theorem locOf_mod (hash : Bool) (slab : Nat) : locOf hash slab % 64 = slab % 64 := by
  have hz : hashBits hash slab * 2 ^ 6 % 2 ^ 6 = 0 := Nat.mul_mod_left _ _
  rw [locOf_eq, show 64 = 2 ^ 6 from rfl, Nat.xor_mod_two_pow, hz, Nat.xor_zero]

theorem hashBits_locOf (hash : Bool) (slab : Nat) : hashBits hash (locOf hash slab) = hashBits hash slab := by
  unfold hashBits
  rw [locOf_div]

/-- The hash is its own inverse. -/
theorem locOf_locOf (hash : Bool) (slab : Nat) : locOf hash (locOf hash slab) = slab := by
  rw [locOf_eq hash (locOf hash slab), hashBits_locOf, locOf_eq, Nat.xor_assoc, Nat.xor_self, Nat.xor_zero]

theorem locOf_lt {hash : Bool} {slab : Nat} (h : slab < 2 ^ 27) : locOf hash slab < 2 ^ 27 := by
  have := locOf_div hash slab
  omega

theorem rowOf_locOf (hash : Bool) (slab : Nat) : rowOf (locOf hash slab) = rowOf slab := by
  simp only [rowOf, field, Nat.shiftRight_eq_div_pow]
  rw [show 2 ^ 9 = 512 from rfl, locOf_div]

theorem colOf_locOf (hash : Bool) (slab : Nat) : colOf (locOf hash slab) = colOf slab := by
  have := locOf_mod hash slab
  unfold colOf
  omega

theorem posOfLoc_lt (loc : Nat) : posOfLoc loc < 64 := by
  simp only [posOfLoc, field]
  omega

/-- Position, row and column slot give back the location bits that they were taken from. -/
theorem location_parts {loc : Nat} (h : loc < 2 ^ 27) :
    rowOf loc * 512 + field (posOfLoc loc) 2 3 * 64 + posOfLoc loc % 4 * 16 + posOfLoc loc / 32 * 8 + colOf loc = loc := by
  have hpos : posOfLoc loc = 32 * (loc / 8 % 2) + 4 * (loc / 64 % 8) + loc / 16 % 4 := by
    simp only [posOfLoc, field, Nat.shiftRight_eq_div_pow, Nat.reducePow]
  have hfield : field (posOfLoc loc) 2 3 = posOfLoc loc / 4 % 8 := by
    simp only [field, Nat.shiftRight_eq_div_pow, Nat.reducePow]
  have hrow : rowOf loc = loc / 512 := by
    simp only [rowOf, field, Nat.shiftRight_eq_div_pow, Nat.reducePow]
    omega
  have hparts : ∀ x y z : Nat, x < 2 → y < 8 → z < 4 →
      (32 * x + 4 * y + z) / 4 % 8 = y ∧ (32 * x + 4 * y + z) % 4 = z ∧ (32 * x + 4 * y + z) / 32 = x := by omega
  obtain ⟨hgroup, hbank, hchan⟩ := hparts (loc / 8 % 2) (loc / 64 % 8) (loc / 16 % 4) (by omega) (by omega) (by omega)
  have h3 : loc = 8 * (loc / 8) + loc % 8 := by omega
  have h4 : loc / 8 = 2 * (loc / 16) + loc / 8 % 2 := by omega
  have h6 : loc / 16 = 4 * (loc / 64) + loc / 16 % 4 := by omega
  have h9 : loc / 64 = 8 * (loc / 512) + loc / 64 % 8 := by omega
  rw [hfield, hrow, hpos, hgroup, hbank, hchan, colOf]
  linarith

/-- Position, row and column slot give back the slab (R48). -/
theorem slabAt_parts {hash : Bool} {slab : Nat} (h : slab < 2 ^ 27) :
    slabAt hash (posOfLoc (locOf hash slab)) (rowOf slab) (colOf slab) = slab := by
  have hp := location_parts (locOf_lt (hash := hash) h)
  rw [rowOf_locOf, colOf_locOf] at hp
  rw [slabAt, hp, locOf_locOf]

theorem remapOf_eq_some {rs : List Remap} {layer pos row sp : Nat} (h : remapOf rs layer pos row = some sp) :
    ∃ r ∈ rs, r.layer = layer ∧ r.pos = pos ∧ r.row = row ∧ r.spare = sp := by
  obtain ⟨r, hr, rfl⟩ := Option.map_eq_some_iff.1 h
  have hp := List.find?_some hr
  simp only [Bool.and_eq_true, beq_iff_eq] at hp
  exact ⟨r, List.mem_of_find?_eq_some hr, hp.1.1, hp.1.2, hp.2, rfl⟩

/-- A spare names one remap entry. -/
theorem find?_spare {rs : List Remap} (hnd : (rs.map fun r => (r.layer, r.pos, r.spare)).Nodup) {r : Remap} (hr : r ∈ rs) :
    (rs.find? fun x => x.layer == r.layer && x.pos == r.pos && x.spare == r.spare) = some r := by
  obtain ⟨x, hx⟩ := Option.isSome_iff_exists.1 (List.find?_isSome (p := fun x : Remap =>
    x.layer == r.layer && x.pos == r.pos && x.spare == r.spare) |>.2 ⟨r, hr, by simp⟩)
  have hp := List.find?_some hx
  simp only [Bool.and_eq_true, beq_iff_eq] at hp
  obtain ⟨⟨hl, hps⟩, hs⟩ := hp
  have : x = r := List.inj_on_of_nodup_map hnd (List.mem_of_find?_eq_some hx) hr (by rw [hl, hps, hs])
  rw [hx, this]

/-- The slab that a stack clear wrote at a slab's portion of a layer that it writes is that slab (R74). -/
theorem slabOf_portionIndex {g : ClearSeg} {layer slab : Nat}
    (hok : ∀ r ∈ g.remaps, r.layer < 18 ∧ r.pos < 64 ∧ r.spare < 16)
    (hnd : (g.remaps.map fun r => (r.layer, r.pos, r.spare)).Nodup) (hl : layer < 18) (hs : slab < 2 ^ 27)
    (hbit : g.layers.testBit layer = true) (hlo : g.base ≤ slab) (hhi : slab < g.limit) :
    g.slabOf (portionIndex g.hash g.remaps layer slab) = some (layer, slab) := by
  have hloc := locOf_lt (hash := g.hash) hs
  unfold portionIndex
  dsimp only
  cases hr : remapOf g.remaps layer (posOfLoc (locOf g.hash slab)) (rowOf slab) with
  | none =>
    have hd : (layer * 2 ^ 27 + locOf g.hash slab) / 2 ^ 27 = layer := by omega
    have hm : (layer * 2 ^ 27 + locOf g.hash slab) % 2 ^ 27 = locOf g.hash slab := by omega
    unfold ClearSeg.slabOf
    dsimp only
    rw [if_pos (by omega), hd, hm]
    simp only [locOf_locOf, hbit, hlo, hhi, hr, decide_true, Option.isNone_none, Bool.and_self, if_true]
  | some sp =>
    obtain ⟨r, hmem, rfl, hpos, hrow, rfl⟩ := remapOf_eq_some hr
    obtain ⟨_, hp64, hsp⟩ := hok r hmem
    have hcol : colOf slab < 8 := Nat.mod_lt _ (by decide)
    have hidx : spareIndex r.layer r.pos r.spare (colOf slab) - 18 * 2 ^ 27 =
        ((r.layer * 64 + r.pos) * 16 + r.spare) * 8 + colOf slab := by unfold spareIndex; omega
    have h1 : (((r.layer * 64 + r.pos) * 16 + r.spare) * 8 + colOf slab) / 8 / 16 / 64 = r.layer := by omega
    have h2 : (((r.layer * 64 + r.pos) * 16 + r.spare) * 8 + colOf slab) / 8 / 16 % 64 = r.pos := by omega
    have h3 : (((r.layer * 64 + r.pos) * 16 + r.spare) * 8 + colOf slab) / 8 % 16 = r.spare := by omega
    have h4 : (((r.layer * 64 + r.pos) * 16 + r.spare) * 8 + colOf slab) % 8 = colOf slab := by omega
    have hback : slabAt g.hash r.pos r.row (colOf slab) = slab := by rw [hpos, hrow, slabAt_parts hs]
    rw [← hpos]
    unfold ClearSeg.slabOf
    dsimp only
    rw [if_neg (by unfold spareIndex; omega), if_neg (by unfold canaryBase spareIndex; omega)]
    simp only [hidx, h1, h2, h3, h4, find?_spare hnd hmem, hback, hbit, hlo, hhi, decide_true, Bool.and_self, if_true]

theorem portionIndex_lt {hash : Bool} {rs : List Remap} {layer slab : Nat}
    (hok : ∀ r ∈ rs, r.layer < 18 ∧ r.pos < 64 ∧ r.spare < 16) (hl : layer < 18) (hs : slab < 2 ^ 27) :
    portionIndex hash rs layer slab < canaryBase := by
  have hloc := locOf_lt (hash := hash) hs
  unfold portionIndex
  dsimp only
  cases hr : remapOf rs layer (posOfLoc (locOf hash slab)) (rowOf slab) with
  | none => simp only [canaryBase, spareIndex]; omega
  | some sp =>
    obtain ⟨r, hmem, rfl, hpos, -, rfl⟩ := remapOf_eq_some hr
    obtain ⟨_, hp64, hsp⟩ := hok r hmem
    have hcol : colOf slab < 8 := Nat.mod_lt _ (by decide)
    rw [← hpos]
    simp only [canaryBase, spareIndex]
    omega

theorem nLayer_le (s : State) : s.nLayer ≤ 18 := by
  unfold State.nLayer State.nBench
  split <;> omega

theorem length_portion (layer slab pos poison gen flags : Nat) {data : List Byte} (h : data.length = 128) :
    (portion layer slab pos data poison gen flags).length = portionBytes := by
  simp [portion, h, portionBytes, length_leBytes]

theorem length_zeroCols : zeroCols.length = 128 := List.length_replicate ..

/-- A portion that a newly recorded stretch left reads as what the stretch left there. -/
theorem readPortion_addSeg {s : State} {g : ClearSeg} {layer slab : Nat} {bs : List Byte} (hbs : bs.length = portionBytes)
    (hlt : portionIndex s.hash s.remaps layer slab < canaryBase)
    (hleft : g.leaves (portionIndex s.hash s.remaps layer slab) = some bs) : (s.addSeg g).readPortion layer slab = bs := by
  have hblank : (s.addSeg g).blankPortion (portionIndex s.hash s.remaps layer slab) = bs := by
    unfold State.blankPortion State.addSeg
    rw [if_neg (Nat.not_le.2 hlt), List.findSome?_cons_of_isSome (by simp [hleft])]
    simp [hleft]
  rw [readPortion_eq]
  refine List.ext_getElem (by simp [hbs]) fun i hi _ => ?_
  have hi : i < portionBytes := by simpa using hi
  have hdiv : ((s.addSeg g).place layer slab + i) / portionBytes = portionIndex s.hash s.remaps layer slab := by
    show (portionIndex s.hash s.remaps layer slab * portionBytes + i) / portionBytes = _
    unfold portionBytes at *
    omega
  have hmod : ((s.addSeg g).place layer slab + i) % portionBytes = i := by
    show (portionIndex s.hash s.remaps layer slab * portionBytes + i) % portionBytes = _
    unfold portionBytes at *
    omega
  have hcell : cellAt ((s.addSeg g).place layer slab + i) (s.addSeg g).dram = none := by
    show cellAt _ (s.dram.filter fun c => (g.leaves (c.1 / portionBytes)).isNone) = none
    rw [cellAt_filter (fun a => (g.leaves (a / portionBytes)).isNone), hdiv, hleft]
    rfl
  rw [List.getElem_map, List.getElem_range, State.peek, hcell, State.blank, hdiv, hmod, hblank, Option.getD_none,
    List.getD_eq_getElem _ _ (by omega)]

end Sys2Proof.Machine
end

section
/-! PROOFS. What a stack clear leaves (R58, R74). -/
namespace Sys2Proof.Machine
open Sys2Proof.Safety

/-- The generations of a stretch follow one another from the counter on (R58). -/
theorem generation_in_stretch {gen p slab : Nat} (hp : p ≤ slab) :
    ((gen + 2 ^ 24 - p % 2 ^ 24) % 2 ^ 24 + slab) % 2 ^ 24 = (gen + (slab - p)) % 2 ^ 24 := by omega

/-- Settles O30: the stretch leaves the portion of the slab whose index the portion has. -/
theorem clearWritesZeroSlabs : Obligations.ClearWritesZeroSlabs := by
  intro s p q layer slab ⟨hok, hnd⟩ hl hp hq hqs hst
  have hs : slab < 2 ^ 27 := Nat.lt_of_lt_of_le hq hqs
  have hl18 : layer < 18 := Nat.lt_of_lt_of_le hl (nLayer_le s)
  have hbit : (mapOf s.nLayer fun n => s.layer n == 0 || s.layer n == 2).testBit layer = true := by
    simpa [testBit_mapOf, hl] using hst
  refine readPortion_addSeg ?_ (portionIndex_lt hok hl18 hs) ?_
  · exact length_portion _ _ _ _ _ _ length_zeroCols
  · unfold ClearSeg.leaves
    rw [if_neg Bool.false_ne_true, slabOf_portionIndex hok hnd hl18 hs hbit hp hq, Option.map_some, generation_in_stretch hp]

end Sys2Proof.Machine
end

section
/-! PROOFS. Merge entries that close (R60, R86): a label past the last one reaches the rebuild pointer. -/
namespace Sys2Proof.Machine
open Sys2Proof.Safety Sys2Proof.Tests

/-- A full entry of MERGE_AGE ticks whose label is no label's number: the key of its USED register is the rebuild pointer's. -/
def strayEntry : MEntry := { entry 11 200 true false with label := 81804 }

/-- Slab 11's portion on layer 0 lies under a planned erasure that has not come to it, and only bench 0's link is in service. -/
def erasingStray : State :=
  withCache (put on ([(R.CODE_PLANNED_ACTIVE, [], 1), (R.CODE_PLANNED_CHANNEL, [], 1), (R.SHAFT_CREDITS_B_WR, [0], 1)] ++
    (List.range 8).map fun b => (R.SHAFT_LINK_STATUS_STATE, [b + 1], 0))) fun c => { c with merge := [strayEntry] }

theorem erasingStray_writes_layer1 : erasingStray.recLayers 0 11 = 2 := by decide +kernel

/-- The charge of the entry's label moves the rebuild pointer past the slab, and the record is sent for both layers. -/
theorem strayEntry_sent_for_both : ∀ w ∈ ((erasingStray.mergeAge 11).link 0).flight, w.layers = 3 := by decide +kernel

/-- Refutes O32: the label of the entry may be any number, and the charge of label 81804 moves the rebuild pointer of the planned
erasure, so that the record is sent for a layer that no write reached before. -/
theorem not_mergeEntriesClose : ¬ Obligations.MergeEntriesClose := by
  intro h
  obtain ⟨hfull, -⟩ := h erasingStray 11 strayEntry (by decide +kernel) (by decide +kernel) (by decide +kernel) rfl
    (by decide +kernel) (by decide +kernel) (by decide +kernel) rfl (by decide +kernel)
  obtain ⟨hsent, -⟩ := hfull (by decide +kernel)
  obtain ⟨t, ht, -, -, -, hrec⟩ := hsent rfl (by decide +kernel) (by decide +kernel)
  obtain ⟨w, hw, -, -, hlayers, -⟩ := hrec 0 (by decide +kernel) (by decide +kernel) (by rw [erasingStray_writes_layer1]; decide)
  obtain rfl := Host.Outcome.next.inj ht
  rw [strayEntry_sent_for_both w hw, erasingStray_writes_layer1] at hlayers
  exact absurd hlayers (by decide)

end Sys2Proof.Machine
end

section
/-! SUPPORT. The stack's own state: the CODE block's fields that say what the stack and its layers are, and what a source that
reacts with NOTE at most leaves of them. -/
namespace Sys2Proof.Machine
open Sys2Proof.Safety

/-- The keys of the channels of the haul engine, and those of the CODE block but for its events and what it shows of the state
of protection and of suspect positions. -/
def stackKey (k : Nat) : Bool :=
  (decide (0x100000 * 8 ≤ k) && decide (k < 0x140000 * 8)) || (decide (0x1A0000 * 8 ≤ k) && decide (k < 0x1A0200 * 8) &&
    !([R.CODE_CODE_STATUS_PROTECTION.key [], R.CODE_CODE_STATUS_OFFLINE_COUNT.key [],
      R.CODE_CODE_STATUS_SUSPECT_ANY.key []].contains k || decide (0x1A0008 * 8 ≤ k ∧ k < 0x1A000C * 8)))

/-- What a register file lists of them. -/
def stackRegs (l : List (Nat × Nat)) : Nat → Option Nat := fun k => if stackKey k then kvGet k l else none

/-- A field that no index puts where `stackKey` holds. -/
def Fam.offStack (f : Fam) : Bool := decide (0x1A0200 ≤ f.off) || (f.dims.isEmpty && !stackKey (f.off * 8 + f.lsb))

/-- What says which layers are ONLINE, and how far the sweeps have come. -/
def State.core (s : State) : (Nat → Option Nat) × (Nat → Option Nat) × PowerSt × FuseSt × List (Nat × Nat) × Option Nat ×
    List (Nat × Nat) :=
  (stackRegs s.regs, stackRegs s.lregs, s.power, s.fuse, s.ras.savedLayers, s.ras.rejoinNext, s.ras.sweeps)

theorem stackKey_of_offStack {f : Fam} (h : f.offStack = true) (i : List Nat) : stackKey (f.key i) = false := by
  simp only [Fam.offStack, Bool.or_eq_true, Bool.and_eq_true, decide_eq_true_eq, List.isEmpty_iff, Bool.not_eq_true'] at h
  rcases h with h | ⟨hd, h⟩
  · have hlo : 0x1A0200 * 8 ≤ f.key i := by
      unfold Fam.key
      omega
    simp only [stackKey, Bool.or_eq_false_iff, Bool.and_eq_false_iff, decide_eq_false_iff_not]
    omega
  · have hrel : Fam.rel f.dims i = 0 := by rw [hd]; cases i <;> rfl
    rwa [Fam.key, hrel]

theorem core_wr_key (s : State) {f : Fam} {i : List Nat} (h : stackKey (f.key i) = false) (v : Nat) :
    (s.wr f v i).core = s.core := by
  have hne : ∀ k, stackKey k = true → k ≠ f.key i := fun k hk e => by simp [e, h] at hk
  have hb : stackRegs (s.wr f v i).regs = stackRegs s.regs := by
    funext k
    unfold stackRegs
    split_ifs with hk
    · exact kvGet_wr_ne s f v i (h := .base) fun e => hne k hk e.2
    · rfl
  have hl : stackRegs (s.wr f v i).lregs = stackRegs s.lregs := by
    funext k
    unfold stackRegs
    split_ifs with hk
    · exact kvGet_wr_ne s f v i (h := .lantern) fun e => hne k hk e.2
    · rfl
  simp [State.core, hb, hl]

@[simp] theorem core_wr (s : State) (f : Fam) (v : Nat) (i : List Nat) (h : f.offStack = true) :
    (s.wr f v i).core = s.core := core_wr_key s (stackKey_of_offStack h i) v

@[simp] theorem core_set (s : State) (f : Fam) (i : List Nat) (h : f.offStack = true) : (s.set f i).core = s.core :=
  core_wr s f 1 i h
@[simp] theorem core_clr (s : State) (f : Fam) (i : List Nat) (h : f.offStack = true) : (s.clr f i).core = s.core :=
  core_wr s f 0 i h
@[simp] theorem core_wrB (s : State) (f : Fam) (b : Bool) (i : List Nat) (h : f.offStack = true) :
    (s.wrB f b i).core = s.core := core_wr s f _ i h
@[simp] theorem core_addSat (s : State) (f : Fam) (n : Nat) (i : List Nat) (h : f.offStack = true) :
    (s.addSat f n i).core = s.core := core_wr s f _ i h
@[simp] theorem core_incSat (s : State) (f : Fam) (i : List Nat) (h : f.offStack = true) : (s.incSat f i).core = s.core :=
  core_wr s f _ i h
@[simp] theorem core_inc (s : State) (f : Fam) (i : List Nat) (h : f.offStack = true) : (s.inc f i).core = s.core :=
  core_wr s f _ i h

theorem core_ite {c : Prop} [Decidable c] {s t u : State} (ht : t.core = s.core) (hu : u.core = s.core) :
    (if c then t else u).core = s.core := by split_ifs <;> assumption

@[simp] theorem core_msix (s : State) (v : Nat) : (s.msix v).core = s.core := by
  have hb : (s.msix v).regs = s.regs := file_msix s v .base
  have hl : (s.msix v).lregs = s.lregs := file_msix s v .lantern
  simp only [State.core, hb, hl]
  simp

@[simp] theorem core_raise (s : State) (e : Ev) (i : List Nat) (h : e.bit.offStack = true) : (s.raise e i).core = s.core := by
  unfold State.raise
  refine core_ite rfl (core_ite ?_ ?_) <;> simp [h]

@[simp] theorem core_log (s : State) (source unit code : Nat) (data : List Byte) : (s.log source unit code data).core = s.core := by
  have hseq := core_wr s R.MGMT_LOG_SEQ_SEQ (seqNext (s.rd R.MGMT_LOG_SEQ_SEQ)) [] rfl
  unfold State.log
  dsimp only
  split
  · rfl
  · split
    · exact hseq
    · refine core_ite hseq (core_ite ?_ hseq)
      rw [core_raise _ _ _ rfl, core_wr _ _ _ _ rfl, core_incSat _ _ _ rfl]
      exact hseq

@[simp] theorem core_capture (s : State) (n reaction : Nat) : (s.capture n reaction).1.core = s.core := by
  have hset := core_set s R.FAULT_STICKY_SOURCES [n] rfl
  have hpins : ∀ t : State, t.drivePins.core = t.core := fun _ => rfl
  unfold State.capture
  dsimp only
  rw [hpins]
  refine core_ite hset ?_
  rw [core_set _ _ _ rfl, core_wr _ R.FAULT_FIRST_TICK_TICK _ _ rfl, core_wr _ R.FAULT_FIRST_REACTION _ _ rfl,
    core_wr _ R.FAULT_FIRST_SOURCE _ _ rfl, hset]

@[simp] theorem core_raiseFault (s : State) (note fence shadow : Bool) : (s.raiseFault note fence shadow).core = s.core := by
  have hset : ∀ (b : Bool) (t : State) (f : Fam), f.offStack = true → (if b then t.set f else t).core = t.core :=
    fun b t f hf => core_ite (core_set t f [] hf) rfl
  unfold State.raiseFault
  dsimp only
  split
  · rw [core_msix, hset _ _ _ rfl, hset _ _ _ rfl, hset _ _ _ rfl]
  · rw [hset _ _ _ rfl, hset _ _ _ rfl, hset _ _ _ rfl]

/-- A source's capture keeps it, and the entry it makes in the log. -/
theorem core_noted (s : State) (n : Nat) : (s.noted n).core = s.core :=
  (foldl_keeps State.core _ (fun t _ => core_log t _ _ _ _) _ _).trans (core_capture s n _)

theorem core_detectClock {s : State} {n : Nat} (hn : n < 128) (h : Mild s n) :
    (s.detectClock ⟨[n], []⟩).1.core = s.core := by
  have hcode : ∀ u : State, Quiet s u → u.rd R.FAULT_REACT_REACTION [n] ≠ 2 ∧ u.rd R.FAULT_REACT_REACTION [n] ≠ 3 ∧
      u.rd R.FAULT_REACT_REACTION [n] ≠ 4 := fun u q => by
    have hle : s.rd R.FAULT_REACT_REACTION [n] ≤ 1 := h
    have := q.2 n hn
    omega
  unfold State.detectClock
  dsimp only
  rw [filter_range_singleton hn]
  by_cases hl : s.srcLive n = true
  · by_cases hm : (s.fault.shadows.any fun p => decide (0 < p.2) && shadowMask p.1 n) = true
    · simp only [hl, hm, if_true, List.filter_cons, List.filter_nil]
      simp +decide
    · simp only [hl, hm, if_true, List.filter_cons, List.filter_nil, List.foldl_cons, List.foldl_nil, List.nil_append,
        Bool.not_false, Bool.false_eq_true, if_false]
      have hnoted : (if ((s.capture n (s.rd R.FAULT_REACT_REACTION [n])).2 &&
            decide (1 ≤ s.rd R.FAULT_REACT_REACTION [n])) = true then [n] else []).foldl
          (fun s n => s.log 1 n (s.rd R.FAULT_REACT_REACTION [n]) (leBytes 4 s.firstWord))
          (s.capture n (s.rd R.FAULT_REACT_REACTION [n])).1 = s.noted n := rfl
      rw [hnoted]
      obtain ⟨h2, h3, h4⟩ := hcode _ (quiet_noted s hn)
      simp [h2, h3, h4, core_noted]
  · simp [hl]

/-- A mild source leaves the state of the stack. -/
theorem core_detect {s : State} {n : Nat} (hn : n < 128) (h : Mild s n) : (s.detect [n]).core = s.core := by
  have hdone : ∀ k t, State.detectGo k t ⟨[], []⟩ = t := fun k t => by cases k <;> rfl
  have hmild : ∀ k ∈ [n], Mild s k := fun k hk => by rwa [List.mem_singleton.1 hk]
  unfold State.detect State.detectGo
  split
  · rfl
  · dsimp only
    rw [(detectClock_mild s [n] hmild).2, hdone]
    exact core_detectClock hn h

end Sys2Proof.Machine
end

section
/-! SUPPORT. The layers of the stack: what setting one leaves, and the protection that follows (R58, R70, R71). -/
namespace Sys2Proof.Machine
open Sys2Proof.Safety

/-! ### What two states with the same core have in common -/

theorem power_of_core {s t : State} (h : t.core = s.core) : t.power = s.power :=
  (congrArg (fun c => c.2.2.1) h :)
theorem fuse_of_core {s t : State} (h : t.core = s.core) : t.fuse = s.fuse :=
  (congrArg (fun c => c.2.2.2.1) h :)
theorem savedLayers_of_core {s t : State} (h : t.core = s.core) : t.ras.savedLayers = s.ras.savedLayers :=
  (congrArg (fun c => c.2.2.2.2.1) h :)
theorem rejoinNext_of_core {s t : State} (h : t.core = s.core) : t.ras.rejoinNext = s.ras.rejoinNext :=
  (congrArg (fun c => c.2.2.2.2.2.1) h :)
theorem sweeps_of_core {s t : State} (h : t.core = s.core) : t.ras.sweeps = s.ras.sweeps :=
  (congrArg (fun c => c.2.2.2.2.2.2) h :)

theorem nBench_of_fuse {s t : State} (h : t.fuse = s.fuse) : t.nBench = s.nBench := by
  unfold State.nBench State.is16 State.benchMask
  rw [h]

theorem nLayer_of_fuse {s t : State} (h : t.fuse = s.fuse) : t.nLayer = s.nLayer := by
  simp only [State.nLayer, nBench_of_fuse h]

theorem live_of_power {s t : State} (h : t.power = s.power) (d : Nat) : t.live d = s.live d := by simp only [State.live, h]

theorem rd_of_core {s t : State} (h : t.core = s.core) {f : Fam} {i : List Nat} (hf : f.held ≠ .bench)
    (hk : stackKey (f.key i) = true) : t.rd f i = s.rd f i := by
  have hb : stackRegs t.regs = stackRegs s.regs := (congrArg (fun c => c.1) h :)
  have hl : stackRegs t.lregs = stackRegs s.lregs := (congrArg (fun c => c.2.1) h :)
  have hb := congrFun hb (f.key i)
  have hl := congrFun hl (f.key i)
  simp only [stackRegs, hk, if_true] at hb hl
  unfold State.rd
  cases hh : f.held with
  | base => exact congrArg (·.getD (f.resetAt i)) hb
  | lantern => exact congrArg (·.getD (f.resetAt i)) hl
  | bench => exact absurd hh hf

theorem stackKey_of_bounds {k : Nat} (lo : 0x1A0010 * 8 ≤ k) (hi : k < 0x1A0200 * 8) : stackKey k = true := by
  have hp : R.CODE_CODE_STATUS_PROTECTION.key [] < 0x1A0010 * 8 := by decide
  have ho : R.CODE_CODE_STATUS_OFFLINE_COUNT.key [] < 0x1A0010 * 8 := by decide
  have hs : R.CODE_CODE_STATUS_SUSPECT_ANY.key [] < 0x1A0010 * 8 := by decide
  simp only [stackKey, List.contains_cons, List.contains_nil, Bool.or_false, Bool.and_eq_true, Bool.not_eq_true',
    Bool.or_eq_false_iff, Bool.or_eq_true, decide_eq_true_eq, decide_eq_false_iff_not, beq_eq_false_iff_ne]
  omega

theorem stackKey_state {n : Nat} (hn : n < 18) : stackKey (R.CODE_LAYER_STATE_STATE.key [n]) = true :=
  stackKey_of_bounds (by simp [Fam.key, Fam.rel, R.CODE_LAYER_STATE_STATE])
    (by simp [Fam.key, Fam.rel, R.CODE_LAYER_STATE_STATE]; omega)

theorem stackKey_cause {n : Nat} (hn : n < 18) : stackKey (R.CODE_LAYER_STATE_CAUSE.key [n]) = true :=
  stackKey_of_bounds (by simp [Fam.key, Fam.rel, R.CODE_LAYER_STATE_CAUSE]; omega)
    (by simp [Fam.key, Fam.rel, R.CODE_LAYER_STATE_CAUSE]; omega)

theorem stackKey_mark {n pos : Nat} (hn : n < 18) (hp : pos < 64) : stackKey (R.CODE_SUSPECT_MARKS.key [n, pos]) = true :=
  stackKey_of_bounds (by simp [Fam.key, Fam.rel, R.CODE_SUSPECT_MARKS]; omega)
    (by simp [Fam.key, Fam.rel, R.CODE_SUSPECT_MARKS]; omega)

theorem layer_of_core {s t : State} (h : t.core = s.core) (n : Nat) : t.layer n = s.layer n := by
  unfold State.layer
  rw [nLayer_of_fuse (fuse_of_core h), live_of_power (power_of_core h), savedLayers_of_core h]
  by_cases hn : s.nLayer ≤ n
  · rw [if_pos hn, if_pos hn]
  · rw [if_neg hn, if_neg hn, rd_of_core h (by decide) (stackKey_state ((Nat.lt_of_not_le hn).trans_le (nLayer_le s)))]

/-! ### One layer set -/

theorem lregs_wr (s : State) (f : Fam) (v : Nat) (i : List Nat) (h : f.held = .base) : (s.wr f v i).lregs = s.lregs := by
  unfold State.wr
  rw [h]
  rfl

theorem lregs_raise (s : State) (e : Ev) (i : List Nat) (h : e.bit.held = .base) : (s.raise e i).lregs = s.lregs := by
  have hmsix : ∀ t v, (State.msix t v).lregs = t.lregs := fun t v => file_msix t v .lantern
  unfold State.raise
  dsimp only [State.set]
  split_ifs
  · rfl
  · rw [hmsix, lregs_wr _ _ _ _ h]
  · exact lregs_wr _ _ _ _ h

/-- The reactions are lantern registers. -/
theorem mild_of_lregs {s t : State} (h : t.lregs = s.lregs) {n : Nat} (hm : Mild s n) : Mild t n := by
  unfold Mild
  have : t.rd R.FAULT_REACT_REACTION [n] = s.rd R.FAULT_REACT_REACTION [n] :=
    congrArg (fun l => (kvGet (R.FAULT_REACT_REACTION.key [n]) l).getD (R.FAULT_REACT_REACTION.resetAt [n])) h
  rwa [this]

/-- What `setLayer` makes of its layer's two fields where the domain of the CODE block is up. -/
def State.layerPut (s : State) (n st cause : Nat) : State :=
  (s.wr R.CODE_LAYER_STATE_STATE st [n]).wr R.CODE_LAYER_STATE_CAUSE cause [n]

theorem rd_layerPut_state (s : State) (n st cause : Nat) : (s.layerPut n st cause).rd R.CODE_LAYER_STATE_STATE [n] = st % 4 := by
  unfold State.layerPut
  rw [rd_wr_key _ _ _ _ _ _ (by simp [Fam.key, R.CODE_LAYER_STATE_STATE, R.CODE_LAYER_STATE_CAUSE, Fam.rel]), rd_wr_same]
  rfl

theorem rd_layerPut_cause (s : State) (n st cause : Nat) :
    (s.layerPut n st cause).rd R.CODE_LAYER_STATE_CAUSE [n] = cause % 16 := rd_wr_same _ _ _ _

theorem rd_layerPut_ne (s : State) {n m : Nat} (st cause : Nat) (h : m ≠ n) :
    (s.layerPut n st cause).rd R.CODE_LAYER_STATE_STATE [m] = s.rd R.CODE_LAYER_STATE_STATE [m] := by
  unfold State.layerPut
  rw [rd_wr_key, rd_wr_key] <;> simp only [Fam.key, R.CODE_LAYER_STATE_STATE, R.CODE_LAYER_STATE_CAUSE, Fam.rel] <;> omega

section
variable (s : State) (n st cause : Nat)

theorem setLayer_fuse : (s.setLayer n st cause).fuse = s.fuse := by
  unfold State.setLayer
  split_ifs <;> simp [State.recordDue]
theorem setLayer_power : (s.setLayer n st cause).power = s.power := by
  unfold State.setLayer
  split_ifs <;> simp [State.recordDue]

theorem setLayer_files (h : Held) : (s.setLayer n st cause).file h =
    if n < s.nLayer ∧ s.live 8 = true then (s.layerPut n st cause).file h else s.file h := by
  by_cases hn : s.nLayer ≤ n
  · rw [if_neg (by omega), State.setLayer, if_pos hn]
  · by_cases hl : s.live 8 = true
    · rw [if_pos ⟨by omega, hl⟩]
      unfold State.setLayer
      rw [if_neg hn, if_pos hl]
      dsimp only
      split <;> cases h <;> rfl
    · rw [if_neg (by simp [hl])]
      unfold State.setLayer
      rw [if_neg hn, if_neg hl]
      dsimp only
      split <;> cases h <;> rfl

end

/-! ### What a layer is after it has been set -/

theorem layer_of_live {s : State} (hl : s.live 8 = true) {n : Nat} (hn : n < s.nLayer) :
    s.layer n = s.rd R.CODE_LAYER_STATE_STATE [n] := by
  rw [State.layer, if_neg (by omega), if_pos hl]

theorem layer_of_nLayer_le {s : State} {n : Nat} (hn : s.nLayer ≤ n) : s.layer n = 3 := if_pos hn

theorem rd_of_file {s t : State} {f : Fam} (h : t.file f.held = s.file f.held) (i : List Nat) : t.rd f i = s.rd f i := by
  simp only [State.rd, h]

theorem rd_setLayer {s : State} (hl : s.live 8 = true) {n : Nat} (hn : n < s.nLayer) (st cause : Nat) (f : Fam) (i : List Nat) :
    (s.setLayer n st cause).rd f i = (s.layerPut n st cause).rd f i :=
  rd_of_file (by rw [setLayer_files, if_pos ⟨hn, hl⟩]) i

theorem rd_setLayer_none {s : State} {n : Nat} (h : ¬(n < s.nLayer ∧ s.live 8 = true)) (st cause : Nat) (f : Fam) (i : List Nat) :
    (s.setLayer n st cause).rd f i = s.rd f i := rd_of_file (by rw [setLayer_files, if_neg h]) i

theorem setLayer_live (s : State) (n st cause d : Nat) : (s.setLayer n st cause).live d = s.live d :=
  live_of_power (setLayer_power s n st cause) d

theorem setLayer_nLayer (s : State) (n st cause : Nat) : (s.setLayer n st cause).nLayer = s.nLayer :=
  nLayer_of_fuse (setLayer_fuse s n st cause)

theorem layer_setLayer_same {s : State} (hl : s.live 8 = true) {n st : Nat} (hn : n < s.nLayer) (hst : st < 4) (cause : Nat) :
    (s.setLayer n st cause).layer n = st := by
  rw [layer_of_live ((setLayer_live s n st cause 8).trans hl) (by rwa [setLayer_nLayer]),
    rd_setLayer hl hn, rd_layerPut_state, Nat.mod_eq_of_lt hst]

theorem layer_setLayer_ne {s : State} (hl : s.live 8 = true) {n m : Nat} (st cause : Nat) (h : m ≠ n) :
    (s.setLayer n st cause).layer m = s.layer m := by
  by_cases hm : m < s.nLayer
  · rw [layer_of_live ((setLayer_live s n st cause 8).trans hl) (by rwa [setLayer_nLayer]), layer_of_live hl hm]
    by_cases hn : n < s.nLayer
    · rw [rd_setLayer hl hn, rd_layerPut_ne s st cause h]
    · exact rd_setLayer_none (by omega) _ _ _ _
  · rw [layer_of_nLayer_le (by rw [setLayer_nLayer]; omega), layer_of_nLayer_le (by omega)]

theorem cause_setLayer_same {s : State} (hl : s.live 8 = true) {n : Nat} (hn : n < s.nLayer) (st : Nat) {cause : Nat}
    (hc : cause < 16) : (s.setLayer n st cause).rd R.CODE_LAYER_STATE_CAUSE [n] = cause := by
  rw [rd_setLayer hl hn, rd_layerPut_cause, Nat.mod_eq_of_lt hc]

theorem lregs_setLayer (s : State) (n st cause : Nat) : (s.setLayer n st cause).lregs = s.lregs := by
  have h : (s.setLayer n st cause).lregs = _ := setLayer_files s n st cause .lantern
  rw [h]
  split
  · exact (lregs_wr _ _ _ _ rfl).trans (lregs_wr _ _ _ _ rfl)
  · rfl

/-! ### The checks that follow -/

theorem layer_congr {s t : State} (hp : t.power = s.power) (hf : t.fuse = s.fuse) (hs : t.ras.savedLayers = s.ras.savedLayers)
    {n : Nat} (hr : t.rd R.CODE_LAYER_STATE_STATE [n] = s.rd R.CODE_LAYER_STATE_STATE [n]) : t.layer n = s.layer n := by
  unfold State.layer
  rw [nLayer_of_fuse hf, live_of_power hp, hs, hr]

/-- The end of a rejoin sweep touches no member of the layers' fields. -/
theorem rd_sweepCheck (s : State) {f : Fam} {i : List Nat} (h : 0x1A0060 * 8 + 27 ≤ f.key i ∨ f.key i < 0x1A0060 * 8)
    (hb : f.key i ≠ R.CODE_CODE_STATUS_REJOIN_BUSY.key []) : s.sweepCheck.rd f i = s.rd f i := by
  have hptr : R.CODE_REJOIN_PTR_SLAB.key [] = 0x1A0060 * 8 := rfl
  unfold State.sweepCheck
  split
  · exact (rd_wr_key _ R.CODE_REJOIN_PTR_SLAB f 0 [] i (by omega)).trans
      (rd_wr_key s R.CODE_CODE_STATUS_REJOIN_BUSY f 0 [] i hb)
  · rfl

theorem key_layerField {f : Fam} (ho : f.off = 0x1A0010) (hd : f.dims = [(18, 32)]) (hw : f.lsb < 8) {n : Nat} (hn : n < 18) :
    (0x1A0060 * 8 + 27 ≤ f.key [n] ∨ f.key [n] < 0x1A0060 * 8) ∧ f.key [n] ≠ R.CODE_CODE_STATUS_REJOIN_BUSY.key [] := by
  have hk : f.key [n] = 0x1A0010 * 8 + f.lsb + 32 * n := by simp [Fam.key, ho, hd, Fam.rel]; omega
  have hbusy : R.CODE_CODE_STATUS_REJOIN_BUSY.key [] = 0x1A0004 * 8 + 9 := rfl
  rw [hk, hbusy]
  omega

theorem sweepCheck_outside (s : State) : s.sweepCheck.power = s.power ∧ s.sweepCheck.fuse = s.fuse ∧
    s.sweepCheck.ras.savedLayers = s.ras.savedLayers := by
  unfold State.sweepCheck
  split <;> simp

theorem layer_sweepCheck (s : State) (n : Nat) : s.sweepCheck.layer n = s.layer n := by
  obtain ⟨hp, hf, hs⟩ := sweepCheck_outside s
  by_cases hn : n < 18
  · obtain ⟨hptr, hbusy⟩ := key_layerField (f := R.CODE_LAYER_STATE_STATE) rfl rfl (by decide) hn
    exact layer_congr hp hf hs (rd_sweepCheck s hptr hbusy)
  · have := nLayer_le s
    rw [layer_of_nLayer_le (by rw [nLayer_of_fuse hf]; omega), layer_of_nLayer_le (by omega)]

theorem lregs_sweepCheck (s : State) : s.sweepCheck.lregs = s.lregs := by
  unfold State.sweepCheck
  split
  · exact (lregs_wr _ _ _ _ rfl).trans (lregs_wr _ _ _ _ rfl)
  · rfl

@[simp] theorem core_stopMarch (s : State) : s.stopMarch.core = s.core := by
  unfold State.stopMarch
  split
  · exact core_ite rfl (core_wr s R.TEST_CS_PROGRESS_REBUILD_PTR 0 [] rfl)
  · rfl

theorem lregs_stopMarch (s : State) : s.stopMarch.lregs = s.lregs := by
  unfold State.stopMarch
  split
  · split
    · rfl
    · exact lregs_wr s R.TEST_CS_PROGRESS_REBUILD_PTR 0 [] rfl
  · rfl

@[simp] theorem core_heldUpdate (s : State) : s.heldUpdate.core = s.core := by
  unfold State.heldUpdate
  dsimp only
  rw [core_wrB _ _ _ _ rfl]
  exact core_ite (core_raise s E.CACHE_HELD_DIRTY [] rfl) rfl

theorem lregs_heldUpdate (s : State) : s.heldUpdate.lregs = s.lregs := by
  unfold State.heldUpdate
  dsimp only [State.wrB]
  rw [lregs_wr _ _ _ _ rfl]
  split
  · exact lregs_raise s E.CACHE_HELD_DIRTY [] rfl
  · rfl

theorem protUpdate_frame (s : State) : s.protUpdate.1.core = s.core ∧ s.protUpdate.1.lregs = s.lregs := by
  have hshown : ∀ v w, ((((s.wr R.CODE_CODE_STATUS_OFFLINE_COUNT v).wr R.CODE_CODE_STATUS_PROTECTION w).raise
      E.CODE_STATE_CHANGE).core = s.core) ∧ (((s.wr R.CODE_CODE_STATUS_OFFLINE_COUNT v).wr R.CODE_CODE_STATUS_PROTECTION w).raise
      E.CODE_STATE_CHANGE).lregs = s.lregs := fun v w => by
    rw [core_raise _ _ _ rfl, core_wr _ _ _ _ rfl, core_wr _ _ _ _ rfl, lregs_raise _ _ _ rfl, lregs_wr _ _ _ _ rfl,
      lregs_wr _ _ _ _ rfl]
    exact ⟨rfl, rfl⟩
  have hended : ∀ (t : State) (j : _), ({ (t.clr R.FAULT_INJ_CTRL_GO).wr R.FAULT_INJ_STATUS_REMAINING 0 with
      fault := j } : State).core = t.core ∧ ({ (t.clr R.FAULT_INJ_CTRL_GO).wr R.FAULT_INJ_STATUS_REMAINING 0 with
      fault := j } : State).lregs = t.lregs := fun t j =>
    ⟨(core_wr _ R.FAULT_INJ_STATUS_REMAINING 0 [] rfl).trans (core_clr t R.FAULT_INJ_CTRL_GO [] rfl),
      (lregs_wr _ R.FAULT_INJ_STATUS_REMAINING 0 [] rfl).trans (lregs_wr t R.FAULT_INJ_CTRL_GO 0 [] rfl)⟩
  unfold State.protUpdate
  dsimp only
  split_ifs
  · exact ⟨rfl, rfl⟩
  · exact ⟨core_wr _ _ _ _ rfl, lregs_wr _ _ _ _ rfl⟩
  · obtain ⟨hc, hl⟩ := hended _ _
    obtain ⟨hc', hl'⟩ := hshown s.offline s.protection
    exact ⟨(core_heldUpdate _).trans (hc.trans hc'), (lregs_heldUpdate _).trans (hl.trans hl')⟩
  · obtain ⟨hc', hl'⟩ := hshown s.offline s.protection
    exact ⟨(core_heldUpdate _).trans hc', (lregs_heldUpdate _).trans hl'⟩

theorem protUpdate_sources (s : State) : s.protUpdate.2 = [] ∨ s.protUpdate.2 = [32] := by
  unfold State.protUpdate
  dsimp only
  split_ifs <;> simp

theorem protUpdate_outside (s : State) : s.protUpdate.1.haul = s.haul ∧ s.protUpdate.1.ras = s.ras ∧
    s.protUpdate.1.cache = s.cache ∧ (s.fault.inj = none → s.protUpdate.1.fault.inj = none) := by
  have hheld : ∀ t : State, t.heldUpdate.haul = t.haul ∧ t.heldUpdate.ras = t.ras ∧ t.heldUpdate.cache = t.cache ∧
      t.heldUpdate.fault = t.fault := fun t => by
    unfold State.heldUpdate
    dsimp only
    split_ifs <;> simp
  unfold State.protUpdate
  dsimp only
  split_ifs <;> simp +contextual [hheld]

theorem protSettle_outside {s : State} (h : Mild s 32) : s.protSettle.haul = s.haul ∧ s.protSettle.ras = s.ras ∧
    s.protSettle.cache = s.cache ∧ (s.fault.inj = none → s.protSettle.fault.inj = none) := by
  obtain ⟨hh, hr, hc, hf⟩ := protUpdate_outside s
  have hq := (detect_mild s.protUpdate.1 s.protUpdate.2 fun n hn => by
    obtain hsrc | hsrc := protUpdate_sources s
    · simp [hsrc] at hn
    · rw [hsrc, List.mem_singleton] at hn
      exact hn ▸ mild_of_lregs (protUpdate_frame s).2 h).1
  have hq' : s.protSettle = _ := hq
  refine ⟨?_, ?_, ?_, fun hi => ?_⟩
  · rw [← hh, hq']
  · rw [← hr, hq']
  · rw [← hc, hq']
  · rw [← hf hi, hq']

/-- The settling of the protection state leaves the layers as they are. -/
theorem core_protSettle {s : State} (h : Mild s 32) : s.protSettle.core = s.core := by
  obtain ⟨hcore, hl⟩ := protUpdate_frame s
  unfold State.protSettle
  dsimp only
  obtain hsrc | hsrc := protUpdate_sources s
  · rw [hsrc]
    exact hcore
  · rw [hsrc, core_detect (by decide) (mild_of_lregs hl h), hcore]

end Sys2Proof.Machine
end

section
/-! PROOFS. The bank hash, and the end of a rejoin sweep (R49, R73). -/
namespace Sys2Proof.Machine
open Sys2Proof.Safety

/-! ### The bank hash (R49) -/

theorem rd_of_lregs {s t : State} (h : t.lregs = s.lregs) {f : Fam} (hf : f.held = .lantern) (i : List Nat) :
    t.rd f i = s.rd f i := rd_of_file (by rw [hf]; exact h) i

theorem lregs_ite {c : Prop} [Decidable c] {s t u : State} (ht : t.lregs = s.lregs) (hu : u.lregs = s.lregs) :
    (if c then t else u).lregs = s.lregs := by split_ifs <;> assumption

/-- The violation log is on the base die. -/
theorem lregs_violog (s : State) (v : Viol) (bar addr : Nat) (w : Bool) (src : RegSrc) :
    (s.violog v bar addr w src).lregs = s.lregs := by
  have hw : ∀ (t : State) (f : Fam) (x : Nat) (i : List Nat), f.held = .base → t.lregs = s.lregs → (t.wr f x i).lregs = s.lregs :=
    fun t f x i hf ht => (lregs_wr t f x i hf).trans ht
  unfold State.violog
  dsimp only [State.incSat, State.addSat, State.inc, State.wrB]
  rw [lregs_raise _ _ _ rfl]
  refine hw _ _ _ _ rfl (hw _ _ _ _ rfl ?_)
  have hfirst := hw _ R.HOST_VIOLOG_INFO_BAR bar [s.rd R.HOST_VIOLOG_STATUS_NEXT] rfl
    (hw _ R.HOST_VIOLOG_INFO_WRITE (b2n w) [s.rd R.HOST_VIOLOG_STATUS_NEXT] rfl
    (hw _ R.HOST_VIOLOG_INFO_TYPE v.code [s.rd R.HOST_VIOLOG_STATUS_NEXT] rfl
    (hw _ R.HOST_VIOLOG_ADDR_HI_ADDR (addr / 2 ^ 32) [s.rd R.HOST_VIOLOG_STATUS_NEXT] rfl
    (hw _ R.HOST_VIOLOG_ADDR_LO_ADDR addr [s.rd R.HOST_VIOLOG_STATUS_NEXT] rfl
    (lregs_ite (c := decide (16 ≤ s.rd R.HOST_VIOLOG_STATUS_COUNT) = true)
      ((lregs_raise _ E.HOST_VIOLOG_OVERFLOW [] rfl).trans (hw s R.HOST_VIOLOG_OVERFLOW_COUNT
        (min (s.rd R.HOST_VIOLOG_OVERFLOW_COUNT + 1) (2 ^ R.HOST_VIOLOG_OVERFLOW_COUNT.width - 1)) [] rfl rfl))
      (hw s R.HOST_VIOLOG_STATUS_COUNT (s.rd R.HOST_VIOLOG_STATUS_COUNT + 1) [] rfl rfl))))))
  cases src <;> exact hw _ _ _ _ rfl (hw _ _ _ _ rfl hfirst)

theorem stackKey_bankHash : stackKey (R.CODE_CODE_CTRL_BANK_HASH.key []) = true := by decide

theorem rd_bankHash_refuse {s : State} (h : Mild s 84) (src : RegSrc) (off : Nat) :
    (s.refuse src off).rd R.CODE_CODE_CTRL_BANK_HASH = s.rd R.CODE_CODE_CTRL_BANK_HASH := by
  have hl := lregs_violog s .regRule 0 off true src
  exact (rd_of_core (core_detect (by decide) (mild_of_lregs hl h)) (by decide) stackKey_bankHash).trans (rd_of_lregs hl rfl [])

/-- R49: the bank hash is written only while the stack is EMPTY. -/
theorem rd_bankHashWrite {s : State} (hl : s.live 8 = true) (h : Mild s 84) (src : RegSrc) (v : Nat) :
    (s.bankHashWrite src v).rd R.CODE_CODE_CTRL_BANK_HASH =
      if s.rd R.CODE_CODE_STATUS_EMPTY = 1 then v % 2 else s.rd R.CODE_CODE_CTRL_BANK_HASH := by
  unfold State.bankHashWrite
  by_cases hsame : v % 2 = s.rd R.CODE_CODE_CTRL_BANK_HASH
  · rw [if_pos (Or.inr hsame), hsame, ite_self]
  · rw [if_neg (by simp [hl, hsame])]
    by_cases hempty : s.rd R.CODE_CODE_STATUS_EMPTY = 1
    · rw [if_pos (by simp [State.is, hempty]), if_pos hempty, rd_wr_same]
      rfl
    · rw [if_neg (by simp [State.is, hempty]), if_neg hempty]
      have hraise := lregs_raise s E.CODE_REQ_REFUSED [] rfl
      exact (rd_bankHash_refuse (mild_of_lregs hraise h) src _).trans (rd_of_lregs hraise rfl [])

/-! ### Rejoining layers made ONLINE (R73) -/

/-- A step of a pass over layers that makes a REJOINING one ONLINE and leaves the others. -/
structure MakesOnline (g : State → Nat → State) (s : State) (n : Nat) : Prop where
  power : (g s n).power = s.power
  fuse : (g s n).fuse = s.fuse
  lregs : (g s n).lregs = s.lregs
  same : s.layer n = 2 → (g s n).layer n = 0
  other : ∀ m, m ≠ n → (g s n).layer m = s.layer m

theorem makesOnline_setLayer {s : State} (hl : s.live 8 = true) {n : Nat} (hn : n < s.nLayer) :
    MakesOnline (fun t n => t.setLayer n 0 0) s n :=
  ⟨setLayer_power s n 0 0, setLayer_fuse s n 0 0, lregs_setLayer s n 0 0,
    fun _ => layer_setLayer_same hl hn (by decide) 0, fun _ hm => layer_setLayer_ne hl 0 0 hm⟩

/-- The pass over a list of distinct layers. -/
theorem foldl_makesOnline (g : State → Nat → State)
    (hg : ∀ (s : State) (n : Nat), s.live 8 = true → n < s.nLayer → MakesOnline g s n) (l : List Nat) (s : State)
    (hl : s.live 8 = true) (hmem : ∀ n ∈ l, n < s.nLayer) (hnd : l.Nodup) :
    (l.foldl g s).power = s.power ∧ (l.foldl g s).fuse = s.fuse ∧ (l.foldl g s).lregs = s.lregs ∧
      (∀ n ∈ l, s.layer n = 2 → (l.foldl g s).layer n = 0) ∧ ∀ n, n ∉ l → (l.foldl g s).layer n = s.layer n := by
  induction l generalizing s with
  | nil => exact ⟨rfl, rfl, rfl, fun n hn => absurd hn (List.not_mem_nil), fun _ _ => rfl⟩
  | cons a l ih =>
    obtain ⟨ha, hnd⟩ := List.nodup_cons.1 hnd
    have h := hg s a hl (hmem a List.mem_cons_self)
    obtain ⟨hp, hf, hr, hin, hout⟩ := ih (g s a) ((live_of_power h.power 8).trans hl)
      (fun n hn => (hmem n (List.mem_cons_of_mem a hn)).trans_eq (nLayer_of_fuse h.fuse).symm) hnd
    refine ⟨hp.trans h.power, hf.trans h.fuse, hr.trans h.lregs, fun n hn h2 => ?_, fun n hn => ?_⟩
    · by_cases hna : n = a
      · subst hna
        exact (hout n ha).trans (h.same h2)
      · exact hin n ((List.mem_cons.1 hn).resolve_left hna) ((h.other n hna).trans h2)
    · obtain ⟨hna, hn⟩ := not_or.1 (fun h => hn (List.mem_cons.2 h))
      exact (hout n hn).trans (h.other n hna)

theorem makesOnline_rejoined {s : State} (hl : s.live 8 = true) {n : Nat} (hn : n < s.nLayer) :
    MakesOnline (fun t n => (t.setLayer n 0 0).recordDue 4 n 0 0 0) s n := by
  have h := makesOnline_setLayer hl hn
  have hlayer : ∀ m, ((s.setLayer n 0 0).recordDue 4 n 0 0 0).layer m = (s.setLayer n 0 0).layer m := fun _ =>
    layer_congr rfl rfl rfl rfl
  exact ⟨h.power, h.fuse, h.lregs, fun h2 => (hlayer n).trans (h.same h2), fun m hm => (hlayer m).trans (h.other m hm)⟩

/-- The REJOINING layers made ONLINE. -/
def State.allRejoined (s : State) : State :=
  ((List.range s.nLayer).filter fun n => s.layer n == 2).foldl (fun t n => (t.setLayer n 0 0).recordDue 4 n 0 0 0) s

/-- The rejoin sweep ended. -/
def State.rejoinEnded (s : State) : State :=
  ((({ s with ras := { s.ras with rejoinNext := none } } : State).clr R.CODE_CODE_STATUS_REJOIN_BUSY).wr
    R.CODE_REJOIN_PTR_SLAB 0).raise E.CODE_REJOIN_DONE

theorem rejoinDone_eq {s : State} (hnext : s.ras.rejoinNext = some slabCount) (hl : s.live 8 = true) :
    s.rejoinDone = s.allRejoined.rejoinEnded.protSettle := by
  unfold State.rejoinDone
  rw [if_pos (by simp [hnext, hl])]
  rfl

theorem allRejoined_keeps {s : State} (hl : s.live 8 = true) :
    s.allRejoined.lregs = s.lregs ∧ ∀ n, n < s.nLayer → s.layer n = 2 → s.allRejoined.layer n = 0 := by
  obtain ⟨-, -, hlr, hin, -⟩ := foldl_makesOnline _ (fun t n ht hn => makesOnline_rejoined ht hn)
    ((List.range s.nLayer).filter fun n => s.layer n == 2) s hl
    (fun n hn => List.mem_range.1 (List.mem_filter.1 hn).1) (List.nodup_range.filter _)
  exact ⟨hlr, fun n hn h2 => hin n (List.mem_filter.2 ⟨List.mem_range.2 hn, by simp [h2]⟩) h2⟩

theorem lregs_rejoinEnded (s : State) : s.rejoinEnded.lregs = s.lregs :=
  (lregs_raise _ E.CODE_REJOIN_DONE [] rfl).trans ((lregs_wr _ R.CODE_REJOIN_PTR_SLAB 0 [] rfl).trans
    (lregs_wr _ R.CODE_CODE_STATUS_REJOIN_BUSY 0 [] rfl))

theorem rejoinNext_rejoinEnded (s : State) : s.rejoinEnded.ras.rejoinNext = none := by simp [State.rejoinEnded]

theorem rd_rejoinEnded_busy (s : State) : s.rejoinEnded.rd R.CODE_CODE_STATUS_REJOIN_BUSY = 0 := by
  unfold State.rejoinEnded
  rw [rd_raise_ne _ _ _ _ _ (by decide), rd_wr_key _ _ _ _ _ _ (by decide), rd_clr_same]

theorem layer_rejoinEnded (s : State) {n : Nat} (hn : n < 18) : s.rejoinEnded.layer n = s.layer n := by
  have hptr : R.CODE_LAYER_STATE_STATE.key [n] ≠ R.CODE_REJOIN_PTR_SLAB.key [] := by
    simp only [Fam.key, R.CODE_LAYER_STATE_STATE, R.CODE_REJOIN_PTR_SLAB, Fam.rel]
    omega
  have hbusy : R.CODE_LAYER_STATE_STATE.key [n] ≠ R.CODE_CODE_STATUS_REJOIN_BUSY.key [] := by
    simp only [Fam.key, R.CODE_LAYER_STATE_STATE, R.CODE_CODE_STATUS_REJOIN_BUSY, Fam.rel]
    omega
  have hdone : R.CODE_LAYER_STATE_STATE.key [n] ≠ E.CODE_REJOIN_DONE.bit.key [] := by
    simp only [Fam.key, R.CODE_LAYER_STATE_STATE, E.CODE_REJOIN_DONE, R.CODE_CODE_EVENTS_REJOIN_DONE, Fam.rel]
    omega
  refine layer_congr (by simp [State.rejoinEnded]) (by simp [State.rejoinEnded]) (by simp [State.rejoinEnded]) ?_
  unfold State.rejoinEnded
  rw [rd_raise_ne _ _ _ _ _ fun h => hdone h.2, rd_wr_key _ _ _ _ _ _ hptr]
  exact rd_wr_key _ _ _ _ _ _ hbusy

/-- R73: the end of the rejoin sweep. -/
theorem rejoinDone_ends {s : State} (hnext : s.ras.rejoinNext = some slabCount) (hl : s.live 8 = true) (hm : Mild s 32) :
    s.rejoinDone.ras.rejoinNext = none ∧ s.rejoinDone.rd R.CODE_CODE_STATUS_REJOIN_BUSY = 0 ∧
      ∀ n, n < s.nLayer → s.layer n = 2 → s.rejoinDone.layer n = 0 := by
  obtain ⟨hlr, hin⟩ := allRejoined_keeps hl
  have hsettle := core_protSettle (mild_of_lregs ((lregs_rejoinEnded _).trans hlr) hm)
  rw [rejoinDone_eq hnext hl]
  refine ⟨?_, ?_, fun n hn h2 => ?_⟩
  · rw [rejoinNext_of_core hsettle, rejoinNext_rejoinEnded]
  · rw [rd_of_core hsettle (by decide) (by decide), rd_rejoinEnded_busy]
  · rw [layer_of_core hsettle, layer_rejoinEnded _ (hn.trans_le (nLayer_le s)), hin n hn h2]

end Sys2Proof.Machine
end

section
/-! PROOFS. The start of a stack clear (R74, R75). -/
namespace Sys2Proof.Machine
open Sys2Proof.Safety

/-- Nothing waits in the cache, and no descriptor runs. -/
def NoneWaits (s : State) : Prop := s.cache.opq = [] ∧ s.cache.wait = [] ∧ ∀ c, (s.chan c).run = none

theorem chan_run_none {s : State} (h : ∀ x ∈ s.haul.chans, x.run = none) (c : Nat) : (s.chan c).run = none := by
  unfold State.chan
  by_cases hc : c < s.haul.chans.length
  · rw [List.getD_eq_getElem _ _ hc]
    exact h _ (List.getElem_mem hc)
  · rw [List.getD_eq_default _ _ (Nat.le_of_not_lt hc)]
    rfl

theorem runOpq_of_nil {s : State} (h : s.cache.opq = []) : s.runOpq = s := by
  unfold State.runOpq
  rw [h, List.foldl_nil, ← h]

theorem retryWait_of_nil {s : State} (h : s.cache.wait = []) : s.retryWait = s := by
  unfold State.retryWait
  rw [h, List.foldl_nil, ← h]

theorem retryFences_of_none {s : State} (h : ∀ c, (s.chan c).run = none) : s.retryFences = s := by
  have hstep : ∀ (l : List Nat), l.foldl (fun s c =>
      match (s.chan c).run with
      | some r => if r.phase == .fence then s.advance c else s
      | none => s) s = s := fun l => by
    induction l with
    | nil => rfl
    | cons c l ih =>
      rw [List.foldl_cons, h c]
      exact ih
  exact hstep _

theorem cacheSettle_of_noneWaits {s : State} (h : NoneWaits s) : s.cacheSettle = s.heldUpdate := by
  obtain ⟨hopq, hwait, hrun⟩ := h
  unfold State.cacheSettle
  rw [runOpq_of_nil hopq, retryWait_of_nil hwait, retryFences_of_none hrun]

theorem heldUpdate_outside (s : State) : s.heldUpdate.cache = s.cache ∧ s.heldUpdate.ras = s.ras ∧ s.heldUpdate.haul = s.haul := by
  unfold State.heldUpdate
  dsimp only
  split <;> simp

/-- R75 step 1: the status bits of a clear that starts, and its pointer. -/
def State.clearMarked (s : State) : State :=
  let t := (s.clr R.CODE_CODE_STATUS_EMPTY).set R.CODE_CODE_STATUS_CLEAR_PENDING
  let t := (t.set R.CODE_CODE_STATUS_CLEAR_BUSY).set R.CODE_CODE_CTRL_CLEAR
  let t := (t.wr R.CODE_CLEAR_PTR_SLAB 0).clr R.CACHE_SRMAP_STATUS_UNFLUSHED
  { t with ras := { t.ras with clearNext := some 0 } }

/-- The suspect-region map emptied. -/
@[irreducible] def State.srmapCleared (s : State) : State :=
  (List.range 4096).foldl (fun t g => if t.is R.CACHE_SRMAP_BITS [g] then t.clr R.CACHE_SRMAP_BITS [g] else t) s

/-- R75 step 2: the lines and merge entries dropped. -/
def State.cacheDropped (s : State) : State := { s with cache := { s.cache with lines := [], merge := [] } }

theorem cacheDropped_outside (s : State) : s.cacheDropped.core = s.core ∧ s.cacheDropped.ras = s.ras ∧
    s.cacheDropped.haul = s.haul ∧ s.cacheDropped.cache.opq = s.cache.opq ∧ s.cacheDropped.cache.wait = s.cache.wait ∧
    s.cacheDropped.cache.lines = [] ∧ s.cacheDropped.cache.merge = [] := ⟨rfl, rfl, rfl, rfl, rfl, rfl, rfl⟩

theorem clearStart_eq (s : State) : s.clearStart = s.clearMarked.srmapCleared.cacheDropped.cacheSettle.heldUpdate := by
  unfold State.clearStart State.clearMarked State.srmapCleared State.cacheDropped
  dsimp only

theorem rd_clearMarked (s : State) : s.clearMarked.rd R.CODE_CODE_STATUS_CLEAR_BUSY = 1 ∧
    s.clearMarked.rd R.CODE_CODE_STATUS_EMPTY = 0 ∧ s.clearMarked.rd R.CODE_CODE_STATUS_CLEAR_PENDING = 1 ∧
    s.clearMarked.rd R.CODE_CLEAR_PTR_SLAB = 0 := by
  have hdrop : ∀ f : Fam, s.clearMarked.rd f = ((((((s.clr R.CODE_CODE_STATUS_EMPTY).set R.CODE_CODE_STATUS_CLEAR_PENDING).set
    R.CODE_CODE_STATUS_CLEAR_BUSY).set R.CODE_CODE_CTRL_CLEAR).wr R.CODE_CLEAR_PTR_SLAB 0).clr
    R.CACHE_SRMAP_STATUS_UNFLUSHED).rd f := fun _ => rfl
  simp only [hdrop, State.set, State.clr]
  refine ⟨?_, ?_, ?_, ?_⟩
  · rw [rd_wr_key _ _ _ _ _ _ (by decide), rd_wr_key _ _ _ _ _ _ (by decide), rd_wr_key _ _ _ _ _ _ (by decide), rd_wr_same]
    rfl
  · rw [rd_wr_key _ _ _ _ _ _ (by decide), rd_wr_key _ _ _ _ _ _ (by decide), rd_wr_key _ _ _ _ _ _ (by decide),
      rd_wr_key _ _ _ _ _ _ (by decide), rd_wr_key _ _ _ _ _ _ (by decide), rd_wr_same]
    rfl
  · rw [rd_wr_key _ _ _ _ _ _ (by decide), rd_wr_key _ _ _ _ _ _ (by decide), rd_wr_key _ _ _ _ _ _ (by decide),
      rd_wr_key _ _ _ _ _ _ (by decide), rd_wr_same]
    rfl
  · rw [rd_wr_key _ _ _ _ _ _ (by decide), rd_wr_same]
    rfl

theorem clearMarked_outside (s : State) : s.clearMarked.ras.clearNext = some 0 ∧ s.clearMarked.cache = s.cache ∧
    s.clearMarked.haul = s.haul := by simp [State.clearMarked]

theorem srmapCleared_outside (s : State) : s.srmapCleared.core = s.core ∧ s.srmapCleared.ras = s.ras ∧
    s.srmapCleared.cache = s.cache ∧ s.srmapCleared.haul = s.haul := by
  have hfold : ∀ l : List Nat, (∀ g ∈ l, g < 4096) → ∀ t : State,
      (l.foldl (fun t g => if t.is R.CACHE_SRMAP_BITS [g] then t.clr R.CACHE_SRMAP_BITS [g] else t) t).core = t.core := by
    intro l
    induction l with
    | nil => exact fun _ _ => rfl
    | cons g l ih =>
      intro hl t
      have hg : g < 4096 := hl g List.mem_cons_self
      have hkey : R.CACHE_SRMAP_BITS.key [g] = 0x180200 * 8 + g := by simp [Fam.key, R.CACHE_SRMAP_BITS, Fam.rel]
      have hoff : stackKey (R.CACHE_SRMAP_BITS.key [g]) = false := by
        simp only [stackKey, hkey, Bool.or_eq_false_iff, Bool.and_eq_false_iff, decide_eq_false_iff_not]
        omega
      rw [List.foldl_cons, ih fun n hn => hl n (List.mem_cons_of_mem g hn)]
      exact core_ite (core_wr_key t hoff 0) rfl
  unfold State.srmapCleared
  refine ⟨hfold _ (fun g hg => List.mem_range.1 hg) s, ?_, ?_, ?_⟩
  · exact foldl_keeps State.ras _ (fun t g => by split <;> simp) _ s
  · exact foldl_keeps State.cache _ (fun t g => by split <;> simp) _ s
  · exact foldl_keeps State.haul _ (fun t g => by split <;> simp) _ s

/-- R74, R75: what a stack clear leaves as it starts. -/
theorem clearStart_starts {s : State} (hidle : NoneWaits s) :
    s.clearStart.rd R.CODE_CODE_STATUS_CLEAR_BUSY = 1 ∧ s.clearStart.rd R.CODE_CODE_STATUS_EMPTY = 0 ∧
      s.clearStart.rd R.CODE_CODE_STATUS_CLEAR_PENDING = 1 ∧ s.clearStart.cache.lines = [] ∧ s.clearStart.cache.merge = [] ∧
      s.clearStart.rd R.CODE_CLEAR_PTR_SLAB = 0 ∧ s.clearStart.ras.clearNext = some 0 := by
  obtain ⟨hopq, hwait, hrun⟩ := hidle
  obtain ⟨hbusy, hempty, hpend, hptr⟩ := rd_clearMarked s
  obtain ⟨hnext, hcache, hhaul⟩ := clearMarked_outside s
  obtain ⟨hcore, hras, hcache', hhaul'⟩ := srmapCleared_outside s.clearMarked
  obtain ⟨hcore', hras', hhaul'', hopq', hwait', hlines, hmerge⟩ := cacheDropped_outside s.clearMarked.srmapCleared
  have hwaits : NoneWaits s.clearMarked.srmapCleared.cacheDropped := by
    refine ⟨?_, ?_, fun c => ?_⟩
    · rw [hopq', hcache', hcache, hopq]
    · rw [hwait', hcache', hcache, hwait]
    · rw [State.chan, hhaul'', hhaul', hhaul]
      exact hrun c
  rw [clearStart_eq, cacheSettle_of_noneWaits hwaits]
  generalize s.clearMarked.srmapCleared = v at *
  generalize v.cacheDropped = t at *
  have htcore : t.heldUpdate.heldUpdate.core = s.clearMarked.core :=
    (core_heldUpdate _).trans ((core_heldUpdate t).trans (hcore'.trans hcore))
  obtain ⟨hc1, hr1, -⟩ := heldUpdate_outside t
  obtain ⟨hc2, hr2, -⟩ := heldUpdate_outside t.heldUpdate
  refine ⟨?_, ?_, ?_, ?_, ?_, ?_, ?_⟩
  · rw [rd_of_core htcore (by decide) (by decide), hbusy]
  · rw [rd_of_core htcore (by decide) (by decide), hempty]
  · rw [rd_of_core htcore (by decide) (by decide), hpend]
  · rw [hc2, hc1, hlines]
  · rw [hc2, hc1, hmerge]
  · rw [rd_of_core htcore (by decide) (by decide), hptr]
  · rw [hr2, hr1, hras', hras, hnext]

theorem stackClear_eq {s : State} (src : RegSrc) (hon : s.cacheOn = true) (hclear : s.rd R.CODE_CODE_CTRL_CLEAR ≠ 1)
    (hok : s.clearRefused = false) : s.stackClear src = s.clearStart := by
  unfold State.stackClear
  rw [if_neg (by simp [hon, State.is, hclear]), if_neg (by simp [hok])]

end Sys2Proof.Machine
end

section
/-! PROOFS. The end of a stack clear (R74, R75). -/
namespace Sys2Proof.Machine
open Sys2Proof.Safety

/-! ### What the end of a clear leaves to the haul engine -/

/-- `t` has the domains, the fuses and the haul engine of `s`, with the engine's base-die fields, and its stack clear has come as
far. -/
structure Tended (s t : State) : Prop where
  power : t.power = s.power
  fuse : t.fuse = s.fuse
  haul : t.haul = s.haul
  clearNext : t.ras.clearNext = s.ras.clearNext
  low : ∀ (f : Fam) (i : List Nat), f.held = .base → f.key i < 0x140000 * 8 → t.rd f i = s.rd f i

theorem Tended.refl (s : State) : Tended s s := ⟨rfl, rfl, rfl, rfl, fun _ _ _ _ => rfl⟩

theorem Tended.trans {s t u : State} (h : Tended s t) (k : Tended t u) : Tended s u :=
  ⟨k.power.trans h.power, k.fuse.trans h.fuse, k.haul.trans h.haul, k.clearNext.trans h.clearNext,
    fun f i hf hk => (k.low f i hf hk).trans (h.low f i hf hk)⟩

theorem tended_ite {c : Prop} [Decidable c] {s t u : State} (ht : Tended s t) (hu : Tended s u) :
    Tended s (if c then t else u) := by split_ifs <;> assumption

theorem tended_foldl {α : Type} (g : State → α → State) (hg : ∀ s a, Tended s (g s a)) (l : List α) (s : State) :
    Tended s (l.foldl g s) := foldl_inv (Tended s) g (fun t a h => h.trans (hg t a)) l (.refl s)

theorem tended_wr (s : State) {f : Fam} (h : 0x140000 ≤ f.off) (v : Nat) (i : List Nat) : Tended s (s.wr f v i) := by
  refine ⟨by simp, by simp, by simp, by simp, fun g j _ hk => rd_wr_key s f g v i j fun e => ?_⟩
  rw [e, Fam.key] at hk
  omega

theorem tended_raise (s : State) {e : Ev} (h : 0x140000 ≤ e.bit.off) (i : List Nat) : Tended s (s.raise e i) := by
  refine ⟨by simp, by simp, by simp, by simp, fun g j _ hk => rd_raise_ne s e i g j fun hkey => ?_⟩
  rw [hkey.2, Fam.key] at hk
  omega

theorem tended_setLayer (s : State) (n st cause : Nat) : Tended s (s.setLayer n st cause) := by
  refine ⟨setLayer_power s n st cause, setLayer_fuse s n st cause, ?_, ?_, fun f i hf hk => ?_⟩
  · unfold State.setLayer
    split_ifs <;> simp [State.recordDue]
  · unfold State.setLayer
    split_ifs <;> simp [State.recordDue]
  · by_cases hup : n < s.nLayer ∧ s.live 8 = true
    · rw [rd_setLayer hup.2 hup.1]
      exact ((tended_wr s (f := R.CODE_LAYER_STATE_STATE) (by decide) _ _).trans
        (tended_wr _ (f := R.CODE_LAYER_STATE_CAUSE) (by decide) _ _)).low f i hf hk
    · exact rd_setLayer_none hup _ _ _ _

theorem tended_sweepCheck (s : State) : Tended s s.sweepCheck := by
  have hw := (tended_wr s (f := R.CODE_CODE_STATUS_REJOIN_BUSY) (by decide) 0 []).trans
    (tended_wr _ (f := R.CODE_REJOIN_PTR_SLAB) (by decide) 0 [])
  exact tended_ite ⟨hw.power, hw.fuse, hw.haul, hw.clearNext, hw.low⟩ (.refl s)

/-- The marks of a position on bench `b`'s two layers cleared. -/
def State.marksCleared (s : State) (b pos : Nat) : State :=
  (s.clr R.CODE_SUSPECT_MARKS [2 * b, pos]).clr R.CODE_SUSPECT_MARKS [2 * b + 1, pos]

/-- The bench core's pending marks of a position cleared. -/
def State.pendCleared (s : State) (b pos : Nat) : State :=
  if s.live (benchDom b 0) then
    (s.clr R.BENCH_CANARY_RESULT_PENDING (pendIdx (2 * b) pos)).clr R.BENCH_CANARY_RESULT_PENDING (pendIdx (2 * b + 1) pos)
  else s

/-- `clearPos` at one bench. -/
def State.clearPosAt (pos : Nat) (s : State) (b : Nat) : State :=
  let t := (s.marksCleared b pos).pendCleared b pos
  if !s.pendNone b && t.pendNone b then t.raise E.BENCH_SWEEP_DONE [b] else t

theorem clearPos_eq (s : State) (pos : Nat) : s.clearPos pos = (List.range s.nBench).foldl (State.clearPosAt pos) s := rfl

theorem rd_ite {c : Prop} [Decidable c] {s t u : State} {f : Fam} {i : List Nat} (ht : t.rd f i = s.rd f i)
    (hu : u.rd f i = s.rd f i) : (if c then t else u).rd f i = s.rd f i := by split_ifs <;> assumption

theorem rd_pendCleared (s : State) (b pos : Nat) {f : Fam} (hf : f.held = .base) (i : List Nat) :
    (s.pendCleared b pos).rd f i = s.rd f i := by
  have hpend : ∀ (t : State) (j : List Nat), (t.clr R.BENCH_CANARY_RESULT_PENDING j).rd f i = t.rd f i := fun t j =>
    rd_wr_held t R.BENCH_CANARY_RESULT_PENDING f 0 j i (by rw [hf]; decide)
  exact rd_ite ((hpend _ _).trans (hpend _ _)) rfl

theorem rd_clearPosAt (s : State) (pos b : Nat) {f : Fam} {i : List Nat} (hf : f.held = .base) (hk : f.key i < 0x1A0200 * 8) :
    (s.clearPosAt pos b).rd f i = (s.marksCleared b pos).rd f i := by
  have hraise : ∀ t : State, (t.raise E.BENCH_SWEEP_DONE [b]).rd f i = t.rd f i := fun t =>
    rd_raise_ne t E.BENCH_SWEEP_DONE [b] f i fun h => by
      rw [h.2, Fam.key] at hk
      have : 0x200004 ≤ E.BENCH_SWEEP_DONE.bit.off := by decide
      omega
  have hpend := rd_pendCleared (s.marksCleared b pos) b pos hf i
  exact rd_ite ((hraise _).trans hpend) hpend

theorem rd_clearPosAt_ne (s : State) (pos b : Nat) {f : Fam} {i : List Nat} (hf : f.held = .base) (hk : f.key i < 0x1A0100 * 8) :
    (s.clearPosAt pos b).rd f i = s.rd f i := by
  have hmark : ∀ (t : State) (j : List Nat), (t.clr R.CODE_SUSPECT_MARKS j).rd f i = t.rd f i := fun t j =>
    rd_wr_key t R.CODE_SUSPECT_MARKS f 0 j i fun h => by
      rw [h, Fam.key] at hk
      have : R.CODE_SUSPECT_MARKS.off = 0x1A0100 := rfl
      omega
  rw [rd_clearPosAt s pos b hf (by omega), State.marksCleared, hmark, hmark]

theorem lregs_pendCleared (s : State) (b pos : Nat) : (s.pendCleared b pos).lregs = s.lregs := by
  unfold State.pendCleared
  split <;> rfl

theorem clearPosAt_outside (s : State) (pos b : Nat) : (s.clearPosAt pos b).power = s.power ∧
    (s.clearPosAt pos b).fuse = s.fuse ∧ (s.clearPosAt pos b).ras = s.ras ∧ (s.clearPosAt pos b).haul = s.haul ∧
    (s.clearPosAt pos b).cache = s.cache ∧ (s.clearPosAt pos b).fault = s.fault ∧ (s.clearPosAt pos b).lregs = s.lregs := by
  have hl : ((s.marksCleared b pos).pendCleared b pos).lregs = s.lregs :=
    (lregs_pendCleared _ b pos).trans
      ((lregs_wr _ R.CODE_SUSPECT_MARKS 0 [2 * b + 1, pos] rfl).trans (lregs_wr s R.CODE_SUSPECT_MARKS 0 [2 * b, pos] rfl))
  refine ⟨?_, ?_, ?_, ?_, ?_, ?_, lregs_ite ((lregs_raise _ _ [b] rfl).trans hl) hl⟩
  all_goals
    unfold State.clearPosAt State.pendCleared State.marksCleared
    dsimp only
    split_ifs <;> simp

theorem clearPos_outside (s : State) (pos : Nat) : (s.clearPos pos).power = s.power ∧ (s.clearPos pos).fuse = s.fuse ∧
    (s.clearPos pos).ras = s.ras ∧ (s.clearPos pos).haul = s.haul ∧ (s.clearPos pos).cache = s.cache ∧
    (s.clearPos pos).fault = s.fault ∧ (s.clearPos pos).lregs = s.lregs := by
  have h := clearPosAt_outside
  exact ⟨foldl_keeps State.power _ (fun t b => (h t pos b).1) _ s, foldl_keeps State.fuse _ (fun t b => (h t pos b).2.1) _ s,
    foldl_keeps State.ras _ (fun t b => (h t pos b).2.2.1) _ s, foldl_keeps State.haul _ (fun t b => (h t pos b).2.2.2.1) _ s,
    foldl_keeps State.cache _ (fun t b => (h t pos b).2.2.2.2.1) _ s,
    foldl_keeps State.fault _ (fun t b => (h t pos b).2.2.2.2.2.1) _ s,
    foldl_keeps State.lregs _ (fun t b => (h t pos b).2.2.2.2.2.2) _ s⟩

theorem rd_clearPos_ne (s : State) (pos : Nat) {f : Fam} {i : List Nat} (hf : f.held = .base) (hk : f.key i < 0x1A0100 * 8) :
    (s.clearPos pos).rd f i = s.rd f i :=
  foldl_keeps (fun t : State => t.rd f i) _ (fun t b => rd_clearPosAt_ne t pos b hf hk) _ s

theorem key_state_lt {n : Nat} (hn : n < 18) : R.CODE_LAYER_STATE_STATE.key [n] < 0x1A0100 * 8 := by
  simp only [Fam.key, R.CODE_LAYER_STATE_STATE, Fam.rel]
  omega

theorem layer_clearPos (s : State) (pos n : Nat) : (s.clearPos pos).layer n = s.layer n := by
  obtain ⟨hp, hf, hr, -⟩ := clearPos_outside s pos
  by_cases hn : n < 18
  · exact layer_congr hp hf (congrArg (·.savedLayers) hr) (rd_clearPos_ne s pos rfl (key_state_lt hn))
  · have := nLayer_le s
    rw [layer_of_nLayer_le (by rw [nLayer_of_fuse hf]; omega), layer_of_nLayer_le (by omega)]

theorem tended_clearPos (s : State) (pos : Nat) : Tended s (s.clearPos pos) := by
  obtain ⟨hp, hf, hr, hh, -⟩ := clearPos_outside s pos
  exact ⟨hp, hf, hh, congrArg (·.clearNext) hr, fun f i hb hk => rd_clearPos_ne s pos hb (by omega)⟩

theorem tended_suspectSettle (s : State) : Tended s s.suspectSettle := by
  have hw := tended_wr s (f := R.CODE_CODE_STATUS_SUSPECT_ANY) (by decide) (b2n s.suspectAny) []
  exact ⟨hw.power, hw.fuse, hw.haul, hw.clearNext, hw.low⟩

/-! ### The writes that have landed before it -/

/-- The state without the bytes of the memory layers and the links. -/
def State.offLand (s : State) : State := { s with dram := [], shaft := [] }

theorem offLand_putPortions (s : State) (b layers slab : Nat) (lower upper : List Byte) :
    (s.putPortions b layers slab lower upper).offLand = s.offLand :=
  foldl_keeps State.offLand (fun s n => s.poke (s.place n slab) (if n = 2 * b then lower else upper)) (fun _ _ => rfl) _ s

theorem offLand_landBenches (s : State) : s.landBenches.offLand = s.offLand := by
  refine foldl_keeps State.offLand _ (fun t b => ?_) _ s
  refine foldl_keeps State.offLand _ (fun t e => ?_) _ t
  exact offLand_putPortions t b e.layers e.slab e.lower e.upper

section
variable {s t : State}

theorem regs_of_offLand (h : t.offLand = s.offLand) : t.regs = s.regs :=
  (congrArg (fun u : State => u.regs) h :)
theorem lregs_of_offLand (h : t.offLand = s.offLand) : t.lregs = s.lregs :=
  (congrArg (fun u : State => u.lregs) h :)
theorem power_of_offLand (h : t.offLand = s.offLand) : t.power = s.power :=
  (congrArg (fun u : State => u.power) h :)
theorem fuse_of_offLand (h : t.offLand = s.offLand) : t.fuse = s.fuse :=
  (congrArg (fun u : State => u.fuse) h :)
theorem ras_of_offLand (h : t.offLand = s.offLand) : t.ras = s.ras :=
  (congrArg (fun u : State => u.ras) h :)
theorem haul_of_offLand (h : t.offLand = s.offLand) : t.haul = s.haul :=
  (congrArg (fun u : State => u.haul) h :)
theorem cache_of_offLand (h : t.offLand = s.offLand) : t.cache = s.cache :=
  (congrArg (fun u : State => u.cache) h :)

end

theorem rd_of_regs {s t : State} (h : t.regs = s.regs) {f : Fam} (hf : f.held = .base) (i : List Nat) : t.rd f i = s.rd f i :=
  rd_of_file (by rw [hf]; exact h) i


theorem layer_of_offLand {s t : State} (h : t.offLand = s.offLand) (n : Nat) : t.layer n = s.layer n :=
  layer_congr (power_of_offLand h) (fuse_of_offLand h) (congrArg (·.savedLayers) (ras_of_offLand h))
    (rd_of_regs (regs_of_offLand h) rfl _)

theorem noWrites_of_offLand {s t : State} (h : t.offLand = s.offLand) : t.noWrites = s.noWrites := by
  unfold State.noWrites State.protection State.offline State.is
  rw [nLayer_of_fuse (fuse_of_offLand h), rd_of_lregs (lregs_of_offLand h) rfl, funext (layer_of_offLand h)]

/-! ### The stretch that it writes -/

/-- The slabs from `p` to below `q` cleared. -/
def State.stretchNoted (s : State) (p q : Nat) : State :=
  let t := s.clearedDram p q
  { t with ras := { t.ras with gen := (t.ras.gen + (q - p)) % 2 ^ 24, clearNext := some q } }

/-- The slabs from `p` to below `q` cleared and charged, and the pointer moved on. -/
def State.stretchCleared (s : State) (p q : Nat) : State :=
  ((s.stretchNoted p q).charge 63 ((q - p) * (s.stretchNoted p q).slabUnits)).wr R.CODE_CLEAR_PTR_SLAB q

theorem charge_outside (s : State) (l units : Nat) : (s.charge l units).power = s.power ∧ (s.charge l units).fuse = s.fuse ∧
    (s.charge l units).haul = s.haul ∧ (s.charge l units).ras = s.ras ∧ (s.charge l units).lregs = s.lregs := by
  have hl : (s.charge l units).lregs = s.lregs := lregs_ite
    ((lregs_wr _ R.REG_LABEL_SPILLS_COUNT _ [l] rfl).trans ((lregs_wr _ R.REG_LABEL_USED_SPILL 1 [l] rfl).trans
      (lregs_wr s R.REG_LABEL_USED_UNITS _ [l] rfl))) (lregs_wr s R.REG_LABEL_USED_UNITS _ [l] rfl)
  refine ⟨?_, ?_, ?_, ?_, hl⟩
  all_goals
    unfold State.charge
    dsimp only
    split_ifs <;> simp

theorem rd_charge (s : State) (l units : Nat) {f : Fam} {i : List Nat} (h : f.key i < 0x400200 * 8) :
    (s.charge l units).rd f i = s.rd f i := by
  have hw : ∀ (t : State) (g : Fam) (v : Nat) (j : List Nat), 0x400200 ≤ g.off → (t.wr g v j).rd f i = t.rd f i :=
    fun t g v j hg => rd_wr_key t g f v j i fun e => by
      rw [e, Fam.key] at h
      omega
  have hused := hw s R.REG_LABEL_USED_UNITS (min (s.rd R.REG_LABEL_USED_UNITS [l] + units)
    (2 ^ R.REG_LABEL_USED_UNITS.width - 1)) [l] (by decide)
  exact rd_ite ((hw _ R.REG_LABEL_SPILLS_COUNT _ [l] (by decide)).trans ((hw _ R.REG_LABEL_USED_SPILL 1 [l] (by decide)).trans
    hused)) hused

theorem stretchCleared_keeps (s : State) (p q : Nat) :
    (s.stretchCleared p q).power = s.power ∧ (s.stretchCleared p q).fuse = s.fuse ∧ (s.stretchCleared p q).haul = s.haul ∧
      (s.stretchCleared p q).ras.savedLayers = s.ras.savedLayers ∧ (s.stretchCleared p q).ras.clearNext = some q ∧
      (s.stretchCleared p q).lregs = s.lregs ∧
      ∀ (f : Fam) (i : List Nat), f.key i < 0x1A0064 * 8 → (s.stretchCleared p q).rd f i = s.rd f i := by
  obtain ⟨hp, hf, hh, hr, hl⟩ := charge_outside (s.stretchNoted p q) 63 ((q - p) * (s.stretchNoted p q).slabUnits)
  have hptr : R.CODE_CLEAR_PTR_SLAB.key [] = 0x1A0064 * 8 := rfl
  unfold State.stretchCleared
  refine ⟨?_, ?_, ?_, ?_, ?_, (lregs_wr _ _ _ _ rfl).trans hl, fun f i hk => ?_⟩
  · rw [wr_power, hp]
    rfl
  · rw [wr_fuse, hf]
    rfl
  · rw [wr_haul, hh]
    rfl
  · rw [wr_ras, hr]
    rfl
  · rw [wr_ras, hr]
    rfl
  · rw [rd_wr_key _ R.CODE_CLEAR_PTR_SLAB f _ [] i (by omega), rd_charge _ _ _ (by omega)]
    rfl

theorem foldl_min_of_below {p : Nat} (l : List Nat) (h : ∀ k ∈ l, k < p) (m : Nat) :
    l.foldl (fun m k => if p ≤ k then min m k else m) m = m := by
  induction l with
  | nil => rfl
  | cons k l ih =>
    rw [List.foldl_cons, if_neg (Nat.not_le.2 (h k List.mem_cons_self))]
    exact ih fun j hj => h j (List.mem_cons_of_mem k hj)

/-- R74: where nothing from slab `p` on is in use, a clear that has reached `p` writes the rest of the stack. -/
theorem clearRun_eq {s : State} {p : Nat} (hnext : s.ras.clearNext = some p) (hle : p ≤ slabCount) (hw : s.noWrites = false)
    (hops : ∀ o ∈ s.cache.ops, o.slab < p) (hwait : ∀ k ∈ s.landBenches.writesWaiting, k < p) :
    s.clearRun slabCount = if p = slabCount then s.landBenches else s.landBenches.stretchCleared p slabCount := by
  have hland := offLand_landBenches s
  unfold State.clearRun
  rw [hnext]
  dsimp only
  rw [foldl_min_of_below _ fun k hk => ?_, Nat.min_eq_right (Nat.le_add_left _ _), noWrites_of_offLand hland, hw]
  · by_cases hp : p = slabCount
    · rw [if_pos hp, if_pos (Or.inl (by omega))]
    · rw [if_neg hp, if_neg (by simp; omega)]
      rfl
  · rcases List.mem_append.1 hk with hk | hk
    · obtain ⟨o, ho, rfl⟩ := List.mem_map.1 hk
      rw [cache_of_offLand hland] at ho
      exact hops o ho
    · exact hwait k hk

/-- The clear's pointer dropped. -/
def State.clearNoted (s : State) : State := { s with ras := { s.ras with clearNext := none } }

/-- The REJOINING layers made ONLINE by the clear. -/
def State.clearOnline (s : State) : State :=
  (List.range s.nLayer).foldl (fun t n => if t.layer n = 2 then t.setLayer n 0 0 else t) s

/-- Every suspect mark cleared. -/
def State.marksSettled (s : State) : State := (s.markedPos.foldl State.clearPos s).suspectSettle

/-- The status bits of a clear that has ended. -/
def State.clearEnded (s : State) : State :=
  let t := ((s.set R.CODE_CODE_STATUS_EMPTY).clr R.CODE_CODE_STATUS_CLEAR_PENDING).clr R.CODE_CODE_STATUS_CLEAR_BUSY
  (t.clr R.CODE_CODE_CTRL_CLEAR).raise E.CODE_CLEAR_DONE

/-- What follows the last stretch, before the protection state. -/
def State.clearClosed (s : State) : State := s.clearNoted.clearOnline.sweepCheck.marksSettled.clearEnded

theorem clearDone_eq {s : State} (hl : s.live 8 = true) (hbusy : s.rd R.CODE_CODE_STATUS_CLEAR_BUSY = 1)
    (hl' : (s.clearRun slabCount).live 8 = true) (hbusy' : (s.clearRun slabCount).rd R.CODE_CODE_STATUS_CLEAR_BUSY = 1)
    (hnext : (s.clearRun slabCount).ras.clearNext = some slabCount) :
    s.clearDone = ((s.clearRun slabCount).clearClosed.protSettle).advanceAll := by
  have hrun : (if s.live 8 && s.is R.CODE_CODE_STATUS_CLEAR_BUSY then s.clearRun slabCount else s) = s.clearRun slabCount :=
    if_pos (by simp [hl, State.is, hbusy])
  unfold State.clearDone
  dsimp only
  rw [hrun]
  generalize s.clearRun slabCount = r at *
  rw [if_neg (by simp [hl', State.is, hbusy', hnext])]
  rfl

/-- No channel of the haul engine has anything to go on with. -/
def HaulIdle (s : State) : Prop :=
  ∀ c, c < 64 → (s.chan c).run = none ∧ s.chanPosted c = false ∧ s.rd R.HAUL_CTRL_EN [c] ≠ 1

theorem haulIdle_of {s t : State} (hh : t.haul = s.haul)
    (hr : ∀ (f : Fam) (c : Nat), f.held = .base → f.off < 0x100F00 → 0x100000 ≤ f.off → f.lsb < 32 → f.dims = [(64, 32768)] →
      c < 64 → t.rd f [c] = s.rd f [c]) (h : HaulIdle s) : HaulIdle t := by
  intro c hc
  obtain ⟨hrun, hpost, hen⟩ := h c hc
  have hrd : ∀ (f : Fam), f.held = .base → f.off < 0x100F00 → 0x100000 ≤ f.off → f.lsb < 32 → f.dims = [(64, 32768)] →
      t.rd f [c] = s.rd f [c] := fun f h1 h2 h3 h4 h5 => hr f c h1 h2 h3 h4 h5 hc
  refine ⟨?_, ?_, ?_⟩
  · rw [State.chan, hh]
    exact hrun
  · rw [State.chanPosted, hrd _ rfl (by decide) (by decide) (by decide) rfl, hrd _ rfl (by decide) (by decide) (by decide) rfl]
    exact hpost
  · rw [hrd _ rfl (by decide) (by decide) (by decide) rfl]
    exact hen

theorem key_channel {f : Fam} {c : Nat} (hlo : 0x100000 ≤ f.off) (hhi : f.off < 0x100F00) (hl : f.lsb < 32)
    (hd : f.dims = [(64, 32768)]) (hc : c < 64) : 0x100000 * 8 ≤ f.key [c] ∧ f.key [c] < 0x140000 * 8 := by
  have hk : f.key [c] = f.off * 8 + f.lsb + c * 32768 := by simp [Fam.key, hd, Fam.rel]
  rw [hk]
  omega

theorem haulIdle_of_tended {s t : State} (h : Tended s t) (hs : HaulIdle s) : HaulIdle t :=
  haulIdle_of h.haul (fun f c hf hhi hlo hl hd hc => h.low f [c] hf (key_channel hlo hhi hl hd hc).2) hs

theorem haulIdle_of_core {s t : State} (hh : t.haul = s.haul) (h : t.core = s.core) (hs : HaulIdle s) : HaulIdle t :=
  haulIdle_of hh (fun f c hf hhi hlo hl hd hc => rd_of_core h (by rw [hf]; decide) (by
    obtain ⟨h1, h2⟩ := key_channel hlo hhi hl hd hc
    simp only [stackKey, Bool.or_eq_true, Bool.and_eq_true, decide_eq_true_eq]
    exact Or.inl ⟨h1, h2⟩)) hs

theorem advanceAll_of_haulIdle {s : State} (h : HaulIdle s) : s.advanceAll = s := by
  have hstep : ∀ (l : List Nat), (∀ c ∈ l, c < 64) → l.foldl (fun s c =>
      if (s.chan c).run.isSome || s.chanPosted c || s.is R.HAUL_CTRL_EN [c] then s.advance c else s) s = s := fun l => by
    induction l with
    | nil => exact fun _ => rfl
    | cons c l ih =>
      intro hl
      obtain ⟨hrun, hpost, hen⟩ := h c (hl c List.mem_cons_self)
      rw [List.foldl_cons, if_neg (by simp [hrun, hpost, State.is, hen])]
      exact ih fun k hk => hl k (List.mem_cons_of_mem c hk)
  unfold State.advanceAll
  split
  · exact hstep _ fun c hc => List.mem_range.1 hc
  · rfl

/-! ### The pieces, one by one -/

theorem makesOnline_ite {s : State} (hl : s.live 8 = true) {n : Nat} (hn : n < s.nLayer) :
    MakesOnline (fun t n => if t.layer n = 2 then t.setLayer n 0 0 else t) s n := by
  have h := makesOnline_setLayer hl hn
  by_cases h2 : s.layer n = 2
  · exact ⟨by simpa only [if_pos h2] using h.power, by simpa only [if_pos h2] using h.fuse,
      by simpa only [if_pos h2] using h.lregs, fun _ => by simpa only [if_pos h2] using h.same h2,
      fun m hm => by simpa only [if_pos h2] using h.other m hm⟩
  · exact ⟨by rw [if_neg h2], by rw [if_neg h2], by rw [if_neg h2], fun h => absurd h h2, fun m _ => by rw [if_neg h2]⟩

theorem clearOnline_keeps {s : State} (hl : s.live 8 = true) : Tended s s.clearOnline ∧ s.clearOnline.lregs = s.lregs ∧
    ∀ n, n < s.nLayer → s.layer n = 2 → s.clearOnline.layer n = 0 := by
  obtain ⟨-, -, hlr, hin, -⟩ := foldl_makesOnline _ (fun t n ht hn => makesOnline_ite ht hn) (List.range s.nLayer) s hl
    (fun n hn => List.mem_range.1 hn) List.nodup_range
  exact ⟨tended_foldl _ (fun t n => tended_ite (tended_setLayer t n 0 0) (.refl t)) _ s, hlr,
    fun n hn => hin n (List.mem_range.2 hn)⟩

theorem key_state_ge (n : Nat) : 0x1A0010 * 8 ≤ R.CODE_LAYER_STATE_STATE.key [n] := by
  simp [Fam.key, R.CODE_LAYER_STATE_STATE, Fam.rel]

theorem layer_suspectSettle (s : State) (n : Nat) : s.suspectSettle.layer n = s.layer n := by
  have hany : R.CODE_CODE_STATUS_SUSPECT_ANY.key [] < 0x1A0010 * 8 := by decide
  have hlo := key_state_ge n
  refine layer_congr (wr_power _ _ _ _) (wr_fuse _ _ _ _) ?_ (rd_wr_key s R.CODE_CODE_STATUS_SUSPECT_ANY _ _ _ _ (by omega))
  exact congrArg (·.savedLayers) (wr_ras s R.CODE_CODE_STATUS_SUSPECT_ANY (b2n s.suspectAny) [])

theorem marksSettled_keeps (s : State) : Tended s s.marksSettled ∧ s.marksSettled.lregs = s.lregs ∧
    ∀ n, s.marksSettled.layer n = s.layer n := by
  have hclear := tended_foldl State.clearPos tended_clearPos s.markedPos s
  have hl : (s.markedPos.foldl State.clearPos s).lregs = s.lregs :=
    foldl_keeps State.lregs _ (fun t p => (clearPos_outside t p).2.2.2.2.2.2) _ s
  have hsettle : (s.markedPos.foldl State.clearPos s).suspectSettle.lregs = (s.markedPos.foldl State.clearPos s).lregs :=
    lregs_wr (s.markedPos.foldl State.clearPos s) R.CODE_CODE_STATUS_SUSPECT_ANY
      (b2n (s.markedPos.foldl State.clearPos s).suspectAny) [] rfl
  refine ⟨hclear.trans (tended_suspectSettle _), hsettle.trans hl, fun n => ?_⟩
  have hlayer : (s.markedPos.foldl State.clearPos s).layer n = s.layer n :=
    foldl_keeps (fun t : State => t.layer n) _ (fun t p => layer_clearPos t p n) _ s
  exact (layer_suspectSettle _ n).trans hlayer

theorem clearEnded_rd (s : State) : s.clearEnded.rd R.CODE_CODE_STATUS_CLEAR_BUSY = 0 ∧
    s.clearEnded.rd R.CODE_CODE_STATUS_CLEAR_PENDING = 0 ∧ s.clearEnded.rd R.CODE_CODE_STATUS_EMPTY = 1 ∧
    s.clearEnded.rd R.CODE_CODE_CTRL_CLEAR = 0 := by
  unfold State.clearEnded
  dsimp only [State.clr, State.set]
  refine ⟨?_, ?_, ?_, ?_⟩
  · rw [rd_raise_ne _ _ _ _ _ (by decide), rd_wr_key _ _ _ _ _ _ (by decide), rd_wr_same]
    rfl
  · rw [rd_raise_ne _ _ _ _ _ (by decide), rd_wr_key _ _ _ _ _ _ (by decide), rd_wr_key _ _ _ _ _ _ (by decide), rd_wr_same]
    rfl
  · rw [rd_raise_ne _ _ _ _ _ (by decide), rd_wr_key _ _ _ _ _ _ (by decide), rd_wr_key _ _ _ _ _ _ (by decide),
      rd_wr_key _ _ _ _ _ _ (by decide), rd_wr_same]
    rfl
  · rw [rd_raise_ne _ _ _ _ _ (by decide), rd_wr_same]
    rfl

theorem tended_clearEnded (s : State) : Tended s s.clearEnded :=
  ((((tended_wr s (f := R.CODE_CODE_STATUS_EMPTY) (by decide) 1 []).trans
    (tended_wr _ (f := R.CODE_CODE_STATUS_CLEAR_PENDING) (by decide) 0 [])).trans
    (tended_wr _ (f := R.CODE_CODE_STATUS_CLEAR_BUSY) (by decide) 0 [])).trans
    (tended_wr _ (f := R.CODE_CODE_CTRL_CLEAR) (by decide) 0 [])).trans (tended_raise _ (e := E.CODE_CLEAR_DONE) (by decide) [])

theorem rd_clearEnded (s : State) {f : Fam} {i : List Nat} (h : 0x1A0010 * 8 ≤ f.key i) : s.clearEnded.rd f i = s.rd f i := by
  have h1 : R.CODE_CODE_STATUS_EMPTY.key [] < 0x1A0010 * 8 := by decide
  have h2 : R.CODE_CODE_STATUS_CLEAR_PENDING.key [] < 0x1A0010 * 8 := by decide
  have h3 : R.CODE_CODE_STATUS_CLEAR_BUSY.key [] < 0x1A0010 * 8 := by decide
  have h4 : R.CODE_CODE_CTRL_CLEAR.key [] < 0x1A0010 * 8 := by decide
  have h5 : E.CODE_CLEAR_DONE.bit.key [] < 0x1A0010 * 8 := by decide
  unfold State.clearEnded
  dsimp only [State.clr, State.set]
  rw [rd_raise_ne _ _ _ _ _ fun e => by omega, rd_wr_key _ _ _ _ _ _ (by omega), rd_wr_key _ _ _ _ _ _ (by omega),
    rd_wr_key _ _ _ _ _ _ (by omega), rd_wr_key _ _ _ _ _ _ (by omega)]

theorem layer_clearEnded (s : State) (n : Nat) : s.clearEnded.layer n = s.layer n :=
  layer_congr (tended_clearEnded s).power (tended_clearEnded s).fuse (by simp [State.clearEnded])
    (rd_clearEnded s (key_state_ge n))

theorem mild_clearEnded {s : State} {n : Nat} (h : Mild s n) : Mild s.clearEnded n := by
  unfold Mild
  rw [rd_clearEnded s (by simp [Fam.key, R.FAULT_REACT_REACTION, Fam.rel]; omega)]
  exact h

/-- What the last stretch of a clear leaves to what follows it. -/
structure ClearRan (s t : State) : Prop where
  power : t.power = s.power
  fuse : t.fuse = s.fuse
  haul : t.haul = s.haul
  lregs : t.lregs = s.lregs
  clearNext : t.ras.clearNext = some slabCount
  savedLayers : t.ras.savedLayers = s.ras.savedLayers
  low : ∀ (f : Fam) (i : List Nat), f.held = .base → f.key i < 0x1A0060 * 8 → t.rd f i = s.rd f i

theorem ClearRan.layer {s t : State} (h : ClearRan s t) {n : Nat} (hn : n < 18) : t.layer n = s.layer n :=
  layer_congr h.power h.fuse h.savedLayers (h.low R.CODE_LAYER_STATE_STATE [n] rfl (by
    simp only [Fam.key, R.CODE_LAYER_STATE_STATE, Fam.rel]
    omega))

theorem clearRan_clearRun {s : State} {p : Nat} (hnext : s.ras.clearNext = some p) (hle : p ≤ slabCount)
    (hw : s.noWrites = false) (hops : ∀ o ∈ s.cache.ops, o.slab < p) (hwait : ∀ k ∈ s.landBenches.writesWaiting, k < p) :
    ClearRan s (s.clearRun slabCount) := by
  have hland := offLand_landBenches s
  rw [clearRun_eq hnext hle hw hops hwait]
  split_ifs with hp
  · exact ⟨power_of_offLand hland, fuse_of_offLand hland, haul_of_offLand hland, lregs_of_offLand hland,
      by rw [ras_of_offLand hland, hnext, hp], by rw [ras_of_offLand hland],
      fun f i hf _ => rd_of_regs (regs_of_offLand hland) hf i⟩
  · obtain ⟨hpow, hfuse, hhaul, hsaved, hnext', hl, hlow⟩ := stretchCleared_keeps s.landBenches p slabCount
    exact ⟨hpow.trans (power_of_offLand hland), hfuse.trans (fuse_of_offLand hland), hhaul.trans (haul_of_offLand hland),
      hl.trans (lregs_of_offLand hland), hnext', by rw [hsaved, ras_of_offLand hland],
      fun f i hf hk => (hlow f i (by omega)).trans (rd_of_regs (regs_of_offLand hland) hf i)⟩

theorem clearNoted_keeps {s t : State} (h : ClearRan s t) : t.clearNoted.live 8 = s.live 8 ∧ t.clearNoted.nLayer = s.nLayer ∧
    t.clearNoted.lregs = s.lregs ∧ (∀ n, n < 18 → t.clearNoted.layer n = s.layer n) ∧ (HaulIdle s → HaulIdle t.clearNoted) := by
  refine ⟨live_of_power h.power 8, nLayer_of_fuse h.fuse, h.lregs,
    fun n hn => (layer_congr (s := t) rfl rfl rfl rfl).trans (h.layer hn), fun hs => ?_⟩
  exact haulIdle_of h.haul (fun f c hf hhi hlo hl hd hc => h.low f [c] hf (by
    have := (key_channel hlo hhi hl hd hc).2
    omega)) hs

/-- What closes a clear, before the protection state. -/
theorem clearClosed_keeps {s : State} (hl : s.live 8 = true) :
    (∀ n, Mild s n → Mild s.clearClosed n) ∧ (HaulIdle s.clearNoted → HaulIdle s.clearClosed) ∧
      s.clearClosed.ras.clearNext = none ∧ ∀ n, n < s.nLayer → s.clearNoted.layer n = 2 → s.clearClosed.layer n = 0 := by
  obtain ⟨htend, hlr, hlayer⟩ := clearOnline_keeps (s := s.clearNoted) hl
  obtain ⟨htend', hlr', hlayer'⟩ := marksSettled_keeps s.clearNoted.clearOnline.sweepCheck
  have hall : Tended s.clearNoted s.clearClosed :=
    ((htend.trans (tended_sweepCheck _)).trans htend').trans (tended_clearEnded _)
  refine ⟨fun n hm => ?_, haulIdle_of_tended hall, hall.clearNext, fun n hn h2 => ?_⟩
  · exact mild_clearEnded (mild_of_lregs (hlr'.trans ((lregs_sweepCheck _).trans hlr)) hm)
  · rw [State.clearClosed, layer_clearEnded, hlayer', layer_sweepCheck, hlayer n hn h2]

/-- R74, R75: what the end of a stack clear leaves. -/
theorem clearDone_ends {s : State} {p : Nat} (hl : s.live 8 = true) (hbusy : s.rd R.CODE_CODE_STATUS_CLEAR_BUSY = 1)
    (hm : Mild s 32) (hnext : s.ras.clearNext = some p) (hle : p ≤ slabCount) (hw : s.noWrites = false)
    (hops : ∀ o ∈ s.cache.ops, o.slab < p) (hwait : ∀ k ∈ s.landBenches.writesWaiting, k < p) (hidle : HaulIdle s) :
    s.clearDone.rd R.CODE_CODE_STATUS_CLEAR_BUSY = 0 ∧ s.clearDone.rd R.CODE_CODE_STATUS_CLEAR_PENDING = 0 ∧
      s.clearDone.rd R.CODE_CODE_STATUS_EMPTY = 1 ∧ s.clearDone.rd R.CODE_CODE_CTRL_CLEAR = 0 ∧
      s.clearDone.ras.clearNext = none ∧ ∀ n, n < s.nLayer → s.layer n = 2 → s.clearDone.layer n = 0 := by
  have hran := clearRan_clearRun hnext hle hw hops hwait
  have hlive : (s.clearRun slabCount).live 8 = true := (live_of_power hran.power 8).trans hl
  have heq := clearDone_eq hl hbusy hlive ((hran.low _ [] rfl (by decide)).trans hbusy) hran.clearNext
  obtain ⟨-, hn, hlr, hlayer, hkeep⟩ := clearNoted_keeps hran
  obtain ⟨hmild, hhaul, hnone, hzero⟩ := clearClosed_keeps hlive
  obtain ⟨h1, h2, h3, h4⟩ := clearEnded_rd (s.clearRun slabCount).clearNoted.clearOnline.sweepCheck.marksSettled
  have hm' := hmild 32 (mild_of_lregs hran.lregs hm)
  have hcore := core_protSettle hm'
  obtain ⟨hh, hras, -⟩ := protSettle_outside hm'
  rw [heq, advanceAll_of_haulIdle (haulIdle_of_core hh hcore (hhaul (hkeep hidle)))]
  refine ⟨?_, ?_, ?_, ?_, ?_, fun n hn' h2' => ?_⟩
  · exact (rd_of_core hcore (by decide) (by decide)).trans h1
  · exact (rd_of_core hcore (by decide) (by decide)).trans h2
  · exact (rd_of_core hcore (by decide) (by decide)).trans h3
  · exact (rd_of_core hcore (by decide) (by decide)).trans h4
  · rw [hras, hnone]
  · rw [layer_of_core hcore, hzero n (hn'.trans_eq hn.symm) ((hlayer n (hn'.trans_le (nLayer_le s))).trans h2')]

end Sys2Proof.Machine
end

section
/-! SUPPORT. What the transmitters of the links leave alone: everything but the links themselves, the records that wait for
them, the frames that have left and the fields that count credits and forced IDLEs (R142 to R149). -/
namespace Sys2Proof.Machine
open Sys2Proof.Safety

/-- The key of a member of a link's credits or of its count of forced IDLEs. -/
def linkKey (k : Nat) : Bool := decide (0x300000 * 8 ≤ k) && [352, 384, 392, 400, 408].contains (k % 0x80000)

/-- A field whose members, one for each link, have such keys. -/
def Fam.ofLink (f : Fam) : Bool :=
  f.held == .base && f.dims == [(9, 0x80000)] && decide (0x300000 * 8 ≤ f.off * 8 + f.lsb) &&
    [352, 384, 392, 400, 408].contains ((f.off * 8 + f.lsb) % 0x80000)

/-- What a register file lists but for those fields. -/
def restRegs (l : List (Nat × Nat)) : Nat → Option Nat := fun k => if linkKey k then none else kvGet k l

/-- The state without base-die registers, links, waiting records and output. -/
def State.offLinks (s : State) : State :=
  { s with regs := [], shaft := [], sent := [], cache := { s.cache with reqs := [], reqRr := [] } }

/-- `t` differs from `s` at most in what the links' transmitters change. -/
structure LinksKept (s t : State) : Prop where
  offLinks : t.offLinks = s.offLinks
  rest : restRegs t.regs = restRegs s.regs

theorem LinksKept.refl (s : State) : LinksKept s s := ⟨rfl, rfl⟩

theorem LinksKept.trans {s t u : State} (h : LinksKept s t) (k : LinksKept t u) : LinksKept s u :=
  ⟨k.offLinks.trans h.offLinks, k.rest.trans h.rest⟩

theorem linkKey_of_ofLink {f : Fam} (h : f.ofLink = true) (b : Nat) : linkKey (f.key [b]) = true := by
  simp only [Fam.ofLink, Bool.and_eq_true, beq_iff_eq, decide_eq_true_eq] at h
  obtain ⟨⟨⟨-, hd⟩, hlo⟩, hm⟩ := h
  have hkey : f.key [b] = f.off * 8 + f.lsb + b * 0x80000 := by simp [Fam.key, hd, Fam.rel]
  have hmod : f.key [b] % 0x80000 = (f.off * 8 + f.lsb) % 0x80000 := by rw [hkey, Nat.add_mul_mod_self_right]
  rw [linkKey, hmod, hm, Bool.and_true, decide_eq_true_eq, hkey]
  omega

theorem linksKept_wr (s : State) {f : Fam} (hf : f.ofLink = true) (v b : Nat) : LinksKept s (s.wr f v [b]) := by
  have hheld : f.held = .base := by
    simp only [Fam.ofLink, Bool.and_eq_true, beq_iff_eq] at hf
    exact hf.1.1.1
  constructor
  · unfold State.wr
    rw [hheld]
    rfl
  · funext k
    unfold restRegs
    split_ifs with hk
    · rfl
    · exact kvGet_wr_ne s f v [b] (h := .base) fun e => hk (e.2 ▸ linkKey_of_ofLink hf b)

theorem linksKept_incSat_idles (s : State) (b : Nat) : LinksKept s (s.incSat R.SHAFT_FORCED_IDLES_COUNT [b]) :=
  linksKept_wr s (f := R.SHAFT_FORCED_IDLES_COUNT) (by decide) _ b

theorem ofLink_creditFam (port : Nat) : (creditFam port).ofLink = true := by
  unfold creditFam
  split <;> decide

theorem linksKept_modShaft (s : State) (b : Nat) (f : ShaftSt → ShaftSt) : LinksKept s (s.modShaft b f) := ⟨rfl, rfl⟩
theorem linksKept_modDir (s : State) (b : Nat) (down : Bool) (f : ShaftDir → ShaftDir) :
    LinksKept s (s.modDir b down f) := ⟨rfl, rfl⟩

theorem linksKept_ite {c : Prop} [Decidable c] {s t u : State} (ht : LinksKept s t) (hu : LinksKept s u) :
    LinksKept s (if c then t else u) := by split_ifs <;> assumption

theorem linksKept_foldl {α : Type} (g : State → α → State) (hg : ∀ s a, LinksKept s (g s a)) (l : List α) (s : State) :
    LinksKept s (l.foldl g s) :=
  foldl_inv (LinksKept s) g (fun t a h => h.trans (hg t a)) l (.refl s)

theorem linksKept_emitFrame (s : State) (b : Nat) (down : Bool) (type : Nat) (f : Frame) :
    LinksKept s (s.emitFrame b down type f) := ⟨rfl, rfl⟩

theorem linksKept_creditsLeave (s : State) (b : Nat) (down : Bool) : LinksKept s (s.creditsLeave b down) :=
  linksKept_ite (.refl s) ⟨rfl, rfl⟩

theorem linksKept_sendIdle (s : State) (b : Nat) (down : Bool) : LinksKept s (s.sendIdle b down) :=
  (linksKept_emitFrame s b down 0 _).trans (linksKept_creditsLeave _ b down)

theorem linksKept_forcedIdle (s : State) (b : Nat) (down : Bool) : LinksKept s (s.forcedIdle b down) :=
  linksKept_ite ((linksKept_sendIdle s b down).trans (linksKept_incSat_idles _ b)) (.refl s)

theorem linksKept_transmit (s : State) (b : Nat) (down : Bool) (type : Nat) (f : Frame) :
    LinksKept s (s.transmit b down type f) := by
  unfold State.transmit
  refine LinksKept.trans ?_ (linksKept_modDir _ b down _)
  refine LinksKept.trans ?_ (linksKept_emitFrame _ b down type _)
  exact (linksKept_forcedIdle s b down).trans (linksKept_ite (linksKept_creditsLeave _ b down) (.refl _))

theorem linksKept_sendWaiting (b : Nat) (down : Bool) (n : Nat) (s : State) :
    LinksKept s (State.sendWaiting b down n s) := by
  induction n generalizing s with
  | zero => exact .refl s
  | succ n ih =>
    unfold State.sendWaiting
    dsimp only
    split
    · exact .refl s
    · split
      · exact ((linksKept_modDir s b down _).trans (linksKept_transmit _ b down _ _)).trans (ih _)
      · split
        · exact .refl s
        · exact (((linksKept_modDir s b down _).trans (linksKept_modShaft _ b _)).trans
            (linksKept_transmit _ b down _ _)).trans (ih _)

theorem linksKept_sendItems (s : State) (b : Nat) (down : Bool) (is : List Item) :
    LinksKept s (s.sendItems b down is) := by
  have hadd : LinksKept s (s.addWaits b down is) := ⟨rfl, rfl⟩
  exact linksKept_ite (hadd.trans (linksKept_sendWaiting b down 64 _)) (linksKept_ite hadd (.refl s))

theorem linksKept_sendRecs (s : State) (b : Nat) (rs : List (TxRec × Nat)) : LinksKept s (s.sendRecs b rs) := by
  unfold State.sendRecs
  exact linksKept_ite (.refl s) (linksKept_sendItems s b true _)

theorem linksKept_sendRec (s : State) (b : Nat) (r : TxRec) : LinksKept s (s.sendRec b r) :=
  (linksKept_wr s (ofLink_creditFam r.port) _ b).trans (linksKept_modShaft _ b _)

theorem linksKept_spreadRec (s : State) (r : TxRec) : LinksKept s (s.spreadRec r) :=
  linksKept_foldl _ (fun s b => linksKept_ite (.refl s) (linksKept_ite (linksKept_sendRec s b r)
    (linksKept_ite (linksKept_modShaft s b _) (.refl s)))) _ s

theorem linksKept_takeRecs (n : Nat) (s : State) : LinksKept s (State.takeRecs n s).1 := by
  induction n generalizing s with
  | zero => exact .refl s
  | succ n ih =>
    unfold State.takeRecs
    split
    · exact .refl s
    · rename_i r _
      have hpick : LinksKept s { s with cache := { s.cache with
          reqs := dropFirst (·.tag == r.tag) s.cache.reqs, reqRr := setAt s.cache.reqRr (s.recClass r) r.label } } := ⟨rfl, rfl⟩
      exact (hpick.trans (linksKept_spreadRec _ r)).trans (ih _)

theorem linksKept_takeLate (b n : Nat) (s : State) : LinksKept s (State.takeLate b n s).1 := by
  induction n generalizing s with
  | zero => exact .refl s
  | succ n ih =>
    unfold State.takeLate
    split
    · exact .refl s
    · dsimp only
      split
      · exact (linksKept_modShaft s b _).trans (ih _)
      · split
        · exact (linksKept_modShaft s b _).trans ((linksKept_sendRec _ b _).trans (ih _))
        · exact .refl s

theorem linksKept_latePump (s : State) (b : Nat) : LinksKept s (s.latePump b) :=
  linksKept_ite (.refl s) ((linksKept_takeLate b _ s).trans (linksKept_sendRecs _ b _))

theorem linksKept_shaftPump (s : State) : LinksKept s s.shaftPump := by
  have hlate := linksKept_foldl State.latePump linksKept_latePump (List.range s.nBench) s
  exact linksKept_ite hlate ((hlate.trans (linksKept_takeRecs _ _)).trans
    (linksKept_foldl _ (fun t b => linksKept_sendRecs t b _) _ _))

theorem linksKept_queueRec (s : State) (r : TxRec) : LinksKept s (s.queueRec r) := by
  have hjoin : LinksKept s { s with cache := { s.cache with reqs := s.cache.reqs ++ [r] } } := ⟨rfl, rfl⟩
  exact hjoin.trans (linksKept_shaftPump _)

end Sys2Proof.Machine
end

section
/-! SUPPORT. The fetches that the engines ask for while the cache is idle: they are issued at once, and leave the state of the
stack and the sweeps as they are (R80, R302). -/
namespace Sys2Proof.Machine
open Sys2Proof.Safety

/-! ### What a fetch that is issued leaves alone -/

/-- The state of the stack, with what waits in the cache, at its ports and in the haul engine, and the injection. -/
def State.view (s : State) := (s.core, s.haul, s.fault.inj, s.cache.opq, s.cache.wait, s.cache.port)

theorem view_of_eq {s t : State} (hc : t.core = s.core) (hh : t.haul = s.haul) (hf : t.fault = s.fault)
    (hca : t.cache = s.cache) : t.view = s.view := by
  simp only [State.view, hc, hh, hf, hca]

@[simp] theorem view_wr (s : State) (f : Fam) (v : Nat) (i : List Nat) (h : f.offStack = true) : (s.wr f v i).view = s.view :=
  view_of_eq (core_wr s f v i h) (by simp) (by simp) (by simp)
@[simp] theorem view_set (s : State) (f : Fam) (i : List Nat) (h : f.offStack = true) : (s.set f i).view = s.view :=
  view_wr s f 1 i h
@[simp] theorem view_wrB (s : State) (f : Fam) (b : Bool) (i : List Nat) (h : f.offStack = true) :
    (s.wrB f b i).view = s.view := view_wr s f _ i h
@[simp] theorem view_addSat (s : State) (f : Fam) (n : Nat) (i : List Nat) (h : f.offStack = true) :
    (s.addSat f n i).view = s.view := view_wr s f _ i h
@[simp] theorem view_incSat (s : State) (f : Fam) (i : List Nat) (h : f.offStack = true) : (s.incSat f i).view = s.view :=
  view_wr s f _ i h
@[simp] theorem view_inc (s : State) (f : Fam) (i : List Nat) (h : f.offStack = true) : (s.inc f i).view = s.view :=
  view_wr s f _ i h

@[simp] theorem view_raise (s : State) (e : Ev) (i : List Nat) (h : e.bit.offStack = true) : (s.raise e i).view = s.view :=
  view_of_eq (core_raise s e i h) (by simp) (by simp) (by simp)

theorem view_ite {c : Prop} [Decidable c] {s t u : State} (ht : t.view = s.view) (hu : u.view = s.view) :
    (if c then t else u).view = s.view := by split_ifs <;> assumption

theorem view_of_linksKept {s t : State} (h : LinksKept s t) : t.view = s.view := by
  have hregs : stackRegs t.regs = stackRegs s.regs := by
    funext k
    unfold stackRegs
    split_ifs with hk
    · have hlink : linkKey k = false := by
        simp only [stackKey, Bool.or_eq_true, Bool.and_eq_true, decide_eq_true_eq] at hk
        simp only [linkKey, Bool.and_eq_false_iff, decide_eq_false_iff_not]
        omega
      have hrest := congrFun h.rest k
      simpa only [restRegs, hlink, Bool.false_eq_true, if_false] using hrest
    · rfl
  have hoff := h.offLinks
  have hview : ∀ u : State, u.view = ((stackRegs u.regs, u.offLinks.core.2), u.offLinks.view.2) := fun _ => rfl
  rw [hview t, hview s, hregs, hoff]

@[simp] theorem view_queueRec (s : State) (r : TxRec) : (s.queueRec r).view = s.view :=
  view_of_linksKept (linksKept_queueRec s r)

@[simp] theorem view_charge (s : State) (l units : Nat) : (s.charge l units).view = s.view := by
  unfold State.charge
  exact view_ite (by simp +decide) (by simp +decide)

theorem view_issueOp (s : State) (op : SlabOp) : (s.issueOp op).view = s.view := by
  unfold State.issueOp State.askPortions
  dsimp only
  rw [view_queueRec]
  have hjoin : ∀ (t : State) (o : List SlabOp) (n m : Nat), ({ t with cache := { t.cache with ops := o, nextTag := n, misses := m } } :
      State).view = t.view := fun _ _ _ _ => rfl
  rw [hjoin]
  split
  · rw [view_inc _ _ _ rfl, view_charge]
  · rw [view_inc _ _ _ rfl, view_charge]
  · rw [view_charge]

@[simp] theorem view_heldUpdate (s : State) : s.heldUpdate.view = s.view := by
  unfold State.heldUpdate
  dsimp only
  rw [view_wrB _ _ _ _ rfl]
  exact view_ite (view_raise s E.CACHE_HELD_DIRTY [] rfl) rfl

/-! ### Requests of the engines -/

/-- Only fetches of the engines wait in the cache or at its internal port, nothing is under way that they would wait for, and no
injection is in progress. -/
structure Jobs (s : State) : Prop where
  opq : s.cache.opq = []
  inj : s.fault.inj = none
  runs : ∀ x ∈ s.haul.chans, x.run = none
  wait : ∀ r ∈ s.cache.wait, r.job.isSome = true
  port : ∀ r ∈ s.cache.port, srcPort r.src = 3 → r.job.isSome = true

/-- Where only fetches of the engines wait, that stays so and the state of the stack stays as it is. -/
def JobStep (s t : State) : Prop := Jobs s → Jobs t ∧ t.core = s.core

theorem JobStep.refl (s : State) : JobStep s s := fun h => ⟨h, rfl⟩

theorem JobStep.trans {s t u : State} (h : JobStep s t) (k : JobStep t u) : JobStep s u := fun hs => by
  obtain ⟨ht, hc⟩ := h hs
  obtain ⟨hu, hc'⟩ := k ht
  exact ⟨hu, hc'.trans hc⟩

theorem jobStep_ite {c : Prop} [Decidable c] {s t u : State} (ht : JobStep s t) (hu : JobStep s u) :
    JobStep s (if c then t else u) := by split_ifs <;> assumption

theorem jobStep_foldl {α : Type} (g : State → α → State) (hg : ∀ s a, JobStep s (g s a)) (l : List α) (s : State) :
    JobStep s (l.foldl g s) := foldl_inv (JobStep s) g (fun t a h => h.trans (hg t a)) l (.refl s)

theorem jobStep_of_view {s t : State} (h : t.view = s.view) : JobStep s t := fun hs => by
  simp only [State.view, Prod.mk.injEq] at h
  obtain ⟨hc, hh, hi, ho, hw, hp⟩ := h
  exact ⟨⟨ho.trans hs.opq, hi.trans hs.inj, hh ▸ hs.runs, hw ▸ hs.wait, hp ▸ hs.port⟩, hc⟩

theorem serve_view {s : State} (hi : s.fault.inj = none) {r : CReq} (hr : r.job.isSome = true) (count : Bool) :
    (s.serve r count).1.view = s.view := by
  obtain ⟨j, hj⟩ := Option.isSome_iff_exists.1 hr
  unfold State.serve
  rw [checkArray_of_no_injection hi, hj]
  dsimp only
  split_ifs with hno
  · rfl
  · unfold State.startOp
    rw [if_neg hno]
    exact view_issueOp s _

/-- A request of an engine served, or made to wait. -/
theorem jobStep_serveOrWait (s : State) {r : CReq} (hr : r.job.isSome = true) : JobStep s (s.serveOrWait r) := by
  have hlater : ∀ t : State, JobStep t { t with cache := { t.cache with wait := t.cache.wait ++ [r] } } := fun t ht =>
    ⟨⟨ht.opq, ht.inj, ht.runs, fun q hq => (List.mem_append.1 hq).elim (ht.wait q) fun h => by
      rw [List.mem_singleton.1 h]
      exact hr, ht.port⟩, rfl⟩
  unfold State.serveOrWait
  refine jobStep_ite (hlater s) fun hs => ?_
  have hserve := jobStep_of_view (serve_view hs.inj hr true) hs
  split <;> rename_i t heq <;> rw [heq] at hserve
  · exact hserve
  · exact JobStep.trans (fun _ => hserve) (hlater t) hs

theorem jobStep_retryWait (s : State) : JobStep s s.retryWait := by
  intro hs
  have hfold : ∀ (l : List CReq), (∀ r ∈ l, r.job.isSome = true) → ∀ t, JobStep t (l.foldl State.serveOrWait t) := by
    intro l
    induction l with
    | nil => exact fun _ t => .refl t
    | cons r l ih =>
      exact fun hl t => (jobStep_serveOrWait t (hl r List.mem_cons_self)).trans
        (ih (fun q hq => hl q (List.mem_cons_of_mem r hq)) _)
  exact hfold s.cache.wait hs.wait _ ⟨hs.opq, hs.inj, hs.runs, by simp, hs.port⟩

theorem jobStep_cacheSettle (s : State) : JobStep s s.cacheSettle := fun hs => by
  unfold State.cacheSettle
  rw [runOpq_of_nil hs.opq]
  have hretry := jobStep_retryWait s hs
  rw [retryFences_of_none (chan_run_none hretry.1.runs)]
  exact (jobStep_retryWait s).trans (jobStep_of_view (view_heldUpdate _)) hs

/-- A request taken from its port. -/
def State.taken (s : State) (r : CReq) : State :=
  { s with
    cache := { s.cache with
      port := s.cache.port.filter (·.id != r.id)
      rr := setAt s.cache.rr (3 * srcPort r.src + s.reqClass r) r.label }
    regul := { s.regul with aged := s.regul.aged.filter (· != r.id) }
    host := { s.host with rx := rxPassed s.host.rx r.id } }

/-- The peak of the entries in use counted. -/
def State.peakNoted (s : State) : State :=
  if s.rd R.CACHE_TXN_PEAK_COUNT < s.txnUsed + 1 then s.wr R.CACHE_TXN_PEAK_COUNT (s.txnUsed + 1) else s

theorem accept_eq {s : State} (hi : s.fault.inj = none) (r : CReq) :
    s.accept r = ((s.taken r).peakNoted.serveOrWait r).cacheSettle := by
  unfold State.accept
  rw [checkArray_of_no_injection hi]
  rfl

theorem jobStep_accept (s : State) {r : CReq} (hr : r.job.isSome = true) : JobStep s (s.accept r) := fun hs => by
  have htaken : JobStep s (s.taken r) := fun h =>
    ⟨⟨h.opq, h.inj, h.runs, h.wait, fun q hq => h.port q (List.mem_filter.1 hq).1⟩, rfl⟩
  have hpeak : JobStep (s.taken r) (s.taken r).peakNoted := jobStep_ite (jobStep_of_view (view_wr _ _ _ _ rfl)) (.refl _)
  rw [accept_eq hs.inj]
  exact (((htaken.trans hpeak).trans (jobStep_serveOrWait _ hr)).trans (jobStep_cacheSettle _)) hs

theorem foldl_pick_mem {α : Type} (g : Option α → α → Option α) (hg : ∀ m a, g m a = m ∨ g m a = some a) (l : List α)
    (m : Option α) {x : α} (h : l.foldl g m = some x) : x ∈ l ∨ m = some x := by
  induction l generalizing m with
  | nil => exact Or.inr h
  | cons a l ih =>
    obtain hx | hx := ih (g m a) h
    · exact Or.inl (List.mem_cons_of_mem a hx)
    · obtain hm | hm := hg m a
      · exact Or.inr (hm ▸ hx)
      · exact Or.inl (Option.some.inj (hm.symm.trans hx) ▸ List.mem_cons_self)

/-- What is picked at a port stands there. -/
theorem portPick_mem {s : State} {port : Nat} {r : CReq} (h : s.portPick port = some r) :
    r ∈ s.cache.port ∧ srcPort r.src = port := by
  obtain hmem | hnone := foldl_pick_mem _ (fun m a => by
    split
    · split_ifs
      · exact Or.inr rfl
      · exact Or.inl rfl
    · exact Or.inr rfl) _ none h
  · simp only [List.mem_filter, Bool.and_eq_true, beq_iff_eq] at hmem
    exact ⟨hmem.1.1.1, hmem.1.1.2.1⟩
  · exact absurd hnone (by simp)

theorem jobStep_acceptNext (s : State) : JobStep s (s.acceptNext 3) := fun hs => by
  unfold State.acceptNext
  split <;> rename_i heq
  · obtain ⟨hmem, hport⟩ := portPick_mem heq
    exact jobStep_ite (jobStep_accept s (hs.port _ hmem hport)) (.refl s) hs
  · exact JobStep.refl s hs

theorem jobStep_acceptInner (s : State) : JobStep s s.acceptInner :=
  jobStep_foldl _ (fun t _ => jobStep_acceptNext t) _ s

theorem jobStep_internalOp (s : State) (slab : Nat) (j : Job) : JobStep s (s.internalOp slab j) := by
  unfold State.internalOp
  dsimp only
  refine JobStep.trans (fun hs => ?_) (jobStep_acceptInner _)
  refine ⟨⟨hs.opq, hs.inj, hs.runs, hs.wait, fun q hq => ?_⟩, rfl⟩
  rcases List.mem_append.1 hq with hq | hq
  · exact hs.port q hq
  · rw [List.mem_singleton.1 hq]
    exact fun _ => rfl

/-! ### The engines -/

theorem jobStep_kickRejoin (s : State) : JobStep s s.kickRejoin := by
  unfold State.kickRejoin
  split
  · exact jobStep_ite (jobStep_internalOp s _ _) (.refl s)
  · exact .refl s

theorem jobStep_kickSuspect (s : State) : JobStep s s.kickSuspect :=
  jobStep_foldl _ (fun t _ => jobStep_ite (jobStep_internalOp t _ _) (.refl t)) _ s

theorem jobStep_kickRebuild (s : State) : JobStep s s.kickRebuild := by
  unfold State.kickRebuild
  split
  · exact jobStep_ite (jobStep_internalOp s _ _) (.refl s)
  · exact .refl s

theorem jobStep_setSlice (s : State) (l : Option (Nat × Nat)) : JobStep s (s.setSlice l) := jobStep_of_view rfl

theorem jobStep_repairFetch (s : State) (r : Repair) : JobStep s (s.repairFetch r) := by
  have hbusy : JobStep s (s.set R.RAS_SCRUB_STATUS_REPAIR_BUSY) := jobStep_of_view (view_set s _ _ rfl)
  have hmark : ∀ (t : State) (x : Option Repair), JobStep t { t with ras := { t.ras with repair := x } } := fun _ _ =>
    jobStep_of_view rfl
  exact (hbusy.trans (hmark _ _)).trans (jobStep_foldl _ (fun t slab => jobStep_internalOp t slab .repair) _ _)

theorem jobStep_repairAdmit (s : State) : JobStep s s.repairAdmit := by
  unfold State.repairAdmit
  refine jobStep_ite (.refl s) ?_
  split
  · exact jobStep_repairFetch s _
  · exact .refl s

theorem jobStep_reportServe (s : State) : JobStep s s.reportServe := by
  unfold State.reportServe
  split
  · exact .refl s
  · rename_i r rs _
    have htake : ∀ t : State, JobStep t { t with ras := { t.ras with reports := rs } } := fun _ => jobStep_of_view rfl
    have hcount : JobStep s (s.wr R.RAS_REPORT_QUEUE_COUNT rs.length) := jobStep_of_view (view_wr s _ _ _ rfl)
    have htaken : ∀ t : State, JobStep t (t.inc R.RAS_REPORTS_TAKEN_COUNT) := fun t => jobStep_of_view (view_inc t _ _ rfl)
    dsimp only
    have hall := (hcount.trans (htake _)).trans (htaken _)
    exact jobStep_ite hall (hall.trans (jobStep_internalOp _ _ _))

theorem jobStep_walkOne (s : State) : JobStep s s.walkOne := by
  have hop := jobStep_internalOp s (s.rd R.RAS_SCRUB_PTR_SLAB) .walk
  unfold State.walkOne
  dsimp only
  refine jobStep_ite (hop.trans (jobStep_of_view (view_wr _ _ _ _ rfl))) (hop.trans (jobStep_of_view ?_))
  rw [view_raise _ _ _ rfl, view_inc _ _ _ rfl, view_wr _ _ _ _ rfl]

theorem jobStep_sliceGo (k : Nat) (s : State) : JobStep s (State.sliceGo k s) := by
  induction k generalizing s with
  | zero => exact .refl s
  | succ k ih =>
    unfold State.sliceGo
    split
    · exact .refl s
    · have hadmit := jobStep_repairAdmit s
      dsimp only
      refine jobStep_ite (jobStep_setSlice s _) (jobStep_ite hadmit (jobStep_ite ?_ (jobStep_ite ?_ ?_)))
      · exact ((hadmit.trans (jobStep_setSlice _ _)).trans (jobStep_reportServe _)).trans (ih _)
      · exact ((hadmit.trans (jobStep_setSlice _ _)).trans (jobStep_walkOne _)).trans (ih _)
      · exact hadmit.trans (jobStep_setSlice _ _)

/-- The engines go on while nothing but their fetches waits in the cache. -/
theorem jobStep_kickSweeps (s : State) : JobStep s s.kickSweeps := by
  unfold State.kickSweeps
  dsimp only
  have hinner := jobStep_acceptInner s
  have hsweeps := jobStep_ite (c := s.acceptInner.sweepsRun = true)
    ((hinner.trans (jobStep_kickRejoin _)).trans (jobStep_kickSuspect _)) hinner
  exact (jobStep_ite (hsweeps.trans (jobStep_kickRebuild _)) hsweeps).trans (jobStep_sliceGo 10 _)

end Sys2Proof.Machine
end

section
/-! PROOFS. Requests on layers, the suspect sweep, and O29 (R49, R71, R73 to R75, R130). -/
namespace Sys2Proof.Machine
open Sys2Proof.Safety

/-! ### From an idle cache -/

theorem jobs_of_cacheIdle {s : State} (h : CacheIdle s) : Jobs s := by
  obtain ⟨-, hwait, hopq, hinj, hrun, hport⟩ := h
  exact ⟨hopq, hinj, hrun, fun r hr => by simp [hwait] at hr, fun r hr h3 => absurd h3 (hport r hr)⟩

theorem jobs_of_eq {s t : State} (hh : t.haul = s.haul) (hi : s.fault.inj = none → t.fault.inj = none) (hc : t.cache = s.cache)
    (h : Jobs s) : Jobs t := by
  obtain ⟨hopq, hinj, hrun, hwait, hport⟩ := h
  exact ⟨hc ▸ hopq, hi hinj, hh ▸ hrun, hc ▸ hwait, hc ▸ hport⟩

theorem setLayer_outside (s : State) (n st cause : Nat) : (s.setLayer n st cause).haul = s.haul ∧
    (s.setLayer n st cause).fault = s.fault ∧ (s.setLayer n st cause).cache = s.cache := by
  unfold State.setLayer
  refine ⟨?_, ?_, ?_⟩ <;> split_ifs <;> simp [State.recordDue]

theorem stopMarch_outside (s : State) : s.stopMarch.haul = s.haul ∧ s.stopMarch.fault = s.fault ∧
    s.stopMarch.cache = s.cache := by
  unfold State.stopMarch
  split
  · split_ifs <;> simp
  · exact ⟨rfl, rfl, rfl⟩

theorem sweepCheck_waits (s : State) : s.sweepCheck.haul = s.haul ∧ s.sweepCheck.fault = s.fault ∧
    s.sweepCheck.cache = s.cache := by
  unfold State.sweepCheck
  split <;> simp

/-- What follows a change of the layers: the protection state settled and the engines gone on. -/
theorem core_settleKick {s : State} (hm : Mild s 32) (hj : Jobs s) : s.protSettle.kickSweeps.core = s.core := by
  obtain ⟨hh, -, hc, hi⟩ := protSettle_outside hm
  exact (jobStep_kickSweeps _ (jobs_of_eq hh hi hc hj)).2.trans (core_protSettle hm)

/-! ### A layer given up on request (R71) -/

theorem loseLayer_keeps {s : State} (hl : s.live 8 = true) {n : Nat} (hn : n < 18) (h0 : s.layer n = 0) :
    (s.loseLayer n 1).layer n = 1 ∧ (s.loseLayer n 1).rd R.CODE_LAYER_STATE_CAUSE [n] = 1 ∧
      (∀ m, m ≠ n → (s.loseLayer n 1).layer m = s.layer m) ∧ (s.loseLayer n 1).lregs = s.lregs ∧
      (Jobs s → Jobs (s.loseLayer n 1)) := by
  have hin : n < s.nLayer := by
    by_contra h
    rw [layer_of_nLayer_le (Nat.le_of_not_lt h)] at h0
    omega
  have heq : s.loseLayer n 1 = (s.setLayer n 1 1).stopMarch.sweepCheck := if_neg (by omega)
  obtain ⟨hptr, hbusy⟩ := key_layerField (f := R.CODE_LAYER_STATE_CAUSE) rfl rfl (by decide) hn
  obtain ⟨hh, hf, hc⟩ := setLayer_outside s n 1 1
  obtain ⟨hh', hf', hc'⟩ := stopMarch_outside (s.setLayer n 1 1)
  obtain ⟨hh'', hf'', hc''⟩ := sweepCheck_waits (s.setLayer n 1 1).stopMarch
  have hfault := hf''.trans (hf'.trans hf)
  rw [heq]
  refine ⟨?_, ?_, fun m hm => ?_, ?_, jobs_of_eq (hh''.trans (hh'.trans hh)) (fun hi => by rw [hfault, hi]) (hc''.trans (hc'.trans hc))⟩
  · rw [layer_sweepCheck, layer_of_core (core_stopMarch _), layer_setLayer_same hl hin (by decide)]
  · rw [rd_sweepCheck _ hptr hbusy, rd_of_core (core_stopMarch _) (by decide) (stackKey_cause hn),
      cause_setLayer_same hl hin 1 (by decide)]
  · rw [layer_sweepCheck, layer_of_core (core_stopMarch _), layer_setLayer_ne hl 1 1 hm]
  · rw [lregs_sweepCheck, lregs_stopMarch, lregs_setLayer]

theorem reqLost_loses {s : State} (src : RegSrc) {n : Nat} (hn : n < 18) (hl : s.live 8 = true) (h0 : s.layer n = 0)
    (hoff : s.offline + 1 ≤ 2) (hm : Mild s 32) (hidle : CacheIdle s) :
    (s.reqLost src n).layer n = 1 ∧ (s.reqLost src n).rd R.CODE_LAYER_STATE_CAUSE [n] = 1 ∧
      ∀ m, m < 18 → m ≠ n → (s.reqLost src n).layer m = s.layer m := by
  obtain ⟨hlayer, hcause, hother, hlr, hjobs⟩ := loseLayer_keeps hl hn h0
  have heq : s.reqLost src n = (s.loseLayer n 1).protSettle.kickSweeps := by
    unfold State.reqLost
    rw [if_neg (by simp [hl]; omega)]
    dsimp only
    rw [if_pos h0, if_neg (by omega)]
  have hcore := core_settleKick (mild_of_lregs hlr hm) (hjobs (jobs_of_cacheIdle hidle))
  rw [heq]
  refine ⟨?_, ?_, fun m _ hm => ?_⟩
  · rw [layer_of_core hcore, hlayer]
  · rw [rd_of_core hcore (by decide) (stackKey_cause hn), hcause]
  · rw [layer_of_core hcore, hother m hm]

/-! ### A layer that rejoins (R73) -/

/-- A layer made REJOINING, its sweep at slab 0. -/
def State.rejoinMarked (s : State) (n : Nat) : State :=
  let t := s.setLayer n 2 (s.rd R.CODE_LAYER_STATE_CAUSE [n])
  let t := (t.wr R.CODE_REJOIN_PTR_SLAB 0).set R.CODE_CODE_STATUS_REJOIN_BUSY
  { t with ras := { t.ras with rejoinNext := some 0 } }

theorem startRejoin_eq (s : State) (n : Nat) : s.startRejoin n = (s.rejoinMarked n).protSettle.kickSweeps := rfl

theorem rejoinMarked_keeps {s : State} (hl : s.live 8 = true) {n : Nat} (hn : n < s.nLayer) :
    (s.rejoinMarked n).layer n = 2 ∧ (s.rejoinMarked n).ras.rejoinNext = some 0 ∧
      (s.rejoinMarked n).rd R.CODE_CODE_STATUS_REJOIN_BUSY = 1 ∧ (s.rejoinMarked n).lregs = s.lregs ∧
      (Jobs s → Jobs (s.rejoinMarked n)) := by
  obtain ⟨hh, hf, hc⟩ := setLayer_outside s n 2 (s.rd R.CODE_LAYER_STATE_CAUSE [n])
  have hn18 := hn.trans_le (nLayer_le s)
  obtain ⟨-, hbusy⟩ := key_layerField (f := R.CODE_LAYER_STATE_STATE) rfl rfl (by decide) hn18
  have hptr : R.CODE_LAYER_STATE_STATE.key [n] ≠ R.CODE_REJOIN_PTR_SLAB.key [] := by
    simp only [Fam.key, R.CODE_LAYER_STATE_STATE, R.CODE_REJOIN_PTR_SLAB, Fam.rel]
    omega
  refine ⟨?_, rfl, ?_, ?_, ?_⟩
  · refine (layer_congr (s := s.setLayer n 2 (s.rd R.CODE_LAYER_STATE_CAUSE [n])) ?_ ?_ ?_ ?_).trans
      (layer_setLayer_same hl hn (by decide) _)
    · simp [State.rejoinMarked]
    · simp [State.rejoinMarked]
    · simp [State.rejoinMarked]
    · exact (rd_wr_key _ R.CODE_CODE_STATUS_REJOIN_BUSY _ 1 [] _ hbusy).trans
        (rd_wr_key (s.setLayer n 2 (s.rd R.CODE_LAYER_STATE_CAUSE [n])) R.CODE_REJOIN_PTR_SLAB _ 0 [] _ hptr)
  · exact rd_set_same _ R.CODE_CODE_STATUS_REJOIN_BUSY [] (by decide)
  · exact (lregs_wr _ R.CODE_CODE_STATUS_REJOIN_BUSY 1 [] rfl).trans ((lregs_wr _ R.CODE_REJOIN_PTR_SLAB 0 [] rfl).trans
      (lregs_setLayer _ _ _ _))
  · exact jobs_of_eq (by simp [State.rejoinMarked, hh]) (fun hi => by simp [State.rejoinMarked, hf, hi])
      (by simp [State.rejoinMarked, hc])

theorem reqRejoin_rejoins {s : State} (src : RegSrc) {n : Nat} (hn : n < 18) (hl : s.live 8 = true) (h1 : s.layer n = 1)
    (hcause : s.rd R.CODE_LAYER_STATE_CAUSE [n] ≠ 5) (hlink : s.linkState (n / 2) = linkActive) (hprot : s.protection ≠ 3)
    (hm : Mild s 32) (hidle : CacheIdle s) :
    (s.reqRejoin src n).layer n = 2 ∧ (s.reqRejoin src n).ras.rejoinNext = some 0 ∧
      (s.reqRejoin src n).rd R.CODE_CODE_STATUS_REJOIN_BUSY = 1 := by
  have hin : n < s.nLayer := by
    by_contra h
    rw [layer_of_nLayer_le (Nat.le_of_not_lt h)] at h1
    omega
  obtain ⟨hlayer, hnext, hbusy, hlr, hjobs⟩ := rejoinMarked_keeps hl hin
  have heq : s.reqRejoin src n = (s.rejoinMarked n).protSettle.kickSweeps := by
    unfold State.reqRejoin
    rw [if_neg (by simp [hl]; omega), if_pos ⟨h1, hcause, hlink, hprot⟩, startRejoin_eq]
  have hcore := core_settleKick (mild_of_lregs hlr hm) (hjobs (jobs_of_cacheIdle hidle))
  rw [heq]
  refine ⟨?_, ?_, ?_⟩
  · rw [layer_of_core hcore, hlayer]
  · rw [rejoinNext_of_core hcore, hnext]
  · rw [rd_of_core hcore (by decide) (by decide), hbusy]

/-! ### The suspect sweep (R130) -/

theorem suspectStart_sweeps {s : State} (hl : s.live 8 = true) (hidle : CacheIdle s)
    (hready : s.rd R.HOST_STATUS_STACK_READY = 1) (hnone : s.ras.sweeps = []) (hmarked : s.markedPos ≠ []) :
    s.suspectStart.ras.sweeps = s.markedPos.map (·, 0) := by
  have hjobs : Jobs ({ s with ras := { s.ras with sweeps := s.markedPos.map (·, 0) } } : State) :=
    jobs_of_eq (s := s) rfl id rfl (jobs_of_cacheIdle hidle)
  unfold State.suspectStart
  rw [if_pos (by simp [hl, State.is, hready, hnone, hmarked])]
  exact sweeps_of_core (jobStep_kickSweeps _ hjobs).2

theorem key_mark (n pos : Nat) : R.CODE_SUSPECT_MARKS.key [n, pos] = 0x1A0100 * 8 + n * 64 + pos := by
  simp [Fam.key, R.CODE_SUSPECT_MARKS, Fam.rel]
  omega

theorem rd_marksCleared (s : State) (b pos n : Nat) : (s.marksCleared b pos).rd R.CODE_SUSPECT_MARKS [n, pos] =
    if n / 2 = b then 0 else s.rd R.CODE_SUSPECT_MARKS [n, pos] := by
  unfold State.marksCleared
  by_cases h1 : n = 2 * b + 1
  · rw [if_pos (by omega), h1, rd_clr_same]
  · rw [State.clr, rd_wr_key _ _ _ _ _ _ (by rw [key_mark, key_mark]; omega)]
    by_cases h0 : n = 2 * b
    · rw [if_pos (by omega), h0, rd_clr_same]
    · rw [if_neg (by omega), State.clr, rd_wr_key _ _ _ _ _ _ (by rw [key_mark, key_mark]; omega)]

theorem rd_clearPos_mark (s : State) {pos n : Nat} (hp : pos < 64) (hn : n < s.nLayer) :
    (s.clearPos pos).rd R.CODE_SUSPECT_MARKS [n, pos] = 0 := by
  have hn18 := hn.trans_le (nLayer_le s)
  have hkey : R.CODE_SUSPECT_MARKS.key [n, pos] < 0x1A0200 * 8 := by
    rw [key_mark]
    omega
  have hstep : ∀ t b, (State.clearPosAt pos t b).rd R.CODE_SUSPECT_MARKS [n, pos] =
      if n / 2 = b then 0 else t.rd R.CODE_SUSPECT_MARKS [n, pos] := fun t b => by
    rw [rd_clearPosAt t pos b rfl hkey, rd_marksCleared]
  have hfold : ∀ (l : List Nat) (t : State), (t.rd R.CODE_SUSPECT_MARKS [n, pos] = 0 ∨ n / 2 ∈ l) →
      (l.foldl (State.clearPosAt pos) t).rd R.CODE_SUSPECT_MARKS [n, pos] = 0 := by
    intro l
    induction l with
    | nil => exact fun t h => h.resolve_right List.not_mem_nil
    | cons b l ih =>
      intro t h
      refine ih _ ?_
      rw [hstep]
      by_cases hb : n / 2 = b
      · exact Or.inl (if_pos hb)
      · rw [if_neg hb]
        exact h.imp_right fun hm => (List.mem_cons.1 hm).resolve_left hb
  rw [clearPos_eq]
  refine hfold _ s (Or.inr (List.mem_range.2 ?_))
  have : s.nLayer = 2 * s.nBench := rfl
  omega

theorem suspectSettle_outside (s : State) : s.suspectSettle.haul = s.haul ∧ s.suspectSettle.fault = s.fault ∧
    s.suspectSettle.cache = s.cache ∧ s.suspectSettle.ras.sweeps = s.ras.sweeps := by simp [State.suspectSettle]

/-- A position's pass struck off. -/
def State.passEnded (s : State) (pos : Nat) : State :=
  { s with ras := { s.ras with sweeps := s.ras.sweeps.filter (·.1 != pos) } }

theorem sweepDone_eq {s : State} {pos : Nat} (hl : s.live 8 = true) (hmem : (pos, 2 ^ 21) ∈ s.ras.sweeps) :
    s.sweepDone pos = ((s.passEnded pos).clearPos pos).suspectSettle.kickSweeps := by
  unfold State.sweepDone
  rw [if_pos (by simpa [hl] using hmem)]
  rfl

theorem sweepDone_clears {s : State} {pos : Nat} (hp : pos < 64) (hl : s.live 8 = true) (hidle : CacheIdle s)
    (hmem : (pos, 2 ^ 21) ∈ s.ras.sweeps) : (∀ p ∈ (s.sweepDone pos).ras.sweeps, p.1 ≠ pos) ∧
      ∀ n, n < s.nLayer → (s.sweepDone pos).rd R.CODE_SUSPECT_MARKS [n, pos] = 0 := by
  obtain ⟨-, -, hras, hh, hc, hf, -⟩ := clearPos_outside (s.passEnded pos) pos
  obtain ⟨hh', hf', hc', hsweeps⟩ := suspectSettle_outside ((s.passEnded pos).clearPos pos)
  have hjobs : Jobs ((s.passEnded pos).clearPos pos).suspectSettle :=
    jobs_of_eq (s := s) (hh'.trans hh) (fun hi => by rw [hf', hf, ← hi]; rfl) (hc'.trans hc) (jobs_of_cacheIdle hidle)
  have hcore := (jobStep_kickSweeps _ hjobs).2
  rw [sweepDone_eq hl hmem]
  refine ⟨fun p hin => ?_, fun n hn => ?_⟩
  · rw [sweeps_of_core hcore, hsweeps, hras] at hin
    exact bne_iff_ne.1 (List.mem_filter.1 hin).2
  · have hany : R.CODE_CODE_STATUS_SUSPECT_ANY.key [] < 0x1A0100 * 8 := by decide
    rw [rd_of_core hcore (by decide) (stackKey_mark (hn.trans_le (nLayer_le s)) hp)]
    refine (rd_wr_key ((s.passEnded pos).clearPos pos) R.CODE_CODE_STATUS_SUSPECT_ANY _ _ [] _ ?_).trans
      (rd_clearPos_mark (s.passEnded pos) hp hn)
    rw [key_mark]
    omega

/-- Settles O29, clause by clause. -/
theorem layersAreManaged : Obligations.LayersAreManaged := by
  unfold Obligations.LayersAreManaged
  intro s src u
  refine ⟨fun v hl hm => ?_, fun n hn hl h0 hoff hm hidle => ?_, fun n hn hl h1 hcause hlink hprot hm hidle => ?_,
    fun hnext hl hm => ?_, fun hidle hclear hok => ?_,
    fun p hl hbusy hm hnext hle hw hops hwait hhaul => ?_, fun hl hidle hready hnone hmarked => ?_,
    fun pos hp hl hidle hmem => ?_⟩
  · exact leads_next rfl (rd_bankHashWrite hl hm src v)
  · exact leads_next rfl (reqLost_loses src hn hl h0 hoff hm hidle)
  · exact leads_next rfl (reqRejoin_rejoins src hn hl h1 hcause hlink hprot hm hidle)
  · exact leads_next rfl (rejoinDone_ends hnext hl hm)
  · have hjobs := jobs_of_cacheIdle hidle
    refine leads_next rfl ?_
    change (u.stackClear src).rd _ = 1 ∧ _
    rw [stackClear_eq src hidle.1 hclear hok]
    exact clearStart_starts ⟨hjobs.opq, hidle.2.1, chan_run_none hjobs.runs⟩
  · exact leads_next rfl (clearDone_ends hl hbusy hm hnext hle hw hops hwait hhaul)
  · exact leads_next rfl (suspectStart_sweeps hl hidle hready hnone hmarked)
  · exact leads_next rfl (sweepDone_clears hp hl hidle hmem)

end Sys2Proof.Machine
end

section
/-! SUPPORT. A power sequencer at rest and sources none of which trips, with the value of CE_TOTAL, as an equation that simp can
carry through a chain of operations. -/
namespace Sys2Proof.Machine
open Sys2Proof.Safety

/-- No source but FS018 reacts with TRIP (R323). -/
def calmRegs (l : List (Nat × Nat)) : Bool :=
  (List.range 128).all fun n =>
    n == 18 || (kvGet (R.FAULT_REACT_REACTION.key [n]) l).getD (R.FAULT_REACT_REACTION.resetAt [n]) != 4

/-- Whether the power sequencer is at rest, whether only FS018 could trip the device, and CE_TOTAL. -/
def State.calm (s : State) : Bool × Bool × Nat := (s.power.seq == .idle, calmRegs s.lregs, s.ras.ceTotal)

/-- At rest, nothing that trips, and CE_TOTAL at `z`. -/
def calmOk (z : Nat) (c : Bool × Bool × Nat) : Bool := c.1 && c.2.1 && c.2.2 == z

@[simp] theorem calm_mk (regs lregs bregs time dram segs cache ras bench shaft host haul coding regul power thermal fault test
    fuse mgmt dict wake rack pins fresh sent pending) :
    State.calm ⟨regs, lregs, bregs, time, dram, segs, cache, ras, bench, shaft, host, haul, coding, regul, power, thermal, fault,
      test, fuse, mgmt, dict, wake, rack, pins, fresh, sent, pending⟩ = (power.seq == .idle, calmRegs lregs, ras.ceTotal) :=
  Prod.ext rfl (Prod.ext rfl rfl)

@[simp] theorem calm_eta (s : State) : (s.power.seq == .idle, calmRegs s.lregs, s.ras.ceTotal) = s.calm :=
  Prod.ext rfl (Prod.ext rfl rfl)

/-- `calmOk` under a name that `simp` leaves alone (`anyhow_congr`). -/
def State.anyhow (s : State) (z : Nat) : Bool := calmOk z s.calm

@[congr] theorem anyhow_congr (s : State) (z : Nat) : s.anyhow z = s.anyhow z := rfl

/-- `t` is calm where `s` is, as an equation: `simp` rewrites with it what a chain of operations leaves. -/
abbrev CalmKept (s t : State) : Prop := ∀ z, calmOk z t.calm = (calmOk z s.calm || t.anyhow z)

theorem calmKept_of {s t : State} (h : ∀ z, calmOk z s.calm = true → calmOk z t.calm = true) : CalmKept s t := fun z => by
  cases hs : calmOk z s.calm
  · simp [State.anyhow]
  · simp [h z hs]

theorem CalmKept.ok {s t : State} (h : CalmKept s t) {z : Nat} (hs : calmOk z s.calm = true) : calmOk z t.calm = true := by
  rw [h, hs]; rfl

theorem calm_same {s t : State} (hp : t.power = s.power) (hl : calmRegs t.lregs = calmRegs s.lregs)
    (hr : t.ras.ceTotal = s.ras.ceTotal) : t.calm = s.calm := by
  unfold State.calm
  rw [hp, hl, hr]

theorem calm_of_pair {α : Type} {p : State × α} {t : State} {a : α} (h : p = (t, a)) : t.calm = p.1.calm := by rw [h]

theorem calm_if {c : Prop} [Decidable c] {s t u : State} (ht : t.calm = s.calm) (hu : u.calm = s.calm) :
    (if c then t else u).calm = s.calm := by split_ifs <;> assumption

theorem calmOk_if {c : Prop} [Decidable c] {s t : State} {z : Nat} (hs : calmOk z s.calm = true) (ht : calmOk z t.calm = true) :
    calmOk z (if c then s else t).calm = true := by split_ifs <;> assumption

@[simp] theorem calm_ite (c : Prop) [Decidable c] (s t : State) :
    State.calm (if c then s else t) = if c then s.calm else t.calm := apply_ite State.calm c s t

@[simp] theorem calm_ite_fst {α : Type} (c : Prop) [Decidable c] (p q : State × α) :
    State.calm (if c then p else q).1 = if c then p.1.calm else q.1.calm := by split_ifs <;> rfl

@[simp] theorem calmOk_ite (c : Prop) [Decidable c] (z : Nat) (m n : Bool × Bool × Nat) :
    calmOk z (if c then m else n) = if c then calmOk z m else calmOk z n := apply_ite (calmOk z) c m n

@[simp] theorem calmKept_foldl {α : Type} (g : State → α → State)
    (hg : ∀ s a z, calmOk z s.calm = true → calmOk z (g s a).calm = true) (l : List α) (s : State) : CalmKept s (l.foldl g s) :=
  calmKept_of fun z h => foldl_inv (fun s => calmOk z s.calm = true) g (fun s a => hg s a z) l h

@[simp] theorem calm_foldl {α : Type} (g : State → α → State) (hg : ∀ s a, (g s a).calm = s.calm) (l : List α)
    (s : State) : (l.foldl g s).calm = s.calm := foldl_keeps State.calm g hg l s

@[simp] theorem calm_foldl_fst {α β : Type} (g : State × β → α → State × β)
    (hg : ∀ p a, (g p a).1.calm = p.1.calm) (l : List α) (p : State × β) :
    (l.foldl g p).1.calm = p.1.calm := foldl_keeps (fun p : State × β => p.1.calm) g hg l p

/-! ### Register fields -/

/-- A field that no index puts among the reactions. -/
def Fam.offReact (f : Fam) : Bool :=
  f.held != .lantern || decide (0x440240 ≤ f.off) ||
    (f.dims.isEmpty && (decide (f.off * 8 + f.lsb < 0x440200 * 8) || decide (0x440240 * 8 ≤ f.off * 8 + f.lsb)))

theorem calmRegs_congr {l m : List (Nat × Nat)}
    (h : ∀ n, n < 128 → kvGet (R.FAULT_REACT_REACTION.key [n]) l = kvGet (R.FAULT_REACT_REACTION.key [n]) m) :
    calmRegs l = calmRegs m := by
  unfold calmRegs
  rw [Bool.eq_iff_iff, List.all_eq_true, List.all_eq_true]
  exact forall₂_congr fun n hn => by rw [h n (List.mem_range.1 hn)]

@[simp] theorem calmRegs_wr (s : State) (f : Fam) (v : Nat) (i : List Nat) (h : f.offReact = true) :
    calmRegs (s.wr f v i).lregs = calmRegs s.lregs :=
  calmRegs_congr fun n hn => kvGet_wr_ne s f v i (h := .lantern) fun ⟨hl, hk⟩ => by
    simp only [Fam.offReact, ← hl, bne_self_eq_false, Bool.false_or, Bool.or_eq_true, Bool.and_eq_true, decide_eq_true_eq,
      List.isEmpty_iff] at h
    rw [react_key] at hk
    rcases h with h | ⟨hd, h⟩
    · rw [Fam.key] at hk
      omega
    · have hrel : Fam.rel f.dims i = 0 := by rw [hd]; cases i <;> rfl
      rw [Fam.key, hrel] at hk
      omega

@[simp] theorem calm_wr (s : State) (f : Fam) (v : Nat) (i : List Nat) (h : f.offReact = true) : (s.wr f v i).calm = s.calm :=
  calm_same (wr_power s f v i) (calmRegs_wr s f v i h) (by rw [wr_ras])

theorem calmOk_iff {s : State} {z : Nat} : calmOk z s.calm = true ↔
    s.power.seq = .idle ∧ calmRegs s.lregs = true ∧ s.ras.ceTotal = z := by
  unfold calmOk State.calm
  simp [-calm_eta, and_assoc]

theorem calmRegs_iff {s : State} : calmRegs s.lregs = true ↔
    ∀ n, n < 128 → n ≠ 18 → s.rd R.FAULT_REACT_REACTION [n] ≠ 4 := by
  unfold calmRegs
  rw [List.all_eq_true]
  have hrd : ∀ n, s.rd R.FAULT_REACT_REACTION [n] =
      (kvGet (R.FAULT_REACT_REACTION.key [n]) s.lregs).getD (R.FAULT_REACT_REACTION.resetAt [n]) := fun _ => rfl
  constructor
  · intro h n hn h18
    have := h n (List.mem_range.2 hn)
    simpa [hrd, h18] using this
  · intro h n hn
    by_cases h18 : n = 18
    · simp [h18]
    · simpa [hrd, h18] using h n (List.mem_range.1 hn) h18

/-- A field written with 0 or 1 gives no source the reaction TRIP, wherever its index puts it. -/
theorem calmOk_wr_low {s : State} {z : Nat} (hz : calmOk z s.calm = true) (f : Fam) {v : Nat} (hv : v ≤ 1) (i : List Nat) :
    calmOk z (s.wr f v i).calm = true := by
  obtain ⟨hseq, hregs, hce⟩ := calmOk_iff.1 hz
  refine calmOk_iff.2 ⟨by rwa [wr_power], calmRegs_iff.2 fun n hn h18 => ?_, by rwa [wr_ras]⟩
  by_cases hk : Held.lantern = f.held ∧ R.FAULT_REACT_REACTION.key [n] = f.key i
  · obtain ⟨hh, hkey⟩ := hk
    have hreset : ∀ n, n < 128 → n ≠ 18 → R.FAULT_REACT_REACTION.resetAt [n] ≠ 4 := by decide
    have hlow : v % 2 ^ f.width ≤ 1 := (Nat.mod_le _ _).trans hv
    have hget := kvGet_wr_same s f v i
    rw [← hh, ← hkey] at hget
    have hrd : (s.wr f v i).rd R.FAULT_REACT_REACTION [n] = (kvGet (R.FAULT_REACT_REACTION.key [n])
        ((s.wr f v i).file .lantern)).getD (R.FAULT_REACT_REACTION.resetAt [n]) := rfl
    rw [hrd, hget]
    split_ifs
    · exact hreset n hn h18
    · simp only [Option.getD_some]
      omega
  · rw [rd_wr_ne s f R.FAULT_REACT_REACTION v i [n] hk]
    exact calmRegs_iff.1 hregs n hn h18

end Sys2Proof.Machine
end

section
/-! SUPPORT. What each operation that can follow a fetch leaves of the sequencer, the reactions and CE_TOTAL, one lemma per
function of the model, in the model's order: most leave all three (`calm_`); one that can reach the fault collector, or marks a
region of the suspect map, does so where they are calm (`calmKept_`). -/
namespace Sys2Proof.Machine
open Sys2Proof.Safety

/-! ### Ops.lean -/

@[simp] theorem calmRegs_set (s : State) (f : Fam) (i : List Nat) (h : f.offReact = true) :
    calmRegs (s.set f i).lregs = calmRegs s.lregs := calmRegs_wr s f 1 i h

@[simp] theorem calm_set (s : State) (f : Fam) (i : List Nat) (h : f.offReact = true) : (s.set f i).calm = s.calm :=
  calm_wr s f 1 i h

@[simp] theorem calmRegs_clr (s : State) (f : Fam) (i : List Nat) (h : f.offReact = true) :
    calmRegs (s.clr f i).lregs = calmRegs s.lregs := calmRegs_wr s f 0 i h

@[simp] theorem calm_clr (s : State) (f : Fam) (i : List Nat) (h : f.offReact = true) : (s.clr f i).calm = s.calm :=
  calm_wr s f 0 i h

@[simp] theorem calmRegs_wrB (s : State) (f : Fam) (b : Bool) (i : List Nat) (h : f.offReact = true) :
    calmRegs (s.wrB f b i).lregs = calmRegs s.lregs := calmRegs_wr s f _ i h

@[simp] theorem calm_wrB (s : State) (f : Fam) (b : Bool) (i : List Nat) (h : f.offReact = true) : (s.wrB f b i).calm = s.calm :=
  calm_wr s f _ i h

@[simp] theorem calmRegs_addSat (s : State) (f : Fam) (n : Nat) (i : List Nat) (h : f.offReact = true) :
    calmRegs (s.addSat f n i).lregs = calmRegs s.lregs := calmRegs_wr s f _ i h

@[simp] theorem calm_addSat (s : State) (f : Fam) (n : Nat) (i : List Nat) (h : f.offReact = true) :
    (s.addSat f n i).calm = s.calm :=
  calm_wr s f _ i h

@[simp] theorem calmRegs_incSat (s : State) (f : Fam) (i : List Nat) (h : f.offReact = true) :
    calmRegs (s.incSat f i).lregs = calmRegs s.lregs := calmRegs_wr s f _ i h

@[simp] theorem calm_incSat (s : State) (f : Fam) (i : List Nat) (h : f.offReact = true) : (s.incSat f i).calm = s.calm :=
  calm_wr s f _ i h

@[simp] theorem calmRegs_inc (s : State) (f : Fam) (i : List Nat) (h : f.offReact = true) :
    calmRegs (s.inc f i).lregs = calmRegs s.lregs := calmRegs_wr s f _ i h

@[simp] theorem calm_inc (s : State) (f : Fam) (i : List Nat) (h : f.offReact = true) : (s.inc f i).calm = s.calm :=
  calm_wr s f _ i h

@[simp] theorem calm_dropUpdate (s : State) : s.dropUpdate.calm = s.calm := by simp +decide [State.dropUpdate]

@[simp] theorem calmRegs_emit (s : State) (o : Output) : calmRegs (s.emit o).lregs = calmRegs s.lregs := rfl

@[simp] theorem calm_emit (s : State) (o : Output) : (s.emit o).calm = s.calm := calm_same (by simp) (by simp) (by simp)

@[simp] theorem calmRegs_tlp (s : State) (o : Output) : calmRegs (s.tlp o).lregs = calmRegs s.lregs := by
  unfold State.tlp
  split_ifs <;> rfl

@[simp] theorem calm_tlp (s : State) (o : Output) : (s.tlp o).calm = s.calm := calm_same (by simp) (by simp) (by simp)

@[simp] theorem calmRegs_msix (s : State) (v : Nat) : calmRegs (s.msix v).lregs = calmRegs s.lregs :=
  congrArg calmRegs (file_msix s v .lantern)

@[simp] theorem calm_msix (s : State) (v : Nat) : (s.msix v).calm = s.calm := calm_same (by simp) (by simp) (by simp)

@[simp] theorem calmRegs_raise (s : State) (e : Ev) (i : List Nat) (h : e.bit.offReact = true) :
    calmRegs (s.raise e i).lregs = calmRegs s.lregs := by
  unfold State.raise
  split_ifs <;> simp [h]

@[simp] theorem calm_raise (s : State) (e : Ev) (i : List Nat) (h : e.bit.offReact = true) :
    (s.raise e i).calm = s.calm := calm_same (by simp) (by simp [h]) (by simp)

@[simp] theorem calm_log (s : State) (source unit code : Nat) (data : List Byte) :
    (s.log source unit code data).calm = s.calm := calm_same (by simp) (by simp) (by simp)

/-! ### Stack.lean -/

@[simp] theorem calm_poke (s : State) (a : Nat) (bs : List Byte) : (s.poke a bs).calm = s.calm := by simp [State.poke]

/-! ### Domain.lean -/

@[simp] theorem calmRegs_modBench (s : State) (b : Nat) (f : BenchSt → BenchSt) :
    calmRegs (s.modBench b f).lregs = calmRegs s.lregs := rfl

@[simp] theorem calm_modBench (s : State) (b : Nat) (f : BenchSt → BenchSt) :
    (s.modBench b f).calm = s.calm := calm_same (by simp) (by simp) (by simp)

@[simp] theorem calmRegs_modShaft (s : State) (b : Nat) (f : ShaftSt → ShaftSt) :
    calmRegs (s.modShaft b f).lregs = calmRegs s.lregs := rfl

@[simp] theorem calm_modShaft (s : State) (b : Nat) (f : ShaftSt → ShaftSt) :
    (s.modShaft b f).calm = s.calm := calm_same (by simp) (by simp) (by simp)

theorem calm_loseDomain (s : State) {d : Nat} (h : d ≠ 8) : (s.loseDomain d).calm = s.calm := by
  have hway : ∀ t : State, (t.wr R.TEST_CS_WAY_PTR_WAY_FAILED 0).calm = t.calm := fun t => calm_wr t _ _ _ (by decide)
  unfold State.loseDomain
  rw [if_neg h]
  refine calm_if rfl (calm_if ?_ (calm_if (hway _) (calm_if rfl (calm_if rfl (calm_if rfl (calm_if rfl (calm_if rfl
    (calm_if rfl (calm_if rfl (calm_if ?_ rfl))))))))))
  · exact calm_dropUpdate s
  · extract_lets
    split <;> rfl

theorem calm_domainsOff {ds : List Nat} (h : 8 ∉ ds) (s : State) : (s.domainsOff ds).calm = s.calm := by
  unfold State.domainsOff
  induction ds generalizing s with
  | nil => rfl
  | cons d ds ih =>
    obtain ⟨hd, hds⟩ := not_or.1 (fun h' => h (List.mem_cons.2 h'))
    rw [List.foldl_cons, ih hds]
    exact (calm_mk ..).trans ((calm_eta _).trans (calm_loseDomain s (Ne.symm hd)))

/-! ### React.lean -/

@[simp] theorem calm_logShaft (s : State) (b bit : Nat) : (s.logShaft b bit).calm = s.calm := by simp [State.logShaft]

@[simp] theorem calm_drivePins (s : State) : s.drivePins.calm = s.calm := by simp [State.drivePins]

@[simp] theorem calm_heldUpdate (s : State) : s.heldUpdate.calm = s.calm := by simp +decide [State.heldUpdate]

@[simp] theorem calm_stopMarch (s : State) : s.stopMarch.calm = s.calm := by
  unfold State.stopMarch
  dsimp only
  (repeat' split) <;> simp +decide

@[simp] theorem calm_recordDue (s : State) (type unit a b spare : Nat) : (s.recordDue type unit a b spare).calm = s.calm := by
  simp [State.recordDue]

@[simp] theorem calm_setLayer (s : State) (n st cause : Nat) : (s.setLayer n st cause).calm = s.calm := by
  simp +decide [State.setLayer]

@[simp] theorem calm_sweepCheck (s : State) : s.sweepCheck.calm = s.calm := by simp +decide [State.sweepCheck]

@[simp] theorem calm_loseLayer (s : State) (n cause : Nat) : (s.loseLayer n cause).calm = s.calm := by simp [State.loseLayer]

@[simp] theorem calm_protUpdate (s : State) : s.protUpdate.1.calm = s.calm := by simp +decide [State.protUpdate]

@[simp] theorem calm_offlineCore (s : State) (b : Nat) : (s.offlineCore b).calm = s.calm := by
  have hdoms : 8 ∉ benchDoms b := by simp [benchDoms, benchDom]; omega
  simp +decide [State.offlineCore, calm_domainsOff hdoms]

@[simp] theorem calm_setEnabled (s : State) (code : Nat) : (s.setEnabled code).calm = s.calm := by
  simp +decide [State.setEnabled]

@[simp] theorem calm_dropHaulPort (s : State) : s.dropHaulPort.calm = s.calm := by simp [State.dropHaulPort]

@[simp] theorem calm_haltWork (s : State) : s.haltWork.calm = s.calm := by simp [State.haltWork]

@[simp] theorem calm_haulHalt (s : State) (type kind addr : Nat) : (s.haulHalt type kind addr).calm = s.calm := by
  simp +decide [State.haulHalt]

@[simp] theorem calm_writeHeader (s : State) (active : Nat) (trial : Bool) (boots : Nat) :
    (s.writeHeader active trial boots).calm = s.calm := by
  unfold State.writeHeader
  dsimp only
  (repeat' split) <;> simp

@[simp] theorem calm_logImage (s : State) (slot code version rollback : Nat) :
    (s.logImage slot code version rollback).calm = s.calm := by simp [State.logImage]

@[simp] theorem calm_logSlot (s : State) (k code : Nat) : (s.logSlot k code).calm = s.calm := by simp [State.logSlot]

@[simp] theorem calm_bootStart (s : State) (bootsel : Bool) : (s.bootStart bootsel).calm = s.calm := by
  unfold State.bootStart
  dsimp only
  (repeat' split) <;> simp +decide

@[simp] theorem calm_persistBefore (s : State) (b : Nat) : (s.persistBefore b).calm = s.calm := by
  simp +decide [State.persistBefore]

@[simp] theorem calm_persistAll (s : State) : s.persistAll.calm = s.calm := by simp +decide [State.persistAll]

@[simp] theorem calm_activate (s : State) : s.activate.calm = s.calm := by simp +decide [State.activate]

@[simp] theorem calm_mgmtRestart (s : State) : s.mgmtRestart.calm = s.calm := by simp +decide [State.mgmtRestart]

theorem faultAbort_of_idle {s : State} (h : s.power.seq = .idle) (trip : Bool) : s.faultAbort trip = s := by
  unfold State.faultAbort
  rw [h]

@[simp] theorem calm_openShadow (s : State) (t : Nat) : (s.openShadow t).calm = s.calm := by simp +decide [State.openShadow]

@[simp] theorem calmKept_capture (s : State) (n reaction : Nat) : CalmKept s (s.capture n reaction).1 :=
  calmKept_of fun z hz => by
    have hset : calmOk z (s.set R.FAULT_STICKY_SOURCES [n]).calm = true := calmOk_wr_low hz _ (Nat.le_refl 1) _
    simp +decide [State.capture, hset]

@[simp] theorem calm_raiseFault (s : State) (note fence shadow : Bool) : (s.raiseFault note fence shadow).calm = s.calm := by
  simp +decide [State.raiseFault]

@[simp] theorem calmKept_safeAct (s : State) : CalmKept s s.safeAct.1 := by
  refine calmKept_of fun z hz => ?_
  have hopen : calmOk z (((s.set R.FAULT_STATUS_SAFE).haulHalt 0 0 0).openShadow 0).calm = true := by simp +decide [hz]
  unfold State.safeAct
  split
  · exact hz
  · generalize ((s.set R.FAULT_STATUS_SAFE).haulHalt 0 0 0).openShadow 0 = t at hopen ⊢
    dsimp only
    rw [faultAbort_of_idle (calmOk_iff.1 (by simp [hopen] : calmOk z (State.emit _ _).calm = true)).1]
    simp [hopen]

@[simp] theorem calm_fenceAct (s : State) (t : Nat) : (s.fenceAct t).1.calm = s.calm := by
  unfold State.fenceAct
  dsimp only
  (repeat' split) <;> simp +decide

theorem protUpdate_srcs (s : State) : 18 ∉ s.protUpdate.2 := by
  obtain h | h := protUpdate_sources s <;> simp [h]

theorem fenceAct_srcs (s : State) (t : Nat) : 18 ∉ (s.fenceAct t).2.srcs := by
  unfold State.fenceAct
  dsimp only
  repeat' split
  all_goals simp [protUpdate_srcs]
  all_goals omega

theorem safeAct_srcs (s : State) : 18 ∉ s.safeAct.2.srcs := by
  unfold State.safeAct
  split <;> simp

/-- One target fenced, with what that leads to. -/
def fencedInto (a : State × Later) (t : Nat) : State × Later :=
  ((a.1.fenceAct t).1, ⟨a.2.srcs ++ (a.1.fenceAct t).2.srcs, a.2.opens ++ (a.1.fenceAct t).2.opens⟩)

theorem calmOk_foldl_fencedInto {z : Nat} (l : List Nat) (a : State × Later) (ha : calmOk z a.1.calm = true ∧ 18 ∉ a.2.srcs) :
    calmOk z (l.foldl fencedInto a).1.calm = true ∧ 18 ∉ (l.foldl fencedInto a).2.srcs :=
  foldl_inv (fun a : State × Later => calmOk z a.1.calm = true ∧ 18 ∉ a.2.srcs) _ (fun a t ⟨hc, hs⟩ =>
    ⟨by simpa [fencedInto] using hc, by simp [fencedInto, hs, fenceAct_srcs]⟩) l ha

/-- No source that a calm state detects trips the device. -/
theorem calmOk_detectClock {s : State} {z : Nat} (hz : calmOk z s.calm = true) {l : Later} (hl : 18 ∉ l.srcs) :
    calmOk z (s.detectClock l).1.calm = true ∧ 18 ∉ (s.detectClock l).2.srcs := by
  unfold State.detectClock
  extract_lets srcs isMasked masked plain s1 s2 got s3 code fences fresh safe trip s4 r f r'
  have hsrc : ∀ n ∈ plain, n < 128 ∧ n ≠ 18 := fun n hn => by
    obtain ⟨hn, -⟩ := List.mem_filter.1 hn
    obtain ⟨hn, hp⟩ := List.mem_filter.1 hn
    rw [Bool.and_eq_true, List.contains_iff_mem] at hp
    exact ⟨List.mem_range.1 hn, fun h => hl (h ▸ hp.1)⟩
  have h1 : calmOk z s1.calm = true := foldl_inv (fun t : State => calmOk z t.calm = true) _ (fun t n ht => by
    have hset := calmOk_wr_low ht R.FAULT_SHADOW_STICKY_SOURCES (Nat.le_refl 1) [n]
    exact (congrArg (calmOk z) (calm_incSat _ R.FAULT_SHADOW_COUNT_COUNT [] (by decide))).trans hset) masked hz
  have h2 : calmOk z s2.calm = true := foldl_inv (fun t : State => calmOk z t.calm = true) _ (fun t n ht => by simp [ht]) l.opens h1
  have hgot : calmOk z got.1.calm = true :=
    foldl_inv (fun a : State × List Nat => calmOk z a.1.calm = true) _ (fun a n ha => (calmKept_capture a.1 n _).ok ha) plain h2
  have h3 : calmOk z s3.calm = true := foldl_inv (fun t : State => calmOk z t.calm = true) _ (fun t n ht => by simp [ht]) got.2 hgot
  have htrip : trip = false := List.any_eq_false.2 fun n hn => by
    obtain ⟨hlt, hne⟩ := hsrc n hn
    simpa using calmRegs_iff.1 (calmOk_iff.1 h3).2.1 n hlt hne
  have h4 : calmOk z s4.calm = true := by simp [s4, h3]
  have hr : calmOk z r.1.calm = true ∧ 18 ∉ r.2.srcs := calmOk_foldl_fencedInto fences (s4, ⟨[], []⟩) ⟨h4, List.not_mem_nil⟩
  have hr' : calmOk z r'.1.calm = true ∧ 18 ∉ r'.2.srcs := by
    simp only [r']
    split
    · exact ⟨(calmKept_safeAct r.1).ok hr.1, fun h => (List.mem_append.1 h).elim hr.2 (safeAct_srcs r.1)⟩
    · exact hr
  rw [htrip]
  exact hr'

@[simp] theorem calmKept_detect (s : State) {srcs : List Nat} (opens : List Nat) (h : 18 ∉ srcs) :
    CalmKept s (s.detect srcs opens) := by
  have hgo : ∀ (k : Nat) (t : State) (l : Later) (z : Nat), calmOk z t.calm = true → 18 ∉ l.srcs →
      calmOk z (State.detectGo k t l).calm = true := by
    intro k
    induction k with
    | zero => exact fun _ _ _ ht _ => ht
    | succ k ih =>
      intro t l z ht hl
      obtain ⟨hc, hs⟩ := calmOk_detectClock ht hl
      exact calmOk_if ht (ih _ _ z hc hs)
  exact calmKept_of fun z hz => hgo 12 s ⟨srcs, opens⟩ z hz h

@[simp] theorem calmKept_protSettle (s : State) : CalmKept s s.protSettle := calmKept_of fun z hz =>
  (calmKept_detect s.protUpdate.1 [] (protUpdate_srcs s)).ok (by simp [hz])

/-! ### Regulation.lean -/

@[simp] theorem calm_charge (s : State) (l units : Nat) : (s.charge l units).calm = s.calm := by simp +decide [State.charge]

/-! ### ShaftTx.lean -/

@[simp] theorem calm_modDir (s : State) (b : Nat) (down : Bool) (f : ShaftDir → ShaftDir) :
    (s.modDir b down f).calm = s.calm := by simp [State.modDir]

@[simp] theorem calm_emitFrame (s : State) (b : Nat) (down : Bool) (type : Nat) (f : Frame) :
    (s.emitFrame b down type f).calm = s.calm := by simp [State.emitFrame]

@[simp] theorem calm_creditsLeave (s : State) (b : Nat) (down : Bool) : (s.creditsLeave b down).calm = s.calm := by
  simp [State.creditsLeave]

@[simp] theorem calm_freeEntries (s : State) (b ch : Nat) (write : Bool) (n : Nat) :
    (s.freeEntries b ch write n).calm = s.calm := by simp [State.freeEntries]

@[simp] theorem calm_sendIdle (s : State) (b : Nat) (down : Bool) : (s.sendIdle b down).calm = s.calm := by
  simp [State.sendIdle]

@[simp] theorem calm_forcedIdle (s : State) (b : Nat) (down : Bool) : (s.forcedIdle b down).calm = s.calm := by
  simp +decide [State.forcedIdle]

@[simp] theorem calm_transmit (s : State) (b : Nat) (down : Bool) (type : Nat) (f : Frame) :
    (s.transmit b down type f).calm = s.calm := by simp [State.transmit]

@[simp] theorem calm_sendWaiting (b : Nat) (down : Bool) (n : Nat) (s : State) :
    (State.sendWaiting b down n s).calm = s.calm := by
  induction n generalizing s with
  | zero => rfl
  | succ n ih =>
    unfold State.sendWaiting
    dsimp only
    (repeat' split) <;> simp [ih]

@[simp] theorem calm_sendWaits (s : State) (b : Nat) (down : Bool) : (s.sendWaits b down).calm = s.calm := by
  simp [State.sendWaits]

@[simp] theorem calm_addWaits (s : State) (b : Nat) (down : Bool) (is : List Item) : (s.addWaits b down is).calm = s.calm := by
  simp [State.addWaits]

@[simp] theorem calm_sendItems (s : State) (b : Nat) (down : Bool) (is : List Item) :
    (s.sendItems b down is).calm = s.calm := by simp [State.sendItems]

@[simp] theorem calm_sendFrame (s : State) (b : Nat) (down : Bool) (type : Nat) (f : Frame) :
    (s.sendFrame b down type f).calm = s.calm := by simp [State.sendFrame]

@[simp] theorem calm_sendDown (s : State) (b type : Nat) (f : Frame) : (s.sendDown b type f).calm = s.calm := by
  simp [State.sendDown]

/-! ### ShaftQueue.lean -/

theorem offReact_creditFam (port : Nat) : (creditFam port).offReact = true := by
  unfold creditFam
  split <;> decide

@[simp] theorem calm_sendRec (s : State) (b : Nat) (r : TxRec) : (s.sendRec b r).calm = s.calm :=
  (calm_modShaft _ b _).trans (calm_wr s _ _ [b] (offReact_creditFam r.port))

@[simp] theorem calm_spreadRec (s : State) (r : TxRec) : (s.spreadRec r).calm = s.calm := by simp [State.spreadRec]

@[simp] theorem calm_takeRecs (n : Nat) (s : State) : (State.takeRecs n s).1.calm = s.calm := by
  induction n generalizing s with
  | zero => rfl
  | succ n ih =>
    unfold State.takeRecs
    (repeat' split) <;> simp +decide [ih]

@[simp] theorem calm_takeLate (b : Nat) (n : Nat) (s : State) : (State.takeLate b n s).1.calm = s.calm := by
  induction n generalizing s with
  | zero => rfl
  | succ n ih =>
    unfold State.takeLate
    (repeat' split) <;> simp +decide [ih]

@[simp] theorem calm_sendRecs (s : State) (b : Nat) (rs : List (TxRec × Nat)) : (s.sendRecs b rs).calm = s.calm := by
  simp [State.sendRecs]

@[simp] theorem calm_latePump (s : State) (b : Nat) : (s.latePump b).calm = s.calm := by simp [State.latePump]

@[simp] theorem calm_shaftPump (s : State) : s.shaftPump.calm = s.calm := by simp [State.shaftPump]

@[simp] theorem calm_queueRec (s : State) (r : TxRec) : (s.queueRec r).calm = s.calm := by simp [State.queueRec]

@[simp] theorem calm_putPortions (s : State) (b layers slab : Nat) (lower upper : List Byte) :
    (s.putPortions b layers slab lower upper).calm = s.calm := by simp [State.putPortions]

@[simp] theorem calm_landWrites (s : State) (b : Nat) (es : List SentRec) : (s.landWrites b es).calm = s.calm := by
  simp [State.landWrites]

@[simp] theorem calm_landAll (s : State) (b : Nat) : (s.landAll b).calm = s.calm := by simp [State.landAll]

@[simp] theorem calm_landBenches (s : State) : s.landBenches.calm = s.calm := by simp [State.landBenches]

@[simp] theorem calm_landFetch (s : State) (tag : Nat) : (s.landFetch tag).calm = s.calm := by simp [State.landFetch]

@[simp] theorem calm_regSend (s : State) (b : Nat) (a : RegAcc) : (s.regSend b a).calm = s.calm := by simp [State.regSend]

@[simp] theorem calm_regAccess (s : State) (b : Nat) (a : RegAcc) : (s.regAccess b a).calm = s.calm := by simp [State.regAccess]

@[simp] theorem calm_writeSlab (s : State) (slab : Nat) (data : List Byte) (poison flags label : Nat) (sweep : Bool) :
    (s.writeSlab slab data poison flags label sweep).calm = s.calm := by simp +decide [State.writeSlab]

@[simp] theorem calm_askPortions (s : State) (op : SlabOp) (sweep : Bool) : (s.askPortions op sweep).calm = s.calm := by
  simp [State.askPortions]

@[simp] theorem calm_closeAsked (s : State) (op : SlabOp) : (s.closeAsked op).calm = s.calm :=
  calm_foldl _ (fun s b => by dsimp only; (repeat' split) <;> simp) _ _

/-! ### Ras.lean -/

@[simp] theorem calm_injStep (s : State) : s.injStep.calm = s.calm := by
  unfold State.injStep
  dsimp only
  (repeat' split) <;> simp +decide

@[simp] theorem calm_injArray (s : State) (array : Nat) : (s.injArray array).1.calm = s.calm := by
  unfold State.injArray
  (repeat' split) <;> simp

@[simp] theorem arraySource_ne (array : Nat) (double dirty : Bool) : 18 ∉ arraySource array double dirty := by
  unfold arraySource
  (repeat' split) <;> simp
  omega

@[simp] theorem calmKept_checkArray (s : State) (array : Nat) : CalmKept s (s.checkArray array) := by
  refine calmKept_of fun z hz => ?_
  unfold State.checkArray
  split <;> rename_i heq <;> simp [calm_of_pair heq, hz]

@[simp] theorem calm_ceLog (s : State) (slab source : Nat) (d : Decoded) (charged : List (Nat × Nat)) :
    (s.ceLog slab source d charged).calm = s.calm := by simp +decide [State.ceLog]

@[simp] theorem calm_ueLog (s : State) (kind slab source layers poison : Nat) :
    (s.ueLog kind slab source layers poison).calm = s.calm := by simp +decide [State.ueLog]

@[simp] theorem calm_delivered (s : State) (slab : Nat) (src : Src) (poison : Nat) :
    (s.delivered slab src poison).calm = s.calm := by simp [State.delivered]

@[simp] theorem calm_chargeLayer (s : State) (slab layer cls : Nat) : (s.chargeLayer slab layer cls).calm = s.calm := by
  simp +decide [State.chargeLayer]

@[simp] theorem calmKept_judge (s : State) (layers : List Nat) : CalmKept s (s.judge layers) := calmKept_of fun z hz => by
  simp +decide +contextual [State.judge, hz]

@[simp] theorem calm_issueOp (s : State) (op : SlabOp) : (s.issueOp op).calm = s.calm := by
  unfold State.issueOp
  dsimp only
  (repeat' split) <;> simp +decide

@[simp] theorem calm_startOp (s : State) (slab : Nat) (kind : OpKind) (source label : Nat) (req : Option Nat) :
    (s.startOp slab kind source label req).calm = s.calm := by simp [State.startOp]

@[simp] theorem calm_decodeOp (s : State) (op : SlabOp) (got : List Delivery) : (s.decodeOp op got).1.calm = s.calm := by
  simp [State.decodeOp]

/-! ### SlabOps.lean -/

@[simp] theorem calm_setLine (s : State) (l : Line) : (s.setLine l).calm = s.calm := by simp [State.setLine]

@[simp] theorem calm_dropLine (s : State) (slab : Nat) : (s.dropLine slab).calm = s.calm := by simp [State.dropLine]

@[simp] theorem calm_modEntry (s : State) (slab : Nat) (f : MEntry → MEntry) : (s.modEntry slab f).calm = s.calm := by
  simp [State.modEntry]

@[simp] theorem calm_dropEntry (s : State) (slab : Nat) : (s.dropEntry slab).calm = s.calm := by simp [State.dropEntry]

@[simp] theorem calmKept_srSet (s : State) (slab : Nat) : CalmKept s (s.srSet slab) := calmKept_of fun _ hz =>
  calmOk_wr_low hz R.CACHE_SRMAP_BITS (Nat.le_refl 1) _

@[simp] theorem calmKept_srSettle (s : State) (slab : Nat) : CalmKept s (s.srSettle slab) := calmKept_of fun _ hz =>
  calmOk_if hz (calmOk_wr_low hz R.CACHE_SRMAP_BITS (Nat.zero_le 1) _)

@[simp] theorem calm_touchWay (s : State) (slab way : Nat) : (s.touchWay slab way).calm = s.calm := by simp [State.touchWay]

@[simp] theorem calm_flushWrote (s : State) (slab : Nat) (entry : Bool) : (s.flushWrote slab entry).calm = s.calm := by
  unfold State.flushWrote
  dsimp only
  (repeat' split) <;> simp +decide

@[simp] theorem calmKept_writeBack (s : State) (slab : Nat) : CalmKept s (s.writeBack slab) := by
  refine calmKept_of fun z hz => ?_
  unfold State.writeBack
  (repeat' split) <;> simp [hz]

@[simp] theorem calmKept_closeEntry (s : State) (slab : Nat) : CalmKept s (s.closeEntry slab) := by
  refine calmKept_of fun z hz => ?_
  unfold State.closeEntry
  (repeat' split) <;> simp [hz]

@[simp] theorem calmKept_closeOldest (s : State) : CalmKept s s.closeOldest := by
  refine calmKept_of fun z hz => ?_
  unfold State.closeOldest
  (repeat' split) <;> simp [hz]

@[simp] theorem calmKept_mergeHigh (s : State) : CalmKept s s.mergeHigh := calmKept_of fun z hz => by
  simp +contextual [State.mergeHigh, hz]

@[simp] theorem calmKept_closeAll (s : State) : CalmKept s s.closeAll := calmKept_of fun z hz => by
  simp +contextual [State.closeAll, hz]

@[simp] theorem calmKept_flushAll (s : State) : CalmKept s s.flushAll := calmKept_of fun z hz => by
  simp +contextual [State.flushAll, hz]

@[simp] theorem calmKept_findWay (s : State) (slab : Nat) : CalmKept s (s.findWay slab).1 := by
  refine calmKept_of fun z hz => ?_
  unfold State.findWay
  dsimp only
  (repeat' split) <;> simp [hz]

@[simp] theorem calm_install (s : State) (slab way label source : Nat) : (s.install slab way label source).calm = s.calm := by
  simp [State.install]

@[simp] theorem calmKept_writeLine (s : State) (r : CReq) (l : Line) : CalmKept s (s.writeLine r l) :=
  calmKept_of fun z hz => by simp +decide [State.writeLine, hz]

@[simp] theorem calmKept_writeEntry (s : State) (r : CReq) : CalmKept s (s.writeEntry r) := by
  refine calmKept_of fun z hz => ?_
  unfold State.writeEntry
  dsimp only
  (repeat' split) <;> simp [hz]

@[simp] theorem calm_drops (s : State) (e : MEntry) (m : Nat) : (s.drops e m).calm = s.calm := by simp +decide [State.drops]

/-! ### HostCpl.lean -/

@[simp] theorem calm_egGo (n : Nat) (s : State) : (State.egGo n s).calm = s.calm := by
  induction n generalizing s with
  | zero => rfl
  | succ n ih =>
    unfold State.egGo
    (repeat' split) <;> simp +decide [ih]

@[simp] theorem calm_egDrain (s : State) : s.egDrain.calm = s.calm := by simp [State.egDrain]

@[simp] theorem calmRegs_toEgress (s : State) (label : Option Nat) (o : Output) :
    calmRegs (s.toEgress label o).lregs = calmRegs s.lregs := rfl

@[simp] theorem calm_toEgress (s : State) (label : Option Nat) (o : Output) :
    (s.toEgress label o).calm = s.calm := calm_same (by simp) (by simp) (by simp)

@[simp] theorem calm_sendCpl (s : State) (label : Option Nat) (c : Cpl) : (s.sendCpl label c).calm = s.calm := by
  simp +decide [State.sendCpl]

@[simp] theorem calm_finishRead (s : State) (h : HostRdSt) : (s.finishRead h).calm = s.calm := by simp [State.finishRead]

@[simp] theorem calm_hostDeliver (s : State) (id : Nat) (data : List Byte) (poison : Nat) :
    (s.hostDeliver id data poison).calm = s.calm := by simp [State.hostDeliver]

@[simp] theorem calm_present (s : State) (src : Src) (label : Nat) (write : Bool) (slab off len : Nat) (data : List
    (Option Byte)) (media : Bool) :
    (s.present src label write slab off len data media).1.calm = s.calm := by simp [State.present]

/-! ### HaulBase.lean -/

@[simp] theorem calm_modChan (s : State) (c : Nat) (f : HChan → HChan) : (s.modChan c f).calm = s.calm := by
  simp [State.modChan]

@[simp] theorem calm_setRun (s : State) (c : Nat) (r : Run) : (s.setRun c r).calm = s.calm := by simp [State.setRun]

@[simp] theorem calm_chanSettle (s : State) (c : Nat) : (s.chanSettle c).calm = s.calm := by simp +decide [State.chanSettle]

@[simp] theorem calm_outPeak (s : State) : s.outPeak.calm = s.calm := by simp +decide [State.outPeak]

@[simp] theorem calm_dropFetches (s : State) (c : Nat) : (s.dropFetches c).calm = s.calm := by simp [State.dropFetches]

@[simp] theorem calm_headBack (s : State) (c : Nat) : (s.headBack c).calm = s.calm := by simp +decide [State.headBack]

@[simp] theorem calm_cplRefused (s : State) (c : Nat) : (s.cplRefused c).calm = s.calm := by simp +decide [State.cplRefused]

@[simp] theorem calm_cplCounts (s : State) (c status : Nat) : (s.cplCounts c status).calm = s.calm := by
  simp +decide [State.cplCounts]

@[simp] theorem calm_writeCpl (s : State) (c idx status flags user bytes elem result : Nat) (irq : Bool) :
    (s.writeCpl c idx status flags user bytes elem result irq).calm = s.calm := by simp [State.writeCpl]

@[simp] theorem calm_fetchUpTo (n : Nat) (s : State) (c : Nat) : (State.fetchUpTo n s c).calm = s.calm := by
  induction n generalizing s c with
  | zero => rfl
  | succ n ih =>
    unfold State.fetchUpTo
    (repeat' split) <;> simp +decide [ih]

@[simp] theorem calm_kick (s : State) (c : Nat) : (s.kick c).calm = s.calm := by simp [State.kick]

@[simp] theorem calm_sweepGo (n : Nat) (s : State) (c : Nat) (users : List (Nat × List Byte × Bool)) :
    (State.sweepGo n s c users).calm = s.calm := by
  induction n generalizing s c users with
  | zero => rfl
  | succ n ih =>
    unfold State.sweepGo
    simp +decide [ih]

@[simp] theorem calm_gateSweep (s : State) (c : Nat) : (s.gateSweep c).calm = s.calm := by simp [State.gateSweep]

/-! ### Haul.lean -/

@[simp] theorem calm_codingLeave (s : State) (c : Nat) : (s.codingLeave c).calm = s.calm := by simp [State.codingLeave]

@[simp] theorem calm_codingEnter (s : State) (c : Nat) : (s.codingEnter c).calm = s.calm := by simp [State.codingEnter]

@[simp] theorem calm_movePart (s : State) (c : Nat) (r : Run) (n : Nat) : (s.movePart c r n).calm = s.calm := by
  simp [State.movePart]

@[simp] theorem calm_beginPass1 (s : State) (c : Nat) (r : Run) : (s.beginPass1 c r).calm = s.calm := by simp [State.beginPass1]

@[simp] theorem calm_planCoded (s : State) (c : Nat) (r : Run) : (s.planCoded c r).calm = s.calm := by
  unfold State.planCoded
  dsimp only
  (repeat' split) <;> simp

@[simp] theorem calm_nextUpdate (s : State) (c : Nat) (r : Run) (u : Upd) : (s.nextUpdate c r u).calm = s.calm := by
  simp [State.nextUpdate]

@[simp] theorem calm_applyUpdate (s : State) (c : Nat) (r : Run) (now : List Byte) (poisoned : Bool) :
    (s.applyUpdate c r now poisoned).calm = s.calm := by
  unfold State.applyUpdate
  dsimp only
  (repeat' split) <;> simp +decide

@[simp] theorem calm_writeNext (s : State) (c : Nat) (r : Run) : (s.writeNext c r).1.calm = s.calm := by
  unfold State.writeNext
  dsimp only
  (repeat' split) <;> simp

@[simp] theorem calm_toReadBack (s : State) (c : Nat) (r : Run) : (s.toReadBack c r).calm = s.calm := by
  unfold State.toReadBack
  (repeat' split) <;> simp

@[simp] theorem calm_afterWrites (s : State) (c : Nat) (r : Run) : (s.afterWrites c r).calm = s.calm := by
  simp +decide [State.afterWrites]

@[simp] theorem calmKept_fenceStep (s : State) (r : Run) : CalmKept s (s.fenceStep r).1 := by
  refine calmKept_of fun z hz => ?_
  unfold State.fenceStep
  dsimp only
  (repeat' split) <;> simp [hz]

@[simp] theorem calm_startRun (s : State) (c idx : Nat) (raw : List Byte) (poisoned : Bool) :
    (s.startRun c idx raw poisoned).calm = s.calm := by simp [State.startRun]

@[simp] theorem calmKept_codingDone (s : State) (c op status : Nat) : CalmKept s (s.codingDone c op status) := by
  refine calmKept_of fun z hz => ?_
  unfold State.codingDone
  extract_lets t u
  have ht : calmOk z t.calm = true := by simp only [t]; split <;> simp +decide [hz]
  have hu : calmOk z u.calm = true := by simp [u, ht]
  clear_value t u
  exact calmOk_if (by simp +decide [hu]) (calmOk_if (by simp +decide [hu]) (calmOk_if (by simp +decide [hu]) hu))

@[simp] theorem calmKept_finish (s : State) (c : Nat) (r : Run) : CalmKept s (s.finish c r) := calmKept_of fun z hz => by
  simp [State.finish, hz]

@[simp] theorem calm_autoStart (s : State) (c : Nat) : (s.autoStart c).1.calm = s.calm := by
  unfold State.autoStart
  (repeat' split) <;> simp

@[simp] theorem calm_listNext (s : State) (c : Nat) (r : Run) (dst : Bool) : (s.listNext c r dst).calm = s.calm := by
  simp [State.listNext]

@[simp] theorem calm_moveNext (s : State) (c : Nat) (r : Run) : (s.moveNext c r).calm = s.calm := by simp [State.moveNext]

@[simp] theorem calm_partRead (s : State) (c : Nat) (r : Run) : (s.partRead c r).calm = s.calm := by simp [State.partRead]

@[simp] theorem calmKept_advStep (s : State) (c : Nat) : CalmKept s (s.advStep c).1 := by
  refine calmKept_of fun z hz => ?_
  unfold State.advStep
  dsimp only
  (repeat' split) <;> simp [hz]

@[simp] theorem calmKept_advGo (n : Nat) (s : State) (c : Nat) : CalmKept s (State.advGo n s c) := by
  refine calmKept_of fun z hz => ?_
  induction n generalizing s with
  | zero => exact hz
  | succ n ih =>
    unfold State.advGo
    split <;> rename_i heq
    · exact ih _ (by simp [calm_of_pair heq, hz])
    · simp [calm_of_pair heq, hz]

@[simp] theorem calm_issueRead (s : State) (c : Nat) (p : Piece) (ps : List Piece) : (s.issueRead c p ps).1.calm = s.calm := by
  unfold State.issueRead
  dsimp only
  (repeat' split) <;> simp

@[simp] theorem calmKept_issueOne (s : State) (c : Nat) : CalmKept s (s.issueOne c).1 := by
  refine calmKept_of fun z hz => ?_
  unfold State.issueOne
  split
  · exact hz
  · split
    · simp [hz]
    · split
      · rename_i heq
        simp [calm_of_pair heq, hz]
      · simp [hz]
    · exact hz

@[simp] theorem calm_nextTurn (s : State) : s.nextTurn.calm = s.calm := by simp [State.nextTurn]

theorem calmKept_issueGo (n idle : Nat) (s : State) : CalmKept s (State.issueGo n idle s) := by
  refine calmKept_of fun z hz => ?_
  induction n generalizing idle s with
  | zero => exact hz
  | succ n ih =>
    unfold State.issueGo
    split
    · exact hz
    · dsimp only
      split <;> rename_i heq
      · have ht : calmOk z _ = true := (congrArg (calmOk z) (calm_of_pair heq)).trans (by simp [hz])
        exact ih _ _ (by split <;> simpa using ht)
      · exact ih _ _ (by simp [hz])

@[simp] theorem calmKept_pump (s : State) : CalmKept s s.pump := by
  refine calmKept_of fun z hz => ?_
  unfold State.pump
  dsimp only
  split_ifs
  · exact hz
  · simp [calmKept_issueGo, hz]

@[simp] theorem calmKept_placeGo (n : Nat) (s : State) : CalmKept s (State.placeGo n s) := by
  refine calmKept_of fun z hz => ?_
  induction n generalizing s with
  | zero => exact hz
  | succ n ih =>
    unfold State.placeGo
    (repeat' split) <;> simp +contextual [hz, ih]

@[simp] theorem calmKept_wakeRanges (s : State) : CalmKept s s.wakeRanges := calmKept_of fun z hz => by
  simp +contextual [State.wakeRanges, hz]

@[simp] theorem calmKept_advance (s : State) (c : Nat) : CalmKept s (s.advance c) := calmKept_of fun z hz => by
  simp [State.advance, hz]

@[simp] theorem calmKept_wakeUpdates (s : State) : CalmKept s s.wakeUpdates := calmKept_of fun z hz => by
  simp +contextual [State.wakeUpdates, hz]

@[simp] theorem calmKept_bring (s : State) (c : Nat) (u : Use) (bs : List Byte) (bad : List Nat) :
    CalmKept s (s.bring c u bs bad) := by
  refine calmKept_of fun z hz => ?_
  have hrun : ∀ r, calmOk z ((s.setRun c r).advance c).calm = true := fun r => by simp [hz]
  unfold State.bring
  split
  · simp [hz]
  · exact hrun _
  · exact hrun _
  · exact hrun _
  · exact calmOk_if (by simp [hz]) (by simp [hz])
  · exact hz

@[simp] theorem calmKept_haulDeliver (s : State) (c : Nat) (q : CReq) (data : List Byte) (poison : Nat) :
    CalmKept s (s.haulDeliver c q data poison) := by
  refine calmKept_of fun z hz => ?_
  unfold State.haulDeliver
  dsimp only
  (repeat' split) <;> simp [hz]

@[simp] theorem calmKept_haulWritten (s : State) (c : Nat) (q : CReq) (ok lost : Bool) :
    CalmKept s (s.haulWritten c q ok lost) := by
  refine calmKept_of fun z hz => ?_
  unfold State.haulWritten
  dsimp only
  (repeat' split) <;> simp [hz]

@[simp] theorem calmKept_haulVerified (s : State) (c slab off : Nat) (ok : Bool) :
    CalmKept s (s.haulVerified c slab off ok) := by
  refine calmKept_of fun z hz => ?_
  unfold State.haulVerified
  dsimp only
  (repeat' split) <;> simp [hz]

/-! ### Cache.lean -/

@[simp] theorem calmKept_deliverRead (s : State) (r : CReq) (data : List Byte) (poison fresh : Nat) :
    CalmKept s (s.deliverRead r data poison fresh) := by
  refine calmKept_of fun z hz => ?_
  unfold State.deliverRead
  dsimp only
  (repeat' split) <;> simp [hz]

@[simp] theorem calmKept_wrote (s : State) (r : CReq) (ok : Bool) : CalmKept s (s.wrote r ok) := by
  refine calmKept_of fun z hz => ?_
  unfold State.wrote
  (repeat' split) <;> simp +decide [hz]

@[simp] theorem calm_hit (s : State) (count : Bool) : (s.hit count).calm = s.calm := by simp [State.hit]

@[simp] theorem calmKept_checkLine (s : State) (l : Line) (need : Nat) : CalmKept s (s.checkLine l need) := by
  refine calmKept_of fun z hz => ?_
  unfold State.checkLine
  split <;> rename_i heq
  · simp [calm_of_pair heq, hz]
  · dsimp only
    split_ifs <;> simp [calm_of_pair heq, hz]

@[simp] theorem calm_fetchFor (s : State) (r : CReq) (kind : OpKind) : (s.fetchFor r kind).calm = s.calm := by
  simp [State.fetchFor]

theorem findWay_calm {s : State} {slab z : Nat} {t : State} {a : Alloc} (hz : calmOk z s.calm = true)
    (hq : s.findWay slab = (t, a)) : calmOk z t.calm = true := by simp [calm_of_pair hq, hz]

@[simp] theorem calmKept_serveRead (s : State) (r : CReq) (count : Bool) : CalmKept s (s.serveRead r count).1 := by
  refine calmKept_of fun z hz => ?_
  unfold State.serveRead
  dsimp only
  (repeat' split)
  all_goals try simp [hz]
  all_goals exact findWay_calm hz ‹_›

@[simp] theorem calmKept_afterWrite (s : State) (r : CReq) (inLine : Bool) : CalmKept s (s.afterWrite r inLine) := by
  refine calmKept_of fun z hz => ?_
  unfold State.afterWrite
  dsimp only
  (repeat' split) <;> simp [hz]

@[simp] theorem calmKept_serveWrite (s : State) (r : CReq) (count : Bool) : CalmKept s (s.serveWrite r count).1 := by
  refine calmKept_of fun z hz => ?_
  unfold State.serveWrite
  dsimp only
  (repeat' split)
  all_goals try simp [hz]
  all_goals simp [findWay_calm hz ‹_ = (_, _)›]

@[simp] theorem calmKept_serve (s : State) (r : CReq) (count : Bool) : CalmKept s (s.serve r count).1 := by
  refine calmKept_of fun z hz => ?_
  unfold State.serve
  dsimp only
  (repeat' split) <;> simp [hz]

@[simp] theorem calmKept_serveOrWait (s : State) (r : CReq) : CalmKept s (s.serveOrWait r) := by
  refine calmKept_of fun z hz => ?_
  unfold State.serveOrWait
  dsimp only
  split
  · simp [hz]
  · split <;> rename_i heq <;> simp [calm_of_pair heq, hz]

@[simp] theorem calmKept_retryWait (s : State) : CalmKept s s.retryWait := calmKept_of fun z hz => by
  simp +contextual [State.retryWait, hz]

@[simp] theorem calmKept_runOpq (s : State) : CalmKept s s.runOpq :=
  calmKept_of fun z hz => foldl_inv (fun t : State => calmOk z t.calm = true) _ (fun t o ht => by
    dsimp only
    (repeat' split) <;> simp [ht]) _ (by simp [hz])

@[simp] theorem calmKept_retryFences (s : State) : CalmKept s s.retryFences :=
  calmKept_foldl _ (fun s c z hz => by (repeat' split) <;> simp [hz]) _ _

@[simp] theorem calmKept_cacheSettle (s : State) : CalmKept s s.cacheSettle := calmKept_of fun z hz => by
  simp [State.cacheSettle, hz]

@[simp] theorem calmKept_accept (s : State) (r : CReq) : CalmKept s (s.accept r) := calmKept_of fun z hz => by
  simp +decide [State.accept, hz]

@[simp] theorem calmKept_acceptNext (s : State) (port : Nat) : CalmKept s (s.acceptNext port) := by
  refine calmKept_of fun z hz => ?_
  unfold State.acceptNext
  (repeat' split) <;> simp [hz]

@[simp] theorem calmKept_acceptInner (s : State) : CalmKept s s.acceptInner := calmKept_of fun z hz => by
  simp +contextual [State.acceptInner, hz]

@[simp] theorem calmKept_internalOp (s : State) (slab : Nat) (j : Job) : CalmKept s (s.internalOp slab j) :=
  calmKept_of fun z hz => by simp [State.internalOp, hz]

/-! ### ScrubCore.lean -/

@[simp] theorem calmKept_repairFetch (s : State) (r : Repair) : CalmKept s (s.repairFetch r) := calmKept_of fun z hz => by
  simp +decide +contextual [State.repairFetch, hz]

@[simp] theorem calmKept_repairAdmit (s : State) : CalmKept s s.repairAdmit := by
  refine calmKept_of fun z hz => ?_
  unfold State.repairAdmit
  (repeat' split) <;> simp [hz]

@[simp] theorem calmKept_reportServe (s : State) : CalmKept s s.reportServe := by
  refine calmKept_of fun z hz => ?_
  unfold State.reportServe
  dsimp only
  (repeat' split) <;> simp +decide [hz]

@[simp] theorem calmKept_walkOne (s : State) : CalmKept s s.walkOne := calmKept_of fun z hz => by
  simp +decide [State.walkOne, hz]

@[simp] theorem calm_setSlice (s : State) (l : Option (Nat × Nat)) : (s.setSlice l).calm = s.calm := by simp [State.setSlice]

@[simp] theorem calmKept_sliceGo (n : Nat) (s : State) : CalmKept s (State.sliceGo n s) := by
  refine calmKept_of fun z hz => ?_
  induction n generalizing s with
  | zero => exact hz
  | succ n ih =>
    unfold State.sliceGo
    (repeat' split) <;> simp +contextual [hz, ih]

@[simp] theorem calmKept_kickScrub (s : State) : CalmKept s s.kickScrub := calmKept_of fun z hz => by simp [State.kickScrub, hz]

/-! ### Fetch.lean -/

@[simp] theorem calm_writeDecoded (s : State) (op : SlabOp) (d : Decoded) (flags : Nat) :
    (s.writeDecoded op d flags).calm = s.calm := by simp [State.writeDecoded]

@[simp] theorem calm_writeOwed (s : State) (op : SlabOp) (d : Decoded) (flags : Nat) :
    (s.writeOwed op d flags).calm = s.calm := by simp [State.writeOwed]

@[simp] theorem calm_writeGone (s : State) (op : SlabOp) (d : Decoded) : (s.writeGone op d).calm = s.calm := by
  simp [State.writeGone]

@[simp] theorem calm_poisonBack (s : State) (op : SlabOp) (d : Decoded) : (s.poisonBack op d).calm = s.calm := by
  simp [State.poisonBack]

@[simp] theorem calmKept_answer (s : State) (op : SlabOp) (data : List Byte) (poison fresh : Nat) :
    CalmKept s (s.answer op data poison fresh) := by
  refine calmKept_of fun z hz => ?_
  unfold State.answer
  split
  · exact hz
  · split
    · exact hz
    · dsimp only
      split
      · split <;> rename_i heq <;> simp [calm_of_pair heq, hz]
      · simp [hz]

@[simp] theorem calmKept_kickRejoin (s : State) : CalmKept s s.kickRejoin := by
  refine calmKept_of fun z hz => ?_
  unfold State.kickRejoin
  (repeat' split) <;> simp [hz]

@[simp] theorem calmKept_kickSuspect (s : State) : CalmKept s s.kickSuspect := calmKept_of fun z hz => by
  simp +contextual [State.kickSuspect, hz]

@[simp] theorem calmKept_kickRebuild (s : State) : CalmKept s s.kickRebuild := by
  refine calmKept_of fun z hz => ?_
  unfold State.kickRebuild
  dsimp only
  (repeat' split) <;> simp [hz]

@[simp] theorem calmKept_kickSweeps (s : State) : CalmKept s s.kickSweeps := calmKept_of fun z hz => by
  simp [State.kickSweeps, hz]

@[simp] theorem calm_kickRepair (s : State) : s.kickRepair.calm = s.calm := by
  unfold State.kickRepair
  dsimp only
  (repeat' split) <;> simp

@[simp] theorem calm_repairGot (s : State) (op : SlabOp) (d : Decoded) : (s.repairGot op d).calm = s.calm := by
  unfold State.repairGot
  dsimp only
  (repeat' split) <;> simp

@[simp] theorem calmKept_finishOp (s : State) (op : SlabOp) (d : Decoded) : CalmKept s (s.finishOp op d) := by
  refine calmKept_of fun z hz => ?_
  unfold State.finishOp
  dsimp only
  (repeat' split) <;> simp +decide [hz]

@[simp] theorem calm_marchErasure (s : State) (op : SlabOp) (d : Decoded) : (s.marchErasure op d).calm = s.calm := by
  simp [State.marchErasure]

end Sys2Proof.Machine
end

section
/-! PROOFS. Portions that time out, and fetches decoded and counted (R61, R297). -/
namespace Sys2Proof.Machine
open Sys2Proof.Safety

/-! ### A portion that times out -/

theorem testBit_setBit_true (n i : Nat) : (setBit n i true).testBit i = true := by
  simp [setBit]

theorem portionTimeout_loses (s : State) {slab layer : Nat} (hl : layer < s.nLayer) {o : SlabOp} (ho : o ∈ s.cache.ops)
    (hs : o.slab = slab) (hm : o.mapped.testBit layer = false) :
    ∃ o' ∈ (s.portionTimeout slab layer).cache.ops, o'.slab = slab ∧ o'.kind = o.kind ∧ o'.missing.testBit layer = true := by
  refine ⟨_, List.mem_map_of_mem ho, ?_⟩
  rw [if_pos (by simp [hs, hl, hm])]
  exact ⟨hs, rfl, testBit_setBit_true _ _⟩

/-! ### A fetch decoded -/

/-- CE_TOTAL after a decode. -/
def ceAfter (d : Decoded) (z : Nat) : Nat := if d.outcome = .corrected then (z + 1) % 2 ^ 64 else z

theorem calmOk_counted {s : State} {z : Nat} (hz : calmOk z s.calm = true) :
    calmOk ((z + 1) % 2 ^ 64) ({ s with ras := { s.ras with ceTotal := (s.ras.ceTotal + 1) % 2 ^ 64 } } : State).calm = true := by
  obtain ⟨hseq, hregs, hce⟩ := calmOk_iff.1 hz
  exact calmOk_iff.2 ⟨hseq, hregs, by rw [hce]⟩

/-- R297: CE_TOTAL counts what a decode corrected. -/
theorem calmOk_rasDecode {s : State} {z : Nat} (hz : calmOk z s.calm = true) (op : SlabOp) (d : Decoded) :
    calmOk (ceAfter d z) (s.rasDecode op d).calm = true := by
  unfold State.rasDecode ceAfter
  cases d.outcome with
  | clean => exact hz
  | degraded => exact hz
  | corrected =>
    have hcounted := calmOk_counted hz
    simp only [if_true]
    generalize ({ s with ras := { s.ras with ceTotal := (s.ras.ceTotal + 1) % 2 ^ 64 } } : State) = t at hcounted ⊢
    generalize (z + 1) % 2 ^ 64 = y at hcounted ⊢
    simp +decide [hcounted]
  | uncorrectable =>
    simp only [reduceCtorEq, if_false]
    split <;> simp +decide [hz]

theorem calmOk_completeOp {s : State} {z : Nat} (hz : calmOk z s.calm = true) (op : SlabOp) (got : List Delivery) :
    calmOk (ceAfter (((s.landFetch op.tag).closeAsked ((s.landFetch op.tag).linkMissing op got)).decodeOp
      ((s.landFetch op.tag).linkMissing op got) got).2 z) (s.completeOp op got).calm = true := by
  unfold State.completeOp
  extract_lets v o r t kept u
  have hr : calmOk z (r.1.marchErasure o r.2).calm = true := by simp [r, v, hz]
  have ht : calmOk (ceAfter r.2 z) t.calm = true := calmOk_rasDecode hr o r.2
  have hu : calmOk (ceAfter r.2 z) u.calm = true := calmOk_if ht (by simp [ht])
  have hend : calmOk (ceAfter r.2 z) (((u.finishOp o r.2).shaftPump).cacheSettle).kickSweeps.calm = true := by simp [hu]
  exact hend

theorem react_ne_trip {s : State} (h : ReactLegal s) {n : Nat} (hn : n < 128) (h18 : n ≠ 18) :
    s.rd R.FAULT_REACT_REACTION [n] ≠ 4 := by
  have hallowed : ∀ n, n < 128 → n ≠ 18 → 4 ∉ allowedReactions n := by decide
  exact fun h4 => hallowed n hn h18 (h4 ▸ h n hn)

theorem calmOk_of_reactLegal {s : State} (hreact : ReactLegal s) (hseq : s.power.seq = .idle) :
    calmOk s.ras.ceTotal s.calm = true :=
  calmOk_iff.2 ⟨hseq, calmRegs_iff.2 fun _ hn h18 => react_ne_trip hreact hn h18, rfl⟩

/-- Settles O28: the layer's bit of the operation, and CE_TOTAL carried from the decode to the end of the completion. -/
theorem fetchesAreJudged : Obligations.FetchesAreJudged := by
  unfold Obligations.FetchesAreJudged
  intro s slab
  refine ⟨fun layer hl o ho hs hm => leads_next rfl (portionTimeout_loses s hl ho hs hm),
    fun got op hop hsent hon hreact hseq => ?_⟩
  have hexec : exec (.slabFetchComplete slab got) s = .next (s.completeOp op got) := by
    show execSlabFetchComplete slab got s = _
    unfold execSlabFetchComplete
    rw [hop]
    simp only [hon, hsent]
    rfl
  exact leads_next hexec (calmOk_iff.1 (calmOk_completeOp (calmOk_of_reactLegal hreact hseq) op got)).2.2

end Sys2Proof.Machine
end

section
/-! SUPPORT. The sectors that a request touches and covers, and a write applied to a line without poison (R79, R84, R89). -/
namespace Sys2Proof.Machine

/-! ### Bits of one map that are not in another -/

theorem minus_halves (a b : Nat) : minus a b / 2 = minus (a / 2) (b / 2) ∧ (minus a b % 2 = 1 ↔ a % 2 = 1 ∧ ¬ b % 2 = 1) := by
  have hhalf : (a &&& b) / 2 = a / 2 &&& b / 2 := Nat.and_div_two
  have hbit : (a &&& b) % 2 = 1 ↔ a % 2 = 1 ∧ b % 2 = 1 := Nat.and_mod_two_eq_one
  have hle : a / 2 &&& b / 2 ≤ a / 2 := Nat.and_le_left
  unfold minus
  omega

theorem testBit_minus (a b i : Nat) : (minus a b).testBit i = (a.testBit i && !b.testBit i) := by
  induction i generalizing a b with
  | zero =>
    simp only [Nat.testBit_zero, (minus_halves a b).2, Bool.decide_and, decide_not]
  | succ i ih => rw [Nat.testBit_succ, Nat.testBit_succ, Nat.testBit_succ, (minus_halves a b).1, ih]

theorem or_minus_of_subset {a b : Nat} (h : ∀ i, b.testBit i = true → a.testBit i = true) : b ||| minus a b = a := by
  refine Nat.eq_of_testBit_eq fun i => ?_
  have hi := h i
  rw [Nat.testBit_or, testBit_minus]
  cases hb : b.testBit i with
  | true => simp [hi hb]
  | false => simp

/-! ### Sectors of a write -/

theorem testBit_reqTouched {r : CReq} (hw : r.write = true) (n k : Nat) :
    (reqTouched r n).testBit k = (decide (k < n) && (List.range 64).any fun j => (reqByte r (64 * k + j)).isSome) := by
  rw [reqTouched, testBit_mapOf, if_pos hw]

theorem testBit_reqCovered (r : CReq) (n k : Nat) :
    (reqCovered r n).testBit k = (decide (k < n) && (List.range 64).all fun j => (reqByte r (64 * k + j)).isSome) :=
  testBit_mapOf n k _

/-- A sector that a write covers is one that it touches. -/
theorem reqCovered_subset {r : CReq} (hw : r.write = true) (n k : Nat) (h : (reqCovered r n).testBit k = true) :
    (reqTouched r n).testBit k = true := by
  rw [testBit_reqCovered, Bool.and_eq_true, List.all_eq_true] at h
  rw [testBit_reqTouched hw, Bool.and_eq_true, List.any_eq_true]
  exact ⟨h.1, 0, by decide, h.2 0 (by decide)⟩

/-- A byte that a write gives lies in a sector that it touches. -/
theorem reqTouched_of_byte {r : CReq} (hw : r.write = true) {n i : Nat} (hi : i < 64 * n) {v : Byte}
    (hv : reqByte r i = some v) : (reqTouched r n).testBit (i / 64) = true := by
  rw [testBit_reqTouched hw, Bool.and_eq_true, decide_eq_true_eq, List.any_eq_true]
  refine ⟨by omega, i % 64, List.mem_range.2 (by omega), ?_⟩
  rw [Nat.div_add_mod, hv]
  rfl

/-! ### The line written -/

/-- A line without poison as a write leaves it: every sector touched takes the bytes enabled. -/
def Line.written (l : Line) (r : CReq) (n : Nat) : Line :=
  { l with
    data := l.data.mapIdx fun i b => if (reqTouched r n).testBit (i / 64) then (reqByte r i).getD b else b
    valid := l.valid ||| reqTouched r n
    dirty := l.dirty ||| reqTouched r n
    poison := minus l.poison (reqCovered r n)
    label := r.label
    source := Src.code r.src }

theorem written_getD {l : Line} {r : CReq} {n i : Nat} (hi : i < l.data.length) :
    (l.written r n).data.getD i 0#8 =
      if (reqTouched r n).testBit (i / 64) then (reqByte r i).getD (l.data.getD i 0#8) else l.data.getD i 0#8 := by
  simp [Line.written, hi]

theorem written_byte_some {l : Line} {r : CReq} (hw : r.write = true) {n i : Nat} (hlen : l.data.length = 64 * n)
    (hi : i < 64 * n) {v : Byte} (hv : reqByte r i = some v) :
    (l.written r n).data.getD i 0#8 = v ∧ (l.written r n).dirty.testBit (i / 64) = true := by
  have ht := reqTouched_of_byte hw hi hv
  refine ⟨?_, ?_⟩
  · rw [written_getD (hlen ▸ hi), if_pos ht, hv, Option.getD_some]
  · simp [Line.written, ht]

theorem written_byte_none {l : Line} {r : CReq} {n i : Nat} (hi : i < l.data.length) (hv : reqByte r i = none) :
    (l.written r n).data.getD i 0#8 = l.data.getD i 0#8 := by
  rw [written_getD hi, hv, Option.getD_none, ite_self]

theorem writeLine_of_untouched {s : State} {r : CReq} (l : Line) (ht : reqTouched r s.sectors = 0) : s.writeLine r l = s :=
  if_pos ht

theorem writeLine_of_unpoisoned {s : State} {r : CReq} {l : Line} (hw : r.write = true) (hp : l.poison = 0)
    (ht : reqTouched r s.sectors ≠ 0) :
    s.writeLine r l = ((s.srSet r.slab).setLine (l.written r s.sectors)).touchWay r.slab l.way := by
  have hnew : reqCovered r s.sectors ||| minus (minus (reqTouched r s.sectors) (reqCovered r s.sectors)) 0 =
      reqTouched r s.sectors := by
    rw [show ∀ a, minus a 0 = a from fun a => by simp [minus], or_minus_of_subset (reqCovered_subset hw s.sectors)]
  unfold State.writeLine
  simp only [hp, Nat.and_zero, hnew, ht, ne_eq, not_false_eq_true, if_true, if_false, not_true_eq_false]
  rw [Line.written, hp]

/-! ### The lines of the cache -/

theorem slab_of_lineOf {s : State} {slab : Nat} {l : Line} (h : s.lineOf slab = some l) : l.slab = slab :=
  beq_iff_eq.1 (List.find?_some (p := fun x : Line => x.slab == slab) h)

/-- A line put in the place of its slab's is the one found there. -/
theorem lineOf_setLine_same {s : State} {l l' : Line} (h : s.lineOf l'.slab = some l) : (s.setLine l').lineOf l'.slab = some l' := by
  have hany : s.cache.lines.any (·.slab == l'.slab) = true :=
    List.any_eq_true.2 ⟨l, List.mem_of_find?_eq_some h, beq_iff_eq.2 (slab_of_lineOf h)⟩
  have hslab : ((fun x : Line => x.slab == l'.slab) ∘ fun x => if x.slab == l'.slab then l' else x) =
      fun x => x.slab == l'.slab := by
    funext x
    by_cases hx : x.slab = l'.slab <;> simp [hx]
  have hfind : s.cache.lines.find? (·.slab == l'.slab) = some l := h
  unfold State.lineOf State.setLine
  simp only [hany, if_true, List.find?_map, hslab, hfind, Option.map_some, slab_of_lineOf h, beq_self_eq_true]

end Sys2Proof.Machine
end

section
/-! SUPPORT. What the host is sent: packets at PCIe egress, and the completion of a read of one part (R171, R174, R240). -/
namespace Sys2Proof.Machine

/-! ### What has left the device stays recorded -/

theorem mem_sent_tlp {s : State} {o : Output} (p : Output) (h : o ∈ s.sent) : o ∈ (s.tlp p).sent := by
  unfold State.tlp
  dsimp only
  split
  · exact List.mem_cons_of_mem _ (List.mem_cons_of_mem _ h)
  · exact List.mem_cons_of_mem _ h

theorem mem_sent_tlp_self (s : State) (o : Output) : o ∈ (s.tlp o).sent := by
  unfold State.tlp
  dsimp only
  split
  · exact List.mem_cons_of_mem _ List.mem_cons_self
  · exact List.mem_cons_self

theorem mem_sent_msix {s : State} {o : Output} (v : Nat) (h : o ∈ s.sent) : o ∈ (s.msix v).sent := by
  unfold State.msix
  split
  · exact mem_sent_tlp _ h
  · split <;> exact h

theorem mem_sent_raise {s : State} {o : Output} (e : Ev) (i : List Nat) (h : o ∈ s.sent) : o ∈ (s.raise e i).sent := by
  have hset : o ∈ (s.set e.bit i).sent := (set_sent s e.bit i).symm ▸ h
  unfold State.raise
  dsimp only
  split
  · exact h
  · split
    · exact mem_sent_msix _ hset
    · exact hset

theorem mem_sent_heldUpdate {s : State} {o : Output} (h : o ∈ s.sent) : o ∈ s.heldUpdate.sent := by
  unfold State.heldUpdate
  dsimp only
  rw [wrB_sent]
  split
  · exact mem_sent_raise _ _ h
  · exact h

theorem heldUpdate_dram (s : State) : s.heldUpdate.dram = s.dram := by
  unfold State.heldUpdate
  dsimp only
  rw [wrB_dram]
  split
  · exact raise_dram _ _ _
  · rfl

/-! ### One packet at egress -/

theorem classOf_le (s : State) (l : Nat) : s.classOf l ≤ 2 := by
  unfold State.classOf
  split_ifs <;> omega

theorem egClass_le (s : State) (e : EgItem) : s.egClass e ≤ 2 := by
  unfold State.egClass
  split
  · omega
  · split_ifs
    · omega
    · exact classOf_le s _

theorem egPick_of_singleton {s : State} {e : EgItem} (h : s.host.egress = [e]) : s.egPick = some e := by
  have hheads : egHeads [e] = [e] := by simp [egHeads]
  have hbest : min 3 (s.egClass e) = s.egClass e := Nat.min_eq_right ((egClass_le s e).trans (by decide))
  unfold State.egPick
  simp [h, hheads, hbest]

/-- The one packet at egress taken from it, its label's turn noted. -/
def State.egTaken (s : State) (e : EgItem) : State :=
  { s with host := { s.host with egress := [], egressRr := setAt s.host.egressRr (s.egClass e) (e.label.getD 64) } }

/-- A packet that stands alone at egress leaves while the link is up. -/
theorem egDrain_of_singleton {s : State} {e : EgItem} (h : s.host.egress = [e]) (hup : s.rd R.HOST_STATUS_LINK_UP = 1) :
    s.egDrain = (s.egTaken e).tlp e.out := by
  unfold State.egDrain State.is
  rw [if_pos (beq_iff_eq.2 hup), h, List.length_singleton, State.egGo, egPick_of_singleton h]
  simp [State.egGo, State.egTaken, h, dropFirst]

theorem egDrain_of_toEgress {s : State} (h : s.host.egress = []) (hup : s.rd R.HOST_STATUS_LINK_UP = 1) (label : Option Nat)
    (o : Output) :
    o ∈ (s.toEgress label o).egDrain.sent ∧
      (s.toEgress label o).egDrain.cache = { s.cache with nextId := s.cache.nextId + 1 } ∧
      (s.toEgress label o).egDrain.dram = s.dram ∧ (s.toEgress label o).egDrain.haul = s.haul := by
  have halone : (s.toEgress label o).host.egress = [⟨label, s.cache.nextId, o⟩] := by
    show s.host.egress ++ _ = _
    rw [h, List.nil_append]
  rw [egDrain_of_singleton halone hup]
  exact ⟨mem_sent_tlp_self _ _, tlp_cache _ _, tlp_dram _ _, tlp_haul _ _⟩

/-! ### A read of one part (R171) -/

/-- Bytes that end at or before the next 64-byte boundary make one completion. -/
theorem readCompletions_of_one_block {q : HostRd} {data : List Byte} {bad : Nat → Bool} (mps : Nat)
    (hlen : data.length = q.len) (hpos : 0 < q.len) (hfit : q.addr % 64 + q.len ≤ 64) (hbad : bad (q.addr / 64) = false) :
    readCompletions mps q data bad = [⟨q.rid, q.tag, 0, q.len, q.addr, data, false⟩] := by
  have hne : data ≠ [] := List.ne_nil_of_length_pos (hlen ▸ hpos)
  have hall : data.length ≤ 64 - q.addr % 64 := by omega
  have hcut : cutAt64 (data.length / 64 + 2) q.addr data = [(q.addr, data)] := by
    simp [cutAt64, hne, List.take_of_length_le hall, List.drop_of_length_le hall]
  unfold readCompletions
  simp [hcut, joinPieces, hbad]

theorem finishRead_of_one_block (s : State) {q : HostRd} {id k : Nat} {data : List Byte} (hlen : data.length = q.len)
    (hpos : 0 < q.len) (hfit : q.addr % 64 + q.len ≤ 64) :
    s.finishRead ⟨q, k, [(id, some (data, 0))]⟩ =
      s.toEgress (some k) (.cpl ⟨q.rid, q.tag, 0, q.len, q.addr, data, false⟩) := by
  have hclean : ∀ n m : Nat, ((([(id, some (data, 0))] : List (Nat × Option (List Byte × Nat))).getD n (0, none)).2.map
      fun d => d.2.testBit m).getD false = false := fun n m => by
    cases n <;> simp
  unfold State.finishRead
  dsimp only
  rw [if_neg (Nat.ne_of_gt hpos), List.flatMap_singleton, Option.map_some, Option.getD_some,
    readCompletions_of_one_block _ hlen hpos hfit (hclean _ _), List.foldl_cons, List.foldl_nil, State.sendCpl]
  rfl

/-- No BAR2 read in progress. -/
def State.readsEnded (s : State) : State := { s with cache := { s.cache with reads := [] } }

/-- The last part of the one read in progress, delivered without poison: its completion goes to egress. -/
theorem hostDeliver_of_last_part {s : State} {q : HostRd} {id k : Nat} {data : List Byte}
    (hreads : s.cache.reads = [⟨q, k, [(id, none)]⟩]) (hlen : data.length = q.len) (hpos : 0 < q.len)
    (hfit : q.addr % 64 + q.len ≤ 64) :
    s.hostDeliver id data 0 =
      (s.readsEnded.toEgress (some k) (.cpl ⟨q.rid, q.tag, 0, q.len, q.addr, data, false⟩)).egDrain := by
  unfold State.hostDeliver
  simp [hreads, HostRdSt.full, finishRead_of_one_block _ hlen hpos hfit, State.readsEnded]

/-- The completion of such a read leaves the device where nothing else stands at egress. -/
theorem hostDeliver_completes {s : State} {q : HostRd} {id k : Nat} {data : List Byte}
    (hreads : s.cache.reads = [⟨q, k, [(id, none)]⟩]) (hlen : data.length = q.len) (hpos : 0 < q.len)
    (hfit : q.addr % 64 + q.len ≤ 64) (hegress : s.host.egress = []) (hup : s.rd R.HOST_STATUS_LINK_UP = 1) :
    Output.cpl ⟨q.rid, q.tag, 0, q.len, q.addr, data, false⟩ ∈ (s.hostDeliver id data 0).sent ∧
      (s.hostDeliver id data 0).cache = { s.cache with reads := [], nextId := s.cache.nextId + 1 } ∧
      (s.hostDeliver id data 0).dram = s.dram ∧ (s.hostDeliver id data 0).haul = s.haul := by
  rw [hostDeliver_of_last_part hreads hlen hpos hfit]
  exact egDrain_of_toEgress (s := s.readsEnded) hegress hup _ _

end Sys2Proof.Machine
end

section
/-! SUPPORT. A request that an idle cache takes and serves at once (R80, R84). -/
namespace Sys2Proof.Machine
open Sys2Proof.Safety

/-! ### The request taken into the transaction table -/

/-- A request taken from its port and counted: the state in which an idle cache serves it. -/
def State.admitted (s : State) (r : CReq) : State := (s.taken r).peakNoted

/-- What the peak of the table does not touch is as the request left it when it was taken. -/
theorem admitted_keeps {α : Type} (p : State → α) (hp : ∀ t v, p (State.wr t R.CACHE_TXN_PEAK_COUNT v) = p t) (s : State)
    (r : CReq) : p (s.admitted r) = p (s.taken r) := by
  unfold State.admitted State.peakNoted
  split
  · exact hp _ _
  · rfl

section
variable (s : State) (r : CReq)

theorem admitted_cache : (s.admitted r).cache = (s.taken r).cache := admitted_keeps State.cache (fun _ _ => wr_cache ..) s r
theorem admitted_egress : (s.admitted r).host.egress = s.host.egress :=
  admitted_keeps (fun t => t.host.egress) (fun _ _ => congrArg HostSt.egress (wr_host ..)) s r
theorem admitted_fault : (s.admitted r).fault = s.fault := admitted_keeps State.fault (fun _ _ => wr_fault ..) s r
theorem admitted_fuse : (s.admitted r).fuse = s.fuse := admitted_keeps State.fuse (fun _ _ => wr_fuse ..) s r
theorem admitted_time : (s.admitted r).time = s.time := admitted_keeps State.time (fun _ _ => wr_time ..) s r
theorem admitted_haul : (s.admitted r).haul = s.haul := admitted_keeps State.haul (fun _ _ => wr_haul ..) s r
theorem admitted_dram : (s.admitted r).dram = s.dram := admitted_keeps State.dram (fun _ _ => wr_dram ..) s r
theorem admitted_core : (s.admitted r).core = s.core := admitted_keeps State.core (fun _ _ => core_wr _ _ _ _ rfl) s r

theorem rd_admitted {f : Fam} {i : List Nat} (h : f.key i ≠ R.CACHE_TXN_PEAK_COUNT.key []) :
    (s.admitted r).rd f i = s.rd f i := admitted_keeps (fun t => t.rd f i) (fun _ _ => rd_wr_key _ _ _ _ _ _ h) s r

end

theorem sectors_of_fuse {s t : State} (h : t.fuse = s.fuse) : t.sectors = s.sectors := by
  simp only [State.sectors, nLayer_of_fuse h]

theorem lineOf_of_cache {s t : State} (h : t.cache.lines = s.cache.lines) (slab : Nat) : t.lineOf slab = s.lineOf slab := by
  simp only [State.lineOf, h]

/-- R69, R321: what says whether stack writes are refused. -/
theorem noWrites_of_core {s t : State} (h : t.core = s.core) (hsafe : t.rd R.FAULT_STATUS_SAFE = s.rd R.FAULT_STATUS_SAFE) :
    t.noWrites = s.noWrites := by
  unfold State.noWrites State.protection State.offline State.is
  rw [nLayer_of_fuse (fuse_of_core h), hsafe, funext (layer_of_core h)]

/-- R39, R100: what says whether write-through is in force. -/
theorem wt_of_rd {s t : State} (ht : t.time = s.time)
    (hshift : t.rd R.TIME_SHIFT_STATUS_STATE = s.rd R.TIME_SHIFT_STATUS_STATE)
    (hforce : t.rd R.CACHE_CTRL_WT_FORCE = s.rd R.CACHE_CTRL_WT_FORCE) : t.wt = s.wt := by
  unfold State.wt State.is
  rw [ht, hshift, hforce]

theorem lineOf_srSet (s : State) (slab k : Nat) : (s.srSet slab).lineOf k = s.lineOf k :=
  lineOf_of_cache (congrArg CacheSt.lines (set_cache s R.CACHE_SRMAP_BITS [regionOf slab])) k

/-- A bit of the suspect-region map set leaves write-through as it is. -/
theorem wt_srSet (s : State) {slab : Nat} (h : slab < 2 ^ 27) : (s.srSet slab).wt = s.wt := by
  have hkey : R.CACHE_SRMAP_BITS.key [regionOf slab] = 0x180200 * 8 + slab / 32768 := by
    simp [Fam.key, R.CACHE_SRMAP_BITS, Fam.rel, regionOf]
  have hshift : R.TIME_SHIFT_STATUS_STATE.key [] = 0x41003C * 8 := rfl
  have hforce : R.CACHE_CTRL_WT_FORCE.key [] = 0x180000 * 8 := rfl
  exact wt_of_rd (set_time _ _ _) (rd_wr_key _ _ _ _ _ _ (by omega)) (rd_wr_key _ _ _ _ _ _ (by omega))

/-! ### Acceptance -/

theorem acceptInner_of_none {s : State} (h : ∀ r ∈ s.cache.port, srcPort r.src ≠ 3) : s.acceptInner = s := by
  have hnone : s.cache.port.filter (fun r => srcPort r.src == 3) = [] :=
    List.filter_eq_nil_iff.2 fun r hr => by simpa using h r hr
  unfold State.acceptInner
  rw [hnone, List.foldl_nil]

/-- A host request that its port takes next and an idle cache serves at once, which leaves nothing that waits. -/
theorem cacheReq_of_served {s t : State} {r : CReq} (hidle : CacheIdle s) (hsrc : r.src = .pcie) (hpick : s.portPick 0 = some r)
    (hfree : s.txnFree r = true) (hslab : r.slab < 2 ^ 27) (hfit : r.off + max r.len r.data.length ≤ s.slabBytes)
    (hserve : (s.admitted r).serve r true = (t, true)) (hopq : t.cache.opq = s.cache.opq) (hwait : t.cache.wait = s.cache.wait)
    (hport : t.cache.port = (s.taken r).cache.port) (hhaul : t.haul = s.haul) : s.cacheReq r = t.heldUpdate := by
  obtain ⟨hon, hsw, hsq, hinj, hruns, hinner⟩ := hidle
  have hadm : (s.admitted r).cache.wait = [] := (congrArg CacheSt.wait (admitted_cache s r)).trans hsw
  have hnone : NoneWaits t := ⟨hopq.trans hsq, hwait.trans hsw, chan_run_none (hhaul ▸ hruns)⟩
  have haccept : s.accept r = t.heldUpdate := by
    rw [accept_eq hinj, ← cacheSettle_of_noneWaits hnone]
    show ((s.admitted r).serveOrWait r).cacheSettle = _
    unfold State.serveOrWait
    rw [hadm, hserve]
    rfl
  have hrest : ∀ q ∈ t.heldUpdate.cache.port, srcPort q.src ≠ 3 := by
    rw [(heldUpdate_outside t).1, hport]
    exact fun q hq => hinner q (List.mem_filter.1 hq).1
  have hzero : srcPort r.src = 0 := by rw [hsrc]; rfl
  unfold State.cacheReq
  rw [if_neg (by simp [hon, hzero, hfree]; omega), if_neg (by simp [hzero]), hzero, if_pos hpick, haccept,
    acceptInner_of_none hrest]

/-! ### Service from a line (R84) -/

theorem serve_of_request {s : State} {r : CReq} (hi : s.fault.inj = none) (hj : r.job = none) (count : Bool) :
    s.serve r count = if r.write then s.serveWrite r count else s.serveRead r count := by
  unfold State.serve
  rw [checkArray_of_no_injection hi, hj]

theorem checkLine_of_no_injection {s : State} (h : s.fault.inj = none) (l : Line) (need : Nat) : s.checkLine l need = s := by
  simp [State.checkLine, State.injArray, h]

theorem serveRead_of_hit {s : State} {r : CReq} {l : Line} (hi : s.fault.inj = none) (hlen : 0 < r.len)
    (hl : s.lineOf r.slab = some l) (hv : minus (reqTouched r s.sectors) l.valid = 0) (count : Bool) :
    s.serveRead r count = (((s.touchWay r.slab l.way).hit count).deliverRead r l.data l.poison 0, true) := by
  have hl' : (s.touchWay r.slab l.way).lineOf r.slab = some l := hl
  unfold State.serveRead
  dsimp only
  rw [if_neg (Nat.ne_of_gt hlen), hl]
  dsimp only
  rw [if_pos hv, checkLine_of_no_injection (s := s.touchWay r.slab l.way) hi, hl']
  dsimp only
  rw [if_pos hv]

theorem deliverRead_unpoisoned {s : State} {r : CReq} (hsrc : r.src = .pcie) (data : List Byte) :
    s.deliverRead r data 0 0 = s.hostDeliver r.id (slice data r.off r.len) 0 := by
  unfold State.deliverRead
  rw [hsrc]
  simp [zeroPoison_zero, State.delivered, minus]

theorem serveWrite_of_hit {s : State} {r : CReq} {l : Line} (hn : s.noWrites = false) (hl : s.lineOf r.slab = some l)
    (hv : minus (minus (reqTouched r s.sectors) (reqCovered r s.sectors)) l.valid = 0) (count : Bool) :
    s.serveWrite r count = (((s.hit count).writeLine r l).afterWrite r true, true) := by
  unfold State.serveWrite
  dsimp only
  rw [hn, hl]
  dsimp only
  rw [if_neg Bool.false_ne_true, if_pos hv]

/-- A host write into a line, out of write-through: nothing follows it. -/
theorem afterWrite_of_host {s : State} {r : CReq} (hsrc : r.src = .pcie) (hm : r.media = false) (hwt : s.wt = false) :
    s.afterWrite r true = s := by
  unfold State.afterWrite
  simp [hm, hwt, State.wrote, hsrc]

end Sys2Proof.Machine
end

section
/-! PROOFS. Hits of the slab cache (R83, R84). -/
namespace Sys2Proof.Machine
open Sys2Proof.Safety

/-- What the clauses of O31 share: an idle cache, and a host request at its port for a slab whose line has no poison. -/
structure HostHit (s : State) (r : CReq) (l : Line) : Prop where
  idle : CacheIdle s
  src : r.src = .pcie
  job : r.job = none
  pick : s.portPick 0 = some r
  free : s.txnFree r = true
  slab : r.slab < 2 ^ 27
  line : s.lineOf r.slab = some l
  clean : l.poison = 0
  whole : l.data.length = s.slabBytes
  fits : r.off + max r.len r.data.length ≤ s.slabBytes

section
variable {s : State} {r : CReq} {l : Line}

theorem admitted_lineOf (s : State) (r : CReq) (slab : Nat) : (s.admitted r).lineOf slab = s.lineOf slab :=
  lineOf_of_cache (congrArg CacheSt.lines (admitted_cache s r)) slab

theorem admitted_sectors (s : State) (r : CReq) : (s.admitted r).sectors = s.sectors :=
  sectors_of_fuse (admitted_fuse s r)

theorem HostHit.noInjection (h : HostHit s r l) : (s.admitted r).fault.inj = none := by
  obtain ⟨-, -, -, hinj, -⟩ := h.idle
  rw [admitted_fault, hinj]

/-! ### Reads -/

/-- The line used and the hit counted. -/
def State.readHit (s : State) (r : CReq) (l : Line) : State := ((s.admitted r).touchWay r.slab l.way).hit true

theorem readHit_outside (s : State) (r : CReq) (l : Line) :
    (s.readHit r l).cache.reads = s.cache.reads ∧ (s.readHit r l).cache.ops = s.cache.ops ∧
      (s.readHit r l).cache.opq = s.cache.opq ∧ (s.readHit r l).cache.wait = s.cache.wait ∧
      (s.readHit r l).cache.port = (s.taken r).cache.port ∧ (s.readHit r l).cache.hits = (s.cache.hits + 1) % 2 ^ 64 ∧
      (s.readHit r l).host.egress = s.host.egress ∧ (s.readHit r l).dram = s.dram ∧ (s.readHit r l).haul = s.haul ∧
      (s.readHit r l).rd R.HOST_STATUS_LINK_UP = s.rd R.HOST_STATUS_LINK_UP := by
  have hrd := rd_admitted s r (f := R.HOST_STATUS_LINK_UP) (i := []) (by decide)
  have hc : ∀ {α : Type} (f : CacheSt → α), f (s.admitted r).cache = f (s.taken r).cache := fun f =>
    congrArg f (admitted_cache s r)
  exact ⟨hc (·.reads), hc (·.ops), hc (·.opq), hc (·.wait), hc (·.port), hc fun c => (c.hits + 1) % 2 ^ 64,
    admitted_egress s r, admitted_dram s r, admitted_haul s r, hrd⟩

theorem HostHit.serve_read (h : HostHit s r l) (hw : r.write = false) (hlen : 0 < r.len)
    (hv : minus (reqTouched r s.sectors) l.valid = 0) :
    (s.admitted r).serve r true = ((s.readHit r l).hostDeliver r.id (slice l.data r.off r.len) 0, true) := by
  rw [serve_of_request h.noInjection h.job, hw, if_neg Bool.false_ne_true,
    serveRead_of_hit h.noInjection hlen ((admitted_lineOf s r _).trans h.line) (admitted_sectors s r ▸ hv), h.clean,
    deliverRead_unpoisoned h.src]
  rfl

theorem HostHit.length_slice (h : HostHit s r l) : (slice l.data r.off r.len).length = r.len := by
  have hfits := h.fits
  simp only [slice, List.length_take, List.length_drop, h.whole]
  omega

/-- R84: a read that the line covers. -/
theorem HostHit.read_completes (h : HostHit s r l) {q : HostRd} {k : Nat} (hw : r.write = false) (hlen : 0 < r.len)
    (hreads : s.cache.reads = [⟨q, k, [(r.id, none)]⟩]) (hq : q.len = r.len) (hblock : q.addr % 64 + r.len ≤ 64)
    (hv : minus (reqTouched r s.sectors) l.valid = 0) (hegress : s.host.egress = []) (hup : s.rd R.HOST_STATUS_LINK_UP = 1) :
    Output.cpl ⟨q.rid, q.tag, 0, q.len, q.addr, slice l.data r.off r.len, false⟩ ∈ (s.cacheReq r).sent ∧
      (s.cacheReq r).cache.ops = s.cache.ops ∧ (s.cacheReq r).cache.hits = (s.cache.hits + 1) % 2 ^ 64 ∧
      (s.cacheReq r).dram = s.dram := by
  obtain ⟨hr, hops, hopq, hwait, hport, hhits, heg, hdram, hhaul, hlink⟩ := readHit_outside s r l
  obtain ⟨hsent, hcache', hdram', hhaul'⟩ := hostDeliver_completes (hr.trans hreads) (h.length_slice.trans hq.symm) (hq ▸ hlen)
    (hq ▸ hblock) (heg.trans hegress) (hlink.trans hup)
  rw [cacheReq_of_served h.idle h.src h.pick h.free h.slab h.fits (h.serve_read hw hlen hv) (by rw [hcache', ← hopq])
    (by rw [hcache', ← hwait]) (by rw [hcache', ← hport]) (hhaul'.trans hhaul), (heldUpdate_outside _).1, hcache']
  exact ⟨mem_sent_heldUpdate hsent, hops, hhits, (heldUpdate_dram _).trans (hdram'.trans hdram)⟩

/-! ### Writes -/

/-- What a write into a line without poison leaves of the state. -/
theorem writeLine_outside (hw : r.write = true) (hp : l.poison = 0) (hs : r.slab < 2 ^ 27) :
    (s.writeLine r l).cache.opq = s.cache.opq ∧ (s.writeLine r l).cache.wait = s.cache.wait ∧
      (s.writeLine r l).cache.port = s.cache.port ∧ (s.writeLine r l).dram = s.dram ∧ (s.writeLine r l).haul = s.haul ∧
      (s.writeLine r l).wt = s.wt := by
  by_cases ht : reqTouched r s.sectors = 0
  · rw [writeLine_of_untouched l ht]
    exact ⟨rfl, rfl, rfl, rfl, rfl, rfl⟩
  · have hset : (s.srSet r.slab).cache = s.cache := set_cache _ _ _
    rw [writeLine_of_unpoisoned hw hp ht]
    exact ⟨(congrArg CacheSt.opq hset :), (congrArg CacheSt.wait hset :), (congrArg CacheSt.port hset :), set_dram _ _ _,
      set_haul _ _ _, wt_srSet s hs⟩

/-- R79: the line after a write holds the bytes enabled, in sectors that are dirty, and keeps the others. -/
theorem writeLine_line (hw : r.write = true) (hp : l.poison = 0) (hl : s.lineOf r.slab = some l)
    (hlen : l.data.length = 64 * s.sectors) :
    ∃ l', (s.writeLine r l).lineOf r.slab = some l' ∧ ∀ i, i < 64 * s.sectors →
      (∀ v, reqByte r i = some v → l'.data.getD i 0#8 = v ∧ l'.dirty.testBit (i / 64) = true) ∧
      (reqByte r i = none → l'.data.getD i 0#8 = l.data.getD i 0#8) := by
  by_cases ht : reqTouched r s.sectors = 0
  · rw [writeLine_of_untouched l ht]
    refine ⟨l, hl, fun i hi => ⟨fun v hv => ?_, fun _ => rfl⟩⟩
    have hbit := reqTouched_of_byte hw hi hv
    rw [ht, Nat.zero_testBit] at hbit
    exact absurd hbit Bool.false_ne_true
  · have hslab : (l.written r s.sectors).slab = r.slab := (slab_of_lineOf hl :)
    have hset : (s.srSet r.slab).lineOf (l.written r s.sectors).slab = some l :=
      (lineOf_srSet s _ _).trans (hslab ▸ hl)
    have hfound := lineOf_setLine_same hset
    rw [writeLine_of_unpoisoned hw hp ht]
    exact ⟨l.written r s.sectors, hslab ▸ hfound, fun i hi =>
      ⟨fun _ hv => written_byte_some hw hlen hi hv, fun hv => written_byte_none (hlen ▸ hi) hv⟩⟩

/-- The hit counted and the line written. -/
def State.writeHit (s : State) (r : CReq) (l : Line) : State := ((s.admitted r).hit true).writeLine r l

theorem noWrites_admitted (s : State) (r : CReq) : (s.admitted r).noWrites = s.noWrites :=
  noWrites_of_core (admitted_core s r) (rd_admitted s r (by decide))

theorem wt_admitted (s : State) (r : CReq) : (s.admitted r).wt = s.wt :=
  wt_of_rd (admitted_time s r) (rd_admitted s r (by decide)) (rd_admitted s r (by decide))

theorem HostHit.writeHit_outside (h : HostHit s r l) (hw : r.write = true) :
    (s.writeHit r l).cache.opq = s.cache.opq ∧ (s.writeHit r l).cache.wait = s.cache.wait ∧
      (s.writeHit r l).cache.port = (s.taken r).cache.port ∧ (s.writeHit r l).dram = s.dram ∧
      (s.writeHit r l).haul = s.haul ∧ (s.writeHit r l).wt = s.wt := by
  have hcache := admitted_cache s r
  obtain ⟨hopq, hwait, hport, hdram, hhaul, hwt⟩ := writeLine_outside (s := (s.admitted r).hit true) hw h.clean h.slab
  exact ⟨hopq.trans (congrArg CacheSt.opq hcache :), hwait.trans (congrArg CacheSt.wait hcache :),
    hport.trans (congrArg CacheSt.port hcache :), hdram.trans (admitted_dram s r), hhaul.trans (admitted_haul s r),
    hwt.trans (wt_admitted s r)⟩

theorem HostHit.serve_write (h : HostHit s r l) (hw : r.write = true) (hm : r.media = false) (hn : s.noWrites = false)
    (hwt : s.wt = false) (hv : minus (minus (reqTouched r s.sectors) (reqCovered r s.sectors)) l.valid = 0) :
    (s.admitted r).serve r true = (s.writeHit r l, true) := by
  obtain ⟨-, -, -, -, -, hwt'⟩ := h.writeHit_outside hw
  rw [serve_of_request h.noInjection h.job, if_pos hw,
    serveWrite_of_hit ((noWrites_admitted s r).trans hn) ((admitted_lineOf s r _).trans h.line) (admitted_sectors s r ▸ hv),
    ← State.writeHit, afterWrite_of_host h.src hm (hwt'.trans hwt)]

/-- R84, R79: a write that the line covers. -/
theorem HostHit.write_lands (h : HostHit s r l) (hw : r.write = true) (hm : r.media = false) (hn : s.noWrites = false)
    (hwt : s.wt = false) (hv : minus (minus (reqTouched r s.sectors) (reqCovered r s.sectors)) l.valid = 0) :
    (s.cacheReq r).dram = s.dram ∧ ∃ l', (s.cacheReq r).lineOf r.slab = some l' ∧ ∀ i, i < s.slabBytes →
      (∀ v, reqByte r i = some v → l'.data.getD i 0#8 = v ∧ l'.dirty.testBit (i / 64) = true) ∧
      (reqByte r i = none → l'.data.getD i 0#8 = l.data.getD i 0#8) := by
  obtain ⟨hopq, hwait, hport, hdram, hhaul, -⟩ := h.writeHit_outside hw
  have hbytes : s.slabBytes = 64 * ((s.admitted r).hit true).sectors := by
    show _ = 64 * (s.admitted r).sectors
    rw [admitted_sectors, State.slabBytes, State.sectors]
    omega
  rw [cacheReq_of_served h.idle h.src h.pick h.free h.slab h.fits (h.serve_write hw hm hn hwt hv) hopq hwait hport hhaul,
    lineOf_of_cache (congrArg CacheSt.lines (heldUpdate_outside _).1), heldUpdate_dram, hbytes]
  exact ⟨hdram, writeLine_line hw h.clean ((admitted_lineOf s r _).trans h.line) (h.whole.trans hbytes)⟩

end

/-- Settles O31: the request is accepted and served in one step of an idle cache, from the line. -/
theorem cacheServes : Obligations.CacheServes := by
  unfold Obligations.CacheServes
  intro s r l hidle hsrc hjob hpick hfree hslab hline hclean hwhole hfits
  have h : HostHit s r l := ⟨hidle, hsrc, hjob, hpick, hfree, hslab, hline, hclean, hwhole, hfits⟩
  refine ⟨fun q k hw hlen hreads hq hblock hv hegress hup => ?_, fun hw hm hn hwt hv => ?_⟩
  · have hexec : exec (.cacheRead r) s = .next (s.cacheReq r) := congrArg Host.Outcome.next (if_neg (by simp [hw]))
    exact leads_next hexec (h.read_completes hw hlen hreads hq hblock hv hegress hup)
  · have hexec : exec (.cacheWrite r) s = .next (s.cacheReq r) := congrArg Host.Outcome.next (if_pos hw)
    obtain ⟨hdram, l', hl', hbytes⟩ := h.write_lands hw hm hn hwt hv
    refine leads_next hexec ⟨hdram, l', hl', fun i hi => ?_⟩
    obtain ⟨hsome, hnone⟩ := hbytes i hi
    cases hb : reqByte r i with
    | some v => exact hsome v hb
    | none => exact hnone hb

end Sys2Proof.Machine
end

section
/-! PROOFS. The maintenance operations (R97): a flush where two lines have one slab. -/
namespace Sys2Proof.Machine
open Sys2Proof.Safety Sys2Proof.Tests

/-- The cache holds two lines of slab 5, the first clean and the second dirty. -/
def twinLines : State := withCache on fun c => { c with lines := [line 5 0, line 5 3] }

/-- The dirty line stays: the write-back of its slab finds the clean one. -/
theorem twinLines_flushed : line 5 3 ∈ (twinLines.flushGo .firmware 0 0 0).cache.lines := by decide +kernel

/-- Refutes O33: the statement admits a state with two lines of one slab, and a FLUSH of everything by firmware, which finds the
first line clean, leaves the second one dirty. -/
theorem not_cacheMaintenance : ¬ Obligations.CacheMaintenance := by
  unfold Obligations.CacheMaintenance
  intro h
  obtain ⟨hops, -, -⟩ := h twinLines .firmware
  obtain ⟨hflush, -, -⟩ := hops 0 0 (by decide +kernel) rfl rfl (by decide +kernel) (by decide +kernel)
  obtain ⟨t, ht, -, -, hclean⟩ := hflush (by decide +kernel)
  obtain rfl : twinLines.flushGo .firmware 0 0 0 = t := Host.Outcome.next.inj ht
  exact absurd (hclean _ twinLines_flushed (by decide +kernel)) (by decide)

end Sys2Proof.Machine
end

section
/-! SUPPORT. Benches and their channel controllers under the updates of one of them, and what the transmitters of the links leave
(R111, R142 to R149). -/
namespace Sys2Proof.Machine
open Sys2Proof.Safety

/-! ### One element of a list changed -/

theorem modAt_eq_modify {α : Type} (f : α → α) (l : List α) (i : Nat) : modAt f l i = l.modify i f := by
  induction l generalizing i with
  | nil => simp [modAt]
  | cons x l ih => cases i <;> simp [modAt, ih]

@[simp] theorem length_modAt {α : Type} (f : α → α) (l : List α) (i : Nat) : (modAt f l i).length = l.length := by
  rw [modAt_eq_modify, List.length_modify]

theorem getD_modAt_same {α : Type} (f : α → α) {l : List α} {i : Nat} (h : i < l.length) (d : α) :
    (modAt f l i).getD i d = f (l.getD i d) := by
  simp [modAt_eq_modify, List.getD_eq_getElem?_getD, h]

theorem getD_modAt_ne {α : Type} (f : α → α) (l : List α) {i j : Nat} (h : i ≠ j) (d : α) :
    (modAt f l i).getD j d = l.getD j d := by
  simp [modAt_eq_modify, List.getD_eq_getElem?_getD, h]

theorem getD_setAt_none {α : Type} (l : List (Option α)) (i : Nat) : (setAt l i none).getD i none = none := by
  rw [setAt_eq_set]
  by_cases h : i < l.length <;> simp [List.getD_eq_getElem?_getD, h]

theorem map_modAt {α β : Type} (g : α → β) (f : α → α) (hf : ∀ x, g (f x) = g x) (l : List α) (i : Nat) :
    (modAt f l i).map g = l.map g := by
  induction l generalizing i with
  | nil => rfl
  | cons x l ih => cases i <;> simp [modAt, hf, ih]

/-! ### Benches -/

@[simp] theorem length_modBench (s : State) (b : Nat) (f : BenchSt → BenchSt) :
    (s.modBench b f).bench.length = s.bench.length := length_modAt f s.bench b

theorem modBench_bench (s : State) (b : Nat) (f : BenchSt → BenchSt) : (s.modBench b f).bench = modAt f s.bench b := rfl

theorem bn_modBench_same {s : State} {b : Nat} (h : b < s.bench.length) (f : BenchSt → BenchSt) :
    (s.modBench b f).bn b = f (s.bn b) := getD_modAt_same f h _

theorem bn_modBench_ne (s : State) {b c : Nat} (h : b ≠ c) (f : BenchSt → BenchSt) : (s.modBench b f).bn c = s.bn c :=
  getD_modAt_ne f s.bench h _

theorem bn_congr {s t : State} (h : t.bench = s.bench) (b : Nat) : t.bn b = s.bn b := by rw [State.bn, State.bn, h]

theorem ctl_congr {s t : State} (h : t.bench = s.bench) (b ch : Nat) : t.ctl b ch = s.ctl b ch := by
  rw [State.ctl, State.ctl, bn_congr h]

@[simp] theorem length_modCtl (s : State) (b ch : Nat) (f : ChanCtl → ChanCtl) :
    (s.modCtl b ch f).bench.length = s.bench.length := length_modBench s b _

theorem ctl_modCtl_same {s : State} {b : Nat} (h : b < s.bench.length) (ch : Nat) (f : ChanCtl → ChanCtl) :
    (s.modCtl b ch f).ctl b ch = f (s.ctl b ch) := by
  unfold State.ctl State.modCtl
  rw [bn_modBench_same h]
  split_ifs <;> rfl

/-- What a bench is without its channel controllers. -/
def BenchSt.offChans (x : BenchSt) : BenchSt := { x with chA := ChanCtl.reset, chB := ChanCtl.reset }

/-- Every bench but for its controllers. -/
def State.offChans (s : State) : List BenchSt := s.bench.map BenchSt.offChans

theorem offChans_modCtl (s : State) (b ch : Nat) (f : ChanCtl → ChanCtl) : (s.modCtl b ch f).offChans = s.offChans :=
  map_modAt _ _ (fun x => by split_ifs <;> rfl) s.bench b

theorem length_of_offChans {s t : State} (h : t.offChans = s.offChans) : t.bench.length = s.bench.length := by
  simpa [State.offChans] using congrArg List.length h

theorem bn_of_offChans {s t : State} (h : t.offChans = s.offChans) (b : Nat) : (t.bn b).offChans = (s.bn b).offChans := by
  have hbn : ∀ u : State, (u.bn b).offChans = u.offChans.getD b BenchSt.reset := fun u => by
    have hreset : BenchSt.reset = BenchSt.reset.offChans := rfl
    rw [State.offChans, hreset, List.getD_map]
    rfl
  rw [hbn, hbn, h]

theorem remaps_of_offChans {s t : State} (h : t.offChans = s.offChans) : t.remaps = s.remaps := by
  have hremaps : ∀ u : State, u.remaps = u.offChans.flatMap (·.remaps) := fun u => by
    rw [State.offChans, List.flatMap_map]
    rfl
  rw [hremaps, hremaps, h]

theorem rd_congr {s t : State} (hr : t.regs = s.regs) (hl : t.lregs = s.lregs) {f : Fam} (hf : f.held ≠ .bench) (i : List Nat) :
    t.rd f i = s.rd f i := by
  unfold State.rd
  cases hh : f.held
  · simp only [State.file, hr]
  · simp only [State.file, hl]
  · exact absurd hh hf

theorem benchOn_congr {s t : State} (hp : t.power = s.power) (hf : t.fuse = s.fuse) (b : Nat) : t.benchOn b = s.benchOn b := by
  rw [State.benchOn, State.benchOn, nBench_of_fuse hf, live_of_power hp]

/-- R133: what BENCH.STATUS shows is all that publishing it changes. -/
@[simp] theorem publishBench_bench (s : State) (b : Nat) : (s.publishBench b).bench = s.bench := by simp [State.publishBench]
@[simp] theorem publishBench_dram (s : State) (b : Nat) : (s.publishBench b).dram = s.dram := by simp [State.publishBench]
@[simp] theorem publishBench_segs (s : State) (b : Nat) : (s.publishBench b).segs = s.segs := by simp [State.publishBench]

/-! ### What the transmitters leave -/

theorem linksKept_sendFrame (s : State) (b : Nat) (down : Bool) (type : Nat) (f : Frame) :
    LinksKept s (s.sendFrame b down type f) :=
  linksKept_ite (linksKept_transmit s b down type f) (linksKept_sendItems s b down _)

/-- A part of the state that `State.offLinks` shows is kept. -/
theorem LinksKept.keeps {α : Type} {s t : State} (h : LinksKept s t) (p : State → α) (hp : ∀ u : State, p u.offLinks = p u) :
    p t = p s := by rw [← hp t, h.offLinks, hp]

theorem LinksKept.bench {s t : State} (h : LinksKept s t) : t.bench = s.bench := h.keeps State.bench fun _ => rfl
theorem LinksKept.dram {s t : State} (h : LinksKept s t) : t.dram = s.dram := h.keeps State.dram fun _ => rfl
theorem LinksKept.segs {s t : State} (h : LinksKept s t) : t.segs = s.segs := h.keeps State.segs fun _ => rfl
theorem LinksKept.time {s t : State} (h : LinksKept s t) : t.time = s.time := h.keeps State.time fun _ => rfl
theorem LinksKept.bregs {s t : State} (h : LinksKept s t) : t.bregs = s.bregs := h.keeps State.bregs fun _ => rfl

theorem LinksKept.rd {s t : State} (h : LinksKept s t) {f : Fam} {i : List Nat} (hf : f.held = .base)
    (hk : linkKey (f.key i) = false) : t.rd f i = s.rd f i := by
  have hrest := congrFun h.rest (f.key i)
  simp only [restRegs, hk, Bool.false_eq_true, if_false] at hrest
  simp only [State.rd, State.file, hf, hrest]

theorem LinksKept.rd_bench {s t : State} (h : LinksKept s t) {f : Fam} (hf : f.held = .bench) (i : List Nat) :
    t.rd f i = s.rd f i := by
  simp only [State.rd, State.file, hf, h.bregs]

@[simp] theorem sendUp_bench (s : State) (b type : Nat) (f : Frame) : (s.sendUp b type f).bench = s.bench :=
  (linksKept_sendFrame s b false type f).bench
@[simp] theorem sendUp_dram (s : State) (b type : Nat) (f : Frame) : (s.sendUp b type f).dram = s.dram :=
  (linksKept_sendFrame s b false type f).dram
@[simp] theorem sendUp_segs (s : State) (b type : Nat) (f : Frame) : (s.sendUp b type f).segs = s.segs :=
  (linksKept_sendFrame s b false type f).segs

/-! ### Frames on other links -/

/-- `t` has bench `b`'s link as `s` has it, and everything that `s` has sent. -/
structure Beside (b : Nat) (s t : State) : Prop where
  link : t.link b = s.link b
  sent : s.sent ⊆ t.sent

theorem Beside.refl (b : Nat) (s : State) : Beside b s s := ⟨rfl, List.Subset.refl _⟩

theorem Beside.trans {b : Nat} {s t u : State} (h : Beside b s t) (k : Beside b t u) : Beside b s u :=
  ⟨k.link.trans h.link, List.Subset.trans h.sent k.sent⟩

theorem beside_ite {b : Nat} {c : Prop} [Decidable c] {s t u : State} (ht : Beside b s t) (hu : Beside b s u) :
    Beside b s (if c then t else u) := by split_ifs <;> assumption

section
variable {b c : Nat} (h : c ≠ b)
include h

theorem beside_modShaft (s : State) (f : ShaftSt → ShaftSt) : Beside b s (s.modShaft c f) :=
  ⟨getD_modAt_ne f s.shaft h _, List.Subset.refl _⟩

theorem beside_emitFrame (s : State) (down : Bool) (type : Nat) (f : Frame) : Beside b s (s.emitFrame c down type f) :=
  ⟨(beside_modShaft h s _).link, List.subset_cons_self _ _⟩

theorem beside_creditsLeave (s : State) (down : Bool) : Beside b s (s.creditsLeave c down) :=
  beside_ite (.refl b s) (beside_modShaft h s _)

theorem beside_forcedIdle (s : State) (down : Bool) : Beside b s (s.forcedIdle c down) := by
  have hidle : Beside b s (s.sendIdle c down) := (beside_emitFrame h s down 0 _).trans (beside_creditsLeave h _ down)
  refine beside_ite (hidle.trans ⟨?_, ?_⟩) (.refl b s)
  · rw [State.link, State.link, incSat_shaft]
  · rw [incSat_sent]
    exact List.Subset.refl _

theorem beside_transmit (s : State) (down : Bool) (type : Nat) (f : Frame) : Beside b s (s.transmit c down type f) := by
  unfold State.transmit
  refine Beside.trans ?_ (beside_modShaft h _ _)
  refine Beside.trans ?_ (beside_emitFrame h _ down type _)
  exact (beside_forcedIdle h s down).trans (beside_ite (beside_creditsLeave h _ down) (.refl b _))

theorem beside_sendWaiting (down : Bool) (n : Nat) (s : State) : Beside b s (State.sendWaiting c down n s) := by
  induction n generalizing s with
  | zero => exact .refl b s
  | succ n ih =>
    unfold State.sendWaiting
    dsimp only
    split
    · exact .refl b s
    · split
      · exact ((beside_modShaft h s _).trans (beside_transmit h _ down _ _)).trans (ih _)
      · split
        · exact .refl b s
        · exact (((beside_modShaft h s _).trans (beside_modShaft h _ _)).trans (beside_transmit h _ down _ _)).trans (ih _)

theorem beside_sendFrame (s : State) (down : Bool) (type : Nat) (f : Frame) : Beside b s (s.sendFrame c down type f) := by
  have hadd : ∀ is, Beside b s (s.addWaits c down is) := fun is => (beside_modShaft h s _).trans (beside_modShaft h _ _)
  exact beside_ite (beside_transmit h s down type f)
    (beside_ite ((hadd _).trans (beside_sendWaiting h down 64 _)) (beside_ite (hadd _) (.refl b s)))

end

end Sys2Proof.Machine
end

section
/-! SUPPORT. The command slot of a channel controller: the tasks that it queues first, the refresh of a bank that owes 8, and the
lone request of an open row (R111, R116, R117). -/
namespace Sys2Proof.Machine
open Sys2Proof.Safety

/-! ### Tasks queued -/

/-- A controller without its activation counters and tasks. -/
def ChanCtl.offTasks (c : ChanCtl) : ChanCtl := { c with acts := [], tasks := [] }

/-- `t` is `s` but for activation counters and new tasks of a controller, which have not aged, and their count. -/
structure TasksQueued (b ch : Nat) (s t : State) : Prop where
  frame : t = { s with bench := t.bench, bregs := t.bregs }
  offChans : t.offChans = s.offChans
  ctl : (t.ctl b ch).offTasks = (s.ctl b ch).offTasks
  young : (∀ k ∈ (s.ctl b ch).tasks, k.aged = false) → ∀ k ∈ (t.ctl b ch).tasks, k.aged = false
  thresh : t.trThresh b = s.trThresh b

theorem TasksQueued.refl (b ch : Nat) (s : State) : TasksQueued b ch s s := ⟨rfl, rfl, rfl, id, rfl⟩

theorem TasksQueued.trans {b ch : Nat} {s t u : State} (h : TasksQueued b ch s t) (k : TasksQueued b ch t u) :
    TasksQueued b ch s u := by
  refine ⟨?_, k.offChans.trans h.offChans, k.ctl.trans h.ctl, fun hs => k.young (h.young hs), k.thresh.trans h.thresh⟩
  rw [k.frame]
  conv_lhs => rw [h.frame]

theorem trThresh_congr {s t : State} {b : Nat} (hr : t.rd R.BENCH_TR_CTRL_THRESH [b] = s.rd R.BENCH_TR_CTRL_THRESH [b])
    (hw : (t.bn b).warm = (s.bn b).warm) : t.trThresh b = s.trThresh b := by
  rw [State.trThresh, State.trThresh, hr, hw]

theorem tasksQueued_queueTask {s : State} {b : Nat} (hb : b < s.bench.length) (ch bank group : Nat) :
    TasksQueued b ch s (s.queueTask b ch bank group) := by
  unfold State.queueTask
  have hctl : ∀ t : State, (t.inc R.BENCH_TR_COUNT_COUNT [b]).ctl b ch = t.ctl b ch := fun t => ctl_congr (by simp) b ch
  have hoff : ∀ f, ((s.modCtl b ch f).inc R.BENCH_TR_COUNT_COUNT [b]).offChans = s.offChans := fun f => by
    rw [State.offChans, inc_bench]
    exact offChans_modCtl s b ch f
  refine ⟨rfl, hoff _, ?_, fun hs k hk => ?_, trThresh_congr ?_ (congrArg BenchSt.warm (bn_of_offChans (hoff _) b):)⟩
  · rw [hctl, ctl_modCtl_same hb]
    rfl
  · rw [hctl, ctl_modCtl_same hb] at hk
    rcases List.mem_append.1 hk with hk | hk
    · exact hs k hk
    · rw [List.mem_singleton.1 hk]
  · refine (rd_wr_key _ _ _ _ _ _ ?_).trans (rd_modBench s b _ _ _)
    simp only [Fam.key, Fam.rel, R.BENCH_TR_CTRL_THRESH, R.BENCH_TR_COUNT_COUNT]
    omega

theorem TasksQueued.power {b ch : Nat} {s t : State} (h : TasksQueued b ch s t) : t.power = s.power := by rw [h.frame]
theorem TasksQueued.fuse {b ch : Nat} {s t : State} (h : TasksQueued b ch s t) : t.fuse = s.fuse := by rw [h.frame]
theorem TasksQueued.rd {b ch : Nat} {s t : State} (h : TasksQueued b ch s t) {f : Fam} (hf : f.held ≠ .bench) (i : List Nat) :
    t.rd f i = s.rd f i := rd_congr (by rw [h.frame]) (by rw [h.frame]) hf i
theorem TasksQueued.reads {b ch : Nat} {s t : State} (h : TasksQueued b ch s t) : (t.ctl b ch).reads = (s.ctl b ch).reads :=
  (congrArg ChanCtl.reads h.ctl :)
theorem TasksQueued.writes {b ch : Nat} {s t : State} (h : TasksQueued b ch s t) : (t.ctl b ch).writes = (s.ctl b ch).writes :=
  (congrArg ChanCtl.writes h.ctl :)
theorem TasksQueued.openRow {b ch : Nat} {s t : State} (h : TasksQueued b ch s t) :
    (t.ctl b ch).openRow = (s.ctl b ch).openRow := (congrArg ChanCtl.openRow h.ctl :)
theorem TasksQueued.debt {b ch : Nat} {s t : State} (h : TasksQueued b ch s t) : (t.ctl b ch).debt = (s.ctl b ch).debt :=
  (congrArg ChanCtl.debt h.ctl :)

theorem tasksQueued_fillTasks {s : State} {b : Nat} (hb : b < s.bench.length) (ch : Nat) :
    TasksQueued b ch s (s.fillTasks b ch) :=
  foldl_inv (TasksQueued b ch s) _ (fun t a h => by
    split_ifs
    · have ht : b < t.bench.length := by rwa [length_of_offChans h.offChans]
      exact h.trans (tasksQueued_queueTask ht ch _ _)
    · exact h) _ (.refl b ch s)

/-! ### Commands of a slot -/

/-- A command slot of a bench in service: it is on and not in self-refresh, and neither pauses nor drains. -/
structure SlotFree (s : State) (b ch : Nat) : Prop where
  here : b < s.bench.length
  chan : ch < 2
  on : s.benchOn b = true
  live : s.live (benchDom b (1 + ch)) = true
  awake : (s.bn b).selfRefresh = false
  running : (s.bn b).paused = none
  accepting : (s.bn b).drain = none

theorem SlotFree.fillTasks {s : State} {b ch : Nat} (h : SlotFree s b ch) : SlotFree (s.fillTasks b ch) b ch := by
  have hq := tasksQueued_fillTasks h.here ch
  have hbn := bn_of_offChans hq.offChans b
  exact ⟨(length_of_offChans hq.offChans).symm ▸ h.here, h.chan, (benchOn_congr hq.power hq.fuse b).trans h.on, (live_of_power hq.power _).trans h.live,
    (congrArg BenchSt.selfRefresh hbn :).trans h.awake, (congrArg BenchSt.paused hbn :).trans h.running,
    (congrArg BenchSt.drain hbn :).trans h.accepting⟩

/-- The first bank in line when it owes 8 refreshes. -/
theorem find?_owing {l : List Int} {k : Nat} (hk : k < 32) (hdebt : 8 ≤ l.getD k 0) (hfirst : ∀ j, j < k → l.getD j 0 < 8) :
    ((List.range 32).find? fun j => decide (8 ≤ l.getD j 0)) = some k := by
  rw [List.find?_range_eq_some]
  refine ⟨decide_eq_true hdebt, List.mem_range.2 hk, fun j hj => ?_⟩
  simpa using hfirst j hj

/-- A bank that owes 8 refreshes goes first (R111, R116). -/
theorem benchIssue_of_debt {s : State} {b ch k : Nat} (h : SlotFree s b ch) (hk : k < 32)
    (hdebt : 8 ≤ (s.ctl b ch).debt.getD k 0) (hfirst : ∀ j, j < k → (s.ctl b ch).debt.getD j 0 < 8) :
    s.benchIssue b ch = (s.fillTasks b ch).issueRefresh b ch k := by
  have hd := (tasksQueued_fillTasks h.here ch).debt
  unfold State.benchIssue
  simp [h.on, h.live, h.awake, h.running, h.chan, hd, -List.getD_eq_getElem?_getD, find?_owing hk hdebt hfirst]

/-- The only request of a controller, on an open row, while nothing of it owes 8 refreshes or has aged. -/
structure LoneHit (s : State) (b ch : Nat) (r : BReq) : Prop where
  slot : SlotFree s b ch
  owed : ∀ k, k < 32 → (s.ctl b ch).debt.getD k 0 < 8
  young : ∀ k ∈ (s.ctl b ch).tasks, k.aged = false
  tokens : 0 < (s.bn b).tokens
  row : (s.ctl b ch).openRow.getD r.bank none = some (rowOf r.loc)
  room : s.upRoom b = true
  reads : (s.ctl b ch).reads = if r.write then [] else [r]
  writes : (s.ctl b ch).writes = if r.write then [r] else []

theorem LoneHit.fillTasks {s : State} {b ch : Nat} {r : BReq} (h : LoneHit s b ch r) : LoneHit (s.fillTasks b ch) b ch r := by
  have hq := tasksQueued_fillTasks h.slot.here ch
  have hshaft : (s.fillTasks b ch).shaft = s.shaft := by rw [hq.frame]
  have hroom : (s.fillTasks b ch).upRoom b = s.upRoom b := by
    rw [State.upRoom, State.upRoom, State.link, State.link, hshaft]
  exact ⟨h.slot.fillTasks, hq.debt ▸ h.owed, hq.young h.young,
    h.tokens.trans_eq (congrArg BenchSt.tokens (bn_of_offChans hq.offChans b) :).symm, hq.openRow ▸ h.row,
    hroom.trans h.room, hq.reads.trans h.reads, hq.writes.trans h.writes⟩

theorem LoneHit.queued {s : State} {b ch : Nat} {r : BReq} (h : LoneHit s b ch r) :
    (s.ctl b ch).reads ++ (s.ctl b ch).writes = [r] := by
  rw [h.reads, h.writes]
  cases r.write <;> rfl

theorem LoneHit.inOrder {s : State} {b ch : Nat} {r : BReq} (h : LoneHit s b ch r) : (s.ctl b ch).inOrder r = true := by
  unfold ChanCtl.inOrder
  rw [h.queued]
  simp

theorem LoneHit.batch {s : State} {b ch : Nat} {r : BReq} (h : LoneHit s b ch r) : (s.ctl b ch).batch = r.write := by
  unfold ChanCtl.batch
  rw [h.reads, h.writes]
  cases r.write <;> simp [h.inOrder]

theorem LoneHit.due {s : State} {b ch : Nat} {r : BReq} (h : LoneHit s b ch r) :
    (if r.write = true then (s.ctl b ch).writes else (s.ctl b ch).reads).filter (s.ctl b ch).inOrder = [r] := by
  rw [h.reads, h.writes]
  cases r.write <;> simp [h.inOrder]

/-- The only request needs its column command on the open row, whatever the cap on row hits. -/
theorem nextCmd_of_alone (s : State) (b : Nat) {c : ChanCtl} {r : BReq} (hall : c.reads ++ c.writes = [r])
    (hrow : c.openRow.getD r.bank none = some (rowOf r.loc)) : s.nextCmd b c r = .column := by
  unfold State.nextCmd
  rw [hrow, hall]
  simp

/-- A controller with the batch in hand that R111 gives it. -/
def State.setBatch (s : State) (b ch : Nat) (w : Bool) : State := s.modCtl b ch fun c => { c with writing := w }

theorem LoneHit.allowed {s : State} {b ch : Nat} {r : BReq} (h : LoneHit s b ch r) (w : Bool) :
    (s.setBatch b ch w).cmdAllowed b ch (s.ctl b ch) r = true := by
  have htok : ((s.setBatch b ch w).bn b).tokens = (s.bn b).tokens :=
    (congrArg BenchSt.tokens (bn_of_offChans (offChans_modCtl s b ch _) b) :)
  have hroom : (s.setBatch b ch w).upRoom b = s.upRoom b := rfl
  unfold State.cmdAllowed
  rw [nextCmd_of_alone _ b h.queued h.row]
  simp [htok, hroom, h.tokens, h.room, h.slot.chan]

/-- The only request is served with its column command (R111, R112). -/
theorem benchIssue_of_loneHit {s : State} {b ch : Nat} {r : BReq} (h : LoneHit s b ch r) :
    s.benchIssue b ch = ((s.fillTasks b ch).setBatch b ch r.write).issueReq b ch r := by
  have hf := h.fillTasks
  have howed : ((List.range 32).find? fun j => decide (8 ≤ ((s.fillTasks b ch).ctl b ch).debt.getD j 0)) = none := by
    rw [List.find?_eq_none]
    intro j hj
    simpa using hf.owed j (List.mem_range.1 hj)
  have haged : ((s.fillTasks b ch).ctl b ch).tasks.find? (·.aged) = none := by
    rw [List.find?_eq_none]
    intro k hk
    simp [hf.young k hk]
  have hallowed := hf.allowed r.write
  unfold State.setBatch at hallowed ⊢
  unfold State.benchIssue
  simp [h.slot.on, h.slot.live, h.slot.awake, h.slot.running, h.slot.chan, howed, haged, hf.batch, hf.due, State.pick, hallowed,
    nextCmd_of_alone _ b hf.queued hf.row, -List.getD_eq_getElem?_getD]

end Sys2Proof.Machine
end

section
/-! SUPPORT. A request performed at the memory layers: a read leaves DRAM as it is, a write stores its portions on the layers that
it commands and nowhere else (R109, R110). -/
namespace Sys2Proof.Machine
open Sys2Proof.Safety

/-! ### Portions put into layers -/

theorem place_congr {s t : State} (hh : t.hash = s.hash) (hr : t.remaps = s.remaps) (layer slab : Nat) :
    t.place layer slab = s.place layer slab := by rw [State.place, State.place, hh, hr]

theorem hash_congr {s t : State} (hr : t.regs = s.regs) (hl : t.lregs = s.lregs) : t.hash = s.hash := by
  rw [State.hash, State.hash, State.is, State.is, rd_congr hr hl (by decide)]

/-- R110: a request commands the same layers while the registers of the base die, the part and its power stay as they are. -/
theorem cmdLayers_congr {s t : State} (hp : t.power = s.power) (hf : t.fuse = s.fuse) (hs : t.ras = s.ras) (hr : t.regs = s.regs)
    (hl : t.lregs = s.lregs) (b layers slab : Nat) : t.cmdLayers b layers slab = s.cmdLayers b layers slab := by
  have hrd : ∀ f : Fam, f.held ≠ .bench → ∀ i, t.rd f i = s.rd f i := fun f hb i => rd_congr hr hl hb i
  have hlayer : ∀ n, t.layer n = s.layer n := fun n => layer_congr hp hf (by rw [hs]) (hrd _ (by decide) _)
  have hplanned : ∀ n, t.planned n slab = s.planned n slab := fun n => by
    simp only [State.planned, State.posOf, hash_congr hr hl, State.is, hrd R.CODE_PLANNED_ACTIVE (by decide),
      hrd R.CODE_PLANNED_LAYER (by decide), hrd R.CODE_PLANNED_CHANNEL (by decide), hrd R.CODE_PLANNED_BANK_GROUP (by decide),
      hrd R.CODE_PLANNED_BANK (by decide), hrd R.CODE_PLANNED_ROW_GROUP (by decide),
      hrd R.TEST_CS_PROGRESS_REBUILD_PTR (by decide)]
  simp only [State.cmdLayers, hlayer, hplanned]

/-- Portions of one slab written, one after the other. -/
def State.pokeAll (s : State) (slab : Nat) (data : Nat → List Byte) (ns : List Nat) : State :=
  ns.foldl (fun s n => s.poke (s.place n slab) (data n)) s

theorem putPortions_eq (s : State) (b layers slab : Nat) (lower upper : List Byte) :
    s.putPortions b layers slab lower upper =
      s.pokeAll slab (fun n => if n = 2 * b then lower else upper) (s.cmdLayers b layers slab) := rfl

theorem pokeAll_frame (s : State) (slab : Nat) (data : Nat → List Byte) (ns : List Nat) :
    s.pokeAll slab data ns = { s with dram := (s.pokeAll slab data ns).dram } := by
  unfold State.pokeAll
  induction ns generalizing s with
  | nil => rfl
  | cons n ns ih =>
    rw [List.foldl_cons, ih]
    rfl

theorem place_pokeAll (s : State) (slab : Nat) (data : Nat → List Byte) (ns : List Nat) (layer slab' : Nat) :
    (s.pokeAll slab data ns).place layer slab' = s.place layer slab' := by
  rw [pokeAll_frame]
  rfl

/-- A byte in none of the portions written reads as before. -/
theorem peek_pokeAll_out (s : State) {slab : Nat} {data : Nat → List Byte} {ns : List Nat} (hlen : ∀ n, (data n).length = portionBytes)
    {a : Nat} (ha : ¬ InPortion s ns slab a) : (s.pokeAll slab data ns).peek a = s.peek a := by
  induction ns generalizing s with
  | nil => rfl
  | cons n ns ih =>
    have hrest : ¬ InPortion (s.poke (s.place n slab) (data n)) ns slab a := fun ⟨m, hm, h⟩ =>
      ha ⟨m, List.mem_cons_of_mem n hm, h⟩
    have hn : ¬ (s.place n slab ≤ a ∧ a < s.place n slab + portionBytes) := fun h => ha ⟨n, List.mem_cons_self, h⟩
    refine (ih _ hrest).trans (peek_poke_out s _ _ a ?_)
    rw [hlen]
    omega

/-- The portion of a layer that no later write reaches reads as it was written. -/
theorem readPortion_pokeAll (s : State) {slab : Nat} {data : Nat → List Byte} {ns : List Nat}
    (hlen : ∀ n, (data n).length = portionBytes) (hnd : ns.Nodup)
    (hinj : ∀ m ∈ ns, ∀ n ∈ ns, portionIndex s.hash s.remaps m slab = portionIndex s.hash s.remaps n slab → m = n)
    {n : Nat} (hn : n ∈ ns) : (s.pokeAll slab data ns).readPortion n slab = data n := by
  induction ns generalizing s with
  | nil => exact absurd hn List.not_mem_nil
  | cons m ns ih =>
    obtain ⟨hm, hnd⟩ := List.nodup_cons.1 hnd
    rcases List.mem_cons.1 hn with rfl | hn
    · refine Eq.trans ?_ (readPortion_poke s n slab (data n) (hlen n))
      have hout : ∀ i, i < portionBytes → ¬ InPortion (s.poke (s.place n slab) (data n)) ns slab (s.place n slab + i) := by
        rintro i hi ⟨k, hk, hlo, hhi⟩
        have hlo : portionIndex s.hash s.remaps k slab * portionBytes ≤ portionIndex s.hash s.remaps n slab * portionBytes + i := hlo
        have hhi : portionIndex s.hash s.remaps n slab * portionBytes + i <
          portionIndex s.hash s.remaps k slab * portionBytes + portionBytes := hhi
        have hidx : portionIndex s.hash s.remaps k slab = portionIndex s.hash s.remaps n slab := by
          unfold portionBytes at *
          omega
        exact hm (hinj k (List.mem_cons_of_mem n hk) n List.mem_cons_self hidx ▸ hk)
      rw [readPortion_eq, readPortion_eq]
      refine List.map_congr_left fun i hi => ?_
      have hplace : (s.pokeAll slab data (n :: ns)).place n slab = s.place n slab := place_pokeAll s slab data _ n slab
      rw [hplace]
      exact peek_pokeAll_out _ hlen (hout i (List.mem_range.1 hi))
    · exact ih _ hnd (fun k hk l hl => hinj k (List.mem_cons_of_mem m hk) l (List.mem_cons_of_mem m hl)) hn

/-- A clear of every slab on every layer, with the hash and remaps given: it tells the layer of a portion index. -/
def wholeClear (hash : Bool) (rs : List Remap) : ClearSeg := ⟨false, 9, 2 ^ 18 - 1, 0, 2 ^ 27, 0, hash, rs⟩

/-- The portions of a slab on two layers have different indices (R48, R134). -/
theorem portionIndex_inj {s : State} (hok : RemapsOk s) {m n slab : Nat} (hm : m < 18) (hn : n < 18) (hs : slab < 2 ^ 27)
    (h : portionIndex s.hash s.remaps m slab = portionIndex s.hash s.remaps n slab) : m = n := by
  have hbit : ∀ k, k < 18 → (2 ^ 18 - 1).testBit k = true := by decide
  have hslab : ∀ k, k < 18 → (wholeClear s.hash s.remaps).slabOf (portionIndex s.hash s.remaps k slab) = some (k, slab) :=
    fun k hk => slabOf_portionIndex (g := wholeClear s.hash s.remaps) hok.1 hok.2 hk hs (hbit k hk) (Nat.zero_le _) hs
  have := (hslab m hm).symm.trans (h ▸ hslab n hn)
  simpa using this

theorem cmdLayers_nodup (s : State) (b layers slab : Nat) : (s.cmdLayers b layers slab).Nodup := by
  refine List.Nodup.filter _ ?_
  simp

theorem cmdLayers_lt {s : State} {b layers slab n : Nat} (hb : b < s.nBench) (h : n ∈ s.cmdLayers b layers slab) : n < 18 := by
  have hmem : n ∈ [2 * b, 2 * b + 1] := (List.mem_filter.1 h).1
  have h9 := nLayer_le s
  unfold State.nLayer at h9
  simp only [List.mem_cons, List.not_mem_nil, or_false] at hmem
  omega

/-! ### A request performed -/

theorem performReq_bench (s : State) (b : Nat) (r : BReq) : (s.performReq b r).bench = s.bench := by
  unfold State.performReq State.performWrite
  split_ifs
  · rw [putPortions_eq, pokeAll_frame]
    rfl
  · exact (linksKept_sendItems _ b false _).bench

/-- A read performed leaves every byte as it is (R109). -/
theorem peek_performReq_read (s : State) (b : Nat) {r : BReq} (h : r.write = false) (a : Nat) :
    (s.performReq b r).peek a = s.peek a := by
  unfold State.performReq
  rw [if_neg (by simp [h])]
  exact peek_congr (linksKept_sendItems _ b false _).dram (linksKept_sendItems _ b false _).segs a

/-- What a write puts on a layer that it commands. -/
def BReq.portionOn (r : BReq) (b n : Nat) : List Byte := if n = 2 * b then r.lower else r.upper

theorem performReq_write (s : State) (b : Nat) {r : BReq} (h : r.write = true) :
    s.performReq b r = (s.pokeAll (locOf s.hash r.loc) (r.portionOn b) (s.reqLayers b r)).modShaft b fun l =>
      { l with flight := dropFirst (fun e => e.write && e.tag == r.tag) l.flight } := if_pos h

/-! ### The column command -/

/-- `t` is `s` once a request has left its queue at a controller, at the cost of a token (R112, R113, R145). -/
structure Dequeued (b ch : Nat) (r : BReq) (s t : State) : Prop where
  frame : t = { s with bench := t.bench, shaft := t.shaft }
  remaps : t.remaps = s.remaps
  drain : (t.bn b).drain = (s.bn b).drain
  length : t.bench.length = s.bench.length
  reads : (t.ctl b ch).reads = (s.ctl b ch).reads.filter (·.ord != r.ord)
  writes : (t.ctl b ch).writes = (s.ctl b ch).writes.filter (·.ord != r.ord)

theorem spend_cases (s : State) (b : Nat) : s.spend b = s ∨ s.spend b = s.modBench b fun x => { x with tokens := x.tokens - 1 } := by
  unfold State.spend
  split_ifs
  · exact .inl rfl
  · exact .inr rfl

theorem ctl_spend {s : State} {b : Nat} (hb : b < s.bench.length) (ch : Nat) : (s.spend b).ctl b ch = s.ctl b ch := by
  obtain h | h := spend_cases s b
  · rw [h]
  · rw [h, State.ctl, State.ctl, bn_modBench_same hb]

theorem remaps_modBench (s : State) (b : Nat) {f : BenchSt → BenchSt} (hf : ∀ x, (f x).remaps = x.remaps) :
    (s.modBench b f).remaps = s.remaps := by
  have h : ∀ u : State, u.remaps = (u.bench.map (·.remaps)).flatten := fun u => List.flatMap_def
  rw [h, h]
  exact congrArg List.flatten (map_modAt _ f hf s.bench b)

theorem dequeued_leaveQueue {s : State} {b : Nat} (hb : b < s.bench.length) (ch : Nat) (r : BReq) {f : ChanCtl → ChanCtl}
    (hr : ∀ c, (f c).reads = c.reads.filter (·.ord != r.ord)) (hw : ∀ c, (f c).writes = c.writes.filter (·.ord != r.ord)) :
    Dequeued b ch r s (((s.spend b).modCtl b ch f).leaveQueue b ch r) := by
  have hspend : b < (s.spend b).bench.length := by
    obtain h | h := spend_cases s b <;> simpa [h] using hb
  have hoff := offChans_modCtl (s.spend b) b ch f
  have hctl : (((s.spend b).modCtl b ch f).leaveQueue b ch r).ctl b ch = f (s.ctl b ch) :=
    (ctl_modCtl_same hspend ch f).trans (by rw [ctl_spend hb])
  have hdrain : ((((s.spend b).modCtl b ch f).leaveQueue b ch r).bn b).drain = ((s.spend b).bn b).drain :=
    (congrArg BenchSt.drain (bn_of_offChans hoff b) :)
  refine ⟨?_, (remaps_of_offChans hoff).trans ?_, hdrain.trans ?_, (length_of_offChans hoff).trans ?_, hctl ▸ hr _, hctl ▸ hw _⟩
  all_goals obtain h | h := spend_cases s b <;> rw [h]
  · rfl
  · rfl
  · exact remaps_modBench s b fun _ => rfl
  · rw [bn_modBench_same hb]
  · exact length_modBench s b _

/-- A request whose next command is the column command leaves its queue and is performed; the bank may close behind it (R112). -/
theorem issueReq_column {s : State} {b ch : Nat} {r : BReq} (hb : b < s.bench.length)
    (h : s.nextCmd b (s.ctl b ch) r = .column) : ∃ t, Dequeued b ch r s t ∧
      (s.issueReq b ch r = t.performReq b r ∨ s.issueReq b ch r = (t.performReq b r).closeBank b ch r.bank) := by
  unfold State.issueReq
  rw [h]
  dsimp only
  split_ifs
  · exact ⟨_, dequeued_leaveQueue hb ch r (by exact fun _ => rfl) (by exact fun _ => rfl), .inr rfl⟩
  · exact ⟨_, dequeued_leaveQueue hb ch r (by exact fun _ => rfl) (by exact fun _ => rfl), .inl rfl⟩

/-- A bank that closes leaves DRAM, where portions stand, and the requests that wait. -/
theorem closeBank_ctl {s : State} {b : Nat} (hb : b < s.bench.length) (ch bank : Nat) :
    ((s.closeBank b ch bank).ctl b ch).reads = (s.ctl b ch).reads ∧
      ((s.closeBank b ch bank).ctl b ch).writes = (s.ctl b ch).writes ∧
      ((s.closeBank b ch bank).ctl b ch).openRow = setAt (s.ctl b ch).openRow bank none := by
  unfold State.closeBank
  rw [ctl_modCtl_same hb]
  exact ⟨rfl, rfl, rfl⟩

theorem closeBank_offChans (s : State) (b ch bank : Nat) : (s.closeBank b ch bank).offChans = s.offChans :=
  offChans_modCtl s b ch _

/-! ### The lone request served -/

/-- What is left where the lone request of a controller, having left its queue in `t`, has been performed. -/
structure ServedFrom (b ch : Nat) (r : BReq) (t u : State) : Prop where
  reads : (u.ctl b ch).reads = (t.ctl b ch).reads
  writes : (u.ctl b ch).writes = (t.ctl b ch).writes
  drain : (u.bn b).drain = (t.bn b).drain
  peek : ∀ a, u.peek a = (t.performReq b r).peek a
  portions : ∀ n slab, u.readPortion n slab = (t.performReq b r).readPortion n slab

theorem servedFrom_performReq (b ch : Nat) (r : BReq) (t : State) : ServedFrom b ch r t (t.performReq b r) := by
  have hbench := performReq_bench t b r
  exact ⟨by rw [ctl_congr hbench], by rw [ctl_congr hbench], by rw [bn_congr hbench], fun _ => rfl, fun _ _ => rfl⟩

theorem readPortion_congr {s t : State} (hh : t.hash = s.hash) (hr : t.remaps = s.remaps) (hp : ∀ a, t.peek a = s.peek a)
    (n slab : Nat) : t.readPortion n slab = s.readPortion n slab := by
  rw [readPortion_eq, readPortion_eq, place_congr hh hr]
  simp only [hp]

theorem servedFrom_closeBank {b ch : Nat} {r : BReq} {t : State} (hb : b < t.bench.length) :
    ServedFrom b ch r t ((t.performReq b r).closeBank b ch r.bank) := by
  have hserved := servedFrom_performReq b ch r t
  have hlen : b < (t.performReq b r).bench.length := by rwa [performReq_bench]
  obtain ⟨hreads, hwrites, -⟩ := closeBank_ctl hlen ch r.bank
  have hoff := closeBank_offChans (t.performReq b r) b ch r.bank
  exact ⟨hreads.trans hserved.reads, hwrites.trans hserved.writes,
    (congrArg BenchSt.drain (bn_of_offChans hoff b) :).trans hserved.drain, fun _ => rfl,
    readPortion_congr rfl (remaps_of_offChans hoff) fun _ => rfl⟩

end Sys2Proof.Machine
end

section
/-! PROOFS. A command slot of a channel controller (R109 to R113, R116). -/
namespace Sys2Proof.Machine
open Sys2Proof.Safety

theorem drainGo_of_none {s : State} {b : Nat} (h : (s.bn b).drain = none) : s.drainGo b = s := by
  unfold State.drainGo
  rw [h]
  rfl

/-- What a command slot leads to where the bench does not drain. -/
theorem leads_benchCommandIssue {s : State} {b ch : Nat} {P : State → Prop} (hi : s.fault.inj = none)
    (hd : ((s.benchIssue b ch).bn b).drain = none) (hP : P (s.benchIssue b ch)) : Leads (.benchCommandIssue b ch) s P := by
  refine leads_next (t := s.benchIssue b ch) ?_ hP
  have hexec : exec (.benchCommandIssue b ch) s =
      .next (((if s.benchOn b then s.checkArray (8 + b) else s).benchIssue b ch).drainGo b) := rfl
  rw [hexec, checkArray_of_no_injection hi, ite_self, drainGo_of_none hd]

/-- R116: a closed bank that owes 8 refreshes is refreshed. -/
theorem refresh_served_first {s : State} {b ch k : Nat} (h : SlotFree s b ch) (hi : s.fault.inj = none) (hk : k < 32)
    (hdebt : 8 ≤ (s.ctl b ch).debt.getD k 0) (hfirst : ∀ j, j < k → (s.ctl b ch).debt.getD j 0 < 8)
    (hrow : (s.ctl b ch).openRow.getD k none = none) :
    Leads (.benchCommandIssue b ch) s fun t =>
      (t.ctl b ch).debt.getD k 0 = (s.ctl b ch).debt.getD k 0 - 1 ∧ t.dram = s.dram := by
  have hq := tasksQueued_fillTasks h.here ch
  have hdram : (s.fillTasks b ch).dram = s.dram := by rw [hq.frame]
  have hin : k < (s.ctl b ch).debt.length := by
    by_contra hout
    rw [List.getD_eq_default _ _ (Nat.le_of_not_lt hout)] at hdebt
    omega
  have hissue : s.benchIssue b ch = (s.fillTasks b ch).modCtl b ch fun c => { c with debt := modAt (· - 1) c.debt k } := by
    rw [benchIssue_of_debt h hk hdebt hfirst, State.issueRefresh, hq.openRow, hrow]
    rfl
  refine leads_benchCommandIssue hi ?_ ⟨?_, ?_⟩ <;> rw [hissue]
  · exact (congrArg BenchSt.drain (bn_of_offChans ((offChans_modCtl _ b ch _).trans hq.offChans) b) :).trans h.accepting
  · rw [ctl_modCtl_same h.fillTasks.here, hq.debt]
    exact getD_modAt_same _ hin 0
  · exact hdram

/-- The lone request of an open row leaves its queue and is performed in one slot. -/
theorem loneHit_served {s : State} {b ch : Nat} {r : BReq} (h : LoneHit s b ch r) :
    ∃ t, t = { s with bench := t.bench, bregs := t.bregs, shaft := t.shaft } ∧ t.remaps = s.remaps ∧
      (t.ctl b ch).reads = [] ∧ (t.ctl b ch).writes = [] ∧ (t.bn b).drain = none ∧ ServedFrom b ch r t (s.benchIssue b ch) := by
  have hq := tasksQueued_fillTasks h.slot.here ch
  have hlen : b < ((s.fillTasks b ch).setBatch b ch r.write).bench.length := by
    simpa [State.setBatch] using h.fillTasks.slot.here
  have hctl : ((s.fillTasks b ch).setBatch b ch r.write).ctl b ch = { (s.fillTasks b ch).ctl b ch with writing := r.write } :=
    ctl_modCtl_same h.fillTasks.slot.here ch _
  have hoff : ((s.fillTasks b ch).setBatch b ch r.write).offChans = s.offChans := (offChans_modCtl _ b ch _).trans hq.offChans
  have hcol : ((s.fillTasks b ch).setBatch b ch r.write).nextCmd b (((s.fillTasks b ch).setBatch b ch r.write).ctl b ch) r =
      .column := by
    rw [hctl]
    exact nextCmd_of_alone _ b h.fillTasks.queued h.fillTasks.row
  have hgone : ∀ l : List BReq, l = [] ∨ l = [r] → l.filter (·.ord != r.ord) = [] := by
    rintro l (rfl | rfl) <;> simp
  obtain ⟨t, ht, hserved⟩ := issueReq_column hlen hcol
  refine ⟨t, ?_, ht.remaps.trans (remaps_of_offChans hoff), ?_, ?_, ?_, ?_⟩
  · rw [ht.frame]
    unfold State.setBatch State.modCtl State.modBench
    conv_lhs => rw [hq.frame]
  · rw [ht.reads, hctl]
    refine hgone _ ?_
    rw [h.fillTasks.reads]
    cases r.write <;> simp
  · rw [ht.writes, hctl]
    refine hgone _ ?_
    rw [h.fillTasks.writes]
    cases r.write <;> simp
  · exact ht.drain.trans ((congrArg BenchSt.drain (bn_of_offChans hoff b) :).trans h.slot.accepting)
  · rw [benchIssue_of_loneHit h]
    obtain heq | heq := hserved <;> rw [heq]
    · exact servedFrom_performReq b ch r t
    · exact servedFrom_closeBank (ht.length ▸ hlen)

/-- R109: a read that is served leaves every byte as it was. -/
theorem read_served {s : State} {b ch : Nat} {r : BReq} (h : LoneHit s b ch r) (hi : s.fault.inj = none)
    (hr : r.write = false) :
    Leads (.benchCommandIssue b ch) s fun t => (t.ctl b ch).reads = [] ∧ ∀ a, t.peek a = s.peek a := by
  obtain ⟨t, hframe, -, hreads, -, hdrain, hserved⟩ := loneHit_served h
  have hdram : t.dram = s.dram := by rw [hframe]
  have hsegs : t.segs = s.segs := by rw [hframe]
  refine leads_benchCommandIssue hi (hserved.drain.trans hdrain) ⟨hserved.reads.trans hreads, fun a => ?_⟩
  rw [hserved.peek, peek_performReq_read t b hr, peek_congr hdram hsegs]

/-- R110: a write that is served stores its portions on the layers that it commands, and no other byte. -/
theorem write_served {s : State} {b ch : Nat} {r : BReq} (h : LoneHit s b ch r) (hi : s.fault.inj = none)
    (hr : r.write = true) (hlower : r.lower.length = portionBytes) (hupper : r.upper.length = portionBytes) :
    Leads (.benchCommandIssue b ch) s fun t => (t.ctl b ch).writes = [] ∧
      (RemapsOk s → r.loc < 2 ^ 27 → ∀ n ∈ s.reqLayers b r,
        t.readPortion n (locOf s.hash r.loc) = if n = 2 * b then r.lower else r.upper) ∧
      ∀ a, ¬ InPortion s (s.reqLayers b r) (locOf s.hash r.loc) a → t.peek a = s.peek a := by
  obtain ⟨t, hframe, hremaps, -, hwrites, hdrain, hserved⟩ := loneHit_served h
  have hdram : t.dram = s.dram := by rw [hframe]
  have hsegs : t.segs = s.segs := by rw [hframe]
  have hhash : t.hash = s.hash := hash_congr (by rw [hframe]) (by rw [hframe])
  have hlayers : t.reqLayers b r = s.reqLayers b r := by
    rw [State.reqLayers, State.reqLayers, hhash]
    exact cmdLayers_congr (by rw [hframe]) (by rw [hframe]) (by rw [hframe]) (by rw [hframe]) (by rw [hframe]) b _ _
  have hlen : ∀ n, (r.portionOn b n).length = portionBytes := fun n => by
    unfold BReq.portionOn
    split_ifs <;> assumption
  have hb : b < s.nBench := by
    have hon := h.slot.on
    simp only [State.benchOn, Bool.and_eq_true, decide_eq_true_eq] at hon
    exact hon.1
  refine leads_benchCommandIssue hi (hserved.drain.trans hdrain) ⟨hserved.writes.trans hwrites, fun hok hloc n hn => ?_, fun a ha => ?_⟩
  · rw [hserved.portions, performReq_write t b hr, hhash, hlayers]
    refine readPortion_pokeAll t hlen (cmdLayers_nodup s b _ _) (fun k hk l hl hidx => ?_) hn
    rw [hhash, hremaps] at hidx
    exact portionIndex_inj hok (cmdLayers_lt hb hk) (cmdLayers_lt hb hl) (locOf_lt hloc) hidx
  · rw [hserved.peek, performReq_write t b hr, hhash, hlayers]
    refine (peek_pokeAll_out t hlen fun ⟨n, hn, hlo, hhi⟩ => ha ⟨n, hn, ?_⟩).trans (peek_congr hdram hsegs a)
    rw [← place_congr hhash hremaps]
    exact ⟨hlo, hhi⟩

end Sys2Proof.Machine
end

section
/-! PROOFS. What falls due at a bench: refresh, idle close, aged tasks, the window, the warm-up and the estimates (R112 to R118). -/
namespace Sys2Proof.Machine
open Sys2Proof.Safety

/-- An event of a base-die block with a source that reacts with NOTE at most does nothing but what `Quiet` says. -/
theorem quiet_raise_detect {s : State} {e : Ev} (i : List Nat) (he : e.bit.held = .base) {n : Nat} (hn : n < 128) (h : Mild s n) :
    Quiet s ((s.raise e i).detect [n]) := by
  have hraise := quiet_raise s e i he
  refine hraise.trans (detect_mild _ [n] fun k hk => ?_)
  rw [List.mem_singleton.1 hk, Mild, hraise.2 n hn]
  exact h

theorem Quiet.bench {s t : State} (h : Quiet s t) : t.bench = s.bench := by rw [h.1]
theorem Quiet.dram {s t : State} (h : Quiet s t) : t.dram = s.dram := by rw [h.1]

/-- R116: a bank's refresh falls due. -/
theorem refresh_falls_due {s : State} {b ch bank : Nat} (hon : s.benchOn b = true) (hb : b < s.bench.length) (hch : ch < 2)
    (hbank : bank < 32) (hin : bank < (s.ctl b ch).debt.length) (hawake : (s.bn b).selfRefresh = false) (hm : Mild s 46) :
    Leads (.bankRefresh b ch bank) s fun t => (t.ctl b ch).debt.getD bank 0 = (s.ctl b ch).debt.getD bank 0 + 1 := by
  refine leads_next (t := s.bankRefresh b ch bank) rfl ?_
  have howed : ∀ u : State, u.bench = (s.modCtl b ch fun c => { c with debt := modAt (· + 1) c.debt bank }).bench →
      (u.ctl b ch).debt.getD bank 0 = (s.ctl b ch).debt.getD bank 0 + 1 := fun u hu => by
    rw [ctl_congr hu, ctl_modCtl_same hb]
    exact getD_modAt_same _ hin 0
  unfold State.bankRefresh
  dsimp only
  rw [if_neg (by simp [hon, hawake, hch, hbank])]
  split_ifs
  · refine howed _ ((quiet_raise_detect [b] rfl (by decide) ?_).bench.trans (wr_bench _ _ _ _))
    rw [Mild, rd_wr_held _ _ _ _ _ _ (by decide)]
    exact hm
  · exact howed _ (wr_bench _ _ _ _)

/-- R112: a bank that is idle long enough closes. -/
theorem idle_bank_closes {s : State} {b ch : Nat} (hon : s.benchOn b = true) (hb : b < s.bench.length) (hch : ch < 2) (bank : Nat) :
    Leads (.pageIdleClose b ch bank) s fun t => (t.ctl b ch).openRow.getD bank none = none := by
  refine leads_next (t := if s.benchOn b && decide (ch < 2) then s.closeBank b ch bank else s) rfl ?_
  rw [if_pos (by simp [hon, hch]), (closeBank_ctl hb ch bank).2.2]
  exact getD_setAt_none _ bank

/-- R117: the oldest task of a bank ages. -/
theorem task_ages {s : State} {b ch : Nat} (hon : s.benchOn b = true) (hb : b < s.bench.length) (hch : ch < 2) {k : TrTask}
    {ks : List TrTask} (htasks : (s.ctl b ch).tasks = k :: ks) (hk : k.aged = false) :
    Leads (.trTaskAged b ch k.bank) s fun t => (t.ctl b ch).tasks = { k with aged := true } :: ks := by
  refine leads_next (t := s.taskAged b ch k.bank) rfl ?_
  rw [State.taskAged, if_pos (by simp [hon, hch]), ctl_modCtl_same hb, htasks]
  simp [modFirst, hk]

/-- R117: a bank's window is complete, and its activation counters are gone. -/
theorem window_resets {s : State} {b ch : Nat} (hon : s.benchOn b = true) (hb : b < s.bench.length) (hch : ch < 2) (bank : Nat) :
    Leads (.trWindowReset b ch bank) s fun t => ∀ g, (t.ctl b ch).act bank g = 0 := by
  refine leads_next (t := s.windowReset b ch bank) rfl fun g => ?_
  rw [State.windowReset, if_pos (by simp [hon, hch]), ctl_modCtl_same hb, ChanCtl.act, List.find?_eq_none.2]
  · rfl
  · intro a ha
    have := (List.mem_filter.1 ha).2
    simp_all

theorem rd_publishBench_warmup (s : State) (b : Nat) :
    (s.publishBench b).rd R.BENCH_STATUS_TR_WARMUP [b] = b2n (s.live (benchDom b 0) && (s.bn b).warm) := by
  unfold State.publishBench
  dsimp only
  rw [State.wrB, rd_wr_same]
  cases s.live (benchDom b 0) && (s.bn b).warm <;> rfl

theorem rd_publishBench_localTemp (s : State) (b : Nat) :
    (s.publishBench b).rd R.BENCH_STATUS_LOCAL_TEMP [b] = b2n (s.live (benchDom b 0) && (s.bn b).est.isNone) := by
  unfold State.publishBench
  dsimp only
  rw [State.wrB, rd_wr_key _ _ _ _ _ _ (by simp [Fam.key, Fam.rel, R.BENCH_STATUS_LOCAL_TEMP, R.BENCH_STATUS_TR_WARMUP]),
    State.wrB, rd_wr_same]
  cases s.live (benchDom b 0) && (s.bn b).est.isNone <;> rfl

/-- R118: the warm-up ends. -/
theorem warmup_ends {s : State} {b : Nat} (hon : s.benchOn b = true) (hb : b < s.bench.length) :
    Leads (.trWarmupEnd b) s fun t => (t.bn b).warm = false ∧ t.rd R.BENCH_STATUS_TR_WARMUP [b] = 0 := by
  refine leads_next (t := s.warmupEnd b) rfl ?_
  have hwarm : ((s.modBench b fun x => { x with warm := false }).bn b).warm = false := by rw [bn_modBench_same hb]
  rw [State.warmupEnd, if_pos hon, rd_publishBench_warmup, bn_congr (publishBench_bench _ b), hwarm]
  simp [b2n]

/-- R115: no model estimate has arrived: the bench relies on its diodes. -/
theorem estimate_is_lost {s : State} {b : Nat} (hon : s.benchOn b = true) (hb : b < s.bench.length) :
    Leads (.tempEstimateTimeout b) s fun t => (t.bn b).est = none ∧ t.rd R.BENCH_STATUS_LOCAL_TEMP [b] = 1 := by
  have hpublished : ∀ u : State, (u.bn b).est = none → u.live (benchDom b 0) = true →
      ((u.publishBench b).bn b).est = none ∧ (u.publishBench b).rd R.BENCH_STATUS_LOCAL_TEMP [b] = 1 := fun u he hl => by
    rw [rd_publishBench_localTemp, bn_congr (publishBench_bench u b), he, hl]
    exact ⟨rfl, rfl⟩
  have hlive : s.live (benchDom b 0) = true := by
    simp only [State.benchOn, Bool.and_eq_true] at hon
    exact hon.2
  have hest : ((s.modBench b fun x => { x with est := none }).bn b).est = none := by rw [bn_modBench_same hb]
  refine leads_next (t := s.estimateLost b) rfl ?_
  rw [State.estimateLost, if_pos hon, State.refreshRate, if_neg]
  · dsimp only
    split_ifs
    · exact hpublished _ hest hlive
    · refine hpublished _ ?_ ?_
      · rw [bn_congr (raise_bench _ _ _), bn_modBench_same (by simpa using hb)]
        exact hest
      · rw [live_of_power (raise_power _ _ _)]
        exact hlive
  · have : (s.modBench b fun x => { x with est := none }).benchOn b = true := (benchOn_congr rfl rfl b).trans hon
    simp [this]

end Sys2Proof.Machine
end

section
/-! PROOFS. Patrol slices granted, and patrol reads (R113, R117, R119 to R122). -/
namespace Sys2Proof.Machine
open Sys2Proof.Safety

/-! ### Slices -/

/-- R120: a frame to bench `b` while its link is in service and nothing waits leaves at once. -/
theorem mem_sent_sendDown {s : State} {b : Nat} (h : s.canSend b true = true) {type : Nat} (ht : hasInfo type = false)
    (f : Frame) : ∃ lanes, Output.shaft b true type f (lineWord type f) lanes ∈ (s.sendDown b type f).sent := by
  unfold State.sendDown State.sendFrame State.transmit
  rw [if_pos h]
  dsimp only
  simp only [ht, Bool.false_eq_true, if_false]
  exact ⟨_, List.mem_cons_self⟩

/-- R120: the slice that a tick grants bench `b`. -/
def State.grantPatrol (s : State) (b : Nat) : State :=
  if s.is R.BENCH_PATROL_CTRL_EN [b] && s.time.now % s.rd R.BENCH_PATROL_CTRL_INTERVAL [b] == 0 then
    s.sendDown b 0x32 ⟨0, s.rd R.BENCH_PATROL_CTRL_COUNT_M1 [b], [], []⟩
  else s

theorem patrolSlice_eq {s : State} (hg : s.patrolGrants = true) (hs : s.sliced 1 = false) :
    s.patrolSlice = (List.range s.nBench).foldl State.grantPatrol (s.grantSlice 1).patrolStatus := by
  unfold State.patrolSlice
  rw [if_neg (by simp [hg, hs])]
  rfl

theorem linksKept_grantPatrol (s : State) (b : Nat) : LinksKept s (s.grantPatrol b) :=
  linksKept_ite (linksKept_sendFrame s b true _ _) (.refl s)

theorem beside_grantPatrol {b c : Nat} (h : c ≠ b) (s : State) : Beside b s (s.grantPatrol c) :=
  beside_ite (beside_sendFrame h s true _ _) (.refl b s)

theorem beside_grantPatrols {b : Nat} {l : List Nat} (h : b ∉ l) (s : State) : Beside b s (l.foldl State.grantPatrol s) := by
  induction l generalizing s with
  | nil => exact .refl b s
  | cons c l ih =>
    obtain ⟨hc, hl⟩ := not_or.1 (fun h' => h (List.mem_cons.2 h'))
    exact (beside_grantPatrol (Ne.symm hc) s).trans (ih hl _)

theorem rd_patrolStatus (s : State) {f : Fam} {i : List Nat} (h : ∀ c, f.key i ≠ R.BENCH_STATUS_PATROL_RUNNING.key [c]) :
    s.patrolStatus.rd f i = s.rd f i :=
  foldl_keeps (fun t : State => t.rd f i) _ (fun _ c => rd_wr_key _ _ _ _ _ _ (h c)) _ s

theorem patrolStatus_time (s : State) : s.patrolStatus.time = s.time := foldl_keeps State.time _ (fun _ _ => wrB_time _ _ _ _) _ s
theorem patrolStatus_shaft (s : State) : s.patrolStatus.shaft = s.shaft :=
  foldl_keeps State.shaft _ (fun _ _ => wrB_shaft _ _ _ _) _ s

/-- The settings of bench `b`'s patrol and the state of its link, as a grant reads them. -/
structure PatrolDue (b : Nat) (s : State) : Prop where
  enabled : s.rd R.BENCH_PATROL_CTRL_EN [b] = 1
  interval : s.time.now % s.rd R.BENCH_PATROL_CTRL_INTERVAL [b] = 0
  free : s.canSend b true = true

theorem grantPatrol_of_due {s : State} {b : Nat} (h : PatrolDue b s) :
    s.grantPatrol b = s.sendDown b 0x32 ⟨0, s.rd R.BENCH_PATROL_CTRL_COUNT_M1 [b], [], []⟩ :=
  if_pos (by simp [State.is, h.enabled, h.interval])

/-- What a grant reads is as it was where the fields, rack time and the link are. -/
theorem PatrolDue.congr {s t : State} {b : Nat} (h : PatrolDue b s) (htime : t.time.now = s.time.now) (hlink : t.link b = s.link b)
    (hen : t.rd R.BENCH_PATROL_CTRL_EN [b] = s.rd R.BENCH_PATROL_CTRL_EN [b])
    (hint : t.rd R.BENCH_PATROL_CTRL_INTERVAL [b] = s.rd R.BENCH_PATROL_CTRL_INTERVAL [b])
    (hst : t.rd R.SHAFT_LINK_STATUS_STATE [b] = s.rd R.SHAFT_LINK_STATUS_STATE [b]) : PatrolDue b t := by
  refine ⟨hen.trans h.enabled, by rw [htime, hint, h.interval], Eq.trans ?_ h.free⟩
  simp only [State.canSend, State.linkState, State.dir, hst, hlink]

theorem patrol_slice_granted {s : State} {b : Nat} (hg : s.patrolGrants = true) (hs : s.sliced 1 = false) (hb : b < s.nBench)
    (hdue : PatrolDue b s) :
    Leads .patrolSlice s fun t => t.sliced 1 = true ∧
      let f : Frame := ⟨0, s.rd R.BENCH_PATROL_CTRL_COUNT_M1 [b], [], []⟩
      ∃ lanes, Output.shaft b true 0x32 f (lineWord 0x32 f) lanes ∈ t.sent := by
  refine leads_next (t := s.patrolSlice) rfl ?_
  rw [patrolSlice_eq hg hs]
  generalize hu : (s.grantSlice 1).patrolStatus = u
  obtain ⟨l, m, hlm⟩ := List.append_of_mem (List.mem_range.2 hb)
  have hnd : (l ++ b :: m).Nodup := hlm ▸ List.nodup_range
  obtain ⟨-, hbm, hdisj⟩ := List.nodup_append.1 hnd
  have hl : b ∉ l := fun h => hdisj b h b List.mem_cons_self rfl
  have hm : b ∉ m := (List.nodup_cons.1 hbm).1
  have h9 : b < 9 := by
    have := nLayer_le s
    unfold State.nLayer at this
    omega
  have htime : u.time = (s.grantSlice 1).time := by rw [← hu, patrolStatus_time]
  have hrdu : ∀ f : Fam, (∀ c, f.key [b] ≠ R.BENCH_STATUS_PATROL_RUNNING.key [c]) → u.rd f [b] = s.rd f [b] := fun f hf => by
    rw [← hu, rd_patrolStatus _ hf]
    rfl
  have hbefore := linksKept_foldl State.grantPatrol linksKept_grantPatrol l u
  have hrd : ∀ f : Fam, f.held = .base → linkKey (f.key [b]) = false →
      (∀ c, f.key [b] ≠ R.BENCH_STATUS_PATROL_RUNNING.key [c]) → (l.foldl State.grantPatrol u).rd f [b] = s.rd f [b] :=
    fun f hf hk hne => (hbefore.rd hf hk).trans (hrdu f hne)
  have hcount := hrd R.BENCH_PATROL_CTRL_COUNT_M1 rfl (by simp [linkKey, Fam.key, Fam.rel, R.BENCH_PATROL_CTRL_COUNT_M1])
    fun c => by simp [Fam.key, Fam.rel, R.BENCH_PATROL_CTRL_COUNT_M1, R.BENCH_STATUS_PATROL_RUNNING]; omega
  have hdue' : PatrolDue b (l.foldl State.grantPatrol u) := by
    refine hdue.congr ?_ ?_ (hrd _ rfl ?_ fun c => ?_) (hrd _ rfl ?_ fun c => ?_) (hrd _ rfl ?_ fun c => ?_)
    · rw [hbefore.time, htime]
      rfl
    · rw [(beside_grantPatrols hl u).link, State.link, ← hu, patrolStatus_shaft]
      rfl
    all_goals simp [linkKey, Fam.key, Fam.rel, R.BENCH_PATROL_CTRL_EN, R.BENCH_PATROL_CTRL_INTERVAL, R.SHAFT_LINK_STATUS_STATE,
      R.BENCH_STATUS_PATROL_RUNNING]
    all_goals omega
  rw [hlm]
  constructor
  · have hall := linksKept_foldl State.grantPatrol linksKept_grantPatrol (l ++ b :: m) u
    rw [State.sliced, hall.time, htime]
    simp [State.grantSlice]
  · obtain ⟨lanes, hsent⟩ := mem_sent_sendDown hdue'.free (type := 0x32) rfl
      ⟨0, (l.foldl State.grantPatrol u).rd R.BENCH_PATROL_CTRL_COUNT_M1 [b], [], []⟩
    rw [← grantPatrol_of_due hdue', hcount] at hsent
    rw [List.foldl_append, List.foldl_cons]
    exact ⟨lanes, (beside_grantPatrols hm _).sent hsent⟩

/-! ### Reads -/

/-- Bench `b`'s slice as it stands: the slabs that are left of it, and that the bench is one of the part's. -/
def State.sliceLeft (s : State) (b : Nat) : Nat × Nat := (s.bench.length, (s.bn b).patrolLeft)

theorem sliceLeft_congr {s t : State} (h : t.bench = s.bench) (b : Nat) : t.sliceLeft b = s.sliceLeft b := by
  rw [State.sliceLeft, State.sliceLeft, bn_congr h, h]

theorem sliceLeft_of_offChans {s t : State} (h : t.offChans = s.offChans) (b : Nat) : t.sliceLeft b = s.sliceLeft b :=
  Prod.ext (length_of_offChans h) (congrArg BenchSt.patrolLeft (bn_of_offChans h b) :)

theorem sliceLeft_modBench (s : State) (b : Nat) {f : BenchSt → BenchSt} (hf : ∀ x, (f x).patrolLeft = x.patrolLeft) :
    (s.modBench b f).sliceLeft b = s.sliceLeft b := by
  by_cases hb : b < s.bench.length
  · simp only [State.sliceLeft, length_modBench, bn_modBench_same hb, hf]
  · have hnone : (s.modBench b f).bench = s.bench := by
      show modAt f s.bench b = s.bench
      rw [modAt_eq_modify, List.modify_eq_self (Nat.le_of_not_lt hb)]
    exact sliceLeft_congr hnone b

theorem sliceLeft_spend (s : State) (b : Nat) : (s.spend b).sliceLeft b = s.sliceLeft b := by
  obtain h | h := spend_cases s b <;> rw [h]
  exact sliceLeft_modBench s b fun _ => rfl

theorem sliceLeft_queueTask (s : State) (b ch bank group : Nat) : (s.queueTask b ch bank group).sliceLeft b = s.sliceLeft b :=
  (sliceLeft_congr (inc_bench _ _ _) b).trans (sliceLeft_of_offChans (offChans_modCtl s b ch _) b)

theorem sliceLeft_countAct (s : State) (b ch bank row : Nat) : (s.countAct b ch bank row).sliceLeft b = s.sliceLeft b := by
  have hset := fun f => sliceLeft_of_offChans (offChans_modCtl s b ch f) b
  unfold State.countAct
  dsimp only
  split_ifs
  · exact (sliceLeft_queueTask _ b ch bank _).trans (hset _)
  · exact hset _

theorem landAll_bench (s : State) (b : Nat) : (s.landAll b).bench = s.bench :=
  foldl_keeps State.bench _ (fun t e => by
    have hput : (t.putPortions b e.layers e.slab e.lower e.upper).bench = t.bench := by
      rw [putPortions_eq, pokeAll_frame]
    exact hput) _ s

theorem sliceLeft_reportsUp (b n : Nat) (s : State) : (State.reportsUp b n s).sliceLeft b = s.sliceLeft b := by
  induction n generalizing s with
  | zero => rfl
  | succ n ih =>
    unfold State.reportsUp
    split
    · rfl
    · split_ifs
      · exact (ih _).trans ((sliceLeft_congr (sendUp_bench _ b _ _) b).trans (sliceLeft_modBench s b fun _ => rfl))
      · rfl

theorem sliceLeft_patrolReport (s : State) (b layer slab check : Nat) :
    (s.patrolReport b layer slab check).sliceLeft b = s.sliceLeft b := by
  unfold State.patrolReport
  split_ifs
  · exact (sliceLeft_congr (raise_bench _ _ _) b).trans (sliceLeft_modBench s b fun _ => rfl)
  · exact (sliceLeft_reportsUp b 32 _).trans (sliceLeft_modBench s b fun _ => rfl)

/-- A bench that may make its next patrol read: it is on, its slice and its tokens allow one, and the bank of the slab has no request
(R113, R119, R120). -/
structure PatrolReady (s : State) (b : Nat) : Prop where
  here : b < s.bench.length
  on : s.benchOn b = true
  enabled : s.rd R.BENCH_PATROL_CTRL_EN [b] = 1
  tokens : 2 ≤ (s.bn b).tokens
  left : (s.bn b).patrolLeft ≠ 0
  awake : (s.bn b).selfRefresh = false
  running : (s.bn b).paused = none
  idle : (s.ctl b (s.posOf (s.bn b).patrolPtr / 32)).bankIdle (s.posOf (s.bn b).patrolPtr % 32) = true

/-- The activation count that a patrol read's row-group has once the tasks that are due are queued (R117). -/
def State.patrolActs (s : State) (b : Nat) : Nat :=
  let pos := s.posOf (s.bn b).patrolPtr
  ((s.fillTasks b (pos / 32)).ctl b (pos / 32)).act (pos % 32) (rowOf (s.bn b).patrolPtr / 64)

/-- Whether a layer of bench `b` has a portion to patrol at its pointer (R119, R121). -/
def State.patrolLayers (s : State) (b : Nat) : List Nat :=
  [2 * b, 2 * b + 1].filter fun n => s.patrolled n (s.bn b).patrolPtr

/-- None of the conditions that keep a read from being made holds of a bench that is ready, also once its tasks are queued. -/
theorem PatrolReady.goes {s : State} {b : Nat} (h : PatrolReady s b) (layers : List Nat) :
    let t := s.fillTasks b (s.posOf (s.bn b).patrolPtr / 32)
    ¬ (!t.benchOn b || !t.is R.BENCH_PATROL_CTRL_EN [b] || (s.bn b).patrolLeft == 0 ||
      (s.bn b).selfRefresh && (s.bn b).paused.isNone ||
      ((s.bn b).paused.isNone && !(t.ctl b (s.posOf (s.bn b).patrolPtr / 32)).bankIdle (s.posOf (s.bn b).patrolPtr % 32)) ||
      (!layers.isEmpty && decide ((s.bn b).tokens < 2))) = true := by
  intro t
  have hq := tasksQueued_fillTasks h.here (s.posOf (s.bn b).patrolPtr / 32)
  have hon : t.benchOn b = true := (benchOn_congr hq.power hq.fuse b).trans h.on
  have hen : t.is R.BENCH_PATROL_CTRL_EN [b] = true := by
    rw [State.is, hq.rd (by decide), h.enabled]
    rfl
  have hidle : (t.ctl b (s.posOf (s.bn b).patrolPtr / 32)).bankIdle (s.posOf (s.bn b).patrolPtr % 32) = true := by
    rw [ChanCtl.bankIdle, hq.reads, hq.writes]
    exact h.idle
  simp [hon, hen, hidle, h.left, h.awake, Nat.not_lt.2 h.tokens]

/-- While no task can be queued for the row-group's counter, a patrol read waits (R117). -/
theorem patrolDone_of_full {s : State} {b : Nat} (h : PatrolReady s b) (got : List Delivery)
    (hfull : (!(s.patrolLayers b).isEmpty && decide (s.trThresh b ≤ s.patrolActs b)) = true) :
    s.patrolDone b got =
      ((s.fillTasks b (s.posOf (s.bn b).patrolPtr / 32)).raise E.BENCH_TR_FULL [b]).detect [47] := by
  have hq := tasksQueued_fillTasks h.here (s.posOf (s.bn b).patrolPtr / 32)
  rw [← hq.thresh] at hfull
  unfold State.patrolDone
  simp only [h.on, if_true, h.running, Option.isSome_none, Bool.false_eq_true, if_false]
  have hgoes := h.goes (s.patrolLayers b)
  simp only [h.running] at hgoes
  exact (if_neg hgoes).trans (if_pos hfull)

/-- Otherwise it is made, and the slice and the pointer move on. -/
theorem patrolDone_of_room {s : State} {b : Nat} (h : PatrolReady s b) (got : List Delivery)
    (hroom : (!(s.patrolLayers b).isEmpty && decide (s.trThresh b ≤ s.patrolActs b)) = false) :
    ∃ (t : State) (passes : BenchSt → Nat), t.sliceLeft b = s.sliceLeft b ∧ s.patrolDone b got = t.modBench b fun x =>
      { x with patrolLeft := x.patrolLeft - 1, patrolPtr := ((s.bn b).patrolPtr + 1) % slabCount, patrolPasses := passes x } := by
  have hq := tasksQueued_fillTasks h.here (s.posOf (s.bn b).patrolPtr / 32)
  rw [← hq.thresh] at hroom
  unfold State.patrolDone
  simp only [h.on, if_true, h.running, Option.isSome_none, Bool.false_eq_true, if_false]
  have hgoes := h.goes (s.patrolLayers b)
  simp only [h.running] at hgoes
  refine ⟨_, _, ?_, (if_neg hgoes).trans (if_neg (Bool.eq_false_iff.1 hroom))⟩
  refine (foldl_keeps (fun t : State => t.sliceLeft b) _ (fun t n => ?_) _ _).trans ?_
  · split
    · exact sliceLeft_patrolReport t b n _ _
    · rfl
  · have hland := (sliceLeft_congr (landAll_bench _ b) b).trans (sliceLeft_of_offChans hq.offChans b)
    split_ifs
    · exact hland
    · exact (sliceLeft_countAct _ b _ _ _).trans ((sliceLeft_spend _ b).trans ((sliceLeft_spend _ b).trans hland))

theorem patrol_read_made {s : State} {b : Nat} (h : PatrolReady s b) (got : List Delivery) (hacts : s.patrolActs b < s.trThresh b) :
    Leads (.patrolReadDone b got) s fun t => (t.bn b).patrolLeft = (s.bn b).patrolLeft - 1 ∧
      (t.bn b).patrolPtr = ((s.bn b).patrolPtr + 1) % 2 ^ 27 := by
  obtain ⟨t, passes, hleft, hdone⟩ := patrolDone_of_room h got (by simp [hacts])
  have hlen : t.bench.length = s.bench.length := congrArg Prod.fst hleft
  have hcount : (t.bn b).patrolLeft = (s.bn b).patrolLeft := congrArg Prod.snd hleft
  refine leads_next (t := s.patrolDone b got) rfl ?_
  rw [hdone, bn_modBench_same (hlen ▸ h.here), ← hcount]
  exact ⟨rfl, rfl⟩

theorem patrol_read_waits {s : State} {b : Nat} (h : PatrolReady s b) (got : List Delivery) (hacts : s.trThresh b ≤ s.patrolActs b)
    (hp : s.patrolled (2 * b) (s.bn b).patrolPtr = true) (hm : Mild s 47) :
    Leads (.patrolReadDone b got) s fun t => (t.bn b).patrolPtr = (s.bn b).patrolPtr ∧ t.dram = s.dram := by
  have hq := tasksQueued_fillTasks h.here (s.posOf (s.bn b).patrolPtr / 32)
  have hmild : Mild (s.fillTasks b (s.posOf (s.bn b).patrolPtr / 32)) 47 := by
    rw [Mild, hq.rd (by decide)]
    exact hm
  have hquiet := quiet_raise_detect (e := E.BENCH_TR_FULL) [b] rfl (by decide) hmild
  refine leads_next (t := s.patrolDone b got) rfl ?_
  rw [patrolDone_of_full h got (by simp [State.patrolLayers, hp, hacts]), bn_congr hquiet.bench, hquiet.dram]
  exact ⟨(congrArg BenchSt.patrolPtr (bn_of_offChans hq.offChans b) :), by rw [hq.frame]⟩

/-! ### O35 -/

/-- Settles O35: what a slot serves, what falls due, and what the patrol does, clause by clause. -/
theorem benchesWork : Obligations.BenchesWork := by
  intro s b ch hon hb hch
  refine ⟨fun hlive hawake hrun hi hdrain => ?_, fun bank hbank hin => ⟨?_, ?_, ?_, window_resets hon hb hch bank⟩,
    warmup_ends hon hb, estimate_is_lost hon hb, fun hg hs hen hint hlink hroom hwait hgroup => ?_,
    fun got hen htok hleft hawake hrun hidle => ?_⟩
  · have hslot : SlotFree s b ch := ⟨hb, hch, hon, hlive, hawake, hrun, hdrain⟩
    refine ⟨fun k hk hdebt hfirst hrow => refresh_served_first hslot hi hk hdebt hfirst hrow,
      fun r howed htasks htok hrow hup => ⟨fun hreads hwrites hr => ?_, fun hreads hwrites hr hlower hupper => ?_⟩⟩
    · exact read_served ⟨hslot, howed, by simp [htasks], htok, hrow, decide_eq_true hup, by simp [hr, hreads],
        by simp [hr, hwrites]⟩ hi hr
    · exact write_served ⟨hslot, howed, by simp [htasks], htok, hrow, decide_eq_true hup, by simp [hr, hreads],
        by simp [hr, hwrites]⟩ hi hr hlower hupper
  · exact fun hawake hm => refresh_falls_due hon hb hch hbank hin hawake hm
  · exact idle_bank_closes hon hb hch bank
  · rintro k ks htasks rfl hk
    exact task_ages hon hb hch htasks hk
  · have hmem : b < s.nBench := by
      simp only [State.benchOn, Bool.and_eq_true, decide_eq_true_eq] at hon
      exact hon.1
    exact patrol_slice_granted hg hs hmem ⟨hen, hint, by simp [State.canSend, hlink, hroom, hwait, hgroup]⟩
  · have hready : PatrolReady s b := ⟨hb, hon, hen, htok, hleft, hawake, hrun, hidle⟩
    exact ⟨patrol_read_made hready got, patrol_read_waits hready got⟩

end Sys2Proof.Machine
end

section
/-! SUPPORT. The level in force, and what the benches' own work leaves of the rest of the state (R108, R123, R161). -/
namespace Sys2Proof.Machine
open Sys2Proof.Safety

/-! ### The level in force -/

/-- A field that no index puts at POWER.STATUS.LEVEL. -/
def Fam.offLevel (f : Fam) : Bool :=
  f.held != .base || decide (0x42000C ≤ f.off) || (f.dims.isEmpty && f.off * 8 + f.lsb != R.POWER_STATUS_LEVEL.key []) ||
    [32, 256].any fun m => f.dims.all (·.2 % m == 0) && (f.off * 8 + f.lsb) % m != R.POWER_STATUS_LEVEL.key [] % m

theorem rel_mod {m : Nat} {ds : List (Nat × Nat)} (h : ds.all (·.2 % m == 0) = true) (i : List Nat) : Fam.rel ds i % m = 0 := by
  induction ds generalizing i with
  | nil => cases i <;> simp [Fam.rel]
  | cons d ds ih =>
    obtain ⟨n, st⟩ := d
    rw [List.all_cons, Bool.and_eq_true, beq_iff_eq] at h
    cases i with
    | nil => simp [Fam.rel]
    | cons k i =>
      rw [Fam.rel, Nat.add_mod, Nat.mul_mod, h.1, ih h.2]
      simp

theorem rd_level_wr (s : State) {f : Fam} (hf : f.offLevel = true) (v : Nat) (i : List Nat) :
    (s.wr f v i).rd R.POWER_STATUS_LEVEL = s.rd R.POWER_STATUS_LEVEL := by
  refine rd_wr_ne s f R.POWER_STATUS_LEVEL v i [] fun ⟨hheld, hkey⟩ => ?_
  simp only [Fam.offLevel, ← hheld, Bool.or_eq_true, Bool.and_eq_true, bne_iff_ne, decide_eq_true_eq, List.isEmpty_iff, List.any_eq_true] at hf
  obtain ((hb | ho) | ⟨hd, hne⟩) | ⟨m, -, hd, hm⟩ := hf
  · exact hb rfl
  · have hlevel : R.POWER_STATUS_LEVEL.key [] = 0x420008 * 8 + 3 := rfl
    rw [hlevel, Fam.key] at hkey
    omega
  · have hrel : Fam.rel f.dims i = 0 := by rw [hd]; cases i <;> rfl
    exact hne (by rw [hkey, Fam.key, hrel, Nat.add_zero])
  · refine hm ?_
    rw [hkey, Fam.key, Nat.add_mod _ (Fam.rel _ _), rel_mod hd, Nat.add_zero, Nat.mod_mod]

theorem rd_level_raise (s : State) {e : Ev} (he : e.bit.offLevel = true) (i : List Nat) :
    (s.raise e i).rd R.POWER_STATUS_LEVEL = s.rd R.POWER_STATUS_LEVEL := by
  unfold State.raise
  split_ifs
  · rfl
  · rw [rd_msix]
    exact rd_level_wr s he 1 i
  · exact rd_level_wr s he 1 i

theorem LinksKept.rd_level {s t : State} (h : LinksKept s t) : t.rd R.POWER_STATUS_LEVEL = s.rd R.POWER_STATUS_LEVEL :=
  h.rd rfl (by decide)

/-! ### The work of the benches -/

/-- The state without base-die registers, links, output, benches, their registers and DRAM. -/
def State.offBench (s : State) : State := { s.offLinks with bench := [], bregs := [], dram := [] }

/-- `t` differs from `s` at most in base-die registers other than LEVEL and in what the benches and the links hold. -/
structure BenchWork (s t : State) : Prop where
  offBench : t.offBench = s.offBench
  level : t.rd R.POWER_STATUS_LEVEL = s.rd R.POWER_STATUS_LEVEL

theorem BenchWork.refl (s : State) : BenchWork s s := ⟨rfl, rfl⟩

theorem BenchWork.trans {s t u : State} (h : BenchWork s t) (k : BenchWork t u) : BenchWork s u :=
  ⟨k.offBench.trans h.offBench, k.level.trans h.level⟩

theorem LinksKept.benchWork {s t : State} (h : LinksKept s t) : BenchWork s t :=
  ⟨congrArg (fun u : State => { u with bench := [], bregs := [], dram := [] }) h.offLinks, h.rd_level⟩

/-- A part of the state that `State.offBench` shows is kept. -/
theorem BenchWork.keeps {α : Type} {s t : State} (h : BenchWork s t) (p : State → α) (hp : ∀ u : State, p u.offBench = p u) :
    p t = p s := by rw [← hp t, h.offBench, hp]

theorem benchWork_wr (s : State) {f : Fam} (hf : f.offLevel = true) (hl : f.held ≠ .lantern) (v : Nat) (i : List Nat) :
    BenchWork s (s.wr f v i) := by
  refine ⟨?_, rd_level_wr s hf v i⟩
  unfold State.wr
  cases h : f.held
  · rfl
  · exact absurd h hl
  · rfl

theorem benchWork_modBench (s : State) (b : Nat) (f : BenchSt → BenchSt) : BenchWork s (s.modBench b f) :=
  ⟨rfl, rd_modBench s b f _ _⟩

theorem benchWork_publishBench (s : State) (b : Nat) : BenchWork s (s.publishBench b) := by
  have hwr : ∀ (t : State) (f : Fam) (on : Bool), f.offLevel = true → f.held ≠ .lantern → BenchWork t (t.wrB f on [b]) :=
    fun t f on hf hl => benchWork_wr t hf hl _ _
  exact (((hwr s R.BENCH_STATUS_SELF_REFRESH _ (by decide) (by decide)).trans
    (hwr _ R.BENCH_STATUS_REFRESH_2X _ (by decide) (by decide))).trans
    (hwr _ R.BENCH_STATUS_LOCAL_TEMP _ (by decide) (by decide))).trans (hwr _ R.BENCH_STATUS_TR_WARMUP _ (by decide) (by decide))

/-! ### Draining -/

/-- What a bench is without its controllers and tokens. -/
def BenchSt.offWork (x : BenchSt) : BenchSt := { x.offChans with tokens := 0 }

/-- `t` is `s` after commands of controllers: the benches differ at most in their controllers and tokens. -/
structure DrainStep (s t : State) : Prop where
  work : BenchWork s t
  bench : t.bench.map BenchSt.offWork = s.bench.map BenchSt.offWork

theorem DrainStep.refl (s : State) : DrainStep s s := ⟨.refl s, rfl⟩

theorem DrainStep.trans {s t u : State} (h : DrainStep s t) (k : DrainStep t u) : DrainStep s u :=
  ⟨h.work.trans k.work, k.bench.trans h.bench⟩

theorem DrainStep.bn {s t : State} (h : DrainStep s t) (c : Nat) : (t.bn c).offWork = (s.bn c).offWork := by
  have hbn : ∀ u : State, (u.bn c).offWork = (u.bench.map BenchSt.offWork).getD c BenchSt.reset := fun u => by
    have hreset : BenchSt.reset = BenchSt.reset.offWork := rfl
    rw [hreset, List.getD_map]
    rfl
  rw [hbn, hbn, h.bench]

theorem DrainStep.length {s t : State} (h : DrainStep s t) : t.bench.length = s.bench.length := by
  simpa using congrArg List.length h.bench

theorem DrainStep.paused {s t : State} (h : DrainStep s t) (c : Nat) : (t.bn c).paused = (s.bn c).paused :=
  (congrArg BenchSt.paused (h.bn c) :)
theorem DrainStep.drain {s t : State} (h : DrainStep s t) (c : Nat) : (t.bn c).drain = (s.bn c).drain :=
  (congrArg BenchSt.drain (h.bn c) :)

theorem drainStep_ite {c : Prop} [Decidable c] {s t u : State} (ht : DrainStep s t) (hu : DrainStep s u) :
    DrainStep s (if c then t else u) := by split_ifs <;> assumption

theorem drainStep_foldl {α : Type} (g : State → α → State) (hg : ∀ s a, DrainStep s (g s a)) (l : List α) (s : State) :
    DrainStep s (l.foldl g s) := foldl_inv (DrainStep s) g (fun t a h => h.trans (hg t a)) l (.refl s)

theorem LinksKept.drainStep {s t : State} (h : LinksKept s t) : DrainStep s t := ⟨h.benchWork, by rw [h.bench]⟩

theorem drainStep_modShaft (s : State) (b : Nat) (f : ShaftSt → ShaftSt) : DrainStep s (s.modShaft b f) :=
  (linksKept_modShaft s b f).drainStep

theorem drainStep_modBench (s : State) (b : Nat) {f : BenchSt → BenchSt} (hf : ∀ x, (f x).offWork = x.offWork) :
    DrainStep s (s.modBench b f) := ⟨benchWork_modBench s b f, map_modAt _ f hf s.bench b⟩

theorem drainStep_modCtl (s : State) (b ch : Nat) (f : ChanCtl → ChanCtl) : DrainStep s (s.modCtl b ch f) :=
  drainStep_modBench s b fun x => by split_ifs <;> rfl

theorem drainStep_spend (s : State) (b : Nat) : DrainStep s (s.spend b) :=
  drainStep_ite (.refl s) (drainStep_modBench s b fun _ => rfl)

theorem drainStep_queueTask (s : State) (b ch bank group : Nat) : DrainStep s (s.queueTask b ch bank group) := by
  have hcount : ∀ t : State, DrainStep t (t.inc R.BENCH_TR_COUNT_COUNT [b]) := fun t =>
    ⟨benchWork_wr t (f := R.BENCH_TR_COUNT_COUNT) (by decide) (by decide) _ [b], by rw [inc_bench]⟩
  exact (drainStep_modCtl s b ch _).trans (hcount _)

theorem drainStep_countAct (s : State) (b ch bank row : Nat) : DrainStep s (s.countAct b ch bank row) :=
  drainStep_ite ((drainStep_modCtl s b ch _).trans (drainStep_queueTask _ b ch bank _)) (drainStep_modCtl s b ch _)

theorem drainStep_pokeAll (s : State) (slab : Nat) (data : Nat → List Byte) (ns : List Nat) :
    DrainStep s (s.pokeAll slab data ns) := by
  rw [pokeAll_frame]
  exact ⟨⟨rfl, rfl⟩, rfl⟩

theorem drainStep_performReq (s : State) (b : Nat) (r : BReq) : DrainStep s (s.performReq b r) :=
  drainStep_ite ((drainStep_pokeAll s _ _ _).trans (drainStep_modShaft _ b _))
    ((drainStep_modShaft s b _).trans (linksKept_sendItems _ b false _).drainStep)

theorem drainStep_issueReq (s : State) (b ch : Nat) (r : BReq) : DrainStep s (s.issueReq b ch r) := by
  unfold State.issueReq
  split
  · exact drainStep_modCtl s b ch _
  · exact ((drainStep_spend s b).trans (drainStep_modCtl _ b ch _)).trans (drainStep_countAct _ b ch _ _)
  · have hperformed : ∀ f, DrainStep s ((((s.spend b).modCtl b ch f).leaveQueue b ch r).performReq b r) := fun f =>
      (((drainStep_spend s b).trans (drainStep_modCtl _ b ch f)).trans (drainStep_modShaft _ b _)).trans
        (drainStep_performReq _ b r)
    exact drainStep_ite ((hperformed _).trans (drainStep_modCtl _ b ch _)) (hperformed _)

theorem drainStep_drainReq (b ch : Nat) (force : Bool) (r : BReq) (n : Nat) (s : State) :
    DrainStep s (State.drainReq b ch force r n s) := by
  induction n generalizing s with
  | zero => exact .refl s
  | succ n ih => exact drainStep_ite ((drainStep_issueReq s b ch r).trans (ih _)) (.refl s)

theorem drainStep_drainChan (s : State) (b ch : Nat) (force : Bool) : DrainStep s (s.drainChan b ch force) :=
  drainStep_foldl _ (fun t r => drainStep_drainReq b ch force r 3 t) _ s

theorem drainStep_landAll (s : State) (b : Nat) : DrainStep s (s.landAll b) :=
  drainStep_foldl _ (fun t _ => ((drainStep_pokeAll t _ _ _).trans (drainStep_modShaft _ b _)).trans (drainStep_modShaft _ b _)) _ s

theorem drainStep_dropPartial (s : State) (b : Nat) : DrainStep s (s.dropPartial b) :=
  (drainStep_modShaft s b _).trans (drainStep_foldl _ (fun t _ => drainStep_modShaft t b _) _ _)

end Sys2Proof.Machine
end

section
/-! SUPPORT. A bench that drains for a pause enters it, and one that leaves a pause goes on (R123, R124). -/
namespace Sys2Proof.Machine
open Sys2Proof.Safety

theorem lt_of_drain {s : State} {b : Nat} (h : (s.bn b).drain ≠ none) : b < s.bench.length := by
  by_contra hout
  refine h ?_
  rw [State.bn, List.getD_eq_default _ _ (Nat.le_of_not_lt hout)]
  rfl

/-! ### Into the pause -/

/-- The end of a drain for a pause (R123). -/
theorem drainEnd_pause {s : State} {b l : Nat} (h : (s.bn b).drain = some (.pause l)) :
    BenchWork s (s.drainEnd b) ∧ (s.drainEnd b).bench.length = s.bench.length ∧ ((s.drainEnd b).bn b).paused = some l ∧
      ∀ c, c ≠ b → (s.drainEnd b).bn c = s.bn c := by
  have hb : b < s.bench.length := lt_of_drain (by simp [h])
  unfold State.drainEnd
  rw [h]
  dsimp only
  generalize hclosed : (s.modBench b fun x => { x with drain := none, chA := x.chA.precharged, chB := x.chB.precharged }) = t
  have hlen : t.bench.length = s.bench.length := by rw [← hclosed, length_modBench]
  refine ⟨?_, ?_, ?_, fun c hc => ?_⟩
  · refine BenchWork.trans ?_ (benchWork_publishBench _ b)
    refine BenchWork.trans ?_ (linksKept_sendFrame _ b false _ _).benchWork
    exact (hclosed ▸ benchWork_modBench s b _).trans (benchWork_modBench t b _)
  · rw [publishBench_bench, sendUp_bench, length_modBench, hlen]
  · rw [bn_congr (publishBench_bench _ b), bn_congr (sendUp_bench _ b _ _), bn_modBench_same (hlen ▸ hb)]
  · rw [bn_congr (publishBench_bench _ b), bn_congr (sendUp_bench _ b _ _), bn_modBench_ne t (Ne.symm hc), ← hclosed,
      bn_modBench_ne s (Ne.symm hc)]

/-- R123: a bench that still drains for a pause has performed its requests and pauses; no other bench does or stops doing so. -/
theorem completeAccepted_pause {s : State} {b l : Nat} (h : (s.bn b).drain = some (.pause l)) :
    BenchWork s (s.completeAccepted b) ∧ (s.completeAccepted b).bench.length = s.bench.length ∧
      ((s.completeAccepted b).bn b).paused = some l ∧ ∀ c, c ≠ b →
        ((s.completeAccepted b).bn c).paused = (s.bn c).paused ∧ ((s.completeAccepted b).bn c).drain = (s.bn c).drain := by
  have hstep : DrainStep s ((((s.landAll b).drainChan b 0 true).drainChan b 1 true).dropPartial b) :=
    (((drainStep_landAll s b).trans (drainStep_drainChan _ b 0 true)).trans (drainStep_drainChan _ b 1 true)).trans
      (drainStep_dropPartial _ b)
  obtain ⟨hwork, hlen, hpaused, hothers⟩ := drainEnd_pause ((hstep.drain b).trans h)
  refine ⟨hstep.work.trans hwork, hlen.trans hstep.length, hpaused, fun c hc => ?_⟩
  rw [State.completeAccepted, hothers c hc]
  exact ⟨hstep.paused c, hstep.drain c⟩

/-- The benches that still drain when the pause ends have performed their requests in its time (R123). -/
def State.enterPauses (s : State) (bs : List Nat) : State :=
  bs.foldl (fun s b => match (s.bn b).drain with
    | some (.pause _) => s.completeAccepted b
    | _ => s) s

/-- A bench is paused or drains. -/
def BenchSt.stopping (x : BenchSt) : Bool := x.paused.isSome || x.drain.isSome

/-- What becomes of the benches as those that drain for a pause enter it: paused ones stay so, and none that neither was paused nor
drained is. -/
structure Pausing (s t : State) : Prop where
  work : BenchWork s t
  length : t.bench.length = s.bench.length
  stays : ∀ c, (s.bn c).paused.isSome = true → (t.bn c).paused.isSome = true
  none : ∀ c, (t.bn c).stopping = true → (s.bn c).stopping = true

theorem Pausing.trans {s t u : State} (h : Pausing s t) (k : Pausing t u) : Pausing s u :=
  ⟨h.work.trans k.work, k.length.trans h.length, fun c hc => k.stays c (h.stays c hc), fun c hc => h.none c (k.none c hc)⟩

theorem pausing_completeAccepted {s : State} {b l : Nat} (h : (s.bn b).drain = some (.pause l)) :
    Pausing s (s.completeAccepted b) := by
  obtain ⟨hwork, hlen, hpaused, hothers⟩ := completeAccepted_pause h
  refine ⟨hwork, hlen, fun c hc => ?_, fun c hc => ?_⟩ <;> by_cases hcb : c = b
  · simp [hcb, hpaused]
  · rwa [(hothers c hcb).1]
  · simp [hcb, BenchSt.stopping, h]
  · rwa [BenchSt.stopping, (hothers c hcb).1, (hothers c hcb).2] at hc

theorem pausing_enterPauses (s : State) (bs : List Nat) : Pausing s (s.enterPauses bs) := by
  have hrefl : ∀ t, Pausing t t := fun t => ⟨.refl t, rfl, fun _ => id, fun _ => id⟩
  refine foldl_inv (Pausing s) _ (fun t b h => ?_) bs (hrefl s)
  split
  · rename_i l hl
    exact h.trans (pausing_completeAccepted hl)
  · exact h

/-! ### Out of the pause -/

theorem benchWork_foldl {α : Type} (g : State → α → State) {l : List α} (hg : ∀ s, ∀ a ∈ l, BenchWork s (g s a)) (s : State) :
    BenchWork s (l.foldl g s) := by
  induction l generalizing s with
  | nil => exact .refl s
  | cons a l ih => exact (hg s a List.mem_cons_self).trans (ih (fun s b hb => hg s b (List.mem_cons_of_mem a hb)) _)

theorem benchWork_swapTset (s : State) (b : Nat) : BenchWork s (s.swapTset b) ∧ (s.swapTset b).bench = s.bench := by
  have hwr : ∀ (t : State) (f : Fam) (v : Nat) (i : List Nat), f.offLevel = true → f.held ≠ .lantern →
      BenchWork t (t.wr f v i) := fun t f v i hf hl => benchWork_wr t hf hl v i
  constructor
  · refine BenchWork.trans ?_ (hwr _ R.BENCH_TSET_STATUS_SHADOW_LEVEL _ _ (by decide) (by decide))
    refine BenchWork.trans ?_ (hwr _ R.BENCH_TSET_STATUS_ACTIVE_LEVEL _ _ (by decide) (by decide))
    exact benchWork_foldl _ (fun t _ _ => (hwr t R.BENCH_TSET_ACTIVE_VALUE _ _ (by decide) (by decide)).trans
      (hwr _ R.BENCH_TSET_SHADOW_VALUE _ _ (by decide) (by decide))) s
  · unfold State.swapTset
    dsimp only
    rw [wr_bench, wr_bench]
    exact foldl_keeps State.bench _ (fun t p => by rw [wr_bench, wr_bench]) _ s

theorem benchWork_loadAlign (s : State) (level : Nat) (i : List Nat) :
    BenchWork s (s.loadAlign level i) ∧ (s.loadAlign level i).bench = s.bench := by
  unfold State.loadAlign
  exact ⟨(benchWork_wr s (f := R.SHAFT_LANE_PHASE) (by decide) (by decide) _ i).trans
    (benchWork_wr _ (f := R.SHAFT_LANE_SLIP) (by decide) (by decide) _ i), by rw [wr_bench, wr_bench]⟩

theorem benchWork_alignAll (s : State) (b level : Nat) :
    BenchWork s (s.alignAll b level) ∧ (s.alignAll b level).bench = s.bench := by
  unfold State.alignAll
  exact ⟨benchWork_foldl _ (fun t i _ => (benchWork_loadAlign t level i).1) s,
    foldl_keeps State.bench _ (fun t i => (benchWork_loadAlign t level i).2) _ s⟩

/-- R124: bench `b` leaves a pause to level `l`. -/
def State.benchResume (l : Nat) (s : State) (b : Nat) : State :=
  ((((s.swapTset b).alignAll b l).modShaft b fun x => { x with tset := none }).modBench b fun x =>
    { x with paused := none, selfRefresh := false }).publishBench b

theorem benchResume_spec (l : Nat) (s : State) (b : Nat) : BenchWork s (s.benchResume l b) ∧
    (s.benchResume l b).bench = (s.modBench b fun x => { x with paused := none, selfRefresh := false }).bench := by
  obtain ⟨hswap, hswapped⟩ := benchWork_swapTset s b
  obtain ⟨halign, haligned⟩ := benchWork_alignAll (s.swapTset b) b l
  unfold State.benchResume
  constructor
  · exact ((hswap.trans halign).trans ((linksKept_modShaft _ b _).benchWork.trans (benchWork_modBench _ b _))).trans
      (benchWork_publishBench _ b)
  · rw [publishBench_bench, modBench_bench, modBench_bench, modShaft_bench, haligned, hswapped]

/-- A bench that issues commands again. -/
def BenchSt.resumed (x : BenchSt) : Prop := x.paused = none ∧ x.selfRefresh = false

theorem benchResume_foldl (l : Nat) (bs : List Nat) (s : State) : BenchWork s (bs.foldl (State.benchResume l) s) ∧
    ∀ c, c < s.bench.length → (c ∈ bs ∨ (s.bn c).resumed) → ((bs.foldl (State.benchResume l) s).bn c).resumed := by
  induction bs generalizing s with
  | nil => exact ⟨.refl s, fun c _ h => h.resolve_left List.not_mem_nil⟩
  | cons b bs ih =>
    obtain ⟨hwork, hbench⟩ := benchResume_spec l s b
    obtain ⟨hrest, hall⟩ := ih (s.benchResume l b)
    refine ⟨hwork.trans hrest, fun c hc h => hall c (by rwa [hbench, length_modBench]) ?_⟩
    rw [bn_congr hbench]
    by_cases hcb : b = c
    · subst hcb
      rw [bn_modBench_same hc]
      exact .inr ⟨rfl, rfl⟩
    · rw [bn_modBench_ne s hcb]
      exact h.imp_left fun h => (List.mem_cons.1 h).resolve_left (Ne.symm hcb)

end Sys2Proof.Machine
end

section
/-! SUPPORT. The engines, while nothing but their own fetches waits in the cache, leave the benches and the level in force (R80,
R302). -/
namespace Sys2Proof.Machine
open Sys2Proof.Safety

/-- Where only fetches of the engines wait, that stays so, and the benches and the level in force stay as they are. -/
def EngineStep (s t : State) : Prop :=
  Jobs s → Jobs t ∧ t.bench = s.bench ∧ t.rd R.POWER_STATUS_LEVEL = s.rd R.POWER_STATUS_LEVEL

/-- What a step of the engines may leave besides what `State.view` shows. -/
def State.engineView (s : State) := (s.view, s.bench, s.rd R.POWER_STATUS_LEVEL)

theorem EngineStep.refl (s : State) : EngineStep s s := fun h => ⟨h, rfl, rfl⟩

theorem EngineStep.trans {s t u : State} (h : EngineStep s t) (k : EngineStep t u) : EngineStep s u := fun hs => by
  obtain ⟨ht, hb, hl⟩ := h hs
  obtain ⟨hu, hb', hl'⟩ := k ht
  exact ⟨hu, hb'.trans hb, hl'.trans hl⟩

theorem engineStep_ite {c : Prop} [Decidable c] {s t u : State} (ht : EngineStep s t) (hu : EngineStep s u) :
    EngineStep s (if c then t else u) := by split_ifs <;> assumption

theorem engineStep_foldl {α : Type} (g : State → α → State) {l : List α} (hg : ∀ s, ∀ a ∈ l, EngineStep s (g s a)) (s : State) :
    EngineStep s (l.foldl g s) := by
  induction l generalizing s with
  | nil => exact .refl s
  | cons a l ih => exact (hg s a List.mem_cons_self).trans (ih (fun s b hb => hg s b (List.mem_cons_of_mem a hb)) _)

theorem engineStep_of_view {s t : State} (h : t.engineView = s.engineView) : EngineStep s t := fun hs => by
  simp only [State.engineView, Prod.mk.injEq] at h
  exact ⟨(jobStep_of_view h.1 hs).1, h.2⟩

/-! ### Single operations -/

theorem engineView_wr (s : State) {f : Fam} (hs : f.offStack = true) (hl : f.offLevel = true) (v : Nat) (i : List Nat) :
    (s.wr f v i).engineView = s.engineView := by
  rw [State.engineView, view_wr s f v i hs, wr_bench, rd_level_wr s hl, State.engineView]

theorem engineView_raise (s : State) {e : Ev} (hs : e.bit.offStack = true) (hl : e.bit.offLevel = true) (i : List Nat) :
    (s.raise e i).engineView = s.engineView := by
  rw [State.engineView, view_raise s e i hs, raise_bench, rd_level_raise s hl, State.engineView]

theorem engineView_ite {c : Prop} [Decidable c] {s t u : State} (ht : t.engineView = s.engineView)
    (hu : u.engineView = s.engineView) : (if c then t else u).engineView = s.engineView := by split_ifs <;> assumption

theorem engineView_queueRec (s : State) (r : TxRec) : (s.queueRec r).engineView = s.engineView := by
  rw [State.engineView, view_queueRec, (linksKept_queueRec s r).bench, (linksKept_queueRec s r).rd_level, State.engineView]

theorem engineView_charge (s : State) (l units : Nat) : (s.charge l units).engineView = s.engineView := by
  have hwr : ∀ (t : State) (f : Fam) (v : Nat), f.offStack = true → f.offLevel = true → (t.wr f v [l]).engineView = t.engineView :=
    fun t f v hs hl => engineView_wr t hs hl v [l]
  have hused := hwr s R.REG_LABEL_USED_UNITS (min (s.rd R.REG_LABEL_USED_UNITS [l] + units) (2 ^ 24 - 1)) (by decide) (by decide)
  unfold State.charge
  exact engineView_ite (((hwr _ R.REG_LABEL_SPILLS_COUNT _ (by decide) (by decide)).trans
    (hwr _ R.REG_LABEL_USED_SPILL _ (by decide) (by decide))).trans hused) hused

theorem engineView_issueOp (s : State) (op : SlabOp) : (s.issueOp op).engineView = s.engineView := by
  have hrmw : ∀ t : State, (t.inc R.CACHE_RMW_COUNT_COUNT).engineView = t.engineView := fun t =>
    engineView_wr t (by decide) (by decide) _ []
  have hjoin : ∀ (t : State) (o : List SlabOp) (n m : Nat), ({ t with cache := { t.cache with ops := o, nextTag := n, misses := m } } :
      State).engineView = t.engineView := fun _ _ _ _ => rfl
  unfold State.issueOp State.askPortions
  dsimp only
  rw [engineView_queueRec, hjoin]
  split
  · rw [hrmw, engineView_charge]
  · rw [hrmw, engineView_charge]
  · rw [engineView_charge]

theorem engineView_heldUpdate (s : State) : s.heldUpdate.engineView = s.engineView := by
  unfold State.heldUpdate
  dsimp only
  rw [State.wrB, engineView_wr _ (by decide) (by decide)]
  exact engineView_ite (engineView_raise s (by decide) (by decide) _) rfl

/-! ### Requests of the engines -/

theorem serve_engineView {s : State} (hi : s.fault.inj = none) {r : CReq} (hr : r.job.isSome = true) (count : Bool) :
    (s.serve r count).1.engineView = s.engineView := by
  obtain ⟨j, hj⟩ := Option.isSome_iff_exists.1 hr
  unfold State.serve
  rw [checkArray_of_no_injection hi, hj]
  dsimp only
  split_ifs with hno
  · rfl
  · unfold State.startOp
    rw [if_neg hno]
    exact engineView_issueOp s _

theorem engineStep_serveOrWait (s : State) {r : CReq} (hr : r.job.isSome = true) : EngineStep s (s.serveOrWait r) := by
  refine fun hs => ⟨(jobStep_serveOrWait s hr hs).1, ?_⟩
  have hserve := (engineStep_of_view (serve_engineView hs.inj hr true) hs).2
  unfold State.serveOrWait
  dsimp only
  split
  · exact ⟨rfl, rfl⟩
  · split <;> rename_i heq <;> rw [heq] at hserve <;> exact hserve

theorem engineStep_retryWait (s : State) : EngineStep s s.retryWait := fun hs =>
  engineStep_foldl State.serveOrWait (l := s.cache.wait) (fun t r hr => engineStep_serveOrWait t (hs.wait r hr))
    { s with cache := { s.cache with wait := [] } } ⟨hs.opq, hs.inj, hs.runs, by simp, hs.port⟩

theorem engineStep_cacheSettle (s : State) : EngineStep s s.cacheSettle := fun hs => by
  unfold State.cacheSettle
  rw [runOpq_of_nil hs.opq]
  have hretry := engineStep_retryWait s hs
  rw [retryFences_of_none (chan_run_none hretry.1.runs)]
  exact (engineStep_retryWait s).trans (engineStep_of_view (engineView_heldUpdate _)) hs

theorem engineStep_accept (s : State) {r : CReq} (hr : r.job.isSome = true) : EngineStep s (s.accept r) := fun hs => by
  have htaken : EngineStep s (s.taken r) := fun h =>
    ⟨⟨h.opq, h.inj, h.runs, h.wait, fun q hq => h.port q (List.mem_filter.1 hq).1⟩, rfl, rfl⟩
  have hpeak : EngineStep (s.taken r) (s.taken r).peakNoted :=
    engineStep_ite (engineStep_of_view (engineView_wr _ (by decide) (by decide) _ _)) (.refl _)
  rw [accept_eq hs.inj]
  exact (((htaken.trans hpeak).trans (engineStep_serveOrWait _ hr)).trans (engineStep_cacheSettle _)) hs

theorem engineStep_acceptNext (s : State) : EngineStep s (s.acceptNext 3) := fun hs => by
  unfold State.acceptNext
  split <;> rename_i heq
  · obtain ⟨hmem, hport⟩ := portPick_mem heq
    exact engineStep_ite (engineStep_accept s (hs.port _ hmem hport)) (.refl s) hs
  · exact EngineStep.refl s hs

theorem engineStep_acceptInner (s : State) : EngineStep s s.acceptInner :=
  engineStep_foldl _ (fun t _ _ => engineStep_acceptNext t) s

theorem engineStep_internalOp (s : State) (slab : Nat) (j : Job) : EngineStep s (s.internalOp slab j) := by
  unfold State.internalOp
  dsimp only
  refine EngineStep.trans ?_ (engineStep_acceptInner _)
  refine fun hs => ⟨⟨hs.opq, hs.inj, hs.runs, hs.wait, fun q hq => ?_⟩, rfl, rfl⟩
  rcases List.mem_append.1 hq with hq | hq
  · exact hs.port q hq
  · rw [List.mem_singleton.1 hq]
    exact fun _ => rfl

/-! ### The engines -/

theorem engineStep_kickRejoin (s : State) : EngineStep s s.kickRejoin := by
  unfold State.kickRejoin
  split
  · exact engineStep_ite (engineStep_internalOp s _ _) (.refl s)
  · exact .refl s

theorem engineStep_kickSuspect (s : State) : EngineStep s s.kickSuspect :=
  engineStep_foldl _ (fun t _ _ => engineStep_ite (engineStep_internalOp t _ _) (.refl t)) s

theorem engineStep_kickRebuild (s : State) : EngineStep s s.kickRebuild := by
  unfold State.kickRebuild
  split
  · exact engineStep_ite (engineStep_internalOp s _ _) (.refl s)
  · exact .refl s

theorem engineStep_repairAdmit (s : State) : EngineStep s s.repairAdmit := by
  unfold State.repairAdmit State.repairFetch
  refine engineStep_ite (.refl s) ?_
  split
  · refine EngineStep.trans (engineStep_of_view ?_) (engineStep_foldl _ (fun t slab _ => engineStep_internalOp t slab .repair) _)
    exact engineView_wr s (f := R.RAS_SCRUB_STATUS_REPAIR_BUSY) (by decide) (by decide) 1 []
  · exact .refl s

theorem engineStep_reportServe (s : State) : EngineStep s s.reportServe := by
  unfold State.reportServe
  split
  · exact .refl s
  · rename_i r rs _
    have hcount : EngineStep s { s.wr R.RAS_REPORT_QUEUE_COUNT rs.length with ras := { s.ras with reports := rs } } :=
      engineStep_of_view (engineView_wr s (f := R.RAS_REPORT_QUEUE_COUNT) (by decide) (by decide) _ [])
    have htaken : ∀ t : State, EngineStep t (t.inc R.RAS_REPORTS_TAKEN_COUNT) := fun t =>
      engineStep_of_view (engineView_wr t (by decide) (by decide) _ [])
    exact engineStep_ite (hcount.trans (htaken _)) ((hcount.trans (htaken _)).trans (engineStep_internalOp _ _ _))

theorem engineStep_walkOne (s : State) : EngineStep s s.walkOne := by
  have hop := engineStep_internalOp s (s.rd R.RAS_SCRUB_PTR_SLAB) .walk
  have hptr : ∀ (t : State) (v : Nat), (t.wr R.RAS_SCRUB_PTR_SLAB v).engineView = t.engineView := fun t v =>
    engineView_wr t (by decide) (by decide) v []
  unfold State.walkOne
  dsimp only
  refine engineStep_ite (hop.trans (engineStep_of_view (hptr _ _))) (hop.trans (engineStep_of_view ?_))
  rw [engineView_raise _ (by decide) (by decide), State.inc, engineView_wr _ (by decide) (by decide), hptr]

theorem engineStep_sliceGo (k : Nat) (s : State) : EngineStep s (State.sliceGo k s) := by
  have hset : ∀ (t : State) (l : Option (Nat × Nat)), EngineStep t (t.setSlice l) := fun _ _ => engineStep_of_view rfl
  induction k generalizing s with
  | zero => exact .refl s
  | succ k ih =>
    unfold State.sliceGo
    split
    · exact .refl s
    · have hadmit := engineStep_repairAdmit s
      dsimp only
      refine engineStep_ite (hset s _) (engineStep_ite hadmit (engineStep_ite ?_ (engineStep_ite ?_ ?_)))
      · exact ((hadmit.trans (hset _ _)).trans (engineStep_reportServe _)).trans (ih _)
      · exact ((hadmit.trans (hset _ _)).trans (engineStep_walkOne _)).trans (ih _)
      · exact hadmit.trans (hset _ _)

theorem engineStep_kickSweeps (s : State) : EngineStep s s.kickSweeps := by
  unfold State.kickSweeps
  dsimp only
  have hinner := engineStep_acceptInner s
  have hsweeps := engineStep_ite (c := s.acceptInner.sweepsRun = true)
    ((hinner.trans (engineStep_kickRejoin _)).trans (engineStep_kickSuspect _)) hinner
  exact (engineStep_ite (hsweeps.trans (engineStep_kickRebuild _)) hsweeps).trans (engineStep_sliceGo 10 _)

end Sys2Proof.Machine
end

section
/-! PROOFS. The pause of a level change: its start, and its end (R123, R124). -/
namespace Sys2Proof.Machine
open Sys2Proof.Safety

/-- R123: the pause starts, for the level chosen. -/
theorem pause_starts {s : State} (hl : s.live 3 = true) (hfw : s.fwDrives = true)
    (hchosen : s.rd R.THERMAL_GOV_CHOSEN ≠ s.rd R.POWER_STATUS_LEVEL) (hp : s.power.pauseTo = none) (hr : s.power.riseAt = none)
    (hst : s.rd R.POWER_STATUS_STATE < 2) :
    Leads .levelPauseStart s fun t => t.power.pauseTo = some (s.rd R.THERMAL_GOV_CHOSEN) := by
  refine leads_next (t := s.pauseStart) rfl ?_
  unfold State.pauseStart
  dsimp only
  rw [if_neg]
  simp [hl, hfw, hchosen, hp, hr, hst]

/-! ### The end -/

/-- What decides whether only fetches of the engines wait. -/
def State.jobView (s : State) := (s.cache.opq, s.fault.inj, s.haul.chans, s.cache.wait, s.cache.port)

theorem jobs_of_jobView {s t : State} (h : t.jobView = s.jobView) (hs : Jobs s) : Jobs t := by
  simp only [State.jobView, Prod.mk.injEq] at h
  obtain ⟨ho, hi, hh, hw, hp⟩ := h
  exact ⟨ho.trans hs.opq, hi.trans hs.inj, hh ▸ hs.runs, hw ▸ hs.wait, hp ▸ hs.port⟩

theorem BenchWork.jobs {s t : State} (h : BenchWork s t) (hs : Jobs s) : Jobs t :=
  jobs_of_jobView (h.keeps State.jobView fun _ => rfl) hs

/-- R123, R250: a level taken, with its VID code where it is a slower one. -/
def State.takeLevel (s : State) (l : Nat) (slower : Bool) : State :=
  let t := (s.wr R.POWER_STATUS_LEVEL l).raise E.POWER_LEVEL_CHANGE
  let t : State := { t with power := { t.power with pauseTo := none, riseAt := none } }
  if slower then t.driveVid (t.vidCode l) else t

theorem takeLevel_spec (s : State) {l : Nat} (hl : l < 4) (slower : Bool) : (s.takeLevel l slower).bench = s.bench ∧
    (s.takeLevel l slower).rd R.POWER_STATUS_LEVEL = l ∧ (s.takeLevel l slower).power.pauseTo = none ∧
    (s.takeLevel l slower).jobView = s.jobView := by
  unfold State.takeLevel
  generalize ht : (s.wr R.POWER_STATUS_LEVEL l).raise E.POWER_LEVEL_CHANGE = t
  have hbench : t.bench = s.bench := by rw [← ht, raise_bench, wr_bench]
  have hlevel : t.rd R.POWER_STATUS_LEVEL = l := by
    rw [← ht, rd_level_raise _ (by decide), rd_wr_same]
    exact Nat.mod_eq_of_lt hl
  have hjobs : t.jobView = s.jobView := by rw [← ht]; simp [State.jobView]
  have hvid : ∀ (u : State) (code : Nat), (u.driveVid code).bench = u.bench ∧
      (u.driveVid code).rd R.POWER_STATUS_LEVEL = u.rd R.POWER_STATUS_LEVEL ∧ (u.driveVid code).power = u.power ∧
      (u.driveVid code).jobView = u.jobView := fun u code =>
    ⟨wr_bench u _ _ _, rd_level_wr u (f := R.POWER_STATUS_VID) (by decide) code [], wr_power u _ _ _, by
      simp [State.driveVid, State.jobView]⟩
  cases slower
  · exact ⟨hbench, hlevel, rfl, hjobs⟩
  · obtain ⟨h1, h2, h3, h4⟩ := hvid { t with power := { t.power with pauseTo := none, riseAt := none } }
      (State.vidCode { t with power := { t.power with pauseTo := none, riseAt := none } } l)
    exact ⟨h1.trans hbench, h2.trans hlevel, by rw [if_pos rfl, h3], h4.trans hjobs⟩

/-- The benches that pause at the end of a level change. -/
def State.pausedBenches (s : State) : List Nat := (List.range s.nBench).filter fun b => (s.bn b).paused.isSome

/-- What follows once the benches go on (R123). -/
def State.pauseOver (s : State) : State :=
  let t := s.dSettle.shaftPump
  if t.cacheOn then t.cacheSettle.kickSweeps else t

/-- Where every bench that stops regains frame lock, the pause ends in these steps. -/
theorem pauseEnd_eq {s : State} {l : Nat} {locked : List Nat} (hp : s.power.pauseTo = some l)
    (hlock : ∀ b, b < s.nBench → (s.bn b).stopping = true → b ∈ locked) :
    let t := s.enterPauses (List.range s.nBench)
    s.pauseEnd locked = ((t.pausedBenches.foldl (State.benchResume l)
      (t.takeLevel l (decide (s.rd R.POWER_STATUS_LEVEL < l)))).pauseOver) := by
  intro t
  have hpausing : Pausing s t := pausing_enterPauses s (List.range s.nBench)
  have hn : t.nBench = s.nBench := hpausing.work.keeps State.nBench fun _ => rfl
  have hlost : (t.pausedBenches.filter fun b => !locked.contains b) = [] := by
    rw [List.filter_eq_nil_iff]
    intro b hb
    obtain ⟨hmem, hpaused⟩ := List.mem_filter.1 hb
    have hstop : (t.bn b).stopping = true := by rw [BenchSt.stopping, hpaused, Bool.true_or]
    simp [hlock b (hn ▸ List.mem_range.1 hmem) (hpausing.none b hstop)]
  have hunfold : s.pauseEnd locked = State.pauseOver ((t.pausedBenches.filter fun b => !locked.contains b).foldl State.lockLost
      (t.pausedBenches.foldl (State.benchResume l) (t.takeLevel l (decide (s.rd R.POWER_STATUS_LEVEL < l))))) := by
    unfold State.pauseEnd State.takeLevel
    rw [hp]
    simp only [decide_eq_true_eq]
    rfl
  rw [hunfold, hlost, List.foldl_nil]

theorem pauseOver_spec {s : State} (hs : Jobs s) : s.pauseOver.bench = s.bench ∧
    s.pauseOver.rd R.POWER_STATUS_LEVEL = s.rd R.POWER_STATUS_LEVEL ∧ s.pauseOver.power = s.power := by
  have hlinks : LinksKept s.dSettle s.dSettle.shaftPump := linksKept_shaftPump _
  have hjobs : Jobs s.dSettle.shaftPump := hlinks.benchWork.jobs (jobs_of_jobView (s := s) rfl hs)
  have hbench : s.dSettle.shaftPump.bench = s.bench := hlinks.bench
  have hlevel : s.dSettle.shaftPump.rd R.POWER_STATUS_LEVEL = s.rd R.POWER_STATUS_LEVEL := hlinks.rd_level
  have hpower : s.dSettle.shaftPump.power = s.power := hlinks.keeps State.power fun _ => rfl
  unfold State.pauseOver
  dsimp only
  split_ifs
  · obtain ⟨-, hb, hl⟩ := (engineStep_cacheSettle _).trans (engineStep_kickSweeps _) hjobs
    obtain ⟨-, hc⟩ := (jobStep_cacheSettle _).trans (jobStep_kickSweeps _) hjobs
    exact ⟨hb.trans hbench, hl.trans hlevel, (power_of_core hc).trans hpower⟩
  · exact ⟨hbench, hlevel, hpower⟩

/-- R123, R124: the pause ends with the level in force, and every bench that paused goes on. -/
theorem pause_ends {s : State} {l : Nat} {locked : List Nat} (hp : s.power.pauseTo = some l) (hl : l < 4) (hidle : CacheIdle s)
    (hlock : ∀ b, b < s.nBench → (s.bn b).paused.isSome = true ∨ (s.bn b).drain.isSome = true → b ∈ locked) :
    Leads (.levelPauseEnd locked) s fun t => t.power.pauseTo = none ∧ t.rd R.POWER_STATUS_LEVEL = l ∧
      ∀ b, b < s.nBench → b < s.bench.length → (s.bn b).paused.isSome = true →
        (t.bn b).paused = none ∧ (t.bn b).selfRefresh = false := by
  have hpausing := pausing_enterPauses s (List.range s.nBench)
  have hn : (s.enterPauses (List.range s.nBench)).nBench = s.nBench := hpausing.work.keeps State.nBench fun _ => rfl
  obtain ⟨hbench, hlevel, hto, hview⟩ :=
    takeLevel_spec (s.enterPauses (List.range s.nBench)) hl (decide (s.rd R.POWER_STATUS_LEVEL < l))
  obtain ⟨hwork, hresumed⟩ := benchResume_foldl l (s.enterPauses (List.range s.nBench)).pausedBenches
    ((s.enterPauses (List.range s.nBench)).takeLevel l (decide (s.rd R.POWER_STATUS_LEVEL < l)))
  obtain ⟨hbench', hlevel', hpower'⟩ := pauseOver_spec
    (hwork.jobs (jobs_of_jobView hview (hpausing.work.jobs (jobs_of_cacheIdle hidle))))
  have hpowers := hwork.keeps State.power fun _ => rfl
  refine leads_next (t := s.pauseEnd locked) rfl ?_
  rw [pauseEnd_eq hp fun b hb hstop => hlock b hb (Bool.or_eq_true _ _ ▸ hstop)]
  refine ⟨?_, hlevel'.trans (hwork.level.trans hlevel), fun b hb hlen hpaused => ?_⟩
  · rw [hpower', hpowers, hto]
  · rw [bn_congr hbench']
    refine hresumed b (by rw [hbench, hpausing.length]; exact hlen) (.inl (List.mem_filter.2 ⟨?_, hpausing.stays b hpaused⟩))
    rw [hn]
    exact List.mem_range.2 hb

end Sys2Proof.Machine
end

section
/-! PROOFS. Canaries and the remap table (R126, R127, R129, R134), and O36. -/
namespace Sys2Proof.Machine
open Sys2Proof.Safety

/-! ### Canaries -/

/-- The canary bytes of the next bench follow those of a bench. -/
theorem canaryStart_succ (b : Nat) : canaryStart (b + 1) = canaryStart b + 256 * canaryBytesOf := by
  simp only [canaryStart, canaryIndex, canaryBytesOf, portionBytes]
  omega

/-- R127: an unlisted canary byte reads as its pattern. -/
theorem blank_canary (s : State) (b k : Nat) :
    s.blank (canaryStart b + k) = if (k + k / canaryBytesOf) % 2 = 0 then 0x55#8 else 0xAA#8 := by
  have hdiv : (canaryStart b + k) / portionBytes = canaryBase + 2048 * b + k / portionBytes := by
    simp only [canaryStart, canaryIndex, portionBytes]
    omega
  have hmod : (canaryStart b + k) % portionBytes = k % portionBytes := by
    simp only [canaryStart, canaryIndex, portionBytes]
    omega
  have hrow : (canaryBase + 2048 * b + k / portionBytes - canaryBase) / 8 % 2 = k / canaryBytesOf % 2 := by
    simp only [canaryBytesOf, portionBytes]
    omega
  have hlt : k % portionBytes < portionBytes := Nat.mod_lt _ (by decide)
  have hpar : (k % portionBytes + k / canaryBytesOf % 2) % 2 = (k + k / canaryBytesOf) % 2 := by
    simp only [canaryBytesOf, portionBytes]
    omega
  rw [State.blank, hdiv, hmod, State.blankPortion, if_pos (Nat.add_assoc _ _ _ ▸ Nat.le_add_right _ _), hrow, canaryPortion, List.getD_eq_getElem _ _ (by simpa),
    List.getElem_map, List.getElem_range, hpar]

/-- R126: a canary byte that the bench has written reads as its pattern. -/
theorem peek_canaryWrite (s : State) (b : Nat) {k : Nat} (hk : k < 256 * canaryBytesOf) :
    (s.canaryWrite b).peek (canaryStart b + k) = if (k + k / canaryBytesOf) % 2 = 0 then 0x55#8 else 0xAA#8 := by
  have hcell : cellAt (canaryStart b + k) (s.canaryWrite b).dram = none := by
    unfold State.canaryWrite
    rw [cellAt_filter fun a => decide (a < canaryStart b) || decide (canaryStart (b + 1) ≤ a), if_neg]
    rw [canaryStart_succ]
    simp only [Bool.or_eq_true, decide_eq_true_eq]
    omega
  rw [State.peek, hcell, Option.getD_none, blank_canary]

/-- Changing canary bits changes DRAM alone. -/
theorem canaryFlip_frame (s : State) (b : Nat) (bits : List Nat) :
    s.canaryFlip b bits = { s with dram := (s.canaryFlip b bits).dram } := by
  unfold State.canaryFlip
  induction bits generalizing s with
  | nil => rfl
  | cons n bits ih =>
    rw [List.foldl_cons, ih]
    rfl

/-- R126, R127: the bench has written its canaries and enters canary mode. -/
theorem canaries_written {s : State} {b : Nat} (hon : s.benchOn b = true) (hb : b < s.bench.length)
    (hret : (s.bn b).retaining = true) (bad : List Nat) :
    Leads (.canaryEntryDone b bad) s fun t =>
      (t.bn b).canaryMode = true ∧ (t.bn b).selfRefresh = true ∧ (t.bn b).retaining = false ∧
        (bad = [] → ∀ k, k < 256 * canaryBytesOf →
          t.peek (canaryStart b + k) = if (k + k / canaryBytesOf) % 2 = 0 then 0x55#8 else 0xAA#8) := by
  have hflip : ((s.canaryWrite b).canaryFlip b bad).bench = s.bench := by
    rw [canaryFlip_frame]
    rfl
  refine leads_next (t := s.canaryEntry b bad) rfl ?_
  unfold State.canaryEntry
  rw [if_neg (by simp [hon, hret])]
  dsimp only
  rw [bn_congr (publishBench_bench _ b), bn_congr (sendUp_bench _ b _ _),
    bn_modBench_same (by rw [sendUp_bench, hflip]; exact hb)]
  refine ⟨rfl, rfl, rfl, ?_⟩
  rintro rfl k hk
  rw [← peek_canaryWrite s b hk]
  refine peek_congr ?_ ?_ _
  · rw [publishBench_dram, sendUp_dram, modBench_dram, sendUp_dram]
    rfl
  · rw [publishBench_segs, sendUp_segs, modBench_segs, sendUp_segs]
    rfl

/-- Of fields with keys of their own, each that is set in turn is set in the end. -/
theorem rd_foldl_set {f : Fam} (hf : 0 < f.width) {idx : Nat → List Nat} {i : Nat}
    (hne : ∀ k, k ≠ i → f.key (idx i) ≠ f.key (idx k)) {l : List Nat} (hi : i ∈ l) (s : State) :
    (l.foldl (fun s k => s.set f (idx k)) s).rd f (idx i) = 1 := by
  have hkeep : ∀ (l : List Nat) (t : State), t.rd f (idx i) = 1 → (l.foldl (fun s k => s.set f (idx k)) t).rd f (idx i) = 1 :=
    fun l t ht => foldl_inv (fun t : State => t.rd f (idx i) = 1) _ (fun t k ht => by
      by_cases hk : k = i
      · rw [hk]
        exact rd_set_same t f _ hf
      · exact (rd_wr_key t f f 1 (idx k) (idx i) (hne k hk)).trans ht) l ht
  induction l generalizing s with
  | nil => exact absurd hi List.not_mem_nil
  | cons k l ih =>
    rcases List.mem_cons.1 hi with rfl | hi
    · exact hkeep l _ (rd_set_same s f _ hf)
    · exact ih hi _

/-- R129: at the exit check a canary with more changed bits than TOL marks its bank. -/
theorem failing_canary_marks {s : State} {b : Nat} (hon : s.benchOn b = true) {bad : List Nat} {i : Nat}
    (hdue : (s.bn b).canaryDue = true) (hawake : (s.bn b).selfRefresh = false) (hi : i < 256)
    (hdiff : s.rd R.BENCH_CANARY_CTRL_TOL [b] < (s.canaryFlip b bad).canaryDiff b i) :
    Leads (.canaryExitCheck b bad) s fun t => t.rd R.BENCH_CANARY_RESULT_PENDING [b, i / 64, i / 2 % 32] = 1 := by
  have htol : (s.canaryFlip b bad).rd R.BENCH_CANARY_CTRL_TOL [b] = s.rd R.BENCH_CANARY_CTRL_TOL [b] := by
    rw [canaryFlip_frame]
    rfl
  have hbank : i / 64 = i / 2 / 32 := by omega
  have hrow : i = 2 * (i / 2) ∨ i = 2 * (i / 2) + 1 := by omega
  refine leads_next (t := s.canaryExit b bad) rfl ?_
  unfold State.canaryExit
  dsimp only
  rw [if_neg (by simp [hon, hdue, hawake]), hbank]
  refine ((linksKept_sendFrame _ b false _ _).rd_bench rfl _).trans
    (rd_foldl_set (idx := fun k => [b, k / 32, k % 32]) (by decide) (fun k hk => ?_) ?_ _)
  · simp only [Fam.key, Fam.rel, R.BENCH_CANARY_RESULT_PENDING]
    omega
  · rw [bitsOf, List.mem_filter, List.mem_range, testBit_mapOf, htol]
    refine ⟨by omega, ?_⟩
    simp only [Bool.and_eq_true, Bool.or_eq_true, decide_eq_true_eq]
    refine ⟨by omega, .inl ?_⟩
    rcases hrow with h | h
    · exact .inl (h ▸ hdiff)
    · exact .inr (h ▸ hdiff)

/-! ### The remap table -/

/-- R134: an entry that is set valid stands in the bench's table, and one that is not valid does not. -/
theorem firmware_writes_remap {s : State} {b : Nat} (hon : s.benchOn b = true) (hb : b < s.bench.length) (data : Nat)
    (hlink : s.rd R.BENCH_STATUS_LINK_UP [b] = 1) :
    let e := s.remapSel b
    Leads (.remapWrite .firmware b data) s fun t =>
      if data.testBit 31 = true then ⟨e.1, e.2.1, e.2.2, data % 2 ^ 18⟩ ∈ (t.bn b).remaps
      else ∀ r ∈ (t.bn b).remaps, ¬ (r.layer = e.1 ∧ r.pos = e.2.1 ∧ r.spare = e.2.2) := by
  intro e
  refine leads_next (t := (s.inbound .firmware).remapWrite .firmware b data) rfl ?_
  have hn : ¬ s.nBench ≤ b := by
    simp only [State.benchOn, Bool.and_eq_true, decide_eq_true_eq] at hon
    omega
  have hset : (((s.inbound .firmware).remapWrite .firmware b data).bn b).remaps =
      if data.testBit 31 then putRemap ⟨e.1, e.2.1, e.2.2, data % 2 ^ 18⟩ (s.bn b).remaps
      else dropRemap e.1 e.2.1 e.2.2 (s.bn b).remaps := by
    have hwrite : (s.inbound .firmware).remapWrite .firmware b data = s.remapSet b data := by
      unfold State.remapWrite State.inbound
      dsimp only
      rw [if_neg hn, if_pos (by simp [hon, State.is, hlink])]
    rw [hwrite]
    unfold State.remapSet State.setRemaps
    dsimp only
    rw [bn_congr (wrB_bench _ _ _ _), bn_congr (wr_bench _ _ _ _), bn_modBench_same (by simpa using hb)]
    dsimp only
    rw [bn_congr (wr_bench _ _ _ _), bn_modBench_same hb]
  rw [hset]
  split_ifs
  · simp [putRemap]
  · rintro r hr ⟨hlayer, hpos, hspare⟩
    have hkept := (List.mem_filter.1 hr).2
    simp [hlayer, hpos, hspare] at hkept

/-- R134: the host does not write the table: its write is refused. -/
theorem host_writes_no_remap {s : State} {rid b : Nat} (data : Nat) (hb : b < (s.inbound (.host rid)).nBench)
    (hm : Mild (s.inbound (.host rid)) 84) :
    Leads (.remapWrite (.host rid) b data) s fun t => (t.bn b).remaps = ((s.inbound (.host rid)).bn b).remaps := by
  refine leads_next (t := (s.inbound (.host rid)).remapWrite (.host rid) b data) rfl ?_
  unfold State.remapWrite
  rw [if_neg (Nat.not_le.2 hb)]
  dsimp only
  rw [bn_congr (refuse_mild _ _ _ hm).bench]

/-! ### O36 -/

/-- Settles O36: the pause, the canaries and the remap table, clause by clause. -/
theorem levelsCanariesRemaps : Obligations.LevelsCanariesRemaps := by
  intro s
  refine ⟨pause_starts, fun l locked hp hl hidle hlock => pause_ends hp hl hidle hlock, fun b hon hb => ⟨?_, ?_, ?_⟩,
    fun rid b data hb hm => host_writes_no_remap data hb hm⟩
  · exact fun bad hret => canaries_written hon hb hret bad
  · exact fun bad i hdue hawake hi hdiff => failing_canary_marks hon hdue hawake hi hdiff
  · exact fun data hlink => firmware_writes_remap hon hb data hlink

end Sys2Proof.Machine
end
